-- ==== Sys2Proof/Word.lean ====
section
/-! DEFINITION. The words of the model: bytes, byte strings, digests. -/

namespace Sys2Proof

/-- One octet. -/
abbrev Byte := BitVec 8

/-- A byte string, in address or transmission order. -/
abbrev Bytes := List Byte

/-- A SHA-384 value, first octet in the most significant place (DIGEST384: "SHA-384 value in digest order", 16). -/
abbrev Digest := BitVec 384

end Sys2Proof
end

