-- ==== Sys2Proof/Syntax.lean ====
section
/-! DEFINITION. The commands of the block: one constructor of `Instr` per row of spec/opcode_table.json, with the row's
operands. Bytes the device fetches, readings of sensors and verdicts of published signature checks are operands. -/

namespace Sys2Proof

/-- Who makes an OD access (16, "Planes, roles and channels"): the BAR0 mailbox (with the IDE TEE bit or without, R401),
a secured SPDM session, or a Causeway session (session number i + 1). -/
inductive Channel where
  | bar0 (tee : Bool)
  | spdm (i : Fin 4)
  | causeway (i : Fin 8)
  deriving DecidableEq, Repr

/-- The six tamper sources, in the order of the tamper source table (04). -/
inductive TamperSource where
  | mesh | tamperIn | glitch | undervoltage | cold | light
  deriving DecidableEq, Repr

/-- What a start from ROM meets in the silicon (R75, R76, R78, R81, R98, R99, R102). `tamperActive`: bit k = source k is active;
`tamperRecent`: bit k = it was active within the last second. -/
structure StartConds where
  eccUncorrectable : Bool
  eccCorrected : Nat
  pufFailures : Nat
  entropyFailures : Nat
  retentionFault : Bool
  tamperActive : BitVec 6
  tamperRecent : BitVec 6
  deriving DecidableEq, Repr

/-- The head of a firmware delivery stream as fetched, with the verdicts of the two published signature checks (R83). -/
structure SetImage where
  keyBlock : Bytes
  manifest : Bytes
  signature : Bytes
  ecdsaOk : Bool
  mldsaOk : Bool
  fetchFault : Bool
  deriving DecidableEq, Repr, Inhabited

/-- A digest-engine job descriptor of the START opcode (06, "Job descriptor and status"). -/
structure JobDesc where
  alg : BitVec 4
  key : Fin 64
  keyed : Bool
  pass : Bool
  toWkr : Bool
  target : Byte
  length : BitVec 40
  source : BitVec 64
  deriving DecidableEq, Repr

/-- The two contexts of the big-number engine. -/
inductive BnCtx where
  | long | short
  deriving DecidableEq, Repr

/-- Flags of an arithmetic command: CLR, SUB, OUT, SHR. -/
structure BnFlags where
  clr : Bool
  sub : Bool
  out : Bool
  shr : Bool
  deriving DecidableEq, Repr

/-- The leases of R600. -/
inductive Lease where
  | regulator (i : Fin 13)
  | odLock
  | spanFences
  | scrub (i : Fin 12)
  | strait (i : Fin 12)
  | bignum (c : BnCtx)
  deriving DecidableEq, Repr

/-- The voltage monitors (R71). -/
inductive VoltMonitor where
  | vfab (i : Fin 12) | vio (i : Fin 12) | vhbm (i : Fin 12) | vhub | stby
  deriving DecidableEq, Repr

/-- A Sound unit at an endpoint (R257): the receiving endpoint, the 48-bit token, up to 256 B and the CLIPPED tag. -/
structure SoundUnit where
  dst : BitVec 16
  token : BitVec 48
  data : Bytes
  tag : Bool
  deriving DecidableEq, Repr

/-- The record of OD 0x5420.01 (R306). -/
structure RingCfg where
  ring : BitVec 16
  log2Depth : Byte
  stream : Byte
  vector : BitVec 16
  enable : Byte
  sqBase : BitVec 64
  cqBase : BitVec 64
  deriving DecidableEq, Repr

/-- What a page request serves (R318, R319, R273, R362). -/
inductive PageOwner where
  | record (tag : BitVec 18)
  | output (tag : BitVec 18)
  | plan
  | snapshot
  deriving DecidableEq, Repr

/-- How a fetch from host memory ended: its octets, a refused translation, a completion error (R273, R318). -/
inductive HostFetch where
  | bytes (b : Bytes)
  | refused
  | error
  deriving DecidableEq, Repr

/-- How the host translations of a completion's three writes went (R319, R390, R326). -/
structure PostTranslation where
  output : Bool
  receipt : Bool
  completion : Bool
  deriving DecidableEq, Repr

/-- The two evidence rings of BAR4 (R389). -/
inductive EvRing where
  | receipt | checkpoint
  deriving DecidableEq, Repr

/-- The header of an OD transfer unit (16, "The transfer unit"). `zero` is the octets [31:19]; `seq` is the carrier's
MB_DOORBELL value on the BAR0 mailbox and is not used elsewhere. -/
structure TuHeader where
  sub : Byte
  index : BitVec 16
  xid : BitVec 32
  total : BitVec 32
  offset : BitVec 32
  segLen : BitVec 16
  flags : Byte
  zero : BitVec 104
  seq : BitVec 32
  deriving DecidableEq, Repr

/-- The scopes of consent tokens (R419). -/
inductive Scope where
  | profile | debug | vendor
  deriving DecidableEq, Repr, Inhabited

/-- A consent token (R419) with what its published encoding carries and the verdict of its two signatures. -/
structure ConsentToken where
  raw : Bytes
  wellFormed : Bool
  keyDigest : Digest
  sigOk : Bool
  scope : Scope
  serial : BitVec 128
  notBefore : Nat
  expiry : Nat
  seq : BitVec 64
  deriving DecidableEq, Repr, Inhabited

/-- How a model fetch ended (R408, R412): whether without a translation fault or completion error, and the octets fetched. -/
structure ModelResult where
  fetchOk : Bool
  data : Bytes
  deriving DecidableEq, Repr

/-- What a scrub clears (R426, R431): a region, a whole stack, or one of the session stores. -/
inductive ScrubTarget where
  | region (r : Fin 1024)
  | stack (i : Fin 12)
  | modelStore
  | shoalStore
  | planStaging
  | windowStore
  deriving DecidableEq, Repr

/-- A Strait HELLO as received, with the verdicts on the sender's certificates (R440). -/
structure HelloMsg where
  serial : BitVec 128
  address : BitVec 16
  port : Byte
  nonce : BitVec 256
  ecPub : Bytes
  kemPub : Bytes
  mr8Record : BitVec 32
  certMr : List Digest
  idevidOkProduction : Bool
  idevidOkDebug : Bool
  aliasOk : Bool
  raw : Bytes
  deriving DecidableEq, Repr

/-- One unit flit of a DATA frame: its descriptor and its 256 B. -/
structure FrameUnit where
  destModule : BitVec 12
  kind : BitVec 4
  destEndpoint : BitVec 16
  token : BitVec 48
  data : Bytes
  deriving DecidableEq, Repr

/-- A received DATA frame (15, "Frames"): header fields, the verdicts of FEC and of the tag under the key of its mark,
and the decrypted units. -/
structure DataFrame where
  counter : BitVec 64
  mark : Bool
  ack : BitVec 64
  nak : Bool
  fecOk : Bool
  tagOk : Bool
  corrected : Nat
  units : List FrameUnit
  deriving DecidableEq, Repr

/-- The Causeway roles (17), with the codes of OD 0x1F40.02. -/
inductive Role where
  | operator | auditor | custodian | vendorService
  deriving DecidableEq, Repr

/-- A FINISH mark or an ALL-FINISHED of the time tree (R296, R452): the tide, and the latest finish it names, in span time. -/
structure Mark where
  tide : BitVec 64
  latest : BitVec 64
  deriving DecidableEq, Repr

/-- What a span plan's admission meets (R264, R297): the cores whose windows hold poison, and the time on the span's grid of the last
module's report that its windows are written. -/
structure SpanReport where
  poisoned : List (Fin 1200)
  reportedAt : Nat
  deriving DecidableEq, Repr

/-- An access to an entry of BAR0's MSI-X table (R327, R401): whether it comes on the TEE stream, and the vector. -/
structure MsixAccess where
  tee : Bool
  vec : Fin 2048
  deriving DecidableEq, Repr

/-- Where a Causeway frame is addressed (R512): the device's MAC address, broadcast, or anything else. -/
inductive CwDest where
  | device | broadcast | other
  deriving DecidableEq, Repr

/-- An encrypted Causeway frame as it arrives (R512, R513): its address, its session number less one, its SEQ, and whether its header
follows the layout and its body passes its tag. -/
structure CwFrame where
  dest : CwDest
  session : Fin 8
  seq : BitVec 64
  intact : Bool
  deriving DecidableEq, Repr

/-- What the device finds in a C-HELLO (R515): its address, the layout verdict, the chain verdict with the OTP region 6 slot (or the staged
anchor, 8) it ends at, the validity bounds in device time, the role named, the end certificate's digest. -/
structure ClientHello where
  dest : CwDest
  wellFormed : Bool
  chainOk : Bool
  anchorSlot : Fin 9
  notBefore : Nat
  notAfter : Nat
  role : Option Role
  certDigest : Digest
  transcript : Bytes
  deriving DecidableEq, Repr

/-- What an OBJECT_WRITE writes: an OD object without a behaviour of its own, or a register (R304, R389, R327, R497). -/
inductive WriteTarget where
  | od (ch : Channel) (index : BitVec 16) (sub : Byte) (value : Bytes)
  | mbVector (tee : Bool) (v : BitVec 16)
  | mbHeader (tee : Bool) (offset : Nat) (b : Bytes)
  | mbData (tee : Bool) (offset : Nat) (b : Bytes)
  | ringBase (tee : Bool) (r : EvRing) (v : BitVec 64)
  | ringLog2Depth (tee : Bool) (r : EvRing) (v : Byte)
  | ringVector (tee : Bool) (r : EvRing) (v : BitVec 16)
  | msixTable (tee : Bool) (vec : Fin 2048) (addr : BitVec 64) (data : BitVec 32) (masked : Bool)
  /-- Any other host write to a BAR: a doorbell page's other offsets, a narrow or unaligned access (R304, R328, R389). -/
  | mmioOther (tee : Bool)
  | pcieConfig (atsEnable priEnable msixEnable msixMask busMaster d3hot : Bool)
  deriving DecidableEq, Repr

/-- Which key set an IDE_KM message names (R397): stream 0-7 selective, 8 link; sub-stream 0 PR, 1 NPR, 2 CPL;
direction; key set. -/
structure IdeKeyId where
  stream : Fin 9
  sub : Fin 3
  tx : Bool
  set : Bool
  /-- The Stream ID the message carries (R397: 0 to 255) -/
  streamId : Byte
  deriving DecidableEq, Repr

/-- The commands: one constructor per row of spec/opcode_table.json. -/
inductive Instr where
  | coldStart (c : StartConds)
  | entropyContinuousFail
  | drbgReseed
  | mainValid
  | mainLoss (c : StartConds)
  | stbyLoss
  | vhubRamp
  | modResetAssert (lowNs : Nat) (recognised : Bool) (c : StartConds)
  | modResetRelease
  | warmResetRequest (ch : Channel) (v : Byte) (c : StartConds)
  | tamperFire (src : TamperSource)
  | hostDelivery (ch : Channel) (addr : BitVec 64) (len : BitVec 32) (img : SetImage)
  | itemVerified (data : Bytes) (govFail vfabFail : BitVec 12)
  | svnCommit (ch : Channel) (n : Byte)
  | updateCheckDone (items : List Bytes)
  | aliasCommit (ch : Channel) (v : Byte)
  | idevidCertCopyWrite (ch : Channel) (cert : Bytes)
  | remaskPass
  | bindingAdvance (ch : Channel) (v : Byte) (selfTestOk blowOk : Bool)
  | bindingOverlapEnd
  | caStage (ch : Channel) (anchor : Bytes)
  | caStageLapse
  | caOverlapEnd
  | digestStart (j : Fin 8) (d : JobDesc)
  | digestResult (j : Fin 8)
  | compare (j : Fin 8) (aux : Bytes)
  | extend (j : Fin 8) (mr : Fin 32) (aux : Bytes)
  | exportCtx (j : Fin 8)
  | importCtx (j : Fin 8) (blob : Bytes)
  | digestAbort (j : Fin 8)
  | digestJobDone (j : Fin 8) (bytes : Bytes)
  | digestAlarm (busError : Bool)
  | inlineLaneGrant (ferry : Fin 16)
  | wmac (c : BnCtx) (f : BnFlags) (a b dst : BitVec 12)
  | lmac (c : BnCtx) (f : BnFlags) (a b dst : BitVec 12)
  | keyload (c : BnCtx) (dst : BitVec 12)
  | bnEnd (c : BnCtx)
  | bnYield
  | bnSealedAccess (c : BnCtx) (word : BitVec 12)
  | bnAlarm
  | leaseLapse (l : Lease)
  | leaseRevoke (by_ : Option Channel) (l : Lease)
  | paceMonitorWindow (die : Fin 12) (readings : List Nat)
  | beatFloorUpdate
  | temperatureSample (die : Fin 13) (readings : List Int)
  | voltageSample (m : VoltMonitor) (mv : Nat)
  | ballastThresholdReached (core : Fin 1200) (array : Fin 4)
  | ballastThresholdWrite (ch : Channel) (v : Byte)
  | nop (core : Fin 1200)
  | loadw (core : Fin 1200)
  | frontStart (core : Fin 1200) (waitBeats : Nat)
  | stream (core : Fin 1200)
  | opacc (core : Fin 1200)
  | drain (core : Fin 1200)
  | arrayOperationStart (core : Fin 1200) (gapBeats : List Nat)
  | arrayFreeze (core : Fin 1200) (draining : Option (Fin 4))
  | vld (core : Fin 1200)
  | vld48 (core : Fin 1200)
  | vst (core : Fin 1200)
  | vst48 (core : Fin 1200)
  | vadd (core : Fin 1200)
  | vsub (core : Fin 1200)
  | vmul (core : Fin 1200)
  | vmax (core : Fin 1200)
  | vmin (core : Fin 1200)
  | vreq (core : Fin 1200)
  | vlut (core : Fin 1200)
  | vsum (core : Fin 1200)
  | vsmax (core : Fin 1200)
  | send (core : Fin 1200)
  | recv (core : Fin 1200)
  | waitslot (core : Fin 1200)
  | fence (core : Fin 1200)
  | endStep (core : Fin 1200)
  | soundUnitArrive (u : SoundUnit)
  | noProgressFault (core : Fin 1200)
  | planDelivery (ch : Channel) (addr len : BitVec 64)
  | planCheck (file : HostFetch)
  | planSwitch (ch : Channel) (v : Byte)
  | planDiscard (ch : Channel) (v : Byte)
  | planAdmission (poisoned : List (Fin 1200))
  | spanAdmission (report : SpanReport)
  | tideDeparture
  | tideFinish
  | spanWaitExpiry (missing : BitVec 12)
  | sqTailWrite (tee : Bool) (ring : BitVec 16) (v : BitVec 32)
  | cqHeadWrite (tee : Bool) (ring : BitVec 16) (v : BitVec 32)
  | ringConfigWrite (ch : Channel) (cfg : RingCfg)
  | ingestModeWrite (ch : Channel) (v : Byte)
  | score (ring : BitVec 16) (entry : BitVec 512) (translated : Bool)
  | events (ring : BitVec 16) (entry : BitVec 512) (translated : Bool)
  | resubmit (ring : BitVec 16) (entry : BitVec 512)
  | fenceWaitRelease (ring : BitVec 16)
  | recordFetchDone (tag : BitVec 18) (record : Bytes)
  | pageRequestResponse (o : PageOwner) (success : Bool)
  | priTimeout (o : PageOwner)
  | atsInvalidation (iova : BitVec 64) (len : BitVec 64)
  | completionPost (tag : BitVec 18) (tr : PostTranslation)
  | msixHoldoffExpiry (vec : Fin 2048)
  | fenceObjectWrite (tee : Bool) (f : BitVec 12) (v : BitVec 64)
  | shoalEventApply (n : Fin 12)
  | shoalSample (tag : BitVec 18)
  | shoalSleep (n : Fin 12)
  | shoalImageLoad (ch : Channel) (addr len : BitVec 64)
  | shoalImageLoaded (img : Option Bytes)
  | shoalSnapshot (ch : Channel) (addr len : BitVec 64)
  | snapshotCapture
  | evidenceRequest (ch : Channel) (nonce : Bytes)
  | tenantExtend (ch : Channel) (mr : Byte) (data : Bytes)
  | checkpointInterval
  | checkpointRequest (ch : Channel) (v : Byte)
  | checkpointSigned (translated : Bool)
  | ringControlEnable (tee : Bool) (r : EvRing) (v : Byte) (translated : Bool)
  | ringControlHead (tee : Bool) (r : EvRing) (v : BitVec 64) (translated : Bool)
  | getVersion
  | getCapabilities
  | negotiateAlgorithms (offersP384Sha384 : Bool)
  | getDigests
  | getCertificate (slot : Byte) (offset len : Nat)
  | challenge (slot : Byte) (nonce : BitVec 256)
  | getMeasurements (index : Byte) (nonce : BitVec 256)
  | chunkGet (seq : Nat)
  | keyExchange (exchangeData : Bytes)
  | finish (i : Fin 4) (verifyOk : Bool) (heartbeatS : Byte)
  | endSession (i : Fin 4)
  | heartbeat (i : Fin 4)
  | keyUpdate (i : Fin 4)
  | vendorDefinedRequest (i : Fin 4) (op : Byte) (h : TuHeader) (data : Bytes)
  | query (i : Fin 4)
  | keyProg (i : Fin 4) (id : IdeKeyId) (key : BitVec 256)
  | kSetGo (i : Fin 4) (id : IdeKeyId)
  | kSetStop (i : Fin 4) (id : IdeKeyId)
  | getTdispVersion (i : Fin 4)
  | getTdispCapabilities (i : Fin 4)
  | lockInterfaceRequest (i : Fin 4)
  | getDeviceInterfaceReport (i : Fin 4)
  | getDeviceInterfaceState (i : Fin 4)
  | startInterfaceRequest (i : Fin 4) (nonce : BitVec 256)
  | stopInterfaceRequest (i : Fin 4)
  | ideIntegrityFail (stream : Fin 9)
  | clearModelLoad (ch : Channel) (addr len : BitVec 64)
  | boundBundleLoad (ch : Channel) (addr len : BitVec 64) (head : Option Bytes)
  | modelLoadComplete (slot : Fin 4) (r : ModelResult)
  | consentKeyWrite (ch : Channel) (d : Digest)
  | consentTokenSubmit (ch : Channel) (t : ConsentToken)
  | consentTokenExpiry (sc : Scope)
  | consentWithdraw (ch : Channel) (v : Byte)
  | regionAllocate (ch : Channel) (region : BitVec 16) (stack : Byte) (size : BitVec 32)
  | regionFree (ch : Channel) (region : BitVec 16)
  | scrubSuspend (ch : Channel) (region : BitVec 16)
  | scrubResume (ch : Channel) (region : BitVec 16)
  | scrubComplete (t : ScrubTarget)
  | scrubReadbackFail (t : ScrubTarget) (mib : Nat)
  | trainingDone (p : Fin 12)
  | hello (p : Fin 12) (m : HelloMsg)
  | encap (p : Fin 12) (ct : Bytes)
  | confirm (p : Fin 12) (ecdsaOk mldsaOk : Bool)
  | refusedRetry (p : Fin 12)
  | dataFrame (p : Fin 12) (f : DataFrame)
  | retransmissionExhausted (p : Fin 12)
  | straitLinkLoss (p : Fin 12)
  | epochExchangeStart (p : Fin 12)
  | epochBound (p : Fin 12)
  | finishMark (p : Fin 12) (m : Mark)
  | allFinished (p : Fin 12) (m : Mark)
  | spanFenceUnit (p : Fin 12) (f : BitVec 12) (v : BitVec 64)
  | spanSyncExchange (t1 t2 t3 t4 : Int) (parentHops : Nat)
  | moduleAddressWrite (ch : Channel) (v : BitVec 16)
  | timeStepStage (ch : Channel) (cmd : Bytes)
  | timeStepConfirm (ch : Channel) (d : Digest)
  | timeStepApply
  | timeStepLapse
  | timePpsSecond
  | timeRefWrite (ch : Channel) (v : Byte)
  | timeRefLock
  | timeRefRelease
  | sync
  | announce
  | delayReq (toMulticast toOwnMac : Bool) (seqId : BitVec 16)
  | foreignPtpMessage
  | readShort (ch : Channel) (h : TuHeader)
  | writeShort (ch : Channel) (h : TuHeader) (data : Bytes)
  | objectWrite (w : WriteTarget)
  | readLong (ch : Channel) (h : TuHeader)
  | writeLong (ch : Channel) (h : TuHeader) (data : Bytes)
  | continueTu (ch : Channel) (h : TuHeader) (data : Bytes)
  | abortTu (ch : Channel) (h : TuHeader)
  | odTransferIdle (ch : Channel)
  | sessionOpen (ch : Channel)
  | sessionClose (ch : Channel)
  | identReq (dest : CwDest := .device)
  | cHello (m : ClientHello)
  | cFinish (f : CwFrame) (sigOk : Bool) (sigR sigS : BitVec 384)
  | causewayClose (f : CwFrame)
  | causewaySessionIdle (i : Fin 8)
  | causewayFrameLimit (i : Fin 8)
  | fwBegin (f : CwFrame) (len : BitVec 32)
  | fwData (f : CwFrame) (offset : BitVec 32) (data : Bytes) (ecdsaOk mldsaOk : Bool)
  | fwEnd (f : CwFrame)
  | fwTransferStall
  | budget (f : CwFrame) (cap : BitVec 16) (validityMs ident : BitVec 32)
  | budgetLapse
  | cosignGrantWrite (ch : Channel) (d : Digest) (expiry : BitVec 64)
  | vfabSetpointStep (die : Fin 12) (powerW : Nat)
  | thermalLoopStep (die : Fin 12)
  | powerCapStep (moduleW hubW : Nat) (dieW : List Nat)
  | watchdogFire (g : Fin 13) (imageEqual : Bool)
  | governorRestart (g : Fin 13)
  | dieThermalTrip (die : Fin 12)
  | hubThermalTrip
  | vfabCurrentLimit (die : Fin 12)
  | vfabOvercurrentOff (die : Fin 12)
  | dieOffline (die : Fin 12)
  | coreFault (core : Fin 1200)
  | coreSwap (die : Fin 12)
  | hbmUncorrectableRead (stack : Fin 12) (line : Nat)
  | faultRecordExtend (cleared : Bool)
  | lifecycleStage (ch : Channel) (v : Byte)
  | lifecycleConfirm (ch : Channel) (v : Byte) (blowOk : Bool)
  | bypass
  | idcode
  | samplePreload (shiftIn : BitVec 12)
  | extest
  | clamp
  | highz
  | tapPrivateInstruction (code : Byte)
  | hbmTrainingComplete (hbmFail : BitVec 12)
  | pcieLinkUp
  | snapshotComplete (translated : Bool)
  | spdmHeartbeatTimeout (i : Fin 4)
  | idevidCertificateReturn (cert : Bytes)
  | lockedConfigurationChange
  | msixVectorUnmask (a : MsixAccess)
  | provisioning (tamperPolicy : BitVec 6) (vendorDebug : Bool) (anchor : Bytes)
  deriving DecidableEq, Repr

end Sys2Proof
end

