-- ==== Sys2Proof/Config.lean ====
section
/-! DEFINITION. What a part fixes and what the manual leaves open: opaque constants, so that nothing proved can rest on a
value of them. Functions of published standards (00, "What this manual leaves to other documents") stand here too. -/

namespace Sys2Proof

/-- One entry of a core's slot table (09, "The Sound endpoint and slot tokens"): its layout in the execute window is not given. -/
structure SlotEntry where
  slot : Nat
  receive : Bool
  partner : BitVec 16
  units : Nat
  region : Nat
  regionOffset : Nat
  deriving DecidableEq, Repr, Inhabited

/-- One placement record (R416): model (by weights digest), byte offset and length in it, core and first window line. -/
structure Placement where
  weights : Digest
  offset : Nat
  core : Nat
  line : Nat
  lines : Nat
  deriving DecidableEq, Repr, Inhabited

/-- The claims of an evidence token (R372), before their CBOR encoding. -/
structure Claims where
  nonce : Bytes
  ueid : Bytes
  oemid : BitVec 128
  hwmodel : String
  dbgstat : Nat
  state : Nat
  transition : Nat
  offline : Nat
  serial : BitVec 128
  identity : Nat × Nat × Nat
  lifecycle : Nat
  debug : Nat
  svns : List Nat
  measurements : List Digest
  log : Nat × Bool
  deviceTime : Nat
  chain : Option (Nat × Nat × Digest)
  live : Option (Digest × Nat)
  coreMap : Nat × List Nat
  scrub : List (Nat × Nat)
  plan : Option Digest
  phase : Nat
  pendingAlias : Option Bytes
  deriving DecidableEq, Repr, Inhabited

/-- Output of the DRBG at its n-th draw (R80, SP 800-90A). -/
opaque Config.drbg : Nat → BitVec 512
/-- SHA-384 of the mask ROM, extended into MR0 (R88). -/
opaque Config.romDigest : Digest
/-- Nocheom's 16-byte OEM identifier (R372, R510). -/
opaque Config.oemId : BitVec 128
/-- The IDCODE value (R613: issued with the drawing). -/
opaque Config.idcode : BitVec 32
/-- SHA-384 of the primary and the secondary signer key block, fused at test (04, OTP region 0). -/
opaque Config.anchor : Bool → Digest
/-- The wrapped DRS that a finished part carries (R82). -/
opaque Config.wrappedDrs : Bytes
/-- The 32-octet PUF key that helper data reconstructs (04, "Identity from the PUF"). -/
opaque Config.pufKey : Bytes → Bytes
/-- The digest of the IDevID certificate that Nocheom's manufacturing root issued (R116). -/
opaque Config.idevidCertDigest : Digest
/-- ML-DSA-65 public key (1,952 B) of a seed (R112: ML-DSA.KeyGen_internal of FIPS 204). -/
opaque Config.mldsaPublic : Bytes → Bytes
/-- Hedged ML-DSA-65 signature (3,309 B) by a seed over a message, with rnd (R173, FIPS 204). -/
opaque Config.mldsaSign : Bytes → Bytes → Bytes → Bytes
/-- FIPS 204 verification: public key, message, signature (R172). -/
opaque Config.mldsaVerify : Bytes → Bytes → Bytes → Bool
/-- ML-KEM-768 encapsulation key (1,184 B) of d and z (R112: ML-KEM.KeyGen_internal of FIPS 203). -/
opaque Config.kemPublic : Bytes → Bytes → Bytes
/-- ML-KEM-768 ciphertext and shared secret for an encapsulation key and 32 random octets. -/
opaque Config.kemEncap : Bytes → Bytes → Bytes × Bytes
/-- ML-KEM-768 shared secret of d and z and a ciphertext. -/
opaque Config.kemDecap : Bytes → Bytes → Bytes → Bytes
/-- The SPDM 1.3 key schedule: from a secret or a key and the bytes under it, the requester's and the responder's keys (R405). -/
opaque Config.spdmKeys : Bytes → Bytes → Bytes × Bytes
/-- PUF helper data of the n-th enrolment. -/
opaque Config.pufHelper : Nat → Bytes
/-- The CBOR map of IDENT-RESP (R514). -/
opaque Config.encodeIdent : List Nat → Bytes
/-- What a token's bytes spell (R419), with the verdict of its signatures. -/
opaque Config.parseToken : Bytes → ConsentToken
/-- The slot table an execute window holds (09). -/
opaque Config.slotTable : Bytes → List SlotEntry
/-- The placement records of a plan image (R416). -/
opaque Config.placements : Bytes → List Placement
/-- Which octets of which row a unit to a core carries when its partner is a Ferry, the Ingest Sequencer or a Shoal cluster: from
the image section, the core, its slot and the unit's sequence, the stream, the row, and offset and length in the row's input
(10; the routing is Chivos's, the octets are not). -/
opaque Config.rowUnit : Bytes → Nat → Nat → Nat → Option (Nat × Nat × Nat × Nat)
/-- Which units, by token, hold the output record of a row in order: from the image section, the stream and the row (10; the
routing is Chivos's). -/
opaque Config.outputUnits : Bytes → Nat → Nat → List (BitVec 48)
/-- The row of its stream whose plan state a unit to an HBM controller holds: from the image section and the unit's token. -/
opaque Config.stateRow : Bytes → BitVec 48 → Option Nat
/-- The concatenation under the start-state digest (R29). -/
opaque Config.startState : List (Nat × BitVec 512) → List (Nat × BitVec 512) → Bytes
/-- The contents of an OTP region whose byte layout the manual does not give (regions 0, 1, 4 and 5). -/
opaque Config.otpLayout : Nat → List Nat → Bytes
/-- The bytes at OUTPUT_ADDR after OUTPUT_FAULT, by draw and position (R319: undefined). -/
opaque Config.freeByte : Nat → Nat → Byte
/-- The position a released TIME_REF, by draw, is held for beyond its lock (R471: between two bounds). -/
opaque Config.freeDelay : Nat → Nat
/-- What an SPDM or TDISP responder puts in a message field that the standards define, by draw. -/
opaque Config.spdmBytes : Nat → Bytes → Bytes
/-- The X.509 certificate chain of slot 0 (13, R378) from the IDevID certificate copy and the Alias certificate. -/
opaque Config.x509Chain : Bytes → Bytes → Bytes
/-- MiB of a stack's region space less one, modulo the stack: the manual gives no map of a stack (R436). -/
opaque Config.regionSpace : Nat
/-- The base at which an allocation may be placed, by draw (R432: any FREE space). -/
opaque Config.regionBase : Nat → Nat
/-- The octets of a Strait agreement message: 1 HELLO, 2 ENCAP, 3 CONFIRM, with its fields (15; the layout is not given). -/
opaque Config.straitMessage : Nat → List Bytes → Bytes
/-- The table of link routes of a span plan (R449): image, destination module to port. -/
opaque Config.spanRoute : Bytes → Nat → Option Nat
/-- The 256 octets of a FINISH or FENCE unit, from its kind and its values (R452, R453; the layout is not given). -/
opaque Config.linkUnit : Nat → List Nat → Bytes
/-- Where a unit handed to a Strait port goes: destination module, endpoint and token, from the image section, the port and the token
(R449; the link slots are the image's). -/
opaque Config.spanUnit : Bytes → Nat → BitVec 48 → BitVec 12 × BitVec 16 × BitVec 48
/-- The key identifier byte of an MR15 record (R134: its values are not given). -/
opaque Config.keyIdentifier : Nat → Nat
/-- The boundary-scan capture of the sideband levels: the description gives each signal's cell (R613). -/
opaque Config.boundaryCapture : List Bool → BitVec 12
/-- What an internal debug register reads through the test port, by draw and instruction (R614). -/
opaque Config.debugRegister : Nat → Byte → BitVec 32
/-- The octets of a Causeway set-up message (17; C-HELLO and D-HELLO: the encoding of their fields is not given). -/
opaque Config.causewayMessage : Nat → List Bytes → Bytes
/-- log2 of the page size, in pages of 4 KiB, that the host's ATS reports for a page (R303, log 106). -/
opaque Config.atsPageSize : Nat → BitVec 6
/-- What the device fetches from host memory for a firmware delivery whose address a transfer unit wrote, by draw. -/
opaque Config.hostFetch : Nat → SetImage
/-- The head of a bundle that the device fetches from host memory at an address a transfer unit wrote, by draw; none: the fetch
faults. -/
opaque Config.hostHead : Nat → Option Bytes
/-- The verdicts of a self-test and of a fuse blow commanded by a transfer unit, by draw. -/
opaque Config.fuseVerdict : Nat → Bool × Bool
/-- A value a vendor diagnostic object reads (R484: service documentation), by draw, index and sub-index. -/
opaque Config.vendorObject : Nat → Nat → Nat → Bytes

end Sys2Proof
end

