-- ==== Sys2Proof/Machine/Bits.lean ====
section
/-! DEFINITION. Bit fields, byte orders, sign extension, saturating counters, and sparse maps in canonical form. -/

namespace Sys2Proof.Machine

/-- `n` octets of `x`, least significant first ("All multi-byte values are little-endian", 09, 10, 13, 16). -/
def leBytes (n x : Nat) : Bytes :=
  (List.range n).map fun i => BitVec.ofNat 8 (x >>> (8 * i))

/-- The number a little-endian byte string spells. -/
def leNat : Bytes → Nat
  | [] => 0
  | b :: bs => b.toNat + 256 * leNat bs

/-- `n` octets of `x`, most significant first. -/
def beBytes (n x : Nat) : Bytes := (leBytes n x).reverse

/-- The number a big-endian byte string spells. -/
def beNat (b : Bytes) : Nat := leNat b.reverse

/-- The 48 octets of a SHA-384 value in digest order. -/
def digestBytes (d : Digest) : Bytes := beBytes 48 d.toNat

/-- The SHA-384 value 48 octets spell in digest order. -/
def digestOf (b : Bytes) : Digest := BitVec.ofNat 384 (beNat (b.take 48))

/-- Bits [lo + len - 1 : lo] of a number. -/
def field (w lo len : Nat) : Nat := (w >>> lo) % 2 ^ len

/-- Bit `i` of a number. -/
def bit (w i : Nat) : Bool := field w i 1 = 1

/-- `len` octets of a byte string from `off`. -/
def slice (b : Bytes) (off len : Nat) : Bytes := (b.drop off).take len

/-- Little-endian field of a byte string. -/
def leField (b : Bytes) (off len : Nat) : Nat := leNat (slice b off len)

/-- A byte string padded with zeros to `n` octets. -/
def padTo (n : Nat) (b : Bytes) : Bytes := b ++ List.replicate (n - b.length) 0

/-- Every octet is zero. -/
def allZero (b : Bytes) : Bool := b.all (· == 0)

/-- The two's-complement reading of a `w`-bit number (08, Formats). -/
def signed (w v : Nat) : Int := if v < 2 ^ (w - 1) then (v : Int) else (v : Int) - 2 ^ w

/-- The `w`-bit two's-complement code of an integer. -/
def twos (w : Nat) (v : Int) : Nat := (v % (2 ^ w : Int)).toNat

/-- A set of small numbers as a mask. -/
def maskOf (n : Nat) (p : Nat → Bool) : Nat :=
  (List.range n).foldl (fun m i => if p i then m + 2 ^ i else m) 0

/-- The largest value of a U64 counter. -/
def u64Max : Nat := 2 ^ 64 - 1

/-- A U64 counter raised by `k`: it holds at its maximum (R477). -/
def bumpBy (k c : Nat) : Nat := min (c + k) u64Max

/-- A U64 counter raised by one (R477). -/
def bump (c : Nat) : Nat := bumpBy 1 c

/-- A U32 counter raised by one (R477). -/
def bump32 (c : Nat) : Nat := min (c + 1) (2 ^ 32 - 1)

/-- Element `i` of a list replaced by `f` of it; out of range, nothing changes. -/
def modifyAt {α : Type} (l : List α) (i : Nat) (f : α → α) : List α := l.modify i f

/-- A sparse map: keys strictly rising, no entry equal to the value an unlisted key reads as. -/
abbrev SMap (α : Type) := List (Nat × α)

/-- The value at a key; an unlisted key reads `d`. -/
def SMap.get {α : Type} (d : α) : SMap α → Nat → α
  | [], _ => d
  | (k, v) :: m, i => if k = i then v else SMap.get d m i

/-- A key's entry removed. -/
def SMap.erase {α : Type} : SMap α → Nat → SMap α
  | [], _ => []
  | (k, v) :: m, i => if k = i then m else (k, v) :: SMap.erase m i

/-- An entry put in key order, replacing an earlier one. -/
def SMap.insert {α : Type} : SMap α → Nat → α → SMap α
  | [], i, x => [(i, x)]
  | (k, v) :: m, i, x =>
    if i < k then (i, x) :: (k, v) :: m
    else if k = i then (i, x) :: m
    else (k, v) :: SMap.insert m i x

/-- A value written at a key; writing the default removes the entry. -/
def SMap.set {α : Type} [DecidableEq α] (d : α) (m : SMap α) (i : Nat) (x : α) : SMap α :=
  if x = d then SMap.erase m i else SMap.insert m i x

/-- A value updated at a key. -/
def SMap.modify {α : Type} [DecidableEq α] (d : α) (m : SMap α) (i : Nat) (f : α → α) : SMap α :=
  SMap.set d m i (f (SMap.get d m i))

/-- The map that holds `f i` at each key below `n`. -/
def SMap.ofFn {α : Type} [DecidableEq α] (d : α) (n : Nat) (f : Nat → α) : SMap α :=
  (List.range n).filterMap fun i => if f i = d then none else some (i, f i)

/-- The values written at consecutive keys from `i`. -/
def SMap.setMany {α : Type} [DecidableEq α] (d : α) (m : SMap α) (i : Nat) : List α → SMap α
  | [] => m
  | x :: xs => SMap.setMany d (SMap.set d m i x) (i + 1) xs

/-- The canonical form: keys strictly rising above `lo`, no default entry. -/
def SMap.wfFrom {α : Type} [DecidableEq α] (d : α) : Option Nat → SMap α → Bool
  | _, [] => true
  | lo, (k, v) :: m =>
    (match lo with | none => true | some l => decide (l < k)) && decide (v ≠ d) && SMap.wfFrom d (some k) m

/-- The canonical form of a sparse map. -/
def SMap.wf {α : Type} [DecidableEq α] (d : α) (m : SMap α) : Bool := SMap.wfFrom d none m

end Sys2Proof.Machine
end

