-- ==== Sys2Proof/Machine/Aes.lean ====
section
/-! DEFINITION. AES-256 of FIPS 197, the key wrap with padding of RFC 5649 (04, 05, 06) and AES-256-GCM of SP 800-38D (14, 15,
17). PRESUMED from the published standards (log 3). -/

namespace Sys2Proof.Machine

/-! ### AES-256 -/

/-- Product in GF(2^8) modulo x^8 + x^4 + x^3 + x + 1. -/
def gmul (a b : Byte) : Byte :=
  ((List.range 8).foldl (fun (t : Byte × Byte) i =>
    (if b.getLsbD i then t.1 ^^^ t.2 else t.1, if t.2.getLsbD 7 then (t.2 <<< 1) ^^^ 0x1B else t.2 <<< 1)) (0, a)).1

/-- Inverse in GF(2^8); 0 goes to 0. -/
def ginv (a : Byte) : Byte :=
  let sq := fun x => gmul x x
  ((List.range 7).foldl (fun (t : Byte × Byte) _ => let q := sq t.2; (gmul t.1 q, q)) (1, a)).1

def sbox (a : Byte) : Byte :=
  let b := ginv a
  b ^^^ b.rotateLeft 1 ^^^ b.rotateLeft 2 ^^^ b.rotateLeft 3 ^^^ b.rotateLeft 4 ^^^ 0x63

def invSbox (a : Byte) : Byte := ginv (a.rotateLeft 1 ^^^ a.rotateLeft 3 ^^^ a.rotateLeft 6 ^^^ 0x05)

def xorBytes (a b : Bytes) : Bytes := List.zipWith (· ^^^ ·) a b

/-- The next four octets of the key schedule, from the reversed list of the words so far. -/
def keyWordNext (i : Nat) (rev : List Bytes) : Bytes :=
  let prev := rev.headD []
  let t := if i % 8 = 0 then
      xorBytes ((prev.rotateLeft 1).map sbox) [(List.range (i / 8 - 1)).foldl (fun r _ => gmul r 2) 1, 0, 0, 0]
    else if i % 8 = 4 then prev.map sbox else prev
  xorBytes (rev.getD 7 []) t

/-- The 15 round keys of a 32-octet key. -/
def aesKeys (key : Bytes) : List Bytes :=
  let first := (List.range 8).map fun i => slice key (4 * i) 4
  let words := ((List.range 52).foldl (fun rev k => keyWordNext (k + 8) rev :: rev) first.reverse).reverse
  (List.range 15).map fun r => ((words.drop (4 * r)).take 4).flatten

/-- Octet r + 4 c of the state moves from column c + r. -/
def shiftRows (b : Bytes) : Bytes := (List.range 16).map fun i => b.getD ((i + 4 * (i % 4)) % 16) 0

def invShiftRows (b : Bytes) : Bytes := (List.range 16).map fun i => b.getD ((i + 12 * (i % 4)) % 16) 0

/-- Each column times a circulant of four coefficients. -/
def mixWith (k : List Byte) (b : Bytes) : Bytes :=
  (List.range 16).map fun i =>
    (List.range 4).foldl (fun t j => t ^^^ gmul (k.getD ((j + 4 - i % 4) % 4) 0) (b.getD (i / 4 * 4 + j) 0)) 0

/-- AES-256 of one block. -/
def aesEnc (key block : Bytes) : Bytes :=
  match aesKeys key with
  | [] => block
  | k0 :: ks =>
    let mid := (ks.take 13).foldl (fun b k => xorBytes (mixWith [2, 3, 1, 1] (shiftRows (b.map sbox))) k) (xorBytes block k0)
    xorBytes (shiftRows (mid.map sbox)) (ks.getD 13 [])

/-- The inverse cipher. -/
def aesDec (key block : Bytes) : Bytes :=
  match (aesKeys key).reverse with
  | [] => block
  | k14 :: ks =>
    let mid := (ks.take 13).foldl (fun b k => mixWith [14, 11, 13, 9] (xorBytes ((invShiftRows b).map invSbox) k)) (xorBytes block k14)
    xorBytes ((invShiftRows mid).map invSbox) (ks.getD 13 [])

/-! ### RFC 5649 -/

/-- One step of the wrap process: A and the semi-block. -/
def wrapStep (key : Bytes) (t : Nat) (a r : Bytes) : Bytes × Bytes :=
  let b := aesEnc key (a ++ r)
  (beBytes 8 (beNat (b.take 8) ^^^ t), b.drop 8)

def unwrapStep (key : Bytes) (t : Nat) (a r : Bytes) : Bytes × Bytes :=
  let b := aesDec key (beBytes 8 (beNat a ^^^ t) ++ r)
  (b.take 8, b.drop 8)

/-- The six passes of the wrap process over the semi-blocks. -/
def wrapBlocks (key a : Bytes) (rs : List Bytes) : Bytes × List Bytes :=
  (List.range 6).foldl (fun s j =>
    (List.range rs.length).foldl (fun s i =>
      let x := wrapStep key (rs.length * j + i + 1) s.1 (s.2.getD i [])
      (x.1, s.2.set i x.2)) s) (a, rs)

def unwrapBlocks (key a : Bytes) (rs : List Bytes) : Bytes × List Bytes :=
  (List.range 6).reverse.foldl (fun s j =>
    (List.range rs.length).reverse.foldl (fun s i =>
      let x := unwrapStep key (rs.length * j + i + 1) s.1 (s.2.getD i [])
      (x.1, s.2.set i x.2)) s) (a, rs)

/-- The semi-blocks of a byte string. -/
def semiBlocks (b : Bytes) : List Bytes := (List.range ((b.length + 7) / 8)).map fun i => padTo 8 (slice b (8 * i) 8)

/-- The alternative initial value over a length. -/
def wrapAiv (len : Nat) : Bytes := [0xA6, 0x59, 0x59, 0xA6] ++ beBytes 4 len

/-- RFC 5649 wrap of a plaintext under a key. -/
def kwWrap (key plain : Bytes) : Bytes :=
  match semiBlocks plain with
  | [r] => aesEnc key (wrapAiv plain.length ++ r)
  | rs => let x := wrapBlocks key (wrapAiv plain.length) rs
          x.1 ++ x.2.flatten

/-- RFC 5649 unwrap; `none` when the integrity check fails. -/
def kwUnwrap (key blob : Bytes) : Option Bytes :=
  if blob.length % 8 ≠ 0 ∨ blob.length < 16 then none
  else
    let x := if blob.length = 16 then let b := aesDec key blob; (b.take 8, [b.drop 8])
             else unwrapBlocks key (blob.take 8) (semiBlocks (blob.drop 8))
    let plain := x.2.flatten
    let len := beNat (x.1.drop 4)
    if x.1.take 4 = [0xA6, 0x59, 0x59, 0xA6] ∧ len ≤ plain.length ∧ plain.length < len + 8 ∧ allZero (plain.drop len) = true then
      some (plain.take len)
    else none

/-! ### AES-256-GCM -/

/-- Product in GF(2^128), bit 127 of the number being the first bit of the block. -/
def ghashMul (x y : BitVec 128) : BitVec 128 :=
  ((List.range 128).foldl (fun (t : BitVec 128 × BitVec 128) i =>
    (if x.getLsbD (127 - i) then t.1 ^^^ t.2 else t.1,
     if t.2.getLsbD 0 then (t.2 >>> 1) ^^^ (0xE1#128 <<< 120) else t.2 >>> 1)) (0, y)).1

/-- The 16-octet blocks of a byte string, the last padded with zeros. -/
def blocks16 (b : Bytes) : List Bytes := (List.range ((b.length + 15) / 16)).map fun i => padTo 16 (slice b (16 * i) 16)

def ghash (h : BitVec 128) (b : Bytes) : BitVec 128 :=
  (blocks16 b).foldl (fun y x => ghashMul (y ^^^ BitVec.ofNat 128 (beNat x)) h) 0

/-- The key stream over a byte string, from counter 2 of a 12-octet IV. -/
def gcmStream (key iv b : Bytes) : Bytes :=
  ((blocks16 b).mapIdx fun i x => xorBytes x (aesEnc key (iv ++ beBytes 4 (i + 2)))).flatten.take b.length

/-- The tag over additional data and ciphertext. -/
def gcmTag (key iv aad cipher : Bytes) : Bytes :=
  let h := BitVec.ofNat 128 (beNat (aesEnc key (List.replicate 16 0)))
  let pad (b : Bytes) : Bytes := padTo ((b.length + 15) / 16 * 16) b
  let y := ghash h (pad aad ++ pad cipher ++ beBytes 8 (8 * aad.length) ++ beBytes 8 (8 * cipher.length))
  xorBytes (beBytes 16 y.toNat) (aesEnc key (iv ++ [0, 0, 0, 1]))

/-- AES-256-GCM: ciphertext and 16-octet tag for key, 12-octet IV, additional data and plaintext. -/
def gcmSeal (key iv aad plain : Bytes) : Bytes :=
  let c := gcmStream key iv plain
  c ++ gcmTag key iv aad c

/-- The plaintext of a sealed text; none when its tag does not compare equal. -/
def gcmOpen (key iv aad cipher tag : Bytes) : Option Bytes :=
  if gcmTag key iv aad cipher = tag then some (gcmStream key iv cipher) else none

end Sys2Proof.Machine
end

