-- ==== Sys2Proof/Machine/Cbor.lean ====
section
/-! DEFINITION. CBOR in the core deterministic encoding of RFC 8949 and the COSE_Sign of RFC 9052, as certificates and tokens
use them (13). PRESUMED from the published standards (log 3). -/

namespace Sys2Proof.Machine

/-! ### CBOR -/

/-- The head of an item: major type and argument in its shortest form. -/
def cborHead (major n : Nat) : Bytes :=
  let m := 32 * major
  if n < 24 then [BitVec.ofNat 8 (m + n)]
  else if n < 256 then BitVec.ofNat 8 (m + 24) :: beBytes 1 n
  else if n < 65536 then BitVec.ofNat 8 (m + 25) :: beBytes 2 n
  else if n < 2 ^ 32 then BitVec.ofNat 8 (m + 26) :: beBytes 4 n
  else BitVec.ofNat 8 (m + 27) :: beBytes 8 n

def cborUint (n : Nat) : Bytes := cborHead 0 n

def cborInt (x : Int) : Bytes := if 0 ≤ x then cborHead 0 x.toNat else cborHead 1 (-1 - x).toNat

def cborBytes (b : Bytes) : Bytes := cborHead 2 b.length ++ b

def cborText (t : String) : Bytes := cborHead 3 t.length ++ t.toList.map fun c => BitVec.ofNat 8 c.toNat

/-- An array of encoded items. -/
def cborArr (l : List Bytes) : Bytes := cborHead 4 l.length ++ l.flatten

/-- A map of integer keys to encoded values; the keys stand in the order of their encodings. -/
def cborMap (l : List (Int × Bytes)) : Bytes := cborHead 5 l.length ++ l.flatMap fun e => cborInt e.1 ++ e.2

def cborTag (t : Nat) (item : Bytes) : Bytes := cborHead 6 t ++ item

def cborBool (b : Bool) : Bytes := [if b then 0xF5 else 0xF4]

def cborNull : Bytes := [0xF6]

/-- What follows the first `pending` items of a byte string, by fuel. -/
def cborSkip : Nat → Nat → Bytes → Option Bytes
  | _, 0, b => some b
  | 0, _ + 1, _ => none
  | _ + 1, _ + 1, [] => none
  | f + 1, k + 1, h :: b =>
    let major := h.toNat / 32
    let info := h.toNat % 32
    let w := if info < 24 then 0 else if info = 24 then 1 else if info = 25 then 2 else if info = 26 then 4 else 8
    let n := if info < 24 then info else beNat (b.take w)
    let rest := b.drop w
    if 27 < info ∨ b.length < w then none
    else if major = 2 ∨ major = 3 then (if n ≤ rest.length then cborSkip f k (rest.drop n) else none)
    else cborSkip f (match major with | 4 => k + n | 5 => k + 2 * n | 6 => k + 1 | _ => k) rest

/-- The first item of a byte string. -/
def cborFirst (b : Bytes) : Option Bytes := (cborSkip (b.length + 1) 1 b).map fun rest => b.take (b.length - rest.length)

/-! ### COSE_Sign -/

/-- COSE algorithm ES384 and ML-DSA-65 (13). -/
def algEs384 : Int := -35
def algMlDsa65 : Int := -49

/-- The protected header of a signature: algorithm and signer's KID. -/
def signHeader (alg : Int) (kid : Bytes) : Bytes := cborMap [(1, cborInt alg), (4, cborBytes kid)]

/-- What a signature covers: the body has no protected header and there is no external data. -/
def sigStructure (alg : Int) (kid payload : Bytes) : Bytes :=
  cborArr [cborText "Signature", cborBytes [], cborBytes (signHeader alg kid), cborBytes [], cborBytes payload]

/-- One COSE_Signature. -/
def coseSignature (alg : Int) (kid sig : Bytes) : Bytes := cborArr [cborBytes (signHeader alg kid), cborMap [], cborBytes sig]

/-- A COSE_Sign (tag 98) with ES384 first and ML-DSA-65 second (R370, R371). -/
def coseSign (unprotected payload kid ecSig mlSig : Bytes) : Bytes :=
  cborTag 98 (cborArr [cborBytes [], unprotected, cborBytes payload,
    cborArr [coseSignature algEs384 kid ecSig, coseSignature algMlDsa65 kid mlSig]])

end Sys2Proof.Machine
end

