-- ==== Sys2Proof/Machine/Hash.lean ====
section
/-! DEFINITION. The hash functions of the digest engine (06): SHA-256, SHA-384, SHA-512 of FIPS 180-4, SHA3-256 and SHA3-384
of FIPS 202, HMAC over SHA-2, and the counter-mode KDF of R110. The chaining state is kept apart so that a context can be
exported and restored (R152, R153). PRESUMED from the published standards (log 3). -/

namespace Sys2Proof.Machine

/-- The algorithms of the ALG field. -/
inductive HashAlg where
  | sha256 | sha384 | sha512 | sha3_256 | sha3_384
  deriving DecidableEq, Repr

/-- ALG codes; other values are not supported. -/
def HashAlg.ofCode : Nat → Option HashAlg
  | 1 => some .sha256 | 2 => some .sha384 | 3 => some .sha512 | 4 => some .sha3_256 | 5 => some .sha3_384
  | _ => none

def HashAlg.code : HashAlg → Nat
  | .sha256 => 1 | .sha384 => 2 | .sha512 => 3 | .sha3_256 => 4 | .sha3_384 => 5

/-- Digest length in octets. -/
def HashAlg.len : HashAlg → Nat
  | .sha256 => 32 | .sha384 => 48 | .sha512 => 64 | .sha3_256 => 32 | .sha3_384 => 48

/-- Block (or rate) length in octets; the fill of R152's byte [4] is at most one less. -/
def HashAlg.block : HashAlg → Nat
  | .sha256 => 64 | .sha384 => 128 | .sha512 => 128 | .sha3_256 => 136 | .sha3_384 => 104

def HashAlg.isSha3 : HashAlg → Bool
  | .sha3_256 | .sha3_384 => true
  | _ => false

/-- Round constants of SHA-256. -/
def k256 : List (BitVec 32) :=
  [0x428a2f98, 0x71374491, 0xb5c0fbcf, 0xe9b5dba5, 0x3956c25b, 0x59f111f1, 0x923f82a4, 0xab1c5ed5] ++
  [0xd807aa98, 0x12835b01, 0x243185be, 0x550c7dc3, 0x72be5d74, 0x80deb1fe, 0x9bdc06a7, 0xc19bf174] ++
  [0xe49b69c1, 0xefbe4786, 0x0fc19dc6, 0x240ca1cc, 0x2de92c6f, 0x4a7484aa, 0x5cb0a9dc, 0x76f988da] ++
  [0x983e5152, 0xa831c66d, 0xb00327c8, 0xbf597fc7, 0xc6e00bf3, 0xd5a79147, 0x06ca6351, 0x14292967] ++
  [0x27b70a85, 0x2e1b2138, 0x4d2c6dfc, 0x53380d13, 0x650a7354, 0x766a0abb, 0x81c2c92e, 0x92722c85] ++
  [0xa2bfe8a1, 0xa81a664b, 0xc24b8b70, 0xc76c51a3, 0xd192e819, 0xd6990624, 0xf40e3585, 0x106aa070] ++
  [0x19a4c116, 0x1e376c08, 0x2748774c, 0x34b0bcb5, 0x391c0cb3, 0x4ed8aa4a, 0x5b9cca4f, 0x682e6ff3] ++
  [0x748f82ee, 0x78a5636f, 0x84c87814, 0x8cc70208, 0x90befffa, 0xa4506ceb, 0xbef9a3f7, 0xc67178f2]

/-- Round constants of SHA-384 and SHA-512. -/
def k512 : List (BitVec 64) :=
  [0x428a2f98d728ae22, 0x7137449123ef65cd, 0xb5c0fbcfec4d3b2f, 0xe9b5dba58189dbbc, 0x3956c25bf348b538, 0x59f111f1b605d019, 0x923f82a4af194f9b, 0xab1c5ed5da6d8118] ++
  [0xd807aa98a3030242, 0x12835b0145706fbe, 0x243185be4ee4b28c, 0x550c7dc3d5ffb4e2, 0x72be5d74f27b896f, 0x80deb1fe3b1696b1, 0x9bdc06a725c71235, 0xc19bf174cf692694] ++
  [0xe49b69c19ef14ad2, 0xefbe4786384f25e3, 0x0fc19dc68b8cd5b5, 0x240ca1cc77ac9c65, 0x2de92c6f592b0275, 0x4a7484aa6ea6e483, 0x5cb0a9dcbd41fbd4, 0x76f988da831153b5] ++
  [0x983e5152ee66dfab, 0xa831c66d2db43210, 0xb00327c898fb213f, 0xbf597fc7beef0ee4, 0xc6e00bf33da88fc2, 0xd5a79147930aa725, 0x06ca6351e003826f, 0x142929670a0e6e70] ++
  [0x27b70a8546d22ffc, 0x2e1b21385c26c926, 0x4d2c6dfc5ac42aed, 0x53380d139d95b3df, 0x650a73548baf63de, 0x766a0abb3c77b2a8, 0x81c2c92e47edaee6, 0x92722c851482353b] ++
  [0xa2bfe8a14cf10364, 0xa81a664bbc423001, 0xc24b8b70d0f89791, 0xc76c51a30654be30, 0xd192e819d6ef5218, 0xd69906245565a910, 0xf40e35855771202a, 0x106aa07032bbd1b8] ++
  [0x19a4c116b8d2d0c8, 0x1e376c085141ab53, 0x2748774cdf8eeb99, 0x34b0bcb5e19b48a8, 0x391c0cb3c5c95a63, 0x4ed8aa4ae3418acb, 0x5b9cca4f7763e373, 0x682e6ff3d6b2b8a3] ++
  [0x748f82ee5defb2fc, 0x78a5636f43172f60, 0x84c87814a1f0ab72, 0x8cc702081a6439ec, 0x90befffa23631e28, 0xa4506cebde82bde9, 0xbef9a3f7b2c67915, 0xc67178f2e372532b] ++
  [0xca273eceea26619c, 0xd186b8c721c0c207, 0xeada7dd6cde0eb1e, 0xf57d4f7fee6ed178, 0x06f067aa72176fba, 0x0a637dc5a2c898a6, 0x113f9804bef90dae, 0x1b710b35131c471b] ++
  [0x28db77f523047d84, 0x32caab7b40c72493, 0x3c9ebe0a15c9bebc, 0x431d67c49c100d4c, 0x4cc5d4becb3e42b6, 0x597f299cfc657e2a, 0x5fcb6fab3ad6faec, 0x6c44198c4a475817]

/-- Round constants of Keccak-f[1600]. -/
def keccakRc : List (BitVec 64) :=
  [0x0000000000000001, 0x0000000000008082, 0x800000000000808a, 0x8000000080008000, 0x000000000000808b, 0x0000000080000001, 0x8000000080008081, 0x8000000000008009] ++
  [0x000000000000008a, 0x0000000000000088, 0x0000000080008009, 0x000000008000000a, 0x000000008000808b, 0x800000000000008b, 0x8000000000008089, 0x8000000000008003] ++
  [0x8000000000008002, 0x8000000000000080, 0x000000000000800a, 0x800000008000000a, 0x8000000080008081, 0x8000000000008080, 0x0000000080000001, 0x8000000080008008]

/-- Rotation offsets of Keccak's rho step, in lane order. -/
def keccakRho : List Nat := [0, 1, 62, 28, 27, 36, 44, 6, 55, 20, 3, 10, 43, 25, 39, 41, 45, 15, 21, 8, 18, 2, 61, 56, 14]

/-- One variant of the SHA-2 rounds: word width, constants and the six rotation triples. -/
structure Sha2 (w : Nat) where
  k : List (BitVec w)
  s0 : Nat × Nat × Nat
  s1 : Nat × Nat × Nat
  b0 : Nat × Nat × Nat
  b1 : Nat × Nat × Nat

def sha2_32 : Sha2 32 := ⟨k256, (7, 18, 3), (17, 19, 10), (2, 13, 22), (6, 11, 25)⟩
def sha2_64 : Sha2 64 := ⟨k512, (1, 8, 7), (19, 61, 6), (28, 34, 39), (14, 18, 41)⟩

def smallSigma {w : Nat} (t : Nat × Nat × Nat) (x : BitVec w) : BitVec w :=
  x.rotateRight t.1 ^^^ x.rotateRight t.2.1 ^^^ (x >>> t.2.2)

def bigSigma {w : Nat} (t : Nat × Nat × Nat) (x : BitVec w) : BitVec w :=
  x.rotateRight t.1 ^^^ x.rotateRight t.2.1 ^^^ x.rotateRight t.2.2

/-- The next `n` schedule words; `ws` holds the last sixteen, newest first. The result is newest first. -/
def schedule {w : Nat} (p : Sha2 w) : Nat → List (BitVec w) → List (BitVec w)
  | 0, ws => ws
  | n + 1, ws =>
    schedule p n ((smallSigma p.s1 (ws.getD 1 0) + ws.getD 6 0 + smallSigma p.s0 (ws.getD 14 0) + ws.getD 15 0) :: ws)

/-- The eight working variables. -/
structure H8 (w : Nat) where
  a : BitVec w
  b : BitVec w
  c : BitVec w
  d : BitVec w
  e : BitVec w
  f : BitVec w
  g : BitVec w
  h : BitVec w
  deriving DecidableEq, Repr

def H8.ofList {w : Nat} (l : List (BitVec w)) : H8 w :=
  ⟨l.getD 0 0, l.getD 1 0, l.getD 2 0, l.getD 3 0, l.getD 4 0, l.getD 5 0, l.getD 6 0, l.getD 7 0⟩

def H8.toList {w : Nat} (h : H8 w) : List (BitVec w) := [h.a, h.b, h.c, h.d, h.e, h.f, h.g, h.h]

def H8.add {w : Nat} (x y : H8 w) : H8 w :=
  ⟨x.a + y.a, x.b + y.b, x.c + y.c, x.d + y.d, x.e + y.e, x.f + y.f, x.g + y.g, x.h + y.h⟩

def sha2Round {w : Nat} (p : Sha2 w) (v : H8 w) (kw : BitVec w × BitVec w) : H8 w :=
  let t1 := v.h + bigSigma p.b1 v.e + ((v.e &&& v.f) ^^^ (~~~v.e &&& v.g)) + kw.1 + kw.2
  let t2 := bigSigma p.b0 v.a + ((v.a &&& v.b) ^^^ (v.a &&& v.c) ^^^ (v.b &&& v.c))
  ⟨t1 + t2, v.a, v.b, v.c, v.d + t1, v.e, v.f, v.g⟩

/-- The compression function on one block of octets. -/
def sha2Compress {w : Nat} (p : Sha2 w) (h : H8 w) (block : Bytes) : H8 w :=
  let w0 := (List.range 16).map fun i => BitVec.ofNat w (beNat (slice block (i * (w / 8)) (w / 8)))
  let ws := (schedule p (p.k.length - 16) w0.reverse).reverse
  h.add ((p.k.zip ws).foldl (sha2Round p) h)

def keccakTheta (s : List (BitVec 64)) : List (BitVec 64) :=
  let c := (List.range 5).map fun x =>
    s.getD x 0 ^^^ s.getD (x + 5) 0 ^^^ s.getD (x + 10) 0 ^^^ s.getD (x + 15) 0 ^^^ s.getD (x + 20) 0
  (List.range 25).map fun i =>
    s.getD i 0 ^^^ c.getD ((i % 5 + 4) % 5) 0 ^^^ (c.getD ((i % 5 + 1) % 5) 0).rotateLeft 1

def keccakRhoPi (s : List (BitVec 64)) : List (BitVec 64) :=
  (List.range 25).map fun i =>
    let x := (i % 5 + 3 * (i / 5)) % 5
    let y := i % 5
    (s.getD (x + 5 * y) 0).rotateLeft (keccakRho.getD (x + 5 * y) 0)

def keccakChi (s : List (BitVec 64)) : List (BitVec 64) :=
  (List.range 25).map fun i =>
    let y := 5 * (i / 5)
    s.getD i 0 ^^^ (~~~(s.getD (y + (i % 5 + 1) % 5) 0) &&& s.getD (y + (i % 5 + 2) % 5) 0)

def keccakRound (s : List (BitVec 64)) (rc : BitVec 64) : List (BitVec 64) :=
  match keccakChi (keccakRhoPi (keccakTheta s)) with
  | [] => []
  | l :: ls => (l ^^^ rc) :: ls

def keccakF (s : List (BitVec 64)) : List (BitVec 64) := keccakRc.foldl keccakRound s

/-- Octets XORed into a sponge state from octet `off`. -/
def spongeXor (s : List (BitVec 64)) (off : Nat) (b : Bytes) : List (BitVec 64) :=
  (List.range 25).map fun i =>
    let oct := (List.range 8).map fun k =>
      let p := 8 * i + k
      if p < off then (0 : Byte) else b.getD (p - off) 0
    s.getD i 0 ^^^ BitVec.ofNat 64 (leNat oct)

/-- A hashing context: the state that EXPORT saves (06, "Export of a context"). -/
structure HashCtx where
  alg : HashAlg
  keyed : Bool
  inner32 : H8 32
  inner64 : H8 64
  outer32 : H8 32
  outer64 : H8 64
  count : Nat
  buf : Bytes
  sponge : List (BitVec 64)
  deriving DecidableEq, Repr

def zero32 : H8 32 := ⟨0, 0, 0, 0, 0, 0, 0, 0⟩
def zero64 : H8 64 := ⟨0, 0, 0, 0, 0, 0, 0, 0⟩

def iv256 : H8 32 := H8.ofList
  [0x6a09e667, 0xbb67ae85, 0x3c6ef372, 0xa54ff53a, 0x510e527f, 0x9b05688c, 0x1f83d9ab, 0x5be0cd19]
def iv384 : H8 64 := H8.ofList
  [0xcbbb9d5dc1059ed8, 0x629a292a367cd507, 0x9159015a3070dd17, 0x152fecd8f70e5939, 0x67332667ffc00b31, 0x8eb44a8768581511, 0xdb0c2e0d64f98fa7, 0x47b5481dbefa4fa4]
def iv512 : H8 64 := H8.ofList
  [0x6a09e667f3bcc908, 0xbb67ae8584caa73b, 0x3c6ef372fe94f82b, 0xa54ff53a5f1d36f1, 0x510e527fade682d1, 0x9b05688c2b3e6c1f, 0x1f83d9abfb41bd6b, 0x5be0cd19137e2179]

/-- The context before the first octet. -/
def HashCtx.init (a : HashAlg) : HashCtx :=
  { alg := a, keyed := false
    inner32 := if a = .sha256 then iv256 else zero32
    inner64 := if a = .sha384 then iv384 else if a = .sha512 then iv512 else zero64
    outer32 := zero32, outer64 := zero64, count := 0, buf := []
    sponge := List.replicate 25 0 }

/-- One whole block absorbed. -/
def HashCtx.compress (c : HashCtx) (block : Bytes) : HashCtx :=
  match c.alg with
  | .sha256 => { c with inner32 := sha2Compress sha2_32 c.inner32 block }
  | .sha384 | .sha512 => { c with inner64 := sha2Compress sha2_64 c.inner64 block }
  | .sha3_256 | .sha3_384 => { c with sponge := keccakF (spongeXor c.sponge 0 block) }

/-- Whole blocks taken from the front of the buffer; `fuel` bounds their number. -/
def HashCtx.flush : Nat → HashCtx → HashCtx
  | 0, c => c
  | n + 1, c =>
    if c.buf.length < c.alg.block then c
    else HashCtx.flush n { c.compress (c.buf.take c.alg.block) with buf := c.buf.drop c.alg.block }

/-- Octets absorbed. -/
def HashCtx.absorb (c : HashCtx) (m : Bytes) : HashCtx :=
  let c' := { c with count := c.count + m.length, buf := c.buf ++ m }
  c'.flush (c'.buf.length / c'.alg.block)

/-- The padding of the algorithm for a message of `count` octets whose last partial block holds `fill`. -/
def hashPad (a : HashAlg) (count fill : Nat) : Bytes :=
  let b := a.block
  if a.isSha3 then
    if fill + 1 = b then [0x86] else [0x06] ++ List.replicate (b - fill - 2) 0 ++ [0x80]
  else
    let lenBytes := if a = .sha256 then 8 else 16
    let zeros := (2 * b - 1 - lenBytes - fill) % b
    [0x80] ++ List.replicate zeros 0 ++ beBytes lenBytes (8 * count)

/-- The digest of a context's SHA chaining value. -/
def HashCtx.output (c : HashCtx) : Bytes :=
  match c.alg with
  | .sha256 => (c.inner32.toList.flatMap fun x => beBytes 4 x.toNat).take 32
  | .sha384 => (c.inner64.toList.flatMap fun x => beBytes 8 x.toNat).take 48
  | .sha512 => (c.inner64.toList.flatMap fun x => beBytes 8 x.toNat).take 64
  | .sha3_256 | .sha3_384 => (c.sponge.flatMap fun x => leBytes 8 x.toNat).take c.alg.len

/-- The plain digest: padding absorbed, then the chaining value read out. -/
def HashCtx.closePlain (c : HashCtx) : Bytes :=
  let p := hashPad c.alg c.count c.buf.length
  (({ c with buf := c.buf ++ p }).flush 2).output

/-- The result of a context: a digest, or the HMAC value when it is keyed. -/
def HashCtx.close (c : HashCtx) : Bytes :=
  let d := c.closePlain
  if c.keyed then
    (({ HashCtx.init c.alg with inner32 := c.outer32, inner64 := c.outer64, count := c.alg.block }).absorb d).closePlain
  else d

/-- A digest of a whole message. -/
def hash (a : HashAlg) (m : Bytes) : Bytes := ((HashCtx.init a).absorb m).close

/-- SHA-384, the hash of measurements, receipts and identities. -/
@[irreducible] def sha384 (m : Bytes) : Digest := digestOf (hash .sha384 m)

/-- The key block of HMAC: the key hashed when longer than a block, then zero-padded. -/
def hmacKeyBlock (a : HashAlg) (key : Bytes) : Bytes :=
  padTo a.block (if key.length > a.block then hash a key else key)

/-- A keyed context: both key blocks are absorbed ahead (R146 gives the key only over the sealed key bus). -/
def HashCtx.initKeyed (a : HashAlg) (key : Bytes) : HashCtx :=
  let kb := hmacKeyBlock a key
  let i := (HashCtx.init a).absorb (kb.map (· ^^^ 0x36))
  let o := (HashCtx.init a).absorb (kb.map (· ^^^ 0x5c))
  { i with keyed := true, outer32 := o.inner32, outer64 := o.inner64 }

def hmac (a : HashAlg) (key m : Bytes) : Bytes := ((HashCtx.initKeyed a key).absorb m).close

/-- R110: the SP 800-108 KDF in counter mode with HMAC-SHA-384, `n` octets of output. -/
@[irreducible] def kdf (key label context : Bytes) (n : Nat) : Bytes :=
  ((List.range ((n + 47) / 48)).flatMap fun i =>
    hmac .sha384 key (beBytes 4 (i + 1) ++ label ++ [0] ++ context ++ beBytes 4 (8 * n))).take n

end Sys2Proof.Machine
end

