-- ==== Sys2Proof/Machine/Curves.lean ====
section
/-! DEFINITION. What the Skerry's firmware computes on the big-number engine (06, R167-R172): modular arithmetic, short
Weierstrass curves in projective coordinates, P-384 key pairs, ECDSA and ECDH with their blinding, RSA private operations with
theirs, and the checks of a loaded curve block. The algorithms are those of FIPS 186-5, SP 800-56A and PKCS #1 (PRESUMED, log 3). -/

namespace Sys2Proof.Machine

/-! ### Modular arithmetic -/

/-- The bits of a number, most significant first. -/
def bitsOf (n : Nat) : List Bool := if n = 0 then [] else (List.range (n.log2 + 1)).reverse.map (bit n)

/-- b^e mod m. -/
def powMod (b e m : Nat) : Nat :=
  (bitsOf e).foldl (fun r x => if x then r * r % m * b % m else r * r % m) (1 % m)

/-- The inverse modulo a prime. -/
def invMod (a p : Nat) : Nat := powMod a (p - 2) p

/-- a - b modulo p. -/
def subMod (a b p : Nat) : Nat := (a + (p - b % p)) % p

/-! ### Curves -/

/-- A short Weierstrass curve y^2 = x^3 + a x + b over the integers modulo p, its base point, order and cofactor. -/
structure Curve where
  p : Nat
  a : Nat
  b : Nat
  gx : Nat
  gy : Nat
  n : Nat
  h : Nat
  deriving DecidableEq, Repr

/-- A point (X, Y, Z) for (X / Z^2, Y / Z^3); Z = 0 is O. -/
structure Point where
  x : Nat
  y : Nat
  z : Nat
  deriving DecidableEq, Repr

def Point.zero : Point := ⟨1, 1, 0⟩

def Curve.base (c : Curve) : Point := ⟨c.gx, c.gy, 1⟩

/-- y^2 = x^3 + a x + b. -/
def Curve.holds (c : Curve) (x y : Nat) : Bool := y * y % c.p == (x * x * x + c.a * x + c.b) % c.p

def Curve.double (c : Curve) (q : Point) : Point :=
  if q.z = 0 ∨ q.y = 0 then Point.zero
  else
    let yy := q.y * q.y % c.p
    let s := 4 * q.x * yy % c.p
    let zz := q.z * q.z % c.p
    let m := (3 * q.x * q.x + c.a * (zz * zz % c.p)) % c.p
    let x := subMod (m * m) (2 * s) c.p
    ⟨x, subMod (m * subMod s x c.p) (8 * (yy * yy % c.p)) c.p, 2 * q.y * q.z % c.p⟩

def Curve.add (c : Curve) (q r : Point) : Point :=
  if q.z = 0 then r else if r.z = 0 then q
  else
    let zq := q.z * q.z % c.p
    let zr := r.z * r.z % c.p
    let u1 := q.x * zr % c.p
    let u2 := r.x * zq % c.p
    let s1 := q.y * (zr * r.z % c.p) % c.p
    let s2 := r.y * (zq * q.z % c.p) % c.p
    if u1 = u2 then (if s1 = s2 then c.double q else Point.zero)
    else
      let h := subMod u2 u1 c.p
      let d := subMod s2 s1 c.p
      let hh := h * h % c.p
      let hhh := hh * h % c.p
      let v := u1 * hh % c.p
      let x := subMod (d * d) (hhh + 2 * v) c.p
      ⟨x, subMod (d * subMod v x c.p) (s1 * hhh) c.p, h * (q.z * r.z % c.p) % c.p⟩

/-- k·Q. -/
def Curve.mul (c : Curve) (k : Nat) (q : Point) : Point :=
  (bitsOf k).foldl (fun r x => let r := c.double r; if x then c.add r q else r) Point.zero

/-- The affine coordinates of a point other than O. -/
def Curve.affine (c : Curve) (q : Point) : Option (Nat × Nat) :=
  if q.z = 0 then none
  else
    let i := invMod q.z c.p
    let ii := i * i % c.p
    some (q.x * ii % c.p, q.y * (ii * i % c.p) % c.p)

/-- P-384 (SP 800-186), held in ROM. -/
def p384 : Curve :=
  { p := 2 ^ 384 - 2 ^ 128 - 2 ^ 96 + 2 ^ 32 - 1
    a := 2 ^ 384 - 2 ^ 128 - 2 ^ 96 + 2 ^ 32 - 4
    b := 0xb3312fa7e23ee7e4988e056be3f82d19181d9c6efe8141120314088f5013875ac656398d8a2ed19d2a85c8edd3ec2aef
    gx := 0xaa87ca22be8b05378eb1c71ef320ad746e1d3b628ba79b9859f741e082542a385502f25dbf55296c3a545e3872760ab7
    gy := 0x3617de4a96262c6f5d9e98bf9292dc29f8f41dbd289a147ce9da3113b5f0b8c00a60b1ce1d7e819d7a431d7c90ea0e5f
    n := 0xffffffffffffffffffffffffffffffffffffffffffffffffc7634d81f4372ddf581a0db248b0a77aecec196accc52973
    h := 1 }

/-! ### P-384 key pairs and private-scalar operations (R112, R170) -/

/-- R112: the private scalar of a 56-octet seed. -/
def ecScalar (seed : Bytes) : Nat := beNat seed % (p384.n - 1) + 1

/-- The 97 octets of an uncompressed point. -/
def ecEncode (q : Point) : Bytes :=
  match p384.affine q with
  | some (x, y) => 4 :: (beBytes 48 x ++ beBytes 48 y)
  | none => List.replicate 97 0

/-- The point 97 octets spell, when it lies on the curve. -/
def ecDecode (b : Bytes) : Option Point :=
  let x := beNat (slice b 1 48)
  let y := beNat (slice b 49 48)
  if b.length = 97 ∧ b.headD 0 = 4 ∧ x < p384.p ∧ y < p384.p ∧ p384.holds x y = true then some ⟨x, y, 1⟩ else none

/-- P-384 public key (97 octets) of a seed (R112). -/
def ecPublic (seed : Bytes) : Bytes := ecEncode (p384.mul (ecScalar seed) p384.base)

/-- R170: k·Q by k' = k + r·n from the input point (λ^2 X, λ^3 Y, λ Z), with r and λ fresh. -/
def blindMul (k : Nat) (q : Point) (r lam : Nat) : Point :=
  let l := lam % (p384.p - 1) + 1
  let l2 := l * l % p384.p
  p384.mul (k + r % 2 ^ 64 * p384.n) ⟨q.x * l2 % p384.p, q.y * (l2 * l % p384.p) % p384.p, q.z * l % p384.p⟩

/-- The value of a DRBG draw. -/
def drawOf (n : Nat) : Nat := (Config.drbg n).toNat

/-- ECDH: the x-coordinate (48 octets) of a private seed and a public key, blinded with two draws (R170). -/
def ecdh (seed pub : Bytes) (draw : Nat) : Bytes :=
  match ecDecode pub with
  | none => List.replicate 48 0
  | some q =>
    match p384.affine (blindMul (ecScalar seed) q (drawOf draw) (drawOf (draw + 1))) with
    | some (x, _) => beBytes 48 x
    | none => List.replicate 48 0

/-- ECDSA P-384 over SHA-384 (96 octets r ‖ s): per-signature scalar and blinding from three draws (R170). -/
def ecdsaSign (seed msg : Bytes) (draw : Nat) : Bytes :=
  let d := ecScalar seed
  let k := drawOf draw % (p384.n - 1) + 1
  let z := (sha384 msg).toNat
  let r := ((p384.affine (blindMul k p384.base (drawOf (draw + 1)) (drawOf (draw + 2)))).map fun q => q.1 % p384.n).getD 0
  let s := invMod k p384.n * ((z + r * d) % p384.n) % p384.n
  beBytes 48 r ++ beBytes 48 s

/-- ECDSA verification with a public key. -/
def ecdsaVerify (pub msg sig : Bytes) : Bool :=
  let r := beNat (sig.take 48)
  let s := beNat (sig.drop 48)
  match ecDecode pub with
  | none => false
  | some q =>
    if sig.length ≠ 96 ∨ r = 0 ∨ s = 0 ∨ p384.n ≤ r ∨ p384.n ≤ s then false
    else
      let w := invMod s p384.n
      let u1 := (sha384 msg).toNat * w % p384.n
      let u2 := r * w % p384.n
      match p384.affine (p384.add (p384.mul u1 p384.base) (p384.mul u2 q)) with
      | some (x, _) => x % p384.n == r
      | none => false

/-! ### RSA private operations (R171, R172, R175) -/

/-- An RSA private key. -/
structure RsaKey where
  p : Nat
  q : Nat
  e : Nat
  dp : Nat
  dq : Nat
  deriving DecidableEq, Repr

/-- R175: the sizes a private operation and a verification take. -/
def rsaPrivateOk (n : Nat) : Bool := decide (2048 ≤ n.log2 + 1) && decide (n.log2 + 1 ≤ 4096) && (n.log2 + 1) % 8 == 0

def rsaVerifyOk (n e : Nat) : Bool :=
  decide (2048 ≤ n.log2 + 1) && decide (n.log2 + 1 ≤ 8192) && e % 2 == 1 && decide (3 ≤ e) && decide (e < 2 ^ 256)

/-- R171: m^d mod N by the Chinese remainders of m·r^e, with the exponents dp + r1 (p - 1) and dq + r2 (q - 1), and the blinding r
removed; three draws. -/
def rsaPrivate (k : RsaKey) (m draw : Nat) : Nat :=
  let n := k.p * k.q
  let r := drawOf draw % (n - 1) + 1
  let m' := m * powMod r k.e n % n
  let xp := powMod m' (k.dp + drawOf (draw + 1) % 2 ^ 64 * (k.p - 1)) k.p
  let xq := powMod m' (k.dq + drawOf (draw + 2) % 2 ^ 64 * (k.q - 1)) k.q
  let t := subMod xp xq k.p * invMod k.q k.p % k.p
  (xq + t * k.q) * (Int.gcdA r n % n).toNat % n

/-- R172, R175: a result of the private operation is checked with the public key. -/
def rsaChecks (k : RsaKey) (m sig : Nat) : Bool := powMod sig k.e (k.p * k.q) == m % (k.p * k.q)

/-! ### Curve blocks (R167-R169) -/

/-- n - 1 = 2^s · d with d odd. -/
def twoPart : Nat → Nat → Nat × Nat
  | 0, n => (0, n)
  | f + 1, n => if n % 2 = 0 ∧ n ≠ 0 then let r := twoPart f (n / 2); (r.1 + 1, r.2) else (0, n)

/-- One round of Miller–Rabin on a base. -/
def millerRound (n base : Nat) : Bool :=
  let t := twoPart (n.log2 + 1) (n - 1)
  let x := powMod base t.2 n
  x == 1 || ((List.range t.1).foldl (fun (s : Nat × Bool) _ => (s.1 * s.1 % n, s.2 || s.1 == n - 1)) (x, false)).2

/-- The Jacobi symbol (a / n) for odd n, by fuel. -/
def jacobi : Nat → Nat → Nat → Int
  | 0, _, _ => 0
  | f + 1, a, n =>
    let a := a % n
    if a = 0 then (if n = 1 then 1 else 0)
    else
      let t := twoPart (a.log2 + 1) a
      let two : Int := if t.1 % 2 = 1 ∧ (n % 8 = 3 ∨ n % 8 = 5) then -1 else 1
      let flip : Int := if t.2 % 4 = 3 ∧ n % 4 = 3 then -1 else 1
      if t.2 = 1 then two else two * flip * jacobi f n t.2

/-- An integer modulo n. -/
def intMod (x : Int) (n : Nat) : Nat := (x % (n : Int)).toNat

/-- The first D of 5, -7, 9, ... with (D / n) = -1. -/
def lucasD (n : Nat) : Option Int :=
  ((List.range 128).map fun k => if k % 2 = 0 then (2 * k + 5 : Int) else -(2 * k + 5 : Int)).find? fun d =>
    jacobi (n.log2 + 2) (intMod d n) n == -1

/-- (U_k, V_k, Q^k) modulo n for P = 1, by the bits of k from the second. -/
def lucasUV (n : Nat) (d : Int) (k : Nat) : Nat × Nat × Nat :=
  let q := intMod ((1 - d) / 4) n
  let half (x : Nat) : Nat := (if x % 2 = 0 then x / 2 else (x + n) / 2) % n
  (bitsOf k).tail.foldl (fun s x =>
    let u := s.1 * s.2.1 % n
    let v := subMod (s.2.1 * s.2.1) (2 * s.2.2) n
    let qk := s.2.2 * s.2.2 % n
    if x then (half (u + v), half (v + intMod d n * u), qk * q % n) else (u, v, qk)) (1, 1, q)

/-- The strong Lucas test. -/
def lucasProbable (n : Nat) : Bool :=
  if n.sqrt * n.sqrt = n then false
  else match lucasD n with
    | none => false
    | some d =>
      let t := twoPart (n.log2 + 2) (n + 1)
      let s := lucasUV n d t.2
      s.1 == 0 || s.2.1 == 0 ||
        ((List.range t.1).foldl (fun (r : Nat × Nat × Bool) _ =>
          (subMod (r.1 * r.1) (2 * r.2.1) n, r.2.1 * r.2.1 % n, r.2.2 || r.1 == 0)) (s.2.1, s.2.2, false)).2.2

/-- R168: 64 rounds of Miller–Rabin on bases drawn from the DRBG, then one strong Lucas test. -/
def primeTest (n draw : Nat) : Bool :=
  if n < 4 then n == 2 || n == 3
  else n % 2 == 1 && ((List.range 64).all fun k => millerRound n (drawOf (draw + k) % (n - 3) + 2)) && lucasProbable n

/-- Draws a primality test takes. -/
def primeDraws : Nat := 64

/-- Model, Curves and sizes: seven fields, each big-endian and padded to the octet length of p. -/
def curveOf (block : Bytes) : Option Curve :=
  if block.length % 7 ≠ 0 then none
  else
    let w := block.length / 7
    let f (i : Nat) : Nat := beNat (slice block (w * i) w)
    if (f 0).log2 / 8 + 1 ≠ w then none else some ⟨f 0, f 1, f 2, f 3, f 4, f 5, f 6⟩

/-- R167: the first check a block fails, 1 to 8; 0 when it passes them all. A block that is not seven such fields fails the first
(log 99). -/
def curveCheck (block : Bytes) (draw : Nat) : Nat :=
  match curveOf block with
  | none => 1
  | some c =>
    if c.p.log2 + 1 < 192 ∨ 521 < c.p.log2 + 1 ∨ ¬ (c.a < c.p ∧ c.b < c.p ∧ c.gx < c.p ∧ c.gy < c.p ∧ c.h < c.p) then 1
    else if primeTest c.p draw = false then 2
    else if primeTest c.n (draw + primeDraws) = false ∨ c.n = c.p then 3
    else if (4 * c.a * c.a * c.a + 27 * c.b * c.b) % c.p = 0 then 4
    else if c.holds c.gx c.gy = false then 5
    else if (c.mul c.n c.base).z ≠ 0 then 6
    else if c.h < 1 ∨ 8 < c.h ∨ 4 * c.p < (((c.p : Int) + 1 - c.h * c.n) ^ 2).toNat then 7
    else if (List.range 19).any (fun k => powMod c.p (k + 1) c.n == 1 % c.n) then 8
    else 0

end Sys2Proof.Machine
end

