-- ==== Sys2Proof/Machine/Types.lean ====
section
/-! DEFINITION. The kinds of things State holds: power states, fuses, Lagoon lines, steps, rings, submissions, neurons,
ports, records. Every one is plain data. -/

namespace Sys2Proof.Machine

/-! ### Identity, power and lifecycle -/

/-- The two grades (R1, R2). -/
inductive Grade where
  | q4 | d2
  deriving DecidableEq, Repr

/-- Power states of R530. -/
inductive PowerState where
  | off | standby | start | ready | run | limit
  deriving DecidableEq, Repr

/-- Start phases of OD 0x2001.01 (R106). -/
inductive StartPhase where
  | romCheck | standby | awaitSet | loading | releasing | training | readyOrLater | entropyFail | tamperHalt
  deriving DecidableEq, Repr

/-- The halts within STANDBY and START (19, Model). -/
inductive Halt where
  | none | fuse | tamper | entropy | identity
  deriving DecidableEq, Repr

/-- The debug conditions, with the MR8 codes (13). -/
inductive DebugCond where
  | sealed | profile | debug | vendor
  deriving DecidableEq, Repr

/-- ROOT of this start, with the codes of OD 0x2021.01. -/
inductive RootKind where
  | drs | test | none
  deriving DecidableEq, Repr

/-- A fuse thermometer: two rails, a step taken on a rail is its bit set (04, "dual-rail"). -/
structure Thermo where
  a : BitVec 64 := 0
  b : BitVec 64 := 0
  deriving DecidableEq, Repr

/-- A slot of OTP region 6 that is not blank: anchor, slot digest, and whether it is closed (R75). -/
structure CaSlot where
  anchor : BitVec 768
  digest : Digest
  closed : Bool := true
  deriving DecidableEq, Repr

/-- The one-time-programmable store (04, "The OTP store"). `closed` has one bit for regions 0 to 5; `regionDigest` holds the
digests written at closing. -/
structure Otp where
  /-- Serial number | 128 | 04 region 0, R510 | DESIGN CHOICE 0 (log 5) -/
  serial : BitVec 128 := 0
  /-- Grade code | 1 of 2 | R1, R2 | DESIGN CHOICE TLU1200-Q4 (log 5) -/
  grade : Grade := .q4
  /-- Process indices of C0-C11 and the hub | 13 x U16 | 04 region 0, R70, R71 | DESIGN CHOICE 1000 each (log 5) -/
  processIndex : List Nat := List.replicate 13 1000
  /-- Array enable masks that differ from the default of the grade, key 104 n + p | 4 bits each | R37, R49 | all four arrays (log 5) -/
  arrayMask : SMap (BitVec 4) := []
  /-- Primary and secondary signing anchors | 2 x 384 | 04 region 0, R83 | opaque Config.anchor (log 5) -/
  anchorPrimary : Digest := Config.anchor false
  anchorSecondary : Digest := Config.anchor true
  /-- ROM patch table | 0-64 x 160 | 04 region 1, R74 | none (log 5) -/
  patches : List (BitVec 160) := []
  /-- PUF helper data | 1,024 B | 04 region 2 | opaque (log 5) -/
  helper : Bytes := Config.pufHelper 0
  /-- Wrapped DRS | 40 B | 04 region 3 | opaque (log 5) -/
  wrappedDrs : Bytes := Config.wrappedDrs
  /-- Digest of the IDevID public keys | 384 | 04 region 3, R113 | DESIGN CHOICE that of the part's own keys (log 5) -/
  idevidKeyDigest : Digest := 0
  /-- Digest of the IDevID certificate | 384 | 04 region 3, R116 | DESIGN CHOICE that of the part's own certificate (log 5) -/
  idevidCertDigest : Digest := 0
  /-- Tamper level per source, bit k = T2 | 6 | 04 region 4, R98 | mesh and light T2 (source table) -/
  tamperT2 : BitVec 6 := 0b100001
  /-- VENDOR-DEBUG permission | 1 | 04 region 4, R420 | DESIGN CHOICE denied (log 5) -/
  vendorDebug : Bool := false
  /-- Lifecycle steps PROVISIONED, RETURNED, KILLED | 3 dual-rail | 04 region 5 | DESIGN CHOICE PROVISIONED (log 5) -/
  lifecycle : Thermo := ⟨1, 1⟩
  /-- SVN counters 0-3 | 4 x 64 dual-rail | 04 region 5, R84, R90 | DESIGN CHOICE 0 (log 5) -/
  svn : List Thermo := [{}, {}, {}, {}]
  /-- DRS revocation step | 1 dual-rail | 04 region 5, R79 | intact -/
  revoked : Thermo := {}
  /-- Binding epoch | 64 dual-rail | 04 region 5, R129 | DESIGN CHOICE 0 (log 5) -/
  epoch : Thermo := {}
  /-- Management-CA slots | 8 x 144 B | 04 region 6, R133 | DESIGN CHOICE slot 0 closed (log 5) -/
  caSlots : List (Option CaSlot) := List.replicate 8 none
  /-- Closed regions 0-5 | 6 | 04, R106 | all closed (log 5) -/
  closed : BitVec 6 := 0b111111
  /-- Region digests | 6 x 384 | 04, R75 | those of the contents (log 5) -/
  regionDigest : List Digest := List.replicate 6 0
  deriving DecidableEq, Repr

/-! ### Firmware sets -/

/-- One item of a manifest (04, "The firmware set"). -/
structure SetItem where
  type : Nat
  svn : Nat
  size : Nat
  offset : Nat
  digest : Digest
  deriving DecidableEq, Repr

/-- An accepted manifest. -/
structure Manifest where
  version : Nat
  digest : Digest
  items : List SetItem
  deriving DecidableEq, Repr

/-- A set being loaded (or checked as an update): who delivers it and how many items are verified. -/
structure SetLoad where
  fromHost : Bool
  manifest : Manifest
  done : Nat
  /-- Place of a host delivery among those that F0 was asked for (R315). -/
  order : Nat := 0
  deriving DecidableEq, Repr

/-- The record of OD 0x2002.03: result code, step, device time. -/
structure FailureRec where
  code : Nat := 0
  step : Nat := 0
  time : Nat := 0
  deriving DecidableEq, Repr

/-- The record of OD 0x2005.01: source mask, level (1 T1, 2 T2), device time. -/
structure TamperRec where
  mask : BitVec 8 := 0
  level : Nat := 0
  time : Nat := 0
  deriving DecidableEq, Repr

/-- A fault record of R595. -/
structure FaultRec where
  code : Nat
  die : Nat := 0xFF
  unit : Nat := 0xFFFF
  tide : Nat := u64Max
  a : Nat := 0
  b : Nat := 0
  time : Nat
  head : Option Digest := none
  deriving DecidableEq, Repr

/-! ### Keys -/

/-- What a key-store entry holds (R111). -/
inductive KeyName where
  | root | cdi0 | cdi1 | idevidEc | idevidMl | aliasEc | aliasMl | bindEc | bindKem | sealing | prevBindEc | prevBindKem
  deriving DecidableEq, Repr

/-- A key of up to 64 octets as one 512-bit word. -/
def keyWord (k : Bytes) : BitVec 512 := BitVec.ofNat 512 (beNat ((padTo 64 k).take 64))

/-- A key as it stands everywhere but in the instant of a transfer: two shares whose XOR is the key (R117), and the key's length
in octets. Key-store entries and consumer slots hold it so. -/
structure MaskedKey where
  share0 : BitVec 512
  share1 : BitVec 512
  len : Nat
  deriving DecidableEq, Repr

/-- The key two shares carry. -/
def MaskedKey.key (e : MaskedKey) : Bytes := (beBytes 64 (e.share0 ^^^ e.share1).toNat).take e.len

/-- R117: a key split into two shares under a fresh mask. -/
def maskKey (k : Bytes) (mask : BitVec 512) : MaskedKey := ⟨mask, mask ^^^ keyWord k, k.length⟩

/-- A key-store entry. -/
structure KeyEntry where
  name : KeyName
  held : MaskedKey
  deriving DecidableEq, Repr

/-! ### Engines -/

/-- STATE of a job channel (06). -/
inductive JobState where
  | idle | absorbing | done | error
  deriving DecidableEq, Repr

/-- An operation held until the length is consumed (R143). -/
inductive HeldOp where
  | compare (aux : Bytes)
  | extend (mr : Fin 32) (aux : Bytes)
  | exportCtx
  deriving DecidableEq, Repr

/-- A job channel of the digest engine (06, "Job descriptor and status"). -/
structure JobChannel where
  state : JobState := .idle
  early : Bool := false
  cmp : Bool := false
  err : Nat := 0
  desc : Option JobDesc := none
  consumed : Nat := 0
  ctx : Option HashCtx := none
  result : Bytes := []
  /-- What the last RESULT returned. -/
  resultOut : Bytes := []
  /-- What the last EXPORT wrote to AUX. -/
  exportOut : Bytes := []
  /-- Bytes passed on to the load target (PASS = 1). -/
  passed : Bytes := []
  held : List HeldOp := []
  hmacSlot : Bool := false
  deriving DecidableEq, Repr

/-- A command of a big-number context (06). -/
inductive BnCmd where
  | mac (lanes : Bool) (f : BnFlags) (a b dst : BitVec 12)
  | keyload (dst : BitVec 12)
  | fin
  deriving DecidableEq, Repr

/-- A context of the big-number engine (06). Words are numbers below 2^128, keyed 0x000-0x8FF. -/
structure BnContext where
  acc : BitVec 384 := 0
  words : SMap (BitVec 128) := []
  carry : Bool := false
  keyPort : Option MaskedKey := none
  queue : List BnCmd := []
  job : Bool := false
  err : Nat := 0
  /-- Timebase count of the last command completed for the holder, or of the job's beginning (R165). -/
  lastDone : Nat := 0
  deriving DecidableEq, Repr

/-! ### Cores -/

/-- A Lagoon line (R242): valid bit, CLIPPED tag, 64 B as a little-endian word. -/
structure Line where
  valid : Bool := false
  tag : Bool := false
  data : BitVec 512 := 0
  deriving DecidableEq, Repr

/-- An HBM line: sideband CLIPPED tag, uncorrectable mark, contents (R578). -/
structure HbmLine where
  tag : Bool := false
  poisoned : Bool := false
  data : BitVec 512 := 0
  deriving DecidableEq, Repr

/-- The loaded shape of an array (R181). -/
inductive Shape where
  | empty | stationary | narrows
  deriving DecidableEq, Repr

/-- An array of a core (07): weights by 128 r + c as sign-extended octets, cell accumulators likewise, row saturation marks,
the OPACC update count, the feet (128; 512 in Narrows shape) as signed 48-bit values, the finished rows that wait at them for
the drain path (at most two, R216), and whether the array has quiesced in the present gap. -/
structure ArrayState where
  shape : Shape := .empty
  weights : SMap Byte := []
  wTag : Bool := false
  acc : SMap (BitVec 24) := []
  rowSat : BitVec 128 := 0
  accTag : Bool := false
  updates : Nat := 0
  feet : List Int := List.replicate 128 0
  waiting : List (List Int) := []
  quiesced : Bool := false
  deriving DecidableEq, Repr

/-- A vector register (R242): 128 lanes of signed 48 bits, packed, and one tag. -/
structure VReg where
  lanes : List Int := List.replicate 128 0
  tag : Bool := false
  deriving DecidableEq, Repr

/-- The fields of a STREAM step (09, "Step encoding"). -/
structure StreamF where
  mask : Nat
  p : Nat
  signed : Bool
  mode : Nat
  carry : Bool
  fromSlot : Bool
  src : Nat
  rows : Nat
  s : Nat
  k : Nat
  dest : Nat
  dst : Nat
  cline : Nat
  dparam : Nat
  deriving DecidableEq, Repr

/-- The fields of a VEC step. -/
structure VecF where
  vop : Nat
  vd : Nat
  va : Nat
  vb : Nat
  line : Nat
  aux : Nat
  w : Nat
  signed : Bool
  n : Nat
  deriving DecidableEq, Repr

/-- A decoded step (09, "Step encoding"). -/
inductive CoreStep where
  | nop
  | loadw (array width shape src : Nat)
  | stream (f : StreamF)
  | opacc (array : Nat) (asigned bsigned : Bool) (asrc bsrc updates : Nat)
  | drain (array dest dst dparam : Nat)
  | vec (f : VecF)
  | send (slot line count : Nat)
  | recv (slot line count : Nat)
  | waitslot (slot : Nat)
  | fence (classes : Nat)
  | fin
  deriving DecidableEq, Repr

/-- A line of a Sound unit: its octets, its tag, and how many bits of the line it covers. -/
structure UnitLine where
  data : BitVec 512
  tag : Bool
  bits : Nat
  deriving DecidableEq, Repr

/-- An issued operation not yet complete: its step, its step index, the lines of a RECV that have landed, and the lines a
FROMSLOT STREAM has taken. -/
structure Issued where
  step : CoreStep
  index : Nat
  landed : Nat := 0
  fed : List UnitLine := []
  deriving DecidableEq, Repr

/-- A logical core (09): sequencer, queues, Lagoon, arrays, vector unit, Sound endpoint; the timebase counts of its last progress
(R262) and of its last issue (OD 0x40B3). -/
structure Core where
  seq : Nat := 0
  issuing : Bool := false
  ended : Bool := false
  ops : List Issued := []
  arrays : List ArrayState := [{}, {}, {}, {}]
  curMask : BitVec 4 := 0
  lagoon : SMap Line := []
  execBase : Nat := 0
  execLines : Nat := 0
  constBase : Nat := 0
  constLines : Nat := 0
  slots : List SlotEntry := []
  recvSeq : SMap Nat := []
  sendSeq : SMap Nat := []
  unacked : SMap Nat := []
  recvBuf : List SoundUnit := []
  vregs : List VReg := List.replicate 16 {}
  lastLut : Option Nat := none
  lastProgress : Nat := 0
  lastIssue : Nat := 0
  idle : Bool := false
  deriving DecidableEq, Repr

/-- A Sound unit under way: the endpoint that sent it, and whether a full receive buffer has held it (R259, OD 0x40B1). -/
structure InFlight where
  source : Nat
  unit : SoundUnit
  held : Bool := false
  deriving DecidableEq, Repr

/-- A window store entry (R279): a core's two windows as admission left them. -/
structure WindowCopy where
  execBase : Nat := 0
  exec : List (BitVec 512) := []
  constBase : Nat := 0
  const : List (BitVec 512) := []
  deriving DecidableEq, Repr

/-- A die's record of OD 0x40B4. -/
structure PlanFaultRec where
  logical : Nat := 0
  step : Nat := 0
  code : Nat := 0
  time : Nat := 0
  deriving DecidableEq, Repr

/-! ### Plans -/

/-- A stream entry of a plan (10). -/
structure StreamEntry where
  stream : Nat
  level : Bool
  rows : Nat
  inputMax : Nat
  outputLen : Nat
  padLen : Nat
  padOff : Nat
  form : Digest
  weights : Digest
  partition : BitVec 1200
  deriving DecidableEq, Repr

/-- The certificate of a plan (10). -/
structure Cert where
  wcBeats : Nat
  wcFixedNs : Nat
  minFloor : Nat
  phases : Nat
  phaseBeats : List Nat
  binds : Digest
  deriving DecidableEq, Repr

/-- A region entry of a plan (10). -/
structure RegionEntry where
  stack : Nat
  region : Nat
  read : Bool
  write : Bool
  deriving DecidableEq, Repr

/-- A fallback entry of a plan (10). -/
structure FallbackEntry where
  dies : BitVec 12
  streams : BitVec 64
  digest : Digest
  deriving DecidableEq, Repr

/-- A span section (10). -/
structure SpanInfo where
  digest : Digest
  epoch : Nat
  modules : Nat
  self : Nat
  master : Nat
  addresses : List Nat
  deriving DecidableEq, Repr

/-- A directory entry of a plan image (10). -/
structure DirEntry where
  execBase : Nat
  execSize : Nat
  constBase : Nat
  constSize : Nat
  contentOff : Nat
  deriving DecidableEq, Repr

/-- What the device reads in a plan file (10), with the whole file's digest and its image section. -/
structure PlanInfo where
  digest : Digest
  al : Nat
  grades : Nat
  cadenceUs : Nat
  streams : List StreamEntry
  cert : Cert
  regions : List RegionEntry
  fallbacks : List FallbackEntry
  span : Option SpanInfo
  image : Bytes
  deriving DecidableEq, Repr

/-- States of the staged plan (OD 0x4101.01). -/
inductive StagedState where
  | loading | checked | switchPending
  deriving DecidableEq, Repr

/-- The staged plan. -/
structure Staged where
  state : StagedState
  addr : BitVec 64
  len : BitVec 64
  info : Option PlanInfo
  /-- Place of its fetch among the deliveries that F0 was asked for (R315). -/
  order : Nat := 0
  deriving DecidableEq, Repr

/-- What a slot of a tide holds (R283, R284). -/
inductive RowFill where
  | sub (tag : Nat)
  | nullRow
  | padding
  deriving DecidableEq, Repr

/-- A tide (10): number, departure, pace, its successor's grid point, the rows by stream, voided streams, LOOP-OUT. -/
structure Tide where
  no : Nat
  depart : Nat
  departCount : Nat
  paced : Bool
  nextGrid : Nat
  rows : List (Nat × List RowFill)
  voided : BitVec 64
  loopOut : Bool
  deriving DecidableEq, Repr

/-! ### Host rings -/

/-- Why a ring's submission queue is not read (OD 0x5420.03). -/
inductive RingStop where
  | none | entry | fence
  deriving DecidableEq, Repr

/-- Why completions of a ring are held (OD 0x5420.03). -/
inductive CqStop where
  | none | full | faulted
  deriving DecidableEq, Repr

/-- A ring pair (11). -/
structure Ring where
  configured : Bool := false
  enabled : Bool := false
  log2Depth : Nat := 0
  stream : Nat := 0
  vector : BitVec 16 := 0xFFFF
  sqBase : BitVec 64 := 0
  cqBase : BitVec 64 := 0
  sqTail : Nat := 0
  sqHead : Nat := 0
  cqHead : Nat := 0
  cqTail : Nat := 0
  /-- Completions posted since enable; the phase bit and the tail come from it. -/
  posted : Nat := 0
  stop : RingStop := .none
  cqStop : CqStop := .none
  heldEntry : Option (BitVec 512) := none
  deriving DecidableEq, Repr

/-- Where a submission stands (11, "The path of a submission"). -/
inductive SubPhase where
  | laneWait | fetching | pageWait | staged | sampled | inTide | answered | posted
  deriving DecidableEq, Repr

/-- A completion decided and not yet posted (R321, R322): what its receipt and its entry take. -/
structure Answer where
  ring : Nat
  cookie : Nat
  kind : Nat
  status : Nat
  flags : BitVec 6
  tide : Option Nat
  depart : Nat
  generation : Nat
  form : Option Digest
  noIrq : Bool
  fenceSignal : Option (Nat × Nat)
  receiptNo : Option Nat
  held : Bool
  deriving DecidableEq, Repr

/-- An ATS invalidation that has not completed: its range and the record fetches, by tag and sequence, that it waits for (R333). -/
structure Invalidation where
  iova : Nat
  len : Nat
  waits : List (Nat × Nat)
  deriving DecidableEq, Repr

/-- A submission under a tag (11, 13). `status` is the R322 code once it is decided; `parked` as R26. -/
structure Submission where
  ring : Nat
  seq : Nat
  time : Nat
  stream : Nat
  kind : Nat
  cookie : Nat := 0
  inputLen : Nat := 0
  eventCount : Nat := 0
  inputAddr : Nat := 0
  outputAddr : Nat := 0
  noIrq : Bool := false
  fenceSignal : Option (Nat × Nat) := none
  phase : SubPhase := .fetching
  record : Bytes := []
  inputDigest : Option Digest := none
  forwarded : Nat := 0
  clears : Nat := 0
  sample : Option Bytes := none
  sampleTag : Bool := false
  status : Option Nat := none
  parked : Bool := false
  /-- First completion already posted (R323). -/
  firstPosted : Bool := false
  outPending : Bool := false
  tide : Option Nat := none
  depart : Nat := 0
  generation : Nat := 0
  form : Option Digest := none
  flags : BitVec 6 := 0
  output : Option Bytes := none
  /-- Output digested by its inline lane (R156, R158); output that waits for the lane (R155). -/
  outDigested : Bool := false
  outLane : Bool := false
  /-- Output written to the host (R320). -/
  outWritten : Bool := false
  receiptNo : Option Nat := none
  /-- The completion has been counted as held at a full CQ (R325). -/
  held : Bool := false
  /-- Completions not yet posted when a resubmission was matched, oldest first (R313, R323). -/
  owed : List Answer := []
  deriving DecidableEq, Repr

/-! ### Shoal -/

/-- An event or spike (R342-R344, R351). -/
structure ShoalEvent where
  nid : Nat
  chmask : Nat
  sample : Bool
  mag : Int
  time : Nat
  seq : Nat
  suborder : Nat
  tag : Bool
  zeroOk : Bool
  deriving DecidableEq, Repr

/-- A Shoal cluster (12): configured sizes, tables, records and synapses as 512- and 64-bit words, inbox, sleep. -/
structure Cluster where
  neurons : Nat := 0
  width : Nat := 1
  synCount : Nat := 0
  /-- 64 entries of 256 B as one byte string -/
  table : Bytes := []
  records : SMap (BitVec 512) := []
  poisoned : List Nat := []
  synapses : SMap (BitVec 64) := []
  inbox : List ShoalEvent := []
  asleep : Bool := false
  deriving DecidableEq, Repr

/-! ### Hosting -/

/-- States of a region (OD 0x5000.03). -/
inductive RegionState where
  | free | allocated | scrubbing | suspended | dark
  deriving DecidableEq, Repr

/-- A region of HBM (14). -/
structure Region where
  stack : Nat := 0
  base : Nat := 0
  size : Nat := 0
  state : RegionState := .free
  progress : Nat := 0
  deriving DecidableEq, Repr

/-- The TDI states (OD 0x2060.01). -/
inductive TdiState where
  | unlocked | locked | run | error
  deriving DecidableEq, Repr

/-- A consent token in force. -/
structure TokenInForce where
  seq : Nat
  expiry : Nat
  digest : Digest
  deriving DecidableEq, Repr

/-- A model load in a bundle-decryptor slot, clear or bound: address and length of what is fetched, and of a bundle the content
key, the header that the key and the tag are bound to, and the weights digest the plaintext is held to (R409-R413). -/
structure ModelLoad where
  bound : Bool
  addr : BitVec 64
  len : BitVec 64
  weights : Digest := 0
  content : Option MaskedKey := none
  header : Bytes := []
  deriving DecidableEq, Repr

/-- A secured SPDM session (R405). -/
structure SpdmSession where
  phase : Nat := 0
  heartbeatS : Nat := 0
  lastMessage : Nat := 0
  requestKey : Option MaskedKey := none
  responseKey : Option MaskedKey := none
  keyGeneration : Nat := 0
  deriving DecidableEq, Repr

/-- An IDE consumer slot (R398). -/
structure IdeSlot where
  key : Option MaskedKey := none
  going : Bool := false
  deriving DecidableEq, Repr

/-! ### Straits -/

/-- Port states (OD 0x7011). -/
inductive PortState where
  | disabled | training | agreeing | up | refused | fault
  deriving DecidableEq, Repr

/-- The progress of an agreement (R440, R441). -/
structure Agreement where
  epoch : Nat
  /-- The ephemeral seeds (R112), as shares (R117). -/
  ecSeed : MaskedKey
  kemSeed : MaskedKey
  peer : Option HelloMsg
  /-- The two ML-KEM secrets, as shares. -/
  kemToPeer : Option MaskedKey
  kemFromPeer : Option MaskedKey
  /-- Agreement messages sent and received so far. -/
  sent : Bytes
  received : Bytes
  /-- CONFIRM as sent. -/
  confirm : Bytes := []
  deriving DecidableEq, Repr

/-- A DATA frame as it was first sent (R443), and how often the partner has asked for it again (R445). -/
structure SentFrame where
  counter : Nat
  mark : Bool
  bytes : Bytes
  fails : Nat := 0
  deriving DecidableEq, Repr

/-- A Strait port (15): state, partner (address, serial, port), epoch in use by the sender with its start (device time and
timebase count), the direction keys of this epoch and of the next one (4 of the 48 Strait consumer slots, R138), the marks, the
COUNTER of the next frame to send, the frames sent and not acknowledged (at most 256), those still to be sent again, the last
frame sent, the next expected COUNTER, NAK, an agreement in progress, DATA stopped, counters of OD 0x7020, 0x7021 and 0x7023, and
the timebase counts of the last refusal, of the last agreement message, and of what was last heard from the neighbour (R600). -/
structure Port where
  state : PortState := .disabled
  partner : Option (Nat × BitVec 128 × Nat) := none
  epoch : Nat := 0
  epochStart : Nat := 0
  epochCount : Nat := 0
  framesReceived : Nat := 0
  keyTx : Option MaskedKey := none
  keyRx : Option MaskedKey := none
  nextTx : Option MaskedKey := none
  nextRx : Option MaskedKey := none
  txMark : Bool := false
  rxMark : Bool := false
  txCounter : Nat := 0
  unacked : List SentFrame := []
  resend : List SentFrame := []
  wire : Bytes := []
  expected : Nat := 0
  nak : Bool := false
  agreement : Option Agreement := none
  dataStopped : Bool := false
  corrected : Nat := 0
  failed : Nat := 0
  retired : Nat := 0
  refusedAt : Nat := 0
  agreedAt : Nat := 0
  heardAt : Nat := 0
  deriving DecidableEq, Repr

/-! ### OD channels and the Causeway -/

/-- The response part of a transfer unit (16). -/
structure TuResponse where
  op : Nat
  sub : Nat
  index : Nat
  xid : Nat
  total : Nat
  offset : Nat
  last : Bool
  result : Nat
  data : Bytes
  deriving DecidableEq, Repr

/-- An open long transfer (R490-R493). -/
structure OpenTransfer where
  write : Bool
  sub : Nat
  index : Nat
  xid : Nat
  total : Nat
  data : Bytes
  next : Nat
  lastTu : Nat
  /-- The requester has no right: nothing is read or applied (R478). -/
  silent : Bool
  deriving DecidableEq, Repr

/-- A channel of the OD (16): its open transfer, its last response, the XID that ended idle. -/
structure ChannelState where
  opened : Option OpenTransfer := none
  response : Option TuResponse := none
  expiredXid : Option Nat := none
  deriving DecidableEq, Repr

/-- The record of OD 0x1F40.02. -/
structure Violation where
  plane : Nat := 0
  role : Nat := 0
  index : Nat := 0
  sub : Nat := 0
  kind : Nat := 0
  time : Nat := 0
  deriving DecidableEq, Repr

/-- A Causeway session (R515, R517): its role, its client's end certificate and the CA slot it ended at (8: the staged anchor, which
it then keeps, R132), when it opened (device time), the timebase count of its last frame, its frames per direction, and the keys
of its two directions. -/
structure CwSession where
  /-- 0 free, 1 awaiting C-FINISH, 2 open -/
  phase : Nat := 0
  role : Role := .operator
  certDigest : Digest := 0
  anchorSlot : Nat := 0
  anchor : Option (BitVec 768) := none
  opened : Nat := 0
  lastFrame : Nat := 0
  framesIn : Nat := 0
  framesOut : Nat := 0
  ephemeral : Option MaskedKey := none
  keyIn : Option MaskedKey := none
  keyOut : Option MaskedKey := none
  transcript : Bytes := []
  deriving DecidableEq, Repr

/-- A BUDGET in force (R523). -/
structure Budget where
  session : Nat
  ident : Nat
  cap : Nat
  ends : Nat
  deriving DecidableEq, Repr

/-- A firmware delivery over the Causeway (R521). -/
structure FwTransfer where
  session : Nat
  total : Nat
  data : Bytes
  frames : Nat
  lastFrame : Nat
  ended : Bool
  deriving DecidableEq, Repr

/-! ### Power and dies -/

/-- Governor states (OD 0x3030). -/
inductive GovState where
  | running | silent | restarting | failed
  deriving DecidableEq, Repr

/-- A governor: state, timebase count of its last regulator command (R600), instant of the last firing, firings within this start
(newest first), image verdict. -/
structure Governor where
  state : GovState := .running
  commandAt : Nat := 0
  firedAt : Nat := 0
  firings : List Nat := []
  copied : Bool := false
  deriving DecidableEq, Repr

/-- A PTP message sent (R467): messageType, sequenceId, domainNumber, the log message interval, the time it carries, and of an Announce
its priorities, clockClass, clockAccuracy, timeSource, ptpTimescale and currentUtcOffset. Sync is two-step; its time is in Follow_Up. -/
structure PtpMessage where
  kind : Nat
  seq : Nat
  domain : Int
  interval : Int
  time : Option Nat := none
  twoStep : Bool := false
  priorities : Option (Int × Int) := none
  quality : Option (Nat × Nat × Nat) := none
  timescale : Bool := false
  utcOffset : Option Int := none
  /-- 01-1B-19-00-00-00 -/
  dest : Nat := 0x011B19000000
  deriving DecidableEq, Repr

/-- What the device holds of a compute die's supplies, loops and monitors (03, 18). Voltages in mV, temperatures in m°C. -/
structure Die where
  online : Bool := false
  vfabOn : Bool := false
  vioOn : Bool := false
  vhbmOn : Bool := false
  setpoint : Nat := 0
  slack : Nat := 0
  thermal : Nat := 850
  power : Nat := 850
  allocation : Nat := 0
  powerW : Nat := 0
  rate : Nat := 0
  /-- (timebase, rate) of the windows of the last 10 ms, newest first -/
  rates : List (Nat × Nat) := []
  /-- start of the unbroken run of windows with at least 12 valid monitors -/
  validSince : Option Nat := none
  floor : Nat := 0
  validMask : BitVec 16 := 0
  temperature : Int := 0
  sensors : List Int := []
  sensorsBad : BitVec 32 := 0
  vfabMv : Nat := 0
  vioMv : Nat := 0
  vhbmMv : Nat := 0
  ballast : Nat := 0
  frozen : Nat := 0
  frozenBy : SMap Nat := []
  frontWait : Nat := 0
  opaccOver : Nat := 0
  arrayFaults : Nat := 0
  saturations : Nat := 0
  windowRefused : Nat := 0
  heldUnits : Nat := 0
  coreFaults : Nat := 0
  noIssue : Nat := 0
  lastPlanFault : PlanFaultRec := {}
  foldbacks : Nat := 0
  /-- timebase count of the last current-limit fold-back -/
  foldedAt : Option Nat := none
  /-- plan-state writes held in the commit buffer: stream and row, stack-line key, line -/
  commit : List ((Nat × Option Nat) × Nat × HbmLine) := []
  /-- faulty logical indices awaiting a swap -/
  swaps : List Nat := []
  deriving DecidableEq, Repr

/-- Values at the last update point of a coarsened object (R425). -/
structure DieCoarse where
  rate : Nat := 0
  floor : Nat := 0
  vfabMv : Nat := 0
  vioMv : Nat := 0
  vhbmMv : Nat := 0
  ballast : Nat := 0
  frozen : Nat := 0
  frontWait : Nat := 0
  noIssue : Nat := 0
  setpoint : Nat := 0
  slack : Nat := 0
  thermal : Nat := 0
  power : Nat := 0
  applied : Nat := 0
  spikes : Nat := 0
  inboxFull : Nat := 0
  deriving DecidableEq, Repr

/-- A checkpoint cut (R384-R386): what the body takes at the cut. -/
structure Cut where
  cause : Nat
  flagsOr : BitVec 6
  session : Nat
  no : Nat
  first : Nat
  count : Nat
  time : Nat
  head : Digest
  prev : Digest
  mrd : Digest
  kid : Bytes
  generation : Nat
  transition : Nat
  debug : Nat
  lastStep : Nat
  deriving DecidableEq, Repr

/-- A ring of BAR4 (R389). -/
structure EvRingState where
  base : BitVec 64 := 0
  log2Depth : Nat := 0
  enabled : Bool := false
  vector : BitVec 16 := 0xFFFF
  head : Nat := 0
  tail : Nat := 0
  faulted : Bool := false
  deriving DecidableEq, Repr

/-- What a TAP instruction register holds (R613, R614). -/
inductive TapInstr where
  | bypass | idcode | samplePreload | extest | clamp | highz | privateInstr (code : Byte)
  deriving DecidableEq, Repr

/-- A port in a state with nothing agreed; its counters stand. -/
def Port.fresh (p : Port) (st : PortState) : Port :=
  { state := st, corrected := p.corrected, failed := p.failed, retired := p.retired }

end Sys2Proof.Machine
end

