-- ==== Sys2Proof/Machine/Seeds.lean ====
section
/-! DEFINITION. Seeds and public keys of the key hierarchy (R108, R110-R112, R558). -/

namespace Sys2Proof.Machine

/-- The ASCII octets of a label, without a terminator (R110). -/
def ascii (t : String) : Bytes := t.toList.map fun c => BitVec.ofNat 8 c.toNat

/-- A byte string padded or cut to exactly `n` octets. -/
def fit (n : Nat) (b : Bytes) : Bytes := (padTo n b).take n

/-- R108: the substitute test root. -/
def testRoot : Bytes := (digestBytes (sha384 (ascii "U1200 test root"))).take 32

/-- The DRS that unwrapping under the PUF key gives (R78). -/
def Otp.drs (o : Otp) : Bytes := fit 32 ((kwUnwrap (Config.pufKey o.helper) o.wrappedDrs).getD [])

/-- ROOT under a debug condition (R107): the DRS, or the test root. -/
def Otp.rootSecret (o : Otp) (debugClass : Bool) : Bytes := if debugClass then testRoot else o.drs

/-- A hybrid public-key value: P-384 (97 B) then ML-DSA-65 (1,952 B). -/
def hybridPub (ecSeed mlSeed : Bytes) : Bytes := ecPublic ecSeed ++ fit 1952 (Config.mldsaPublic mlSeed)

/-- R112: the ML-KEM-768 encapsulation key of a 64-octet seed, d then z. -/
def kemPublic (seed : Bytes) : Bytes := fit 1184 (Config.kemPublic (seed.take 32) (seed.drop 32))

/-- The ML-KEM-768 shared secret of a 64-octet seed and a ciphertext. -/
def kemDecap (seed ct : Bytes) : Bytes := fit 32 (Config.kemDecap (seed.take 32) (seed.drop 32) ct)

/-- A Binding public-key value: P-384 (97 B) then ML-KEM-768 (1,184 B). -/
def bindingPub (ecSeed kemSeed : Bytes) : Bytes := ecPublic ecSeed ++ kemPublic kemSeed

/-- The two seeds of the IDevID (R111). -/
def idevidSeeds (root : Bytes) (serial : BitVec 128) : Bytes × Bytes :=
  (kdf root (ascii "U1200-IDEVID-EC") (beBytes 16 serial.toNat) 56,
   kdf root (ascii "U1200-IDEVID-ML") (beBytes 16 serial.toNat) 32)

/-- The two seeds of the Alias from CDI-1 (R111). -/
def aliasSeeds (cdi1 : Bytes) (serial : BitVec 128) : Bytes × Bytes :=
  (kdf cdi1 (ascii "U1200-ALIAS-EC") (beBytes 16 serial.toNat) 56,
   kdf cdi1 (ascii "U1200-ALIAS-ML") (beBytes 16 serial.toNat) 32)

/-- The two seeds of the Binding key of an epoch (R111). -/
def bindSeeds (root : Bytes) (serial : BitVec 128) (epoch : Nat) : Bytes × Bytes :=
  (kdf root (ascii "U1200-BIND-EC") (beBytes 16 serial.toNat ++ leBytes 1 epoch) 56,
   kdf root (ascii "U1200-BIND-KEM") (beBytes 16 serial.toNat ++ leBytes 1 epoch) 64)

/-- CDI-0 from ROOT and MR0, MR7, MR8 (R111). -/
def cdi0Of (root : Bytes) (mr0 mr7 mr8 : Digest) : Bytes :=
  kdf root (ascii "U1200-CDI0") (digestBytes mr0 ++ digestBytes mr7 ++ digestBytes mr8) 48

/-- CDI-1 from CDI-0 and MR1 to MR6 (R111). -/
def cdi1Of (cdi0 : Bytes) (mrs : List Digest) : Bytes := kdf cdi0 (ascii "U1200-CDI1") (mrs.flatMap digestBytes) 48

/-- The Sealing key (R111). -/
def sealingOf (cdi1 : Bytes) (serial : BitVec 128) : Bytes := kdf cdi1 (ascii "U1200-SEAL") (beBytes 16 serial.toNat) 32

/-- R558: the seeds of the debug manufacturing key. -/
def debugRootSeeds : Bytes × Bytes :=
  (kdf testRoot (ascii "U1200-DBGROOT-EC") [] 56, kdf testRoot (ascii "U1200-DBGROOT-ML") [] 32)

/-- The IDevID public keys of a part under its DRS. -/
def Otp.idevidPub (o : Otp) : Bytes :=
  let sd := idevidSeeds (o.rootSecret false) o.serial
  hybridPub sd.1 sd.2

end Sys2Proof.Machine
end

