-- ==== Sys2Proof/Machine/State.lean ====
section
/-! DEFINITION. The state of the block as plain data, its faults and refusals, and the state of a part before its first
start. Each field's comment reads: meaning | width | rule and file | reset. RETAINED objects stand in `Retained` (R102),
FUSED ones in `Otp`; everything else takes its default at every start from ROM. -/

namespace Sys2Proof.Machine

/-- RETAINED objects (16, "Persistence"; R102). -/
structure Retained where
  /-- Sets refused since cold start, OD 0x2002.02 | U64 | R106 04 | 0 -/
  setsRefused : Nat := 0
  /-- Failure record, OD 0x2002.03 | code, step, time | R106 04 | 0 -/
  failure : FailureRec := {}
  /-- Tamper record, OD 0x2005.01 | mask, level, time | R99, R106 04 | 0 -/
  tamper : TamperRec := {}
  /-- Records to extend into MR14 at the next start | list | R87, R99, R102 04, R594 20 | empty -/
  pendingFaults : List FaultRec := []
  /-- Consent withdrawals to extend into MR12 at the next start | list of (digest, time) | R561 19 | empty -/
  pendingWithdrawals : List (Digest × Nat) := []
  /-- A zeroise to extend into MR15 at the next start | time if any | R134, R135 05 | none -/
  pendingZeroise : Option Nat := none
  /-- Re-mask period, OD 0x2020.01 | U16, 0.1 ms | R138, R140 05 | 10 -/
  remaskPeriod : Nat := 10
  /-- IDevID certificate copy, OD 0x2022.02 | at most 16,384 B | R116, R140 05 | empty -/
  idevidCopy : Bytes := []
  /-- Pending Alias public keys, OD 0x2023.03 and .04 | 2,049 B, if any | R123, R140 05 | none -/
  pendingAlias : Option Bytes := none
  /-- A commit whose start is due | 1 | R125, R126 05 | no -/
  commitDue : Bool := false
  /-- Alias overlap, OD 0x2023.06 | U8 days | R140 05 | 1 -/
  aliasOverlap : Nat := 1
  /-- Commit time, OD 0x2023.07 | TIME64 | R125, R140 05 | 0 -/
  commitTime : Nat := 0
  /-- Binding overlap, OD 0x2024.04 | U8 days | R138, R140 05 | 7 -/
  bindingOverlap : Nat := 7
  /-- Timebase count of the last binding advance while its overlap runs | U64, if any | R131 05 | none -/
  bindingAdvancedAt : Option Nat := none
  /-- CA overlap, OD 0x2025.02 | U8 days | R138, R140 05 | 7 -/
  caOverlap : Nat := 7
  /-- Staged CA anchor, OD 0x7830.01, and timebase count of staging | 96 B | R132 05, R529 17 | none -/
  stagedCa : Option (BitVec 768 × Nat) := none
  /-- Timebase count at which the active CA slot was closed, while the slot below is in overlap | U64, if any | R133 05 | none -/
  caClosedAt : Option Nat := none
  /-- Yield quantum, OD 0x2032.01 | U16 | R177 06 | 256 -/
  yieldQuantum : Nat := 256
  /-- Core map where it differs from index i on Pi, key 100 n + i | U8 | R43, R49 02 | Pi -/
  coreMap : SMap Nat := []
  /-- Core states that differ from the default, key 104 n + p | U8: 0 ENABLED, 1 SPARE, 2 RETIRED | R43, R49 02 | P0-P99 ENABLED, P100-P103 SPARE -/
  coreState : SMap Nat := []
  /-- Core-map generation, OD 0x4002.01 | U32 | R41, R48 02 | 0 -/
  generation : Nat := 0
  /-- Next ingest sequence, OD 0x5410.04 | U64 | R19 01 | 0 -/
  nextSeq : Nat := 0
  /-- Pacing margin, OD 0x4104.01 | U16 | R301, R302 10 | 50 -/
  margin : Nat := 50
  /-- Span wait limit, OD 0x4108.01 | U8 ms | R301, R302 10 | 10 -/
  spanWait : Nat := 10
  /-- Checkpoint count, OD 0x2044.01 | U32 | R395, R396 13 | 65536 -/
  ckptCount : Nat := 65536
  /-- Checkpoint interval, OD 0x2044.02 | U8 ms | R395, R396 13 | 100 -/
  ckptInterval : Nat := 100
  /-- Last cut, OD 0x2045.02 | session, number, head, time, if any | R396 13 | none -/
  lastCut : Option (Nat × Nat × Digest × Nat) := none
  /-- The last checkpoint signed: session start, number, head | record, if any | R374 13 | none -/
  lastSigned : Option (Nat × Nat × Digest) := none
  /-- Live head, OD 0x2045.03 | DIGEST384 | R383, R396 13 | 0 -/
  liveHead : Digest := 0
  /-- Receipts made this session | U64 | R594 20 | 0 -/
  receiptsMade : Nat := 0
  /-- Receipts written to the receipt ring this session | U64 | R594 20 | 0 -/
  receiptsWritten : Nat := 0
  /-- Chain head after the last receipt written | DIGEST384 | R594 20 | 0 -/
  headWritten : Digest := 0
  /-- Tenant consent key digest, OD 0x2050.01 | DIGEST384 | R418, R437 14 | 0 -/
  tenantKey : Digest := 0
  /-- Tokens in force per scope, OD 0x2050.04 | 3 x (sequence, expiry) | R421, R437 14 | none -/
  tokens : List (Option TokenInForce) := [none, none, none]
  /-- Highest accepted token sequence, OD 0x2050.07 | U64 | R420, R437 14 | 0 -/
  tokenSeq : Nat := 0
  /-- Regions, OD 0x5000.03 | 1,024 records | R427, R437 14 | FREE -/
  regions : SMap Region := []
  /-- Scrub state of the model store, Shoal store, plan staging area and window stores | state, progress | R426, R430 14 | FREE -/
  stores : List Region := [{}, {}, {}, {}]
  /-- Whole-stack scrubs of a cold start still to do, bit n | 12 | R431 14 | all at a cold start (log 36) -/
  stackScrub : BitVec 12 := 0
  /-- Module address, OD 0x7001.01 | U16 | R472 15 | 0xFFFF -/
  moduleAddr : Nat := 0xFFFF
  /-- Peer policy, OD 0x7002.01 | U8 | R472 15 | 0 -/
  peerPolicy : Nat := 0
  /-- Port enables, OD 0x7010.01-.0C | 12 x U8 | R472 15 | 0x01 -/
  portEnable : List Nat := List.replicate 12 1
  /-- Time state SET, OD 0x7401.01 | 1 | R456, R472 15 | UNSET -/
  timeSet : Bool := false
  /-- Steps applied, OD 0x7401.02 | U32 | R472 15 | 0 -/
  timeSteps : Nat := 0
  /-- TIME_REF code, OD 0x7420.01 | U8 | R472 15 | 0 -/
  timeRef : Nat := 0
  /-- PTP domain, priority1, priority2, logSyncInterval, currentUtcOffset, OD 0x7430.01-.05 | U8 U8 U8 I8 I16 | R472 15 | 0, 128, 128, 0, 37 -/
  ptp : List Int := [0, 128, 128, 0, 37]
  /-- PTP enable, OD 0x7430.06 | U8 | R472 15 | 0 -/
  ptpEnable : Nat := 0
  /-- Sessions opened, OD 0x1400.05 | U64 | R510 16 | 0 -/
  sessionsOpened : Nat := 0
  /-- OD lock lease and idle limit, OD 0x1420.02 | U8 ms | R508, R510 16 | 10 -/
  lockLease : Nat := 10
  /-- OD violations, OD 0x1F40.01 | U64 | R479, R510 16 | 0 -/
  violations : Nat := 0
  /-- Last violation, OD 0x1F40.02 | record | R479, R510 16 | 0 -/
  lastViolation : Violation := {}
  /-- Host accesses refused under R401, OD 0x1F40.03 | U64 | R482, R510 16 | 0 -/
  teeRefused : Nat := 0
  /-- PLCA node, count, TO timer, burst count, burst timer, OD 0x7800.01-.05 | 5 x U8 | R512, R529 17 | 0xFF, 8, 32, 0, 128 -/
  plca : List Nat := [0xFF, 8, 32, 0, 128]
  /-- Session idle limit, OD 0x7802.01 | U16 s | R528, R529 17 | 300 -/
  idleLimit : Nat := 300
  /-- Local cap, OD 0x3001.01 | U16 W | R539, R552 18 | 2600 -/
  localCap : Nat := 2600
  /-- Slack headroom, OD 0x3020.01 | U16 | R551, R552 18 | 30 -/
  headroom : Nat := 30
  /-- Idle setpoint, OD 0x3020.02 | U16 mV | R551, R552 18 | 750 -/
  idleSetpoint : Nat := 750
  /-- Watchdog firings, OD 0x3031.01-.0D | 13 x U64 | R552 18 | 0 -/
  firings : List Nat := List.replicate 13 0
  /-- Thermal trips, OD 0x3041.01-.0D | 13 x U64 | R552 18 | 0 -/
  trips : List Nat := List.replicate 13 0
  /-- Thermal target, OD 0x3050.01 | U8 | R551, R552 18 | 85 -/
  thermalTarget : Nat := 85
  /-- Lease lengths, OD 0x3060.01, 0x5450.01, 0x5020.01, 0x7050.01, 0x2032.07 | 5 x ms | R600 20 | 10 each -/
  leaseLen : List Nat := [10, 10, 10, 10, 10]
  /-- Last fault record, OD 0x2070.03 | at most 80 B | R604 20 | empty -/
  lastFault : Option FaultRec := none
  /-- Uncorrectable reads, OD 0x5030.01-.0C | 12 x U64 | R578, R604 20 | 0 -/
  poison : List Nat := List.replicate 12 0
  deriving DecidableEq, Repr

/-- Pins and supplies (21). Inputs hold what the platform last drove. -/
structure Pins where
  /-- STBY at or above 3.0 V | 1 | R617 21 | absent -/
  stby : Bool := false
  /-- MAIN valid | 1 | R615 21 | no -/
  mainValid : Bool := false
  /-- MOD_RESET_N level | 1 | R608 21 | DESIGN CHOICE high (log 7) -/
  modResetN : Bool := true
  /-- ROT_STATUS[1:0] | 2 | R606 21 | 00 -/
  rotStatus : BitVec 2 := 0
  /-- MOD_PRESENT_N driven low | 1 | R607 21 | high-impedance -/
  presentLow : Bool := false
  /-- TIME_PPS level | 1 | R462 15 | low -/
  timePps : Bool := false
  /-- TIME_REF toggling at its programmed frequency | 1 | R464, R466 15 | held low -/
  timeRefRunning : Bool := false
  /-- VHUB on | 1 | 02, R609 21 | off -/
  vhub : Bool := false
  /-- PCIe link up | 1 | R104 04 | down -/
  pcieUp : Bool := false
  deriving DecidableEq, Repr

/-- The start of the device (04). -/
structure Start where
  /-- Power state, OD 0x3000.01 | 1 of 6 | R530 18 | OFF -/
  power : PowerState := .off
  /-- Start phase, OD 0x2001.01 | U8 | R106 04 | ROM-CHECK -/
  phase : StartPhase := .romCheck
  /-- The halt the device is in | 1 of 5 | R77, R79, R81, R113 | none -/
  halt : Halt := .none
  /-- The Skerry runtime runs | 1 | R85, R101 04 | no -/
  runtime : Bool := false
  /-- The Causeway runtime has the port | 1 | 17, Model | no -/
  causewayRuntime : Bool := false
  /-- Step 12 of R104 has completed | 1 | R127 05 | no -/
  step12 : Bool := false
  /-- The set being loaded | record, if any | R85, R94 04 | none -/
  load : Option SetLoad := none
  /-- A delivery handed over by the host or the Causeway as an update | record, if any | R123 05 | none -/
  update : Option SetLoad := none
  /-- The manifest of the running set | record, if any | R90 04, R510 16 | none -/
  running : Option Manifest := none
  /-- Delivery address and length, OD 0x2010.01 | U64, U32 | R106 04 | 0 -/
  delivery : BitVec 64 × BitVec 32 := (0, 0)
  /-- Delivery source, OD 0x2010.02 | U8 | R106 04 | 0 -/
  source : Nat := 0
  /-- Last set result, OD 0x2002.01 | U8 | R86, R106 04 | 0 -/
  setResult : Nat := 0
  /-- ECC corrections at the last start, OD 0x2007.02 | U32 | R76, R106 04 | 0 -/
  eccCorrections : Nat := 0
  /-- PUF attempts used, OD 0x2007.03 | U8 | R78, R106 04 | 0 -/
  pufAttempts : Nat := 0
  /-- The factory's first start runs: regions 2 and 3 await their closing | 1 | R82 04 | no -/
  factory : Bool := false
  /-- Comparators loaded with the patch table | 1 | R74 04 | no -/
  patched : Bool := false
  /-- Load targets released from reset, by item type | list | R85 04 | none -/
  released : List Nat := []
  /-- The consent tokens in force as this start began | 3 x (sequence, expiry), if any | R109 05 | none -/
  tokensAtStart : List (Option TokenInForce) := [none, none, none]
  /-- DRBG instantiated | 1 | R80 04 | no -/
  drbgUp : Bool := false
  /-- Generate requests since the last reseed | 20 | R80 04 | 0 -/
  drbgRequests : Nat := 0
  /-- Timebase count of the last reseed | U64 | R80 04 | 0 -/
  drbgSeededAt : Nat := 0
  /-- Reseeds | U64 | R80 04 | 0 -/
  drbgReseeds : Nat := 0
  /-- Debug condition of this start | 1 of 4 | R107, R553 | SEALED -/
  condition : DebugCond := .sealed
  /-- End of a debug session: 0 none, 1 the cut waits for the tide in progress, 2 the warm reset waits for the signing | R424 14 | 0 -/
  debugEnd : Nat := 0
  deriving DecidableEq, Repr

/-- Keys (05). -/
structure Keys where
  /-- Key store | 64 entries of two 512-bit shares | R117, R138 05 | empty -/
  store : SMap (Option KeyEntry) := []
  /-- Working Key Register | two 512-bit shares, if occupied | R117, R138 05 | empty -/
  wkr : Option (BitVec 512 × BitVec 512) := none
  /-- Wrap consumer slot (Sealing key) | 1 slot | R111, R138 05 | empty -/
  wrapSlot : Option MaskedKey := none
  /-- Root, OD 0x2021.01 | U8 | R107, R140 05 | none -/
  root : RootKind := .none
  /-- Key status IDENTITY-FAULT, OD 0x2021.02 | 1 | R113 05 | OK -/
  identityFault : Bool := false
  /-- IDevID public keys, OD 0x2022.01 | 2,049 B | R140 05 | empty -/
  idevidPub : Bytes := []
  /-- Alias public keys, OD 0x2023.01 | 2,049 B | R140 05 | empty -/
  aliasPub : Bytes := []
  /-- Alias certificate, OD 0x2023.02 | at most 16,384 B | R115, R140 05 | empty -/
  aliasCert : Bytes := []
  /-- IDevID certificate served under the test root | bytes | R558 19 | empty -/
  debugIdevidCert : Bytes := []
  /-- Binding public keys, OD 0x2024.02 | 1,281 B | R140 05 | empty -/
  bindPub : Bytes := []
  /-- Previous-epoch Binding public keys, OD 0x2024.03 | 1,281 B | R131, R140 05 | empty -/
  prevBindPub : Bytes := []
  /-- Last key command, OD 0x2026.01 | U8 | R140 05 | 0 -/
  lastCommand : Nat := 0
  /-- Re-mask passes, OD 0x2020.02 | U64 | R121, R140 05 | 0 -/
  remaskPasses : Nat := 0
  /-- Timebase count of the last re-mask pass's end | U64 ns | R121 05 | 0 -/
  remaskedAt : Nat := 0
  /-- A commit waits for the COMMIT checkpoint to be signed | 1 | R125 05 | no -/
  committing : Bool := false
  deriving DecidableEq, Repr

/-- The digest engine and the big-number engine (06). -/
structure Engines where
  /-- Job channels J0-J7 | 8 records | 06 | IDLE -/
  jobs : List JobChannel := List.replicate 8 {}
  /-- Inline lanes I0-I3: the Ferries waiting on each, head first; the tag in the lane | 4 | R155 06 | idle -/
  laneBusy : List (Option Nat) := List.replicate 4 none
  laneQueue : List (List (Nat × Nat)) := List.replicate 4 []
  /-- EARLY events, alarm clears, import refusals, OD 0x2030.01-.03 | 3 x U64 | R177 06 | 0 -/
  early : Nat := 0
  alarms : Nat := 0
  importRefusals : Nat := 0
  /-- Bytes digested by I0-I3, OD 0x2031.01-.04 | 4 x U64 | R177 06 | 0 -/
  laneBytes : List Nat := List.replicate 4 0
  /-- Ferry waits, OD 0x2031.05 | U64 | R155, R177 06 | 0 -/
  laneWaits : Nat := 0
  /-- LONG and SHORT contexts | 2 records | R159 06 | cleared -/
  long : BnContext := {}
  short : BnContext := {}
  /-- The context that runs | LONG, SHORT or none | R161, R162 06 | none -/
  bnRunning : Option BnCtx := none
  /-- LONG is yielded | 1 | R161 06 | no -/
  longYielded : Bool := false
  /-- Timebase count at which LONG last yielded | U64 ns | R165 06 | 0 -/
  yieldedAt : Nat := 0
  /-- Commands LONG has completed since it started or resumed | count | R161 06 | 0 -/
  longDone : Nat := 0
  /-- The quantum in force for LONG's present run | U16 | R161, Collisions 06 | 256 -/
  longQuantum : Nat := 256
  /-- Yields, curve refusals, last failing step, lease ends, sealed access violations, OD 0x2032.02-.06 | U64 U64 U8 U64 U64 | R177 06 | 0 -/
  yields : Nat := 0
  curveRefused : Nat := 0
  curveStep : Nat := 0
  bnLeaseEnds : Nat := 0
  sealedAccess : Nat := 0
  /-- Curve blocks checked this start: SHA-384 and the failing step, 0 for a block that passed | list | R167, R169, Model 06 | none -/
  curves : List (Digest × Nat) := []
  deriving DecidableEq, Repr

/-- The module-wide monitors (03); the per-die ones are in `Die`. -/
structure Monitors where
  /-- Module beat floor, OD 0x3412.01 | U16 | R55 03 | 0 -/
  moduleFloor : Nat := 0
  /-- Hub temperature, sensors, invalid mask, OD 0x3420.0D, 0x3430.0D, 0x3431.0D | I32, 8 x I32, U32 | R59, R60 03 | 0 -/
  hubTemp : Int := 0
  hubSensors : List Int := []
  hubBad : BitVec 32 := 0
  /-- VHUB and STBY readings, OD 0x3443.01, .02 | 2 x U16 | R71 03 | 0 -/
  vhubMv : Nat := 0
  stbyMv : Nat := 0
  /-- Ballast threshold written, OD 0x4080.01 | U8 | R66, R71 03 | 64 -/
  ballast : Nat := 64
  /-- Ballast threshold in force since the last departure | U8 | R66 03 | 64 -/
  ballastActive : Nat := 64
  /-- Values at the last 100 ms update point | records | R72, R425 | 0 -/
  coarse : List DieCoarse := List.replicate 12 {}
  coarseFloor : Nat := 0
  coarsePlanFloor : Nat := 0
  coarseVhub : Nat := 0
  coarseStby : Nat := 0
  coarseTags : Nat := 0
  /-- Temperatures at the last 1 s update point: dies and hub, and the sensors | m°C | R72, R425 | 0 -/
  coarseTemps : List Int := List.replicate 13 0
  coarseSensors : List (List Int) := List.replicate 13 []
  deriving DecidableEq, Repr

/-- Dies, cores, plans and tides (02, 07, 09, 10). -/
structure Fabric where
  /-- Compute dies C0-C11 | 12 records | 02, 03, 07, 18 | off -/
  dies : List Die := List.replicate 12 {}
  /-- Logical cores L0-L1199 | 1,200 records | R242 09 | idle, Lagoon invalid -/
  cores : SMap Core := []
  /-- HBM lines, key stack * 2^29 + line | 64 B, sideband tag, ECC mark | R45, R578 | zero -/
  hbm : SMap HbmLine := []
  /-- Window stores, key logical core | two windows | R279 10 | empty -/
  windows : SMap WindowCopy := []
  /-- Sound units in flight, oldest first | list | R257-R261 09 | empty -/
  flight : List InFlight := []
  /-- Accesses to SCRUB-PENDING, dark or out-of-range space, OD 0x5010.03 | U64 | R265, R428, R437 14 | 0 -/
  scrubAccess : Nat := 0
  /-- Units the Ferries have taken into hub staging this tide | list | 10, R252 | empty -/
  staging : List SoundUnit := []
  /-- Staged plan | record, if any | R271 10 | NONE -/
  staged : Option Staged := none
  /-- Running plan | record, if any | R271, R278 10 | none -/
  plan : Option PlanInfo := none
  /-- Grid origin | TIME64 | R280, R461 | 0 -/
  origin : Nat := 0
  /-- Tide in progress | record, if any | 10 | none -/
  tide : Option Tide := none
  /-- Last finished tide: pace, next grid point, finish | record, if any | R288 10 | none -/
  lastTide : Option (Bool × Nat × Nat) := none
  /-- Tides departed this session | U64 | R282 10 | 0 -/
  tideCount : Nat := 0
  /-- Last refusal code, plans refused, OD 0x4101.02, .03 | U8, U64 | R274, R302 10 | 0 -/
  refusal : Nat := 0
  refused : Nat := 0
  /-- Pace of the last departure, plan floor, OD 0x4103.01, .02 | U8, U16 | R302 10 | 0 -/
  pace : Nat := 0
  planFloor : Nat := 0
  /-- LATE and UNPACED tides, skipped grid points, null and padding rows, last duration, OD 0x4105.02-.07 | U64 x 5, U32 | R302 10 | 0 -/
  lateTides : Nat := 0
  unpacedTides : Nat := 0
  skipped : Nat := 0
  nullRows : Nat := 0
  paddingRows : Nat := 0
  lastDuration : Nat := 0
  /-- The first grid point that OD 0x4105.04 has not accounted for | TIME64 | R302 10 | 0 -/
  gridNext : Nat := 0
  /-- HALTED streams, OD 0x4106.01 | 64 | R302 10 | 0 -/
  halted : BitVec 64 := 0
  /-- Streams whose rings are not fetched since their region went dark | 64 | R433 14 | 0 -/
  dark : BitVec 64 := 0
  /-- Selected fallback, OD 0x4107.01 | DIGEST384 | R292, R302 10 | 0 -/
  fallback : Digest := 0
  /-- Doorbells of rings not carried, OD 0x4108.02 | U64 | R294 10 | 0 -/
  notCarried : Nat := 0
  /-- Span switch time, OD 0x4100.03 | TIME64 | R297, R302 10 | 0 -/
  spanSwitch : Nat := 0
  /-- Finish marks held: port, tide, latest finish of that subtree; tide and latest finish of ALL-FINISHED; tide and time of the module's own finish in a tide whose marks are missing | list, record, record | R296 10, R452 15 | none -/
  marks : List (Nat × Nat × Nat) := []
  allFinished : Option (Nat × Nat) := none
  ownFinish : Option (Nat × Nat) := none
  deriving DecidableEq, Repr

/-- The host data path (11). -/
structure HostPath where
  /-- Ring pairs, key ring | 65,536 records | R304-R307 11 | DISABLED -/
  rings : SMap Ring := []
  /-- Ring selected for reading, per plane, OD 0x5420.02 | 2 x U16 | R337 11 | 0 -/
  selected : Nat × Nat := (0, 0)
  /-- Fence objects, key fence | 4,096 x 64 | R328 11 | 0 (log 22) -/
  fences : SMap Nat := []
  /-- Submissions by tag | 262,144 tags | R314 11 | none -/
  subs : SMap (Option Submission) := []
  /-- Ingest mode written and latched, OD 0x5410.01; replay ring, OD 0x5410.02 | U8, U8, U16 | R21, R22, R31 01 | LIVE, LIVE, DESIGN CHOICE 0 (log 93) -/
  mode : Nat := 0
  modeLatched : Nat := 0
  replayRing : Nat := 0
  /-- Replay entry refusals, OD 0x5410.03 | U64 | R24, R31 01 | 0 -/
  replayRefused : Nat := 0
  /-- Last logged number and time consumed | U64, TIME64, if any | R23 01 | none -/
  lastLogged : Option (Nat × Nat) := none
  /-- Ingest watermark: highest sequence passed | U64, if any | R317 11 | none -/
  watermark : Option Nat := none
  /-- Shoal watermark, OD 0x6030.01 | U64 | R365 12 | 0 -/
  shoalMark : Nat := 0
  /-- Forwarding is held: by a full inbox or an offline cluster; by a snapshot | 2 | R331, R358, R362 | no -/
  forwardHold : Bool := false
  snapshotHold : Bool := false
  /-- Counters OD 0x5440.01, .04, .05, 0x5441.01, .03, 0x5442.01-.03, 0x5443.02 | U64 each | R337 11 | 0 -/
  tagBound : Nat := 0
  cqHeld : Nat := 0
  forwardHolds : Nat := 0
  malformed : Nat := 0
  ignored : Nat := 0
  inputFaults : Nat := 0
  outputFaults : Nat := 0
  cqFaults : Nat := 0
  pageWaits : Nat := 0
  /-- Last malformed entry, OD 0x5441.02 | ring, case, time | R310, R337 11 | 0 -/
  lastMalformed : Nat × Nat × Nat := (0, 0, 0)
  /-- Page requests outstanding, each with the timebase count of its sending; accesses waiting for one | at most 512 | R318, R332, R336 11 | none -/
  pages : List (PageOwner × Nat) := []
  pageQueue : List PageOwner := []
  /-- PRI timeout, OD 0x5443.03 | U16 ms | R336 11 | 100 -/
  priTimeout : Nat := 100
  /-- Interrupt hold-off, OD 0x5430.01 | U16 us | R336 11 | 0 -/
  holdoff : Nat := 0
  /-- Vectors held off until their interval ends, vectors deferred, pending bits, vectors sent, all by number | lists | R327 11 | none -/
  holding : List (Nat × Nat) := []
  deferred : List Nat := []
  msixPending : List Nat := []
  msixSent : SMap Nat := []
  /-- MSI-X table, key vector: address, data, masked | 2,048 entries | R303, R327 11 | masked (log 22) -/
  msix : SMap (BitVec 64 × BitVec 32 × Bool) := []
  /-- PCIe enables: ATS, PRI, MSI-X, MSI-X function mask, bus master, D3hot | 6 | R303, R327 11 | off, D0 (log 22) -/
  ats : Bool := false
  pri : Bool := false
  msixOn : Bool := false
  msixMask : Bool := false
  busMaster : Bool := false
  d3hot : Bool := false
  /-- Translation cache: first page of 4 KiB and log2 size of each translation held | 16,384 | R303 11 | empty -/
  atc : List (Nat × Nat) := []
  /-- ATS invalidations outstanding | at most 32 | R303, R333 11 | none -/
  invalidations : List Invalidation := []
  /-- Deliveries that F0 has been asked for | count | R315 11 | 0 -/
  f0Requests : Nat := 0
  /-- Round of the Ingest Sequencer: the last ring read | U16, if any | 11, Model | none -/
  visited : Option Nat := none
  deriving DecidableEq, Repr

/-- The Shoal engine (12). -/
structure Shoal where
  /-- Clusters SH0-SH11 | 12 records | R338-R341, R364 12 | no neurons -/
  clusters : List Cluster := List.replicate 12 {}
  /-- Spikes held by the relay for full inboxes, in key order | at most 65,536 per cluster | R356, R364 12 | empty -/
  relay : List ShoalEvent := []
  /-- Clusters that hold an emission | 12 | R356 12 | none -/
  relayHeld : BitVec 12 := 0
  /-- Counters OD 0x6020-0x6025 per cluster and 0x6026.01 | U64 each | R365 12 | 0 -/
  applied : List Nat := List.replicate 12 0
  spikes : List Nat := List.replicate 12 0
  depth2 : List Nat := List.replicate 12 0
  invalid : List Nat := List.replicate 12 0
  saturated : List Nat := List.replicate 12 0
  inboxFull : List Nat := List.replicate 12 0
  relayHolds : Nat := 0
  /-- Image load in progress, last result, OD 0x6001.01, .02 | address, length; U8 | R359, R365 12 | none, 0 -/
  load : Option (BitVec 64 × BitVec 64) := none
  loadResult : Nat := 0
  /-- A plan has been admitted in this session | 1 | R359 12 | no -/
  planAdmitted : Bool := false
  /-- Snapshot requested, captured image, last digest, last result, OD 0x6002.01-.03 | records | R362, R365 12 | none, 0 -/
  snapshot : Option (BitVec 64 × BitVec 64) := none
  image : Option Bytes := none
  snapDigest : Digest := 0
  snapResult : Nat := 0
  /-- Start-state digest, OD 0x6010.01 | DIGEST384 | R29 01, R365 12 | 0 -/
  startState : Digest := 0
  deriving DecidableEq, Repr

/-- Measurement, evidence, receipts and checkpoints (13). -/
structure Measure where
  /-- MR0-MR31, OD 0x2042 | 32 x 384 | R149 06, R366 13 | 0 -/
  mrs : List Digest := List.replicate 32 0
  /-- Measurement log, OD 0x2043.01 | at most 61,440 B | R367, R395 13 | empty -/
  log : Bytes := []
  /-- Log complete, OD 0x2043.02 | 1 | R368 13 | complete -/
  complete : Bool := true
  /-- Nonce and token per plane (host, Causeway), OD 0x2040.01, .02 | claims and bytes | R376 13 | none -/
  tokenH : Option (Claims × Bytes) := none
  tokenC : Option (Claims × Bytes) := none
  /-- Genesis and start time of the session | DIGEST384, TIME64 | R382, R396 13 | 0 -/
  genesis : Digest := 0
  sessionStart : Nat := 0
  /-- Receipts since the last cut, number of the first of them, OR of their flags, timebase count of the last cut | counts | R384 13 | 0 -/
  sinceCut : Nat := 0
  firstSince : Nat := 0
  flagsOr : BitVec 6 := 0
  lastCutAt : Nat := 0
  /-- Number and HEAD of the last cut of this session | U64, DIGEST384 | R386 13 | none -/
  ckptNo : Nat := 0
  lastHead : Digest := 0
  /-- The cut being signed; the cause of a deferred cut | record, if any | R385 13 | none -/
  signing : Option Cut := none
  deferred : Option Nat := none
  /-- Checkpoint named by the evidence of the present transition: start time, number, head | record, if any | R374 13 | none -/
  named : Option (Nat × Nat × Digest) := none
  /-- Receipt queue and checkpoint queue | 32,768 x 160 B; 16 x 4,096 B | R390, R395 13 | empty -/
  receipts : List Bytes := []
  checkpoints : List Bytes := []
  /-- Receipt and checkpoint rings, BAR4 0x1_0000, 0x1_1000 | 2 blocks | R389 13 | DISABLED, vector 0xFFFF (log 22) -/
  receiptRing : EvRingState := {}
  ckptRing : EvRingState := {}
  /-- Receipt holds, checkpoint holds, ring write faults, OD 0x2046.01-.03 | 3 x U64 | R396 13 | 0 -/
  receiptHolds : Nat := 0
  ckptHolds : Nat := 0
  ringFaults : Nat := 0
  /-- Device time of the latest MR13 extension of this start | TIME64 | R386 13 | 0 -/
  lastStep : Nat := 0
  /-- Evidence reads TRANSITION since a commit | 1 | R373 13 | no -/
  commitTransition : Bool := false
  deriving DecidableEq, Repr

/-- SPDM, IDE, TDISP, models and consent (13, 14). -/
structure Hosting where
  /-- SPDM connection phase: 0 none, 1 versions, 2 capabilities, 3 algorithms | 2 bits | R378 13 | 0 -/
  spdmPhase : Nat := 0
  /-- The last SPDM, IDE_KM or TDISP response: code and body | bytes | R378, R400, R405 | none -/
  response : Option (Nat × Bytes) := none
  /-- The response that CHUNK_GET hands out | bytes | R378 13 | empty -/
  large : Bytes := []
  /-- Secured sessions | 4 records | R405 14 | free -/
  sessions : List SpdmSession := List.replicate 4 {}
  /-- IDE consumer slots, key stream * 12 + sub * 4 + direction * 2 + set | 108 | R398 14 | empty -/
  ide : SMap IdeSlot := []
  /-- Stream IDs of the link stream (8) and the selective streams (0-7), as their keys were programmed under | 9 x U8 | R397 14 | DESIGN CHOICE 0 (log 103) -/
  streamIds : List Byte := List.replicate 9 0
  /-- Insecure IDE streams, bit k | 9 | R399 14 | 0 -/
  insecure : BitVec 9 := 0
  /-- TDI state, OD 0x2060.01 | U8 | R400 14 | CONFIG_UNLOCKED -/
  tdi : TdiState := .unlocked
  /-- A STOP_INTERFACE_REQUEST waits for FINAL to cover the receipts | 1 | R404 14 | no -/
  stopping : Bool := false
  /-- START_INTERFACE_NONCE of the present lock | 256 bits, if any | R400, TDISP | none -/
  startNonce : Option (BitVec 256) := none
  /-- IDE integrity failures, OD 0x2060.03 | U64 | R399, R437 14 | 0 -/
  ideFailures : Nat := 0
  /-- Model loads in progress | 4 slots | R412, R436 14 | free -/
  loads : List (Option ModelLoad) := List.replicate 4 none
  /-- Models of the session: weights digest and plaintext | at most 64 | R408, R436 14 | none -/
  models : List (Digest × Bytes) := []
  /-- Last load result, OD 0x5100.03 | U8 | R412, R437 14 | 0 -/
  loadResult : Nat := 0
  /-- Last token result, OD 0x2050.03 | U8 | R420, R437 14 | 0 -/
  tokenResult : Nat := 0
  /-- Region selected for reading, last region result, OD 0x5000.02, .04 | U16, U8 | R437 14 | 0 -/
  regionSel : Nat := 0
  regionResult : Nat := 0
  deriving DecidableEq, Repr

/-- Strait ports and span (15). -/
structure Straits where
  /-- Ports S0-S11 | 12 records | R439, R472 15 | DISABLED until MAIN is up (log 40) -/
  ports : List Port := List.replicate 12 {}
  /-- Units without route, late finish marks, OD 0x7030.01, .02 | 2 x U64 | R472 15 | 0 -/
  noRoute : Nat := 0
  lateMarks : Nat := 0
  /-- Units forwarded, by port | list | R449 15 | empty -/
  forwarded : List (Nat × FrameUnit) := []
  /-- FENCE units to send, by port | list | R453 15 | empty -/
  fenceOut : List (Nat × Nat × Nat) := []
  /-- FINISH and ALL-FINISHED units to send: port, all-finished, tide, latest finish | list | R452 15 | empty -/
  markOut : List (Nat × Bool × Nat × Nat) := []
  /-- The tide whose mark this module last sent | U64, if any | R452 15 | none -/
  markSent : Option Nat := none
  /-- Span fences leased to the time tree | 1 | R588 20 | no -/
  spanFences : Bool := false
  /-- Span time: state, hops, offset from the timebase count, rate ratio as last two exchanges, OD 0x7440 | U8, U8, I64 | R454, R472 15 | NONE, 0, 0 -/
  spanState : Nat := 0
  hops : Nat := 0
  spanOffset : Int := 0
  lastSync : Nat := 0
  /-- Offset and timebase count of the exchange before the last, for the rate ratio | I64, U64, if any | R454 15 | none -/
  prevSync : Option (Int × Nat) := none
  deriving DecidableEq, Repr

/-- The timebase and its outputs (15). -/
structure Timebase where
  /-- Timebase count, OD 0x7400.02 | U64 ns | 15 | 0 when STBY rises -/
  count : Nat := 0
  /-- Device time, OD 0x7400.01 | TIME64 | R456 15 | 0 -/
  device : Nat := 0
  deriving DecidableEq, Repr

/-- Time steps and outputs (15). -/
structure TimeOut where
  /-- Staged step command, OD 0x7410.01 | 24 B | R457 15 | zero -/
  command : Bytes := List.replicate 24 0
  /-- A step is staged; it is confirmed | 2 | R458, R459 15 | no -/
  staged : Bool := false
  confirmed : Bool := false
  /-- Step status, OD 0x7410.03 | U8 | R459, R472 15 | DESIGN CHOICE 0x00 (log 41) -/
  status : Nat := 0
  /-- Timebase count of the last PPS rise, of its fall | ns, if any | R462 15 | none -/
  lastPps : Option Nat := none
  /-- Omitted PPS edges, OD 0x7421.02 | U64 | R462, R472 15 | 0 -/
  ppsOmitted : Nat := 0
  /-- TIME_REF state, OD 0x7420.02: 0 OFF, 1 LOCKING, 2 RUNNING; instant of lock | U8 | R464, R472 15 | 0 -/
  refState : Nat := 0
  lockedAt : Option Nat := none
  /-- Device time the running output's edges are aligned to | TIME64 | R463 15 | 0 -/
  refPhase : Nat := 0
  /-- PTP sequence numbers of Sync and Announce, the messages last sent | U16, U16, list | R467 15 | 0, empty -/
  syncSeq : Nat := 0
  announceSeq : Nat := 0
  ptpSent : List PtpMessage := []
  deriving DecidableEq, Repr

/-- The object dictionary (16). -/
structure Od where
  /-- Lock holder and instant, OD 0x1420.01 | channel, TIME64, if held | R494, R510 16 | none -/
  lock : Option (Channel × Nat) := none
  /-- Lock lapses and revocations, OD 0x1420.03 | U64 | R495, R510 16 | 0 -/
  lockEnds : Nat := 0
  /-- Permitted writes ignored, last one, OD 0x1F41.01, .02 | U64; index, sub, time | R485, R510 16 | 0 -/
  ignored : Nat := 0
  lastIgnored : Nat × Nat × Nat := (0, 0, 0)
  /-- Channels: mailbox, 4 SPDM sessions, 8 Causeway sessions | 13 records | 16 | no transfer -/
  channels : List ChannelState := List.replicate 13 {}
  /-- Session, owner, last command, OD 0x1400.02-.04 | U8 x 3 | R510 16 | CLOSED, none, 0 -/
  session : Nat := 0
  owner : Nat := 0
  lastCommand : Nat := 0
  /-- A CLOSING session has passed steps 1 to 5 of R505 | 1 | R505 16 | no -/
  drained : Bool := false
  /-- Mailbox: MB_DOORBELL, MB_DONE, MB_VECTOR, request header, data window | 32, 32, 16, 32 B, 3,840 B | R497, R498 16 | 0, 0, 0xFFFF, zero (log 22) -/
  doorbell : BitVec 32 := 0
  done : BitVec 32 := 0
  mbVector : BitVec 16 := 0xFFFF
  header : Bytes := List.replicate 32 0
  window : SMap Byte := []
  deriving DecidableEq, Repr

/-- The Causeway (17). -/
structure Causeway where
  /-- Sessions 1-8, OD 0x1430 | 8 records | R515, R529 17 | free -/
  sessions : List CwSession := List.replicate 8 {}
  /-- Set-ups refused, last refusal, frames discarded, OD 0x7840.01-.03 | U64, U8, U64 | R529 17 | 0 -/
  refused : Nat := 0
  lastRefusal : Nat := 0
  discarded : Nat := 0
  /-- Budgets in force | list | R523, R524 17 | none -/
  budgets : List Budget := []
  /-- Budget lapses, OD 0x7810.02 | U64 | R524, R529 17 | 0 -/
  lapses : Nat := 0
  /-- Co-signature grant, OD 0x7820.01 | digest, expiry | R519, R529 17 | zero -/
  grant : Digest × Nat := (0, 0)
  /-- Firmware transfer | record, if any | R521 17 | none -/
  fw : Option FwTransfer := none
  /-- The last frame sent: type and body | bytes, if any | 17 | none -/
  lastFrame : Option (Nat × Bytes) := none
  deriving DecidableEq, Repr

/-- Governors and loops (18). -/
structure Power where
  /-- Governors G0-G12 | 13 records | R543, R552 18 | RUNNING -/
  governors : List Governor := List.replicate 13 {}
  /-- Module and hub power of the last 100 us step | U32 W | R536 18 | 0 -/
  moduleW : Nat := 0
  hubW : Nat := 0
  /-- Sums over the running 1 ms and 100 ms windows of the module's, the dies' and the hub's power, and their counts | W | R549 18 | 0 -/
  sum1 : List Nat := List.replicate 14 0
  count1 : Nat := 0
  sum100 : List Nat := List.replicate 14 0
  count100 : Nat := 0
  /-- Means over the last whole 1 ms and 100 ms windows, OD 0x3010, 0x3011 | W | R549 18 | 0 -/
  mean1 : List Nat := List.replicate 14 0
  mean100 : List Nat := List.replicate 14 0
  /-- LIMIT entries, OD 0x3042.01 | U64 | R542, R552 18 | 0 -/
  limitEntries : Nat := 0
  deriving DecidableEq, Repr

/-- Fault records and lease counters (20). -/
structure Faults where
  /-- Queue of records to extend | at most 64 | R596 20 | empty -/
  queue : List FaultRec := []
  /-- Pending OVERFLOW record: records not queued, mask of codes | U32, 32 | R596 20 | none -/
  overflow : Option (Nat × Nat) := none
  /-- Records extended, records not queued, OD 0x2070.01, .02 | 2 x U64 | R604 20 | 0 -/
  extended : Nat := 0
  notQueued : Nat := 0
  /-- Lease counters OD 0x3060.02, 0x5450.02, 0x5020.02, 0x7050.02 | U64 each | R600 20 | 0 -/
  leaseEnds : List Nat := [0, 0, 0, 0]
  /-- Per stack: instant of the last HBM-POISON record, reads since it | 12 records | R580 20 | none, 0 -/
  poisonAt : List (Option Nat) := List.replicate 12 none
  poisonSince : List Nat := List.replicate 12 0
  /-- Staged lifecycle step and its timebase count, OD 0x2003.02 | U8, U64, if any | R555 19 | none -/
  lifecycleStaged : Option (Nat × Nat) := none
  deriving DecidableEq, Repr

/-- The test access port (21). -/
structure Tap where
  /-- Instruction register | 1 of 7 | R613 21 | DESIGN CHOICE IDCODE (log 44) -/
  instr : TapInstr := .idcode
  /-- Boundary-scan register over the sideband signals: MOD_RESET_N, TAMPER_IN_N, ROT_STATUS, MOD_PRESENT_N, TIME_PPS, TIME_REF | 12 | R613 21 | DESIGN CHOICE 0 (log 44) -/
  boundary : BitVec 12 := 0
  /-- The data register selected for shifting | up to 32 bits | R613 21 | DESIGN CHOICE 0 (log 44) -/
  data : BitVec 32 := 0
  /-- Outputs driven from the boundary-scan register, outputs at high impedance, internal debug reach given | 3 | R613, R614 21 | no -/
  driving : Bool := false
  highZ : Bool := false
  debugReach : Bool := false
  deriving DecidableEq, Repr

/-- The state of the block. -/
structure State where
  /-- Commands waiting, first in first out (the model's own) -/
  pending : List Instr := []
  /-- One-time-programmable store -/
  otp : Otp := {}
  /-- RETAINED objects -/
  ret : Retained := {}
  /-- What the next start from ROM meets in the silicon (the model's own, log 6) -/
  silicon : StartConds := ⟨false, 0, 0, 0, false, 0, 0⟩
  pins : Pins := {}
  clock : Timebase := {}
  start : Start := {}
  keys : Keys := {}
  engines : Engines := {}
  monitors : Monitors := {}
  fabric : Fabric := {}
  host : HostPath := {}
  shoal : Shoal := {}
  measure : Measure := {}
  hosting : Hosting := {}
  straits : Straits := {}
  time : TimeOut := {}
  od : Od := {}
  causeway : Causeway := {}
  power : Power := {}
  faults : Faults := {}
  tap : Tap := {}
  /-- Bytes the device has written to host memory, by I/O virtual address; an unlisted address holds no byte of the device's -/
  hostMem : List Host.Cell := []
  /-- Draws of free values taken so far (the model's own, log 2) -/
  draws : Nat := 0
  deriving DecidableEq, Repr

/-- Why a command stops the machine. -/
inductive Fault where
  /-- No meaning of this model raises it: every fault of the manual is a next state (log 1). Safe. -/
  | stuck
  deriving DecidableEq, Repr

/-- Why a command has no meaning. -/
inductive Refusal where
  /-- A row of the opcode table that is not modelled yet; raised by no arm once all are. Safe. -/
  | notModelled (mnemonic : String)
  /-- A write to a vendor diagnostic object by a co-signed Vendor-Service session under VENDOR-DEBUG: what it does is in
  Nocheom service documentation only (R484, 00). Raised by the OD writes. Safe. -/
  | vendorDiagnostic (index sub : Nat)
  deriving DecidableEq, Repr

/-- The first start of the part finds its regions closed over their contents: the digests are those of the contents. -/
def otpRegionBytes (o : Otp) : Nat → Bytes
  | 0 => Config.otpLayout 0 ([o.serial.toNat, if o.grade = .q4 then 4 else 2] ++ o.processIndex ++
           [o.anchorPrimary.toNat, o.anchorSecondary.toNat] ++ o.arrayMask.flatMap fun e => [e.1, e.2.toNat])
  | 1 => Config.otpLayout 1 (o.patches.map (·.toNat))
  | 2 => o.helper
  | 3 => o.wrappedDrs ++ digestBytes o.idevidKeyDigest ++ digestBytes o.idevidCertDigest
  | 4 => Config.otpLayout 4 [o.tamperT2.toNat, if o.vendorDebug then 1 else 0]
  | 5 => Config.otpLayout 5 []
  | _ => []

/-- A store whose region digests are those of its contents. -/
def Otp.sealed (o : Otp) : Otp :=
  { o with regionDigest := (List.range 6).map fun k => sha384 (otpRegionBytes o k) }

/-- A CA slot closed over an anchor. -/
def CaSlot.ofAnchor (a : BitVec 768) : CaSlot := { anchor := a, digest := sha384 (beBytes 96 a.toNat) }

/-- The fuses of a provisioned TLU1200-Q4 whose regions and first CA slot are closed (DESIGN CHOICE, log 5). -/
def Otp.fresh : Otp :=
  let o : Otp := { caSlots := some (CaSlot.ofAnchor 0) :: List.replicate 7 none }
  ({ o with idevidKeyDigest := sha384 o.idevidPub, idevidCertDigest := Config.idevidCertDigest } : Otp).sealed

/-- The part before STBY first rises: OFF, every object at its default, the fuses of a finished part, nothing commanded. -/
def State.reset : State := { otp := Otp.fresh }

end Sys2Proof.Machine
end

