-- ==== Sys2Proof/Machine/Ops.lean ====
section
/-! DEFINITION. Named operations over State that several rows share: device time, free values, measurement, fault records,
dies and cores, memory bytes, and what becomes of the submissions of a stream. -/

namespace Sys2Proof.Machine

/-! ### Time, free values, counters -/

/-- Device time (15). -/
def State.now (s : State) : Nat := s.clock.device

/-- The state after one free value has been drawn (log 2). -/
def State.drawn (s : State) : State := { s with draws := s.draws + 1 }

/-- R80: the state after one generate request of the DRBG. -/
def State.generated (s : State) : State :=
  { s.drawn with start := { s.start with drbgRequests := s.start.drbgRequests + 1 } }

/-- R80: 2^20 requests have been served since the last reseed, or 1 s has passed. -/
def State.reseedDue (s : State) : Bool :=
  decide (2 ^ 20 ≤ s.start.drbgRequests) || decide (s.start.drbgSeededAt + 1000000000 ≤ s.clock.count)

/-- One element of a counter list raised (R477). -/
def bumpAt (l : List Nat) (i : Nat) : List Nat := modifyAt l i bump

/-- The three running power states of R95. -/
def PowerState.running : PowerState → Bool
  | .ready | .run | .limit => true
  | _ => false

/-- READY, RUN or LIMIT. -/
def State.up (s : State) : Bool := s.start.power.running

/-! ### Measurement (R149, R151, R366-R368) -/

/-- R149: MRk becomes SHA-384(MRk ‖ data). -/
def extendValue (mr : Digest) (data : Bytes) : Digest := sha384 (digestBytes mr ++ data)

/-- A measurement-log entry: register, zero, length (U16), record (13, Model). -/
def logEntry (r : Nat) (data : Bytes) : Bytes := leBytes 1 r ++ [0] ++ leBytes 2 data.length ++ data

/-- R149, R367, R368: register and log move together; an entry that does not fit is discarded and the log reads incomplete. -/
def Measure.extend (m : Measure) (r : Nat) (data : Bytes) : Measure :=
  let e := logEntry r data
  if m.log.length + e.length ≤ 61440 then
    { m with mrs := modifyAt m.mrs r fun v => extendValue v data, log := m.log ++ e }
  else
    { m with mrs := modifyAt m.mrs r fun v => extendValue v data, complete := false }

/-- An extension of MRr. -/
def State.extendMr (s : State) (r : Nat) (data : Bytes) : State := { s with measure := s.measure.extend r data }

/-- MRk's value. -/
def State.mr (s : State) (k : Nat) : Digest := s.measure.mrs.getD k 0

/-- R134: a key-event record of 58 B. -/
def keyRecord (code id : Nat) (pk : Digest) (time : Nat) : Bytes :=
  leBytes 1 code ++ leBytes 1 (Config.keyIdentifier id) ++ digestBytes pk ++ leBytes 8 time

/-- R134: a key event extended into MR15. -/
def State.keyEvent (s : State) (code id : Nat) (pk : Digest) : State := s.extendMr 15 (keyRecord code id pk s.now)

/-- A 57-byte record of MR9 to MR12: code, digest, device time. -/
def eventRecord (code : Nat) (d : Digest) (time : Nat) : Bytes := leBytes 1 code ++ digestBytes d ++ leBytes 8 time

/-! ### Fault records (R595, R596, R602) -/

/-- R595: the octets of a fault record. -/
def FaultRec.bytes (r : FaultRec) : Bytes :=
  leBytes 1 r.code ++ leBytes 1 r.die ++ leBytes 2 r.unit ++ leBytes 8 r.tide ++ leBytes 4 r.a ++ leBytes 4 r.b ++
    leBytes 8 r.time ++ leBytes 4 0 ++ (match r.head with | none => [] | some h => digestBytes h)

/-- R596: a record enters the queue of 64, or counts as not queued and marks the pending OVERFLOW record. -/
def Faults.record (f : Faults) (r : FaultRec) : Faults :=
  match f.overflow with
  | none => if f.queue.length < 64 then { f with queue := f.queue ++ [r] }
            else { f with notQueued := bump f.notQueued, overflow := some (1, 2 ^ r.code) }
  | some (n, mask) => { f with notQueued := bump f.notQueued, overflow := some (n + 1, mask ||| 2 ^ r.code) }

/-- A fault record of the device. -/
def State.fault (s : State) (r : FaultRec) : State := { s with faults := s.faults.record r }

/-- A record extended into MR14 at once (R597, and the records that a start extends itself, R88). -/
def State.extendFault (s : State) (r : FaultRec) : State :=
  let s := s.extendMr 14 r.bytes
  { s with ret := { s.ret with lastFault := some r }, faults := { s.faults with extended := bump s.faults.extended } }

/-! ### Dies and cores -/

def Fabric.die (f : Fabric) (n : Nat) : Die := f.dies.getD n {}

def Fabric.modDie (f : Fabric) (n : Nat) (g : Die → Die) : Fabric := { f with dies := modifyAt f.dies n g }

def Fabric.core (f : Fabric) (i : Nat) : Core := SMap.get {} f.cores i

def Fabric.setCore (f : Fabric) (i : Nat) (c : Core) : Fabric := { f with cores := SMap.set {} f.cores i c }

def Fabric.modCore (f : Fabric) (i : Nat) (g : Core → Core) : Fabric := f.setCore i (g (f.core i))

/-- Number of the die that hosts a logical core (02: L100n to L100n+99 on Cn). -/
def dieOf (core : Nat) : Nat := core / 100

/-- Key of a physical core or of an array mask. -/
def physKey (die p : Nat) : Nat := 104 * die + p

/-- R43: the physical core of a logical core. -/
def Retained.physOf (r : Retained) (core : Nat) : Nat := SMap.get (core % 100) r.coreMap core

/-- The default state of a physical core (R43, R48). -/
def coreStateDefault (p : Nat) : Nat := if p < 100 then 0 else 1

/-- OD 0x4050-0x405B: 0 ENABLED, 1 SPARE, 2 RETIRED. -/
def Retained.stateOf (r : Retained) (die p : Nat) : Nat :=
  SMap.get (coreStateDefault p) r.coreState (physKey die p)

/-- Spares left on a die (R41). -/
def Retained.spares (r : Retained) (die : Nat) : List Nat :=
  (List.range 104).filter fun p => r.stateOf die p == 1

/-- The enabled slots of a physical core (02, 07), ascending. -/
def Otp.slotsOf (o : Otp) (die p : Nat) : List Nat :=
  let m := SMap.get 0b1111 o.arrayMask (physKey die p)
  let l := (List.range 4).filter fun k => m.getLsbD k
  match o.grade with
  | .q4 => l
  | .d2 => l.take 2

/-- Arrays per core by grade (R1, R48). -/
def Grade.arrays : Grade → Nat
  | .q4 => 4
  | .d2 => 2

/-- Grade code (R3; OD 0x1001.01). -/
def Grade.code : Grade → Nat
  | .q4 => 4
  | .d2 => 2

/-- Bit of the GRADES mask: bit 0 Q4, bit 1 D2 (04, 10, R409). -/
def Grade.maskBit : Grade → Nat
  | .q4 => 0
  | .d2 => 1

/-- R554: the dies that are offline, once the start has released them. -/
def State.offlineMask (s : State) : Nat :=
  match s.start.phase with
  | .training | .readyOrLater => maskOf 12 fun n => !(s.fabric.die n).online
  | _ => 0

/-! ### Streams -/

def PlanInfo.entry (p : PlanInfo) (st : Nat) : Option StreamEntry := p.streams.find? fun e => e.stream == st

/-- The running plan's entry for a stream. -/
def Fabric.entry (f : Fabric) (st : Nat) : Option StreamEntry := f.plan.bind fun p => p.entry st

/-- Streams of the running plan whose partition satisfies a test. -/
def Fabric.streamsOf (f : Fabric) (p : StreamEntry → Bool) : List Nat :=
  match f.plan with
  | none => []
  | some pl => (pl.streams.filter p).map (·.stream)

/-- Streams whose partition includes a core. -/
def Fabric.streamsOfCore (f : Fabric) (core : Nat) : List Nat := f.streamsOf fun e => e.partition.getLsbD core

/-- Streams whose partition includes a core of a die. -/
def Fabric.streamsOfDie (f : Fabric) (die : Nat) : List Nat :=
  f.streamsOf fun e => (List.range 100).any fun i => e.partition.getLsbD (100 * die + i)

/-- A core of the running plan lies on the die. -/
def Fabric.planDie (f : Fabric) (die : Nat) : Bool := !(f.streamsOfDie die).isEmpty

/-- The logical cores of a stream. -/
def Fabric.coresOf (f : Fabric) (st : Nat) : List Nat :=
  match f.entry st with
  | none => []
  | some e => (List.range 1200).filter fun i => e.partition.getLsbD i

def streamMask (l : List Nat) : BitVec 64 := BitVec.ofNat 64 (maskOf 64 fun k => l.contains k)

def inMask (m : BitVec 64) (st : Nat) : Bool := m.getLsbD st

/-! ### Submissions -/

/-- Completion flags (R321): bit 4 DEBUG. -/
def DebugCond.debugClass : DebugCond → Bool
  | .debug | .vendor => true
  | _ => false

def DebugCond.code : DebugCond → Nat
  | .sealed => 0
  | .profile => 1
  | .debug => 2
  | .vendor => 3

def flagBits (clipped late unpaced loopOut debug void : Bool) : BitVec 6 :=
  BitVec.ofNat 6 (maskOf 6 fun k => [clipped, late, unpaced, loopOut, debug, void].getD k false)

/-- Every submission updated. -/
def HostPath.mapSubs (h : HostPath) (g : Nat → Submission → Submission) : HostPath :=
  { h with subs := h.subs.map fun e => (e.1, e.2.map (g e.1)) }

/-- A decided status with parking (R26, R322). -/
def Submission.park (x : Submission) (code : Nat) (flags : BitVec 6) : Submission :=
  { x with status := some code, parked := true, phase := .answered, flags := flags, receiptNo := none, held := false }

/-- A SCORE that has been staged and is in no tide: its own completion may still be due, or it waits as a resubmission. -/
def Submission.waiting (x : Submission) : Bool :=
  x.kind != 2 && x.status.isNone && (x.phase == .staged || x.phase == .sampled)

/-- R291, R294, R433: staged submissions of streams, outside a tide, complete with a code and are parked. -/
def HostPath.parkWaiting (h : HostPath) (mask : BitVec 64) (code : Nat) (debug : Bool) : HostPath :=
  h.mapSubs fun _ x =>
    if inMask mask x.stream && x.waiting then
      { x.park code (flagBits false false false false debug false) with tide := none, depart := 0, form := none }
    else x

/-- LATE of a tide so far: it departed paced and its successor's grid point has passed (10, "Pace and lateness"). -/
def Tide.isLate (t : Tide) (now : Nat) : Bool := t.paced && decide (t.nextGrid < now)

/-- R569: the submissions of voided streams in the tide complete with VOID_TIDE and are parked. -/
def HostPath.voidTide (h : HostPath) (t : Tide) (mask : BitVec 64) (now : Nat) (debug : Bool) : HostPath :=
  h.mapSubs fun _ x =>
    if inMask mask x.stream && x.phase == .inTide && x.tide == some t.no then
      x.park 1 (flagBits false (t.isLate now) (!t.paced) t.loopOut debug true)
    else x

/-- R568: a core abandons its tide work; abandoned work counts as completed. -/
def Core.abandon (c : Core) : Core := { c with issuing := false, ended := true, ops := [], unacked := [] }

/-- R454: span time of a non-master: the timebase count plus the offset, extrapolated with the measured rate ratio. -/
def State.spanTime (s : State) : Nat :=
  let x := s.straits
  let drift : Int := match x.prevSync with
    | some (o, c) => if c < x.lastSync then (x.spanOffset - o) * ((s.clock.count : Int) - x.lastSync) / ((x.lastSync : Int) - c) else 0
    | none => 0
  ((s.clock.count : Int) + x.spanOffset + drift).toNat

/-- The time tides are planned in: device time, and under a span plan span time, which is the master's device time (R288,
R454, R455). -/
def State.gridNow (s : State) : Nat :=
  match s.fabric.plan.bind (·.span) with
  | none => s.now
  | some sp => if sp.master = s.ret.moduleAddr then s.now else s.spanTime

/-- Grid points from grid point `g` on and before `t` (OD 0x4105.04). -/
def gridPassed (cadence g t : Nat) : Nat := if t ≤ g then 0 else (t - 1 - g) / cadence + 1

def PlanInfo.cadenceNs (p : PlanInfo) : Nat := 1000 * p.cadenceUs

/-- OD 0x4105.04 at a time: the points accounted for, and those of the running plan's grid that have passed since (R302). -/
def Fabric.skippedAt (f : Fabric) (t : Nat) : Nat :=
  match f.plan with
  | none => f.skipped
  | some p => bumpBy (gridPassed p.cadenceNs f.gridNext t) f.skipped

/-- R568, R569: the tide in progress is voided for streams, and their cores abandon it. -/
def State.voidStreams (s : State) (l : List Nat) : State :=
  match s.fabric.tide with
  | none => s
  | some t =>
    let mask := streamMask l
    let f := (l.flatMap s.fabric.coresOf).foldl (fun f i => f.modCore i Core.abandon) s.fabric
    { s with
      fabric := { f with tide := some { t with voided := t.voided ||| mask } }
      host := s.host.voidTide t mask s.gridNow s.start.condition.debugClass }

/-- R291: streams enter HALTED. -/
def State.haltStreams (s : State) (l : List Nat) : State :=
  let mask := streamMask l
  { s with
    fabric := { s.fabric with halted := s.fabric.halted ||| mask }
    host := s.host.parkWaiting mask 5 s.start.condition.debugClass }

/-- Tide departures have stopped: a plan runs, all of whose streams are HALTED, and no tide is in progress. -/
def State.departuresStopped (s : State) : Bool :=
  match s.fabric.plan with
  | some p => s.fabric.tide.isNone && (streamMask (p.streams.map (·.stream)) &&& ~~~s.fabric.halted) == 0
  | none => false

/-- R530: stopping tide departures returns RUN or LIMIT to READY. -/
def State.settleReady (s : State) : State :=
  match s.start.power with
  | .run | .limit => if s.departuresStopped then { s with start := { s.start with power := .ready } } else s
  | _ => s

/-- R292, R298: the first fallback entry that serves a stream; `die = none` ignores the die mask bits. -/
def PlanInfo.fallbackFor (p : PlanInfo) (die : Option Nat) (st : Nat) : Option Nat :=
  p.fallbacks.findIdx? fun e => (match die with | none => true | some n => e.dies.getLsbD n) && inMask e.streams st

/-- R292: the selected digest is that of the last stream's entry, and one STREAM-HALTED record names the streams of each
entry selected. -/
def State.selectFallback (s : State) (die : Option Nat) (l : List Nat) : State :=
  match s.fabric.plan with
  | none => s
  | some p =>
    let picks := l.map fun st => (st, p.fallbackFor die st)
    let digest (i : Option Nat) : Digest := (i.bind fun k => (p.fallbacks[k]?).map (·.digest)).getD 0
    let idxs := (picks.map (·.2)).eraseDups
    let s := { s with fabric := { s.fabric with
                        fallback := (picks.getLast?.map fun q => digest q.2).getD s.fabric.fallback } }
    idxs.foldl (fun s i =>
      let m := (streamMask ((picks.filter fun q => q.2 == i).map (·.1))).toNat
      s.fault { code := 3, unit := i.getD 0xFFFF, tide := (s.fabric.tide.map (·.no)).getD u64Max,
                a := m % 2 ^ 32, b := m / 2 ^ 32, time := s.now }) s

/-- R263: the record is overwritten; of two faults of one core at the same instant the lower code stays (09, Collisions). -/
def PlanFaultRec.overwrite (old new : PlanFaultRec) : PlanFaultRec :=
  if old.time = new.time ∧ old.logical = new.logical ∧ old.code ≠ 0 ∧ old.code < new.code then old else new

/-- R263, R202: a plan fault in a core voids the tide of the core's streams, halts them and is recorded. -/
def State.planFault (s : State) (core code step : Nat) : State :=
  let l := s.fabric.streamsOfCore core
  let tide := (s.fabric.tide.map (·.no)).getD u64Max
  let s := (s.voidStreams l).haltStreams l
  let s := { s with fabric := s.fabric.modDie (dieOf core) fun d =>
               { d with lastPlanFault := d.lastPlanFault.overwrite ⟨core % 100, step, code, s.now⟩ } }
  s.fault { code := 4, die := dieOf core, unit := core % 100, tide := tide, a := code, b := step, time := s.now }

/-! ### Memory bytes the device writes in the host (R320, R321, R389) -/

/-- One byte stored: addresses stay strictly rising. -/
def storeByte : List Host.Cell → Nat → Byte → List Host.Cell
  | [], a, b => [(a, b)]
  | (k, v) :: m, a, b =>
    if a < k then (a, b) :: (k, v) :: m
    else if k = a then (a, b) :: m
    else (k, v) :: storeByte m a b

/-- The byte the device last wrote at an address, if any. -/
def readByte : List Host.Cell → Nat → Option Byte
  | [], _ => none
  | (k, v) :: m, a => if k = a then some v else readByte m a

/-- Consecutive bytes stored. -/
def storeBytes (m : List Host.Cell) (a : Nat) : Bytes → List Host.Cell
  | [] => m
  | b :: bs => storeBytes (storeByte m a b) (a + 1) bs

/-- The canonical form of host memory: addresses strictly rising. -/
def Memory.wfFrom : Option Nat → List Host.Cell → Bool
  | _, [] => true
  | lo, (k, _) :: m => (match lo with | none => true | some l => decide (l < k)) && Memory.wfFrom (some k) m

def Memory.wf (m : List Host.Cell) : Bool := Memory.wfFrom none m

end Sys2Proof.Machine
end

