-- ==== Sys2Proof/Machine/Signing.lean ====
section
/-! DEFINITION. Keys on the sealed key bus and what the device signs: transfers through the Working Key Register (R110, R117),
signatures with their verification before release (R170-R173), certificates (R370), curve blocks (R167-R169). -/

namespace Sys2Proof.Machine

/-! ### The Working Key Register -/

/-- R117: a key passes through the WKR, which leaves it as two shares under a fresh mask; the WKR keeps shares of it. -/
def State.transfer (s : State) (k : Bytes) : State × MaskedKey :=
  let e := maskKey k (Config.drbg s.draws)
  (({ s with keys := { s.keys with wkr := some (e.share0, e.share1) } } : State).generated, e)

/-- Several generate requests of the DRBG (R80). -/
def State.generatedBy (s : State) (n : Nat) : State :=
  { s with draws := s.draws + n, start := { s.start with drbgRequests := s.start.drbgRequests + n } }

/-! ### The big-number engine's alarm (R166) -/

/-- A context cleared with an error (R165, R166). -/
def BnContext.cleared (code : Nat) : BnContext := { err := code }

/-- R166: both contexts and both key-port slots are cleared, and their jobs end with ERR_ALARM. -/
def Engines.bnAlarm (e : Engines) : Engines :=
  { e with long := BnContext.cleared 6, short := BnContext.cleared 6, bnRunning := none, longYielded := false, longDone := 0 }

def State.bnAlarm (s : State) : State := { s with engines := s.engines.bnAlarm }

/-! ### Signatures (R170-R173) -/

/-- A hybrid key pair's seeds. -/
structure Signer where
  ec : Bytes
  ml : Bytes
  deriving DecidableEq, Repr

def Signer.pub (k : Signer) : Bytes := hybridPub k.ec k.ml

/-- KID of a hybrid key pair (13): the first 16 octets of the SHA-384 of its two public keys. -/
def kidOf (pub : Bytes) : Bytes := (digestBytes (sha384 pub)).take 16

/-- Octets of a DRBG draw. -/
def drawBytes (n : Nat) : Bytes := beBytes 64 (drawOf n)

/-- The two signatures of one attempt: ES384 over one message, hedged ML-DSA-65 over another; four draws. -/
def Signer.attempt (k : Signer) (mEc mMl : Bytes) (draw : Nat) : Bytes × Bytes :=
  (ecdsaSign k.ec mEc draw, fit 3309 (Config.mldsaSign k.ml mMl ((drawBytes (draw + 3)).take 32)))

/-- R172: both verify with the public keys. -/
def Signer.verifies (k : Signer) (mEc mMl : Bytes) (sig : Bytes × Bytes) : Bool :=
  ecdsaVerify (ecPublic k.ec) mEc sig.1 && Config.mldsaVerify (Config.mldsaPublic k.ml) mMl sig.2

/-- R172: signatures verified before release; one that fails is discarded and made again once with fresh randomness, and a second
failure is an engine alarm: nothing is released. -/
def State.sign (s : State) (k : Signer) (mEc mMl : Bytes) : State × Option (Bytes × Bytes) :=
  let a := k.attempt mEc mMl s.draws
  let b := k.attempt mEc mMl (s.draws + 4)
  if k.verifies mEc mMl a then (s.generatedBy 4, some a)
  else if k.verifies mEc mMl b then (s.generatedBy 8, some b)
  else ((s.generatedBy 8).bnAlarm, none)

/-- R172 for an ES384 signature alone (R378). -/
def State.signEc (s : State) (seed m : Bytes) : State × Option Bytes :=
  let a := ecdsaSign seed m s.draws
  let b := ecdsaSign seed m (s.draws + 3)
  if ecdsaVerify (ecPublic seed) m a then (s.generatedBy 3, some a)
  else if ecdsaVerify (ecPublic seed) m b then (s.generatedBy 6, some b)
  else ((s.generatedBy 6).bnAlarm, none)

/-- R170: ECDH by a private seed, blinded; two draws. -/
def State.agreeEc (s : State) (seed pub : Bytes) : State × Bytes := (s.generatedBy 2, ecdh seed pub s.draws)

/-- A COSE_Sign by a key pair over a payload (R370, R371). -/
def State.signCose (s : State) (k : Signer) (unprotected payload : Bytes) : State × Option Bytes :=
  let kid := kidOf k.pub
  let r := s.sign k (sigStructure algEs384 kid payload) (sigStructure algMlDsa65 kid payload)
  (r.1, r.2.map fun sig => coseSign unprotected payload kid sig.1 sig.2)

/-! ### Certificates (R115, R370, R558) -/

/-- The payload of a CBOR certificate: type, serial, subject keys, issuer KID, issue time, identity, and an Alias's MR0 to MR8. -/
def certPayload (type : Nat) (o : Otp) (pub issuerKid : Bytes) (time : Nat) (mrs : List Digest) : Bytes :=
  cborMap ([(1, cborUint type), (2, cborBytes (beBytes 16 o.serial.toNat)), (3, cborBytes (pub.take 97)), (4, cborBytes (pub.drop 97)),
    (5, cborBytes issuerKid), (6, cborUint time),
    (7, cborArr [cborUint o.grade.code, cborUint 0xB1, cborUint 1])] ++
    (if mrs.isEmpty then [] else [(8, cborArr (mrs.map fun d => cborBytes (digestBytes d)))]))

/-- A certificate issued now; empty where no signature was released. -/
def State.issueCert (s : State) (type : Nat) (pub : Bytes) (issuer : Signer) (mrs : List Digest) : State × Bytes :=
  let r := s.signCose issuer (cborMap []) (certPayload type s.otp pub (kidOf issuer.pub) s.now mrs)
  (r.1, r.2.getD [])

/-! ### Curve blocks (R167-R169) -/

/-- R167, R169: a curve block before its first use in a start: the result recorded against its digest is reused; otherwise the checks
run, and a failure is counted with its step. The second component says whether the curve may be used. -/
def State.useCurve (s : State) (block : Bytes) : State × Bool :=
  match s.engines.curves.find? fun e => e.1 == sha384 block with
  | some e => (s, e.2 == 0)
  | none =>
    let step := curveCheck block s.draws
    let s := s.generatedBy (2 * primeDraws)
    let e := { s.engines with curves := s.engines.curves ++ [(sha384 block, step)] }
    if step = 0 then ({ s with engines := e }, true)
    else ({ s with engines := { e with curveRefused := bump e.curveRefused, curveStep := step } }, false)

/-- R171, R172, R175: an RSA private operation of a supported size, its result checked before release, made again once with fresh
randomness, and after a second failure an alarm. -/
def State.rsaSign (s : State) (k : RsaKey) (m : Nat) : State × Option Nat :=
  if rsaPrivateOk (k.p * k.q) = false then (s, none)
  else
    let a := rsaPrivate k m s.draws
    let b := rsaPrivate k m (s.draws + 3)
    if rsaChecks k m a then (s.generatedBy 3, some a)
    else if rsaChecks k m b then (s.generatedBy 6, some b)
    else ((s.generatedBy 6).bnAlarm, none)

end Sys2Proof.Machine
end

