-- ==== Sys2Proof/Machine/HostDma.lean ====
section
/-! DEFINITION. How the device uses host memory: when it may, translations and their invalidation, page requests, the order of
deliveries on Ferry F0 (11, R402, R403). -/

namespace Sys2Proof.Machine

/-! ### DMA (R402, R403) -/

/-- The device may use host memory: the link is up in D0 with bus mastering, the TDI is CONFIG_UNLOCKED or RUN. -/
def State.dmaOk (s : State) : Bool :=
  s.pins.pcieUp && s.host.busMaster && !s.host.d3hot && (s.hosting.tdi == .unlocked || s.hosting.tdi == .run)

/-- The TDI forbids DMA: CONFIG_LOCKED, ERROR (R402, R403). -/
def State.dmaBarred (s : State) : Bool := s.hosting.tdi == .locked || s.hosting.tdi == .error

/-! ### The translation cache (R303, R333) -/

/-- Pages of 4 KiB an access covers. -/
def pagesOf (addr len : Nat) : List Nat := (List.range ((addr % 4096 + len + 4095) / 4096)).map (addr / 4096 + ·)

/-- The translation that the host's ATS gives for a page of 4 KiB: first page and log2 of the size it reports (log 106). -/
def translationOf (p : Nat) : Nat × Nat :=
  let k := (Config.atsPageSize p).toNat
  (p / 2 ^ k * 2 ^ k, k)

/-- R303: translations held after an access, 16,384 at most, the latest last. -/
def HostPath.cache (h : HostPath) (addr len : Nat) : HostPath :=
  if h.ats then
    let new := ((pagesOf addr len).map translationOf).dedup
    let l := (h.atc.filter fun t => !new.contains t) ++ new
    { h with atc := l.drop (l.length - 16384) }
  else h

/-- A translation covers an octet of a range. -/
def coversRange (t : Nat × Nat) (iova len : Nat) : Bool :=
  decide (4096 * t.1 < iova + len) && decide (iova < 4096 * (t.1 + 2 ^ t.2))

/-- A submission updated under its tag. -/
def HostPath.modSub (h : HostPath) (tag : Nat) (g : Submission → Submission) : HostPath :=
  { h with subs := SMap.modify none h.subs tag fun x => x.map g }

def HostPath.sub (h : HostPath) (tag : Nat) : Option Submission := SMap.get none h.subs tag

/-- A record fetch is under way. -/
def Submission.inFetch (x : Submission) : Bool := x.phase == .fetching || x.phase == .laneWait

/-- Record fetches under way that read a range, each by tag and sequence. -/
def HostPath.fetchesIn (h : HostPath) (iova len : Nat) : List (Nat × Nat) :=
  h.subs.filterMap fun e => e.2.bind fun x =>
    if x.inFetch && decide (x.inputAddr < iova + len) && decide (iova < x.inputAddr + x.inputLen) then some (e.1, x.seq) else none

/-- A fetch that an invalidation waits for is still under way. -/
def HostPath.stillFetching (h : HostPath) (w : Nat × Nat) : Bool :=
  match h.sub w.1 with
  | some x => x.inFetch && x.seq == w.2
  | none => false

/-- R333: invalidations that have not completed. -/
def HostPath.invalidationsOut (h : HostPath) : List Invalidation := h.invalidations.filter fun i => i.waits.any h.stillFetching

/-- R303, R333: an invalidation is taken, 32 outstanding at most: its translations leave the cache at once and it completes after the
last fetch issued under them. A further one is not taken (log 106). -/
def HostPath.invalidate (h : HostPath) (iova len : Nat) : HostPath :=
  if h.invalidationsOut.length < 32 then
    { h with
      atc := h.atc.filter fun t => !coversRange t iova len
      invalidations := h.invalidationsOut ++
        (if (h.fetchesIn iova len).isEmpty then [] else [⟨iova, len, h.fetchesIn iova len⟩]) }
  else h

/-! ### Page requests (R318, R332) -/

/-- R332: a page request is sent, or its access waits for a free one. -/
def HostPath.requestPage (h : HostPath) (o : PageOwner) (now : Nat) : HostPath :=
  if h.pages.length < 512 then { h with pages := h.pages ++ [(o, now)] }
  else { h with pageQueue := h.pageQueue ++ [o], pageWaits := bump h.pageWaits }

/-- A page request of the access is outstanding. -/
def HostPath.pageOut (h : HostPath) (o : PageOwner) : Bool := h.pages.any fun p => p.1 == o

/-- The access waits for a page request, sent or not. -/
def HostPath.paging (h : HostPath) (o : PageOwner) : Bool := h.pageOut o || h.pageQueue.contains o

/-- R332: a request ends and the first waiting access sends its own. -/
def HostPath.endPage (h : HostPath) (o : PageOwner) (now : Nat) : HostPath :=
  { h with
    pages := h.pages.eraseP (fun p => p.1 == o) ++ (h.pageQueue.take 1).map fun q => (q, now)
    pageQueue := h.pageQueue.drop 1 }

/-- R318: a request of the access has waited for OD 0x5443.03. -/
def HostPath.pageTimedOut (h : HostPath) (o : PageOwner) (now : Nat) : Bool :=
  h.pages.any fun p => p.1 == o && decide (p.2 + h.priTimeout * 1000000 ≤ now)

/-- R318: an access meets a refused translation: a page request where PRI is enabled, else `fail`. -/
def State.refusedAccess (s : State) (o : PageOwner) (fail : State → State) : State :=
  if s.host.pri then { s with host := s.host.requestPage o s.clock.count } else fail s

/-! ### Ferry F0 (R315) -/

/-- R315: the Ferry of a ring. -/
def ferryOf (r : Nat) : Nat := r % 16

/-- The next delivery on F0 takes its place in the order of requests. -/
def State.takeF0 (s : State) : State := { s with host := { s.host with f0Requests := s.host.f0Requests + 1 } }

/-- A host set's delivery that F0 was asked for before another's place. -/
def State.setBefore (s : State) (order : Nat) : Bool :=
  match s.start.update with
  | some l => l.fromHost && decide (l.order < order)
  | none => false

/-- A plan delivery that F0 was asked for before another's place. -/
def State.planBefore (s : State) (order : Nat) : Bool :=
  match s.fabric.staged with
  | some p => p.state == .loading && decide (p.order < order)
  | none => false

end Sys2Proof.Machine
end

