-- ==== Sys2Proof/Machine/Session.lean ====
section
/-! DEFINITION. TRANSITION and checkpoints (13), scrubbing and the end of a session (14, 16, R426, R505, R506). -/

namespace Sys2Proof.Machine

/-! ### Evidence state (R373) -/

/-- GOVERNOR-RESTART: from a firing until the restarted governor is released; a FAILED G0 keeps it (R575), a FAILED die
governor until its die is offline (R574). -/
def State.govRestart (s : State) : Bool :=
  (List.range 13).any fun g =>
    match ((s.power.governors.getD g {}).state) with
    | .running => false
    | .silent | .restarting => true
    | .failed => g == 0 || (s.fabric.die (g - 1)).online

/-- FIRMWARE-SET: from item 0 until READY, and from an update commit. -/
def State.firmwareTransition (s : State) : Bool := (s.start.runtime && !s.up) || s.measure.commitTransition

/-- Claim −70002: bit 0 FIRMWARE-SET, bit 1 DIE-OFFLINE, bit 2 GOVERNOR-RESTART. -/
def State.transition (s : State) : Nat :=
  maskOf 3 fun k => [s.firmwareTransition, s.offlineMask != 0, s.govRestart].getD k false

/-! ### Checkpoint cuts (R384-R388, R391) -/

/-- An Alias exists: step 12 has derived it and nothing has destroyed it (R388). -/
def State.aliasExists (s : State) : Bool := !s.keys.aliasPub.isEmpty

/-- SHA-384 of MR0 ‖ … ‖ MR31. -/
def Measure.mrd (m : Measure) : Digest := sha384 (m.mrs.flatMap digestBytes)

/-- H_n of the session: its genesis before the first receipt, OD 0x2045.03 after it (R382, R383). -/
def State.chainHead (s : State) : Digest :=
  if s.ret.receiptsMade = 0 ∧ s.od.session ≠ 0 then s.measure.genesis else s.ret.liveHead

/-- What the body of a cut made now takes (R386). -/
def State.cutNow (s : State) (cause : Nat) : Cut :=
  { cause := cause, flagsOr := s.measure.flagsOr, session := s.measure.sessionStart, no := s.measure.ckptNo,
    first := s.measure.firstSince, count := s.measure.sinceCut, time := s.now, head := s.chainHead,
    prev := if s.measure.ckptNo = 0 then s.measure.genesis else s.measure.lastHead,
    mrd := s.measure.mrd, kid := kidOf s.keys.aliasPub, generation := s.ret.generation,
    transition := s.transition, debug := s.start.condition.code, lastStep := s.measure.lastStep }

/-- A cut is made: the count and the interval restart. -/
def State.makeCut (s : State) (cause : Nat) : State :=
  let c := s.cutNow cause
  { s with
    measure := { s.measure with
      ckptNo := s.measure.ckptNo + 1, lastHead := c.head, sinceCut := 0, firstSince := s.ret.receiptsMade,
      flagsOr := 0, lastCutAt := s.clock.count, signing := some c, deferred := none }
    ret := { s.ret with lastCut := some (c.session, c.no, c.head, c.time) } }

/-- R384, R385, R388, R391: a cut falls due. It waits, under the earliest cause, while a checkpoint is being signed or the
checkpoint queue is full. -/
def State.cut (s : State) (cause : Nat) : State :=
  if !s.aliasExists then s
  else if s.measure.signing.isSome || decide (16 ≤ s.measure.checkpoints.length) then
    { s with measure := { s.measure with deferred := some (s.measure.deferred.getD cause) } }
  else s.makeCut cause

/-- R374, R384: an effect that turns STABLE into TRANSITION cuts a checkpoint; the chain claim then names what had been
signed before. -/
def State.track (before after : State) : State :=
  if before.transition = 0 ∧ after.transition ≠ 0 then
    ({ after with measure := { after.measure with named := after.ret.lastSigned } } : State).cut 5
  else after

/-! ### Scrubbing (R426-R433) -/

def Region.scrub (r : Region) : Region := { r with state := .scrubbing, progress := 0 }

/-- R426: allocated regions and the four stores turn to SCRUBBING. -/
def Retained.scrubAll (r : Retained) : Retained :=
  { r with
    regions := r.regions.map fun e => if e.2.state = .allocated then (e.1, e.2.scrub) else e
    stores := r.stores.map Region.scrub }

/-- SCRUB-PENDING or dark (14, Model). -/
def RegionState.pending : RegionState → Bool
  | .scrubbing | .suspended | .dark => true
  | _ => false

/-- R433: a region the running plan names is no longer readable: its streams' staged submissions complete with SCRUB_DARK
and their rings are not fetched. -/
def State.darkenRegion (s : State) (region : Nat) : State :=
  match s.fabric.plan with
  | none => s
  | some p =>
    if p.regions.any fun e => e.region == region then
      let mask := streamMask (p.streams.map (·.stream))
      { s with
        fabric := { s.fabric with dark := s.fabric.dark ||| mask }
        host := s.host.parkWaiting mask 6 s.start.condition.debugClass }
    else s

/-! ### The end of a session -/

/-- R243, R426: every Lagoon, vector register and window is cleared and every plan, tide and unit is gone; HBM lines stand
until the scrub reaches them. -/
def Fabric.clearSession (f : Fabric) : Fabric :=
  { f with cores := [], windows := [], flight := [], staging := [], staged := none, plan := none, tide := none,
           lastTide := none, gridNext := 0, halted := 0, dark := 0, marks := [], allFinished := none,
           ownFinish := none, pace := 0 }

/-- Rings, submissions, watermarks and page requests of a session (16, "Sessions"; R33). Interrupts already deferred are still raised
(R327). -/
def HostPath.clearSession (h : HostPath) : HostPath :=
  { h with rings := [], subs := [], lastLogged := none, watermark := none, shoalMark := 0, forwardHold := false,
           snapshotHold := false, pages := [], pageQueue := [], visited := none }

/-- R426: the Shoal store is cleared with the session. -/
def Shoal.clearSession (h : Shoal) : Shoal :=
  { h with clusters := List.replicate 12 {}, relay := [], relayHeld := 0, load := none, snapshot := none, image := none,
           planAdmitted := false }

def Hosting.clearSession (h : Hosting) : Hosting := { h with loads := List.replicate 4 none, models := [] }

/-- The inline lanes drop the records of a session's submissions. -/
def Engines.clearLanes (e : Engines) : Engines :=
  { e with laneBusy := List.replicate 4 none, laneQueue := List.replicate 4 [] }

/-- Steps 3 to 5 of R505: parked submissions are released, FINAL is cut, and R426 clears. -/
def State.finishClose (s : State) : State :=
  let s := s.cut 6
  { s with
    ret := s.ret.scrubAll, fabric := { s.fabric.clearSession with skipped := s.fabric.skippedAt s.gridNow }, host := s.host.clearSession,
    engines := s.engines.clearLanes, shoal := s.shoal.clearSession, hosting := s.hosting.clearSession, od := { s.od with drained := true },
    straits := { s.straits with markOut := [], markSent := none, forwarded := [], fenceOut := [], spanFences := false, spanState := 0 }
    start := { s.start with power := if s.up then .ready else s.start.power } }

/-- A submission whose completion is still due: everything but a parked one whose completion has been posted. -/
def Submission.due (x : Submission) : Bool := !(x.phase == .posted)

/-- R505: a CLOSING session that has drained takes steps 3 to 5. -/
def State.settleClose (s : State) : State :=
  if s.od.session = 2 ∧ s.od.drained = false ∧
      (s.host.subs.all fun e => match e.2 with | none => true | some x => !x.due) = true ∧ s.fabric.tide = none then
    s.finishClose
  else s

/-- R505: CLOSED once the FINAL cut is made and the model store, the Shoal store and the plan staging area have been scrubbed. -/
def State.settleClosed (s : State) : State :=
  if s.od.session = 2 ∧ s.od.drained = true ∧ s.measure.deferred.isNone ∧ (s.ret.stores.take 3).all (fun r => r.state = .free) = true then
    { s with od := { s.od with session := 0, owner := 0, drained := false } }
  else s

end Sys2Proof.Machine
end

