-- ==== Sys2Proof/Machine/Boot.lean ====
section
/-! DEFINITION. The fuse store and its check, zeroise, tamper, and a start from ROM, cold or warm (04, 05, 19, 20, 21). -/

namespace Sys2Proof.Machine

/-! ### Fuses -/

/-- Both rails of step `k` blown, rail A and then rail B (R129, R556). -/
def Thermo.blow (t : Thermo) (k : Nat) : Thermo :=
  { a := t.a ||| BitVec.ofNat 64 (2 ^ k), b := t.b ||| BitVec.ofNat 64 (2 ^ k) }

/-- Step `k` is taken: both fuses blown. -/
def Thermo.taken (t : Thermo) (k : Nat) : Bool := t.a.getLsbD k && t.b.getLsbD k

/-- Steps taken from step 0 without a gap. -/
def Thermo.count (t : Thermo) : Nat := ((List.range 64).takeWhile t.taken).length

/-- R75: no step half blown, steps contiguous from step 0. -/
def Thermo.sound (t : Thermo) : Bool := t.a == t.b && t.a &&& (t.a + 1) == 0

/-- Every step below `n` taken. -/
def Thermo.raiseTo (t : Thermo) (n : Nat) : Thermo := (List.range n).foldl Thermo.blow t

/-- OD 0x2003.01: 0 BLANK, 1 PROVISIONED, 2 RETURNED, 3 KILLED. -/
def Otp.lifecycleCode (o : Otp) : Nat := min o.lifecycle.count 3

/-- The DRS revocation step is taken (R79). -/
def Otp.drsRevoked (o : Otp) : Bool := o.revoked.taken 0

/-- Value of SVN counter `k`. -/
def Otp.svnValue (o : Otp) (k : Nat) : Nat := (o.svn.getD k {}).count

/-- Binding epoch. -/
def Otp.epochValue (o : Otp) : Nat := o.epoch.count

/-- R556, R562: the lower lifecycle steps first; for KILLED the revocation step ahead of all. -/
def Otp.takeLifecycle (o : Otp) (code : Nat) : Otp :=
  { o with
    revoked := if code = 3 then o.revoked.blow 0 else o.revoked
    lifecycle := o.lifecycle.raiseTo (min code 3) }

/-- R74: an entry in use whose block lies in the first 16 KiB of ROM makes the table invalid. -/
def patchOk (p : BitVec 160) : Bool := !(p.getLsbD 31) || decide (1024 ≤ field p.toNat 4 14)

/-- An open region holds nothing (R75). -/
def Otp.blank (o : Otp) : Nat → Bool
  | 0 => o.serial == 0 && o.processIndex.all (· == 0) && o.arrayMask.isEmpty && o.anchorPrimary == 0 && o.anchorSecondary == 0
  | 1 => o.patches.isEmpty
  | 2 => o.helper.isEmpty
  | 3 => o.wrappedDrs.isEmpty && o.idevidKeyDigest == 0 && o.idevidCertDigest == 0
  | 4 => o.tamperT2 == 0 && !o.vendorDebug
  | 5 => (o.lifecycle :: o.revoked :: o.epoch :: o.svn).all (· == {})
  | _ => true

/-- R75: a closed region bears its contents' digest, an open one is blank. -/
def Otp.regionOk (o : Otp) (k : Nat) : Bool :=
  if o.closed.getLsbD k then o.regionDigest.getD k 0 == sha384 (otpRegionBytes o k) else o.blank k

/-- R75: a closed slot bears its anchor's digest, an open one is blank. -/
def caSlotOk : Option CaSlot → Bool
  | none => true
  | some c => c.closed && c.digest == sha384 (beBytes 96 c.anchor.toNat)

/-- R75: the OTP integrity check of a start. -/
def Otp.integrityOk (o : Otp) (eccUncorrectable : Bool) : Bool :=
  !eccUncorrectable && (List.range 6).all o.regionOk && o.caSlots.all caSlotOk && o.lifecycle.sound &&
    o.svn.all Thermo.sound && o.revoked.sound && o.epoch.sound && o.closed.getLsbD 2 == o.closed.getLsbD 3 &&
    decide (o.patches.length ≤ 64) && o.patches.all patchOk

/-- R98: the level a source acts at: its policy, or T1 while region 4 is open. -/
def Otp.tamperLevel (o : Otp) (src : Nat) : Nat :=
  if o.closed.getLsbD 4 && o.tamperT2.getLsbD src then 2 else 1

/-- R98: the highest level among sources that act together. -/
def Otp.tamperLevels (o : Otp) (mask : BitVec 6) : Nat :=
  if (List.range 6).any fun k => mask.getLsbD k && o.tamperLevel k == 2 then 2 else 1

def tamperIndex : TamperSource → Nat
  | .mesh => 0 | .tamperIn => 1 | .glitch => 2 | .undervoltage => 3 | .cold => 4 | .light => 5

/-- OD 0x2025.01: the highest closed CA slot (R133). -/
def Otp.activeSlot (o : Otp) : Nat := (((List.range 8).filter fun k => (o.caSlots.getD k none).any (·.closed)).getLast?).getD 0

/-! ### What a reset keeps -/

/-- R593, R506: a session open at a reset leaves its regions and stores to be scrubbed. -/
def Retained.afterReset (r : Retained) (session : Bool) : Retained := if session then r.scrubAll else r

/-- VOLATILE state at its defaults; fuses, RETAINED objects, pins, timebase, HBM lines and the model's own fields stand
(16, "Persistence"; R501, R506). -/
def State.volatile (s : State) : State :=
  { pending := s.pending, otp := s.otp, ret := s.ret.afterReset (s.od.session != 0), silicon := s.silicon,
    pins := { s.pins with vhub := false, pcieUp := false, rotStatus := 0, timePps := false, timeRefRunning := false }
    clock := s.clock, fabric := { hbm := s.fabric.hbm }, tap := { s.tap with debugReach := false }, hostMem := s.hostMem, draws := s.draws }

/-! ### Tamper (R98-R100, R135, R561, R562) -/

/-- R561: withdrawn tokens of the DEBUG and VENDOR scopes, to be extended into MR12 at the next start. -/
def Retained.withdrawDebug (r : Retained) (time : Nat) : Retained :=
  { r with
    tokens := [r.tokens.getD 0 none, none, none]
    pendingWithdrawals := r.pendingWithdrawals ++ ((r.tokens.drop 1).filterMap fun t => t.map fun k => (k.digest, time)) }

/-- R99, R134, R136: what RETAINED objects take at tamper. -/
def Retained.tampered (r : Retained) (mask level time : Nat) : Retained :=
  let r := r.withdrawDebug time
  { r with
    tamper := ⟨BitVec.ofNat 8 mask, level, time⟩
    pendingFaults := r.pendingFaults ++ [{ code := 0x0C, a := mask, b := level, time := time }]
    pendingZeroise := some time
    pendingAlias := none, commitDue := false, stagedCa := none, bindingAdvancedAt := none }

/-- R154: every job channel, inline lane and HMAC slot is cleared. -/
def Engines.alarm (e : Engines) (code : Nat) : Engines :=
  { e with jobs := List.replicate 8 { state := .error, err := code }, alarms := bump e.alarms }

/-- R135, R154, R166: the zeroise line on the two engines; no Ferry holds or waits for a lane of a device whose MAIN is off. -/
def Engines.zeroise (e : Engines) : Engines :=
  (e.alarm 6).bnAlarm.clearLanes

/-- R99, R100, R561: tamper at a level. Every key and session goes, MAIN domains go off, the device stands in TAMPER-HALT;
T2 takes the revocation step and every lifecycle step. -/
def State.tamperAt (s : State) (mask level : Nat) : State :=
  let v := s.volatile
  { v with
    otp := if level = 2 then s.otp.takeLifecycle 3 else s.otp
    ret := v.ret.tampered mask level s.now
    pins := { v.pins with rotStatus := 3 }
    engines := s.engines.zeroise
    start := { power := .standby, phase := .tamperHalt, halt := .tamper
               eccCorrections := s.start.eccCorrections, pufAttempts := s.start.pufAttempts } }

/-- R98: a source fires at its level. -/
def State.tamper (s : State) (src : Nat) : State := s.tamperAt (2 ^ src) (s.otp.tamperLevel src)

/-! ### A start from ROM (R73-R82, R88, R98, R102, R607) -/

/-- R82: the start at which the device generates its DRS. -/
def State.generatesDrs (s : State) : Bool :=
  s.otp.closed.getLsbD 0 && !s.otp.closed.getLsbD 2 && !s.otp.closed.getLsbD 3 && s.otp.blank 2 && s.otp.blank 3 &&
    s.otp.lifecycleCode == 0

/-- R82, steps 1 to 3: the DRS drawn, the PUF enrolled, both written. -/
def State.generateDrs (s : State) : State :=
  let o := { s.otp with
    helper := padTo 1024 (Config.pufHelper s.draws)
    wrappedDrs := kwWrap (Config.pufKey (padTo 1024 (Config.pufHelper s.draws))) ((drawBytes s.draws).take 32) }
  ({ s with otp := o, start := { s.start with factory := true } } : State).generated

/-- R79, R99: TAMPER-HALT without a new record. -/
def State.tamperHalted (s : State) : State :=
  { s with start := { s.start with power := .standby, phase := .tamperHalt, halt := .tamper }
           pins := { s.pins with rotStatus := 3 } }

/-- Steps 3 to 6 of R104 with the OTP check passed and no tamper source active. -/
def State.bootChecked (s : State) (c : StartConds) : State :=
  let s := { s with start := { s.start with patched := true } }
  let s := (s.extendMr 0 (digestBytes Config.romDigest)).extendMr 0 (digestBytes (s.otp.regionDigest.getD 1 0))
  if s.otp.drsRevoked then s.tamperHalted
  else if 3 ≤ c.entropyFailures then
    { s with start := { s.start with power := .standby, phase := .entropyFail, halt := .entropy } }
  else
    let s := { s with start := { s.start with drbgUp := true, drbgSeededAt := s.clock.count } }
    if 3 ≤ c.pufFailures ∧ s.generatesDrs = false then
      { s with start := { s.start with power := .standby, halt := .fuse, pufAttempts := 3 }
               pins := { s.pins with rotStatus := 2 } }
    else
      let s := if s.generatesDrs then s.generateDrs else s
      { s with start := { s.start with power := .standby, phase := .standby, pufAttempts := min (c.pufFailures + 1) 3 } }

/-- R73, R98: a start from ROM, over VOLATILE state at its defaults. The tamper logic is armed from its first step, so a source
that is active fires whatever else the start would meet, past an OTP store that fails its check (log 91). `held`: the start
leaves a TAMPER-HALT, which stands, without a new record, until every source has been inactive for 1 s (R99). -/
def State.boot (s : State) (c : StartConds) (held : Bool) : State :=
  let s := { s with silicon := c, pins := { s.pins with presentLow := true }
                    start := { s.start with power := .standby, phase := .romCheck, eccCorrections := c.eccCorrected
                                            tokensAtStart := s.ret.tokens } }
  if s.otp.integrityOk c.eccUncorrectable = false then
    { s with start := { s.start with halt := .fuse }, pins := { s.pins with rotStatus := 2 } }
  else if c.tamperActive ≠ 0 then s.tamperAt c.tamperActive.toNat (s.otp.tamperLevels c.tamperActive)
  else if held = true ∧ c.tamperRecent ≠ 0 then s.tamperHalted
  else s.bootChecked c

/-- R102: a retention failure at a warm reset resets every RETAINED object and is recorded. -/
def Retained.checked (r : Retained) (c : StartConds) (now : Nat) : Retained :=
  if c.retentionFault then { pendingFaults := [{ code := 0x0D, time := now }] } else r

/-- FUSE-HALT and a revoked device leave only by the loss of STBY (R77, R554). -/
def State.resettable (s : State) : Bool :=
  s.pins.stby && s.start.power != .off && s.start.halt != .fuse && !s.otp.drsRevoked

/-- A start from ROM over what a warm reset keeps (R73, R102). -/
def State.restart (s : State) (c : StartConds) : State :=
  let v := s.volatile
  ({ v with ret := v.ret.checked c s.now } : State).boot c (s.start.halt == .tamper)

/-- A warm reset (04, "Starts, cold and warm"). -/
def State.warmReset (s : State) (c : StartConds) : State := if s.resettable then s.restart c else s

/-- What a cold start's RETAINED area holds: every default, every stack to be scrubbed (R431). -/
def Retained.cold : Retained := { stackScrub := 0xFFF }

/-- A cold start: STBY rises from OFF. -/
def State.coldStart (s : State) (c : StartConds) : State :=
  let v := s.volatile
  ({ v with ret := Retained.cold, clock := {}, pins := { v.pins with stby := true } } : State).boot c false

/-! ### Records a start extends (R88, R99, R102, R134, R561, R594) -/

/-- The next cut ends a debug session: a checkpoint, then the warm reset (R424). -/
def State.internalReset (s : State) : State := s.warmReset s.silicon

/-- R424: a debug session that ends: once no tide runs the checkpoint is cut (cause REQUEST, log 53), and the warm reset follows
its signing; without an Alias, at once. -/
def State.settleDebug (s : State) : State :=
  if s.start.debugEnd = 1 ∧ s.fabric.tide = none then
    if s.aliasExists then ({ s with start := { s.start with debugEnd := 2 } } : State).cut 3 else s.internalReset
  else s

/-- R125, R424: the warm reset that waits for a signing. A commit waits until its checkpoint has been posted. -/
def State.settleReset (s : State) : State :=
  if s.measure.signing.isNone ∧ s.measure.deferred.isNone then
    if s.keys.committing ∧ s.measure.checkpoints.isEmpty then
      ({ s with ret := { s.ret with commitTime := s.now, commitDue := true } } : State).internalReset
    else if s.start.debugEnd = 2 then s.internalReset
    else s
  else s

/-- R87: a set refused after the runtime has started keeps its failure record and causes a warm reset. -/
def State.refuseAfterRuntime (s : State) (code step : Nat) : State :=
  let r := { s.ret with
    setsRefused := bump s.ret.setsRefused
    failure := ⟨code, step, s.now⟩
    pendingFaults := s.ret.pendingFaults ++ [{ code := 0x0B, a := code, b := step, time := s.now }] }
  ({ s with ret := r } : State).internalReset

/-- R86: a set refused before its runtime runs is discarded whole. -/
def State.refuseSet (s : State) (code : Nat) : State :=
  { s with
    ret := { s.ret with setsRefused := bump s.ret.setsRefused }
    start := { s.start with setResult := code, load := none, running := none, phase := .awaitSet, source := 0 }
    causeway := { s.causeway with fw := if s.start.source = 2 then none else s.causeway.fw } }

end Sys2Proof.Machine
end

