-- ==== Sys2Proof/Machine/Rights.lean ====
section
/-! DEFINITION. Who may write what: channels, roles, the violation rule, the write lock and ignored writes (16, 17, R401). -/

namespace Sys2Proof.Machine

/-- A rights column: the host plane and the four Causeway roles. -/
structure Rights where
  h : Bool
  op : Bool
  au : Bool
  cu : Bool
  vs : Bool
  deriving DecidableEq, Repr

def Rights.all : Rights := ⟨true, true, true, true, true⟩
def Rights.nobody : Rights := ⟨false, false, false, false, false⟩
def Rights.cust : Rights := ⟨false, false, false, true, false⟩
def Rights.host : Rights := ⟨true, false, false, false, false⟩
def Rights.aud : Rights := ⟨false, false, true, false, false⟩
def Rights.hOpCu : Rights := ⟨true, true, false, true, false⟩
def Rights.opCu : Rights := ⟨false, true, false, true, false⟩
def Rights.hCu : Rights := ⟨true, false, false, true, false⟩

/-- Index of a channel's record in `Od.channels`. -/
def channelIndex : Channel → Nat
  | .bar0 _ => 0
  | .spdm i => 1 + i.val
  | .causeway i => 5 + i.val

/-- Plane code of OD 0x1F40.02 and 0x1420.01: 1 host, 2 Causeway. -/
def planeCode : Channel → Nat
  | .bar0 _ => 1
  | .spdm _ => 1
  | .causeway _ => 2

/-- Two accesses of one channel: the TEE bit does not make another mailbox. -/
def sameChannel (a b : Channel) : Bool := channelIndex a == channelIndex b

def Causeway.session (c : Causeway) (i : Nat) : CwSession := c.sessions.getD i {}

/-- The role a channel acts in: none on the host plane. -/
def State.roleOf (s : State) : Channel → Option Role
  | .causeway i => some (s.causeway.session i.val).role
  | _ => none

/-- Role codes of OD 0x1F40.02. -/
def roleCode : Option Role → Nat
  | none => 0
  | some .operator => 1
  | some .auditor => 2
  | some .custodian => 3
  | some .vendorService => 4

/-- A channel answers: the mailbox over a link that is up, a secured SPDM session, an open Causeway session; none in a halt
that answers identity only (R77, R79, R99, R497, R554). -/
def State.channelUp (s : State) (ch : Channel) : Bool :=
  s.start.power != .off && s.start.halt != .fuse && s.start.halt != .tamper &&
    match ch with
    | .bar0 _ => s.pins.pcieUp && !s.host.d3hot
    | .spdm i => s.pins.pcieUp && (s.hosting.sessions.getD i.val {}).phase == 2
    | .causeway i => (s.causeway.session i.val).phase == 2

/-- R519: the Vendor-Service session is co-signed. -/
def State.cosigned (s : State) (i : Nat) : Bool :=
  s.causeway.grant.1 == (s.causeway.session i).certDigest && decide (s.now < s.causeway.grant.2)

/-- A rights column admits the channel; R483 narrows the writes of a Vendor-Service session without co-signature. -/
def State.permits (s : State) (ch : Channel) (r : Rights) : Bool :=
  match ch with
  | .causeway i =>
    match (s.causeway.session i.val).role with
    | .operator => r.op
    | .auditor => r.au
    | .custodian => r.cu
    | .vendorService => r.vs
  | _ => r.h

/-- Write right of a channel on an object (R483). -/
def State.mayWrite (s : State) (ch : Channel) (index sub : Nat) (r : Rights) : Bool :=
  s.permits ch r &&
    match s.roleOf ch, ch with
    | some .vendorService, .causeway i => s.cosigned i.val || (index == 0x2040 && sub == 1)
    | _, _ => true

/-- R401: a host access outside the TEE stream in CONFIG_LOCKED or RUN. -/
def State.teeBlocked (s : State) : Channel → Bool
  | .bar0 tee => !tee && (s.hosting.tdi == .locked || s.hosting.tdi == .run)
  | _ => false

/-- R482: the access is counted for the Auditor. -/
def State.countTee (s : State) : State := { s with ret := { s.ret with teeRefused := bump s.ret.teeRefused } }

/-- R101: the objects that answer before the runtime runs. -/
def earlyObject (index sub : Nat) : Bool :=
  index == 0x1001 || (decide (0x2001 ≤ index) && decide (index ≤ 0x2007) && !(index == 0x2003 && decide (2 ≤ sub))) ||
    index == 0x2010

/-- R101: the object does not answer yet. -/
def State.notYet (s : State) (index sub : Nat) : Bool := !s.start.runtime && !earlyObject index sub

/-- R478, R479: an access without right. `kind` is 1 read, 2 write. -/
def State.violate (s : State) (ch : Channel) (index sub kind : Nat) : State :=
  { s with ret := { s.ret with
      violations := bump s.ret.violations
      lastViolation := ⟨planeCode ch, roleCode (s.roleOf ch), index, sub, kind, s.now⟩ } }

/-- R485: a permitted write ignored. -/
def State.ignoreWrite (s : State) (index sub : Nat) : State :=
  { s with od := { s.od with ignored := bump s.od.ignored, lastIgnored := (index, sub, s.now) } }

def Od.channel (o : Od) (ch : Channel) : ChannelState := o.channels.getD (channelIndex ch) {}

/-- R494: another channel holds the lock. -/
def State.lockedOut (s : State) (ch : Channel) : Bool :=
  match s.od.lock with
  | none => false
  | some (k, _) => !sameChannel k ch

/-- Result codes of R509. -/
def resOk : Nat := 0
def resMalformed : Nat := 1
def resSequence : Nat := 2
def resLocked : Nat := 3
def resTooLong : Nat := 4
def resIgnored : Nat := 6
def resOpen : Nat := 7

/-- A write that has the right and the lock: its effect, or R485 where the object does not accept it. -/
def State.applyWrite (s : State) (index sub : Nat) (f : State → Option State) : State × Nat :=
  match f s with
  | some s' => (s', resOk)
  | none => (s.ignoreWrite index sub, resIgnored)

/-- A whole write of an object on a channel with no long transfer of its own to continue: R401, R101, R478, R492, R494,
R485 in that order. The second component is the result code; a write that R401 or R101 drops answers 0. -/
def State.odWrite (s : State) (ch : Channel) (index sub : Nat) (r : Rights) (f : State → Option State) : State × Nat :=
  if !s.channelUp ch then (s, resOk)
  else if s.teeBlocked ch then (s.countTee, resOk)
  else if s.notYet index sub then (s, resOk)
  else if !s.mayWrite ch index sub r then (s.violate ch index sub 2, resOk)
  else if (s.od.channel ch).opened.isSome then (s, resOpen)
  else if s.lockedOut ch then (s, resLocked)
  else s.applyWrite index sub f

/-- A frame or a message of a channel restarts its idle timer (R405, R517) and counts for its session's frame limit. -/
def State.touch (s : State) (ch : Channel) : State :=
  if s.channelUp ch then
    match ch with
    | .bar0 _ => s
    | .spdm i => { s with hosting := { s.hosting with
        sessions := modifyAt s.hosting.sessions i.val fun x => { x with lastMessage := s.clock.count } } }
    | .causeway i => { s with causeway := { s.causeway with
        sessions := modifyAt s.causeway.sessions i.val fun x =>
          { x with lastFrame := s.clock.count, framesIn := x.framesIn + 1, framesOut := x.framesOut + 1 } } }
  else s

/-- The state an OD-write row leaves. -/
def State.odRow (s : State) (ch : Channel) (index sub : Nat) (r : Rights) (f : State → Option State) : State :=
  ((s.touch ch).odWrite ch index sub r f).1

/-- The conditions on state and channel under which a permitted write reaches its object. -/
def State.writeReaches (s : State) (ch : Channel) (index sub : Nat) (r : Rights) : Bool :=
  s.channelUp ch && !s.teeBlocked ch && !s.notYet index sub && s.mayWrite ch index sub r &&
    (s.od.channel ch).opened.isNone && !s.lockedOut ch

/-! ### The end of a Causeway session (R517, R522, R493, R501) -/

/-- The channel's open transfer ends as by ABORT; a long write's lock is released. -/
def Od.closeTransfer (o : Od) (k : Nat) : Od :=
  let o := { o with channels := modifyAt o.channels k fun c => { c with opened := none } }
  match o.lock with
  | some (h, _) => if channelIndex h = k then { o with lock := none } else o
  | none => o

/-- The update under check is the Causeway's. -/
def Start.causewayUpdate (x : Start) : Bool := (x.update.map fun l => !l.fromHost).getD false

/-- R522: a Causeway delivery whose session ends before FW-END is refused with 0x0A; R86, R87 or R124 applies to it, and a set
that the host delivers stands (R94). -/
def State.refuseDelivery (s : State) (code : Nat) : State :=
  let s := { s with causeway := { s.causeway with fw := none } }
  if s.up then { s with start := { s.start with setResult := code, update := if s.start.causewayUpdate then none else s.start.update } }
  else if (s.start.load.map (·.fromHost)).getD false then
    { s with ret := { s.ret with setsRefused := bump s.ret.setsRefused }, start := { s.start with setResult := code } }
  else if s.start.runtime then s.refuseAfterRuntime code 11
  else s.refuseSet code

/-- Number of no session: a budget whose session has ended can no longer be replaced (R523). -/
def noSession : Nat := 8

/-- The budget of a session that ends. -/
def Budget.orphan (i : Nat) (b : Budget) : Budget := if b.session = i then { b with session := noSession } else b

/-- R517, R136: a session ends and its keys are cleared; its budgets stand (R523; log 62). -/
def State.endCauseway (s : State) (i : Nat) : State :=
  let s := { s with
    causeway := { s.causeway with
      sessions := modifyAt s.causeway.sessions i fun _ => {}
      budgets := s.causeway.budgets.map (Budget.orphan i) }
    od := s.od.closeTransfer (5 + i) }
  match s.causeway.fw with
  | some t => if t.session = i ∧ t.ended = false then s.refuseDelivery 0x0A else s
  | none => s

end Sys2Proof.Machine
end

