-- ==== Sys2Proof/Machine/FirmwareSet.lean ====
section
/-! DEFINITION. The manifest of a firmware set, its acceptance, step 12 of the start, and the release of the dies (04, 05, 19). -/

namespace Sys2Proof.Machine

/-- Offset of the first item: key block, manifest and signature block before it (04, "The firmware set"). -/
def setHeadSize : Nat := 2112 + 448 + 3456

/-- Item table: SVN counter of an item type. -/
def svnCounterOf : Nat → Nat
  | 1 => 0 | 6 => 1 | 2 => 2 | 5 => 2 | _ => 3

/-- Item table: maximum size. -/
def itemMax : Nat → Nat
  | 1 => 384 * 1024 | 6 => 2 * 1048576 | 2 => 1048576 | 5 => 4 * 1048576 | _ => 8 * 1048576

/-- Item k of a manifest. -/
def itemOf (m : Bytes) (k : Nat) : SetItem :=
  let b := slice m (64 + 64 * k) 64
  { type := leField b 0 1, svn := leField b 1 1, size := leField b 4 4, offset := leField b 8 8, digest := digestOf (slice b 16 48) }

def manifestOf (m : Bytes) : Manifest :=
  { version := leField m 16 8, digest := sha384 m, items := (List.range 6).map (itemOf m) }

/-- The format tables of Model (R83): magic, format, counts, zero fields, the six item types with the runtime first. -/
def manifestFormatOk (m : Bytes) : Bool :=
  m.length == 448 && leField m 0 4 == 0x5541524D && leField m 4 2 == 1 && leField m 6 2 == 6 && leField m 8 4 == 448 &&
    decide (leField m 12 1 < 4) && decide (leField m 15 1 ≤ 1) && allZero (slice m 24 40) &&
    ((List.range 6).all fun k => allZero (slice m (64 + 64 * k + 2) 2) && decide (leField m (64 + 64 * k + 1) 1 ≤ 64)) &&
    leField m 64 1 == 1 && ([1, 2, 3, 4, 5, 6].all fun t => ((manifestOf m).items.filter fun i => i.type == t).length == 1)

/-- Sizes and offsets of the item table: multiples of 64, within the maximum and the delivery stream (R105). -/
def manifestSizesOk (m : Bytes) (len : Nat) : Bool :=
  decide (len ≤ 32 * 1048576) && (manifestOf m).items.all fun i =>
    i.size % 64 == 0 && i.offset % 64 == 0 && decide (i.size ≤ itemMax i.type) && decide (setHeadSize ≤ i.offset) &&
      decide (i.offset + i.size ≤ len)

/-- R84: no item below its counter. -/
def svnOk (o : Otp) (m : Bytes) : Bool :=
  (manifestOf m).items.all fun i => decide (o.svnValue (svnCounterOf i.type) ≤ i.svn)

/-- R83, R84: the checks of the manifest stage; 0 accepts. Of several that fail, the first in this order gives the code (log 63). -/
def setCheck (o : Otp) (img : SetImage) (len : Nat) : Nat :=
  let anchor := if leField img.manifest 15 1 = 1 then o.anchorSecondary else o.anchorPrimary
  if img.fetchFault then 0x0A
  else if sha384 img.keyBlock ≠ anchor then 0x03
  else if !img.ecdsaOk then 0x01
  else if !img.mldsaOk then 0x02
  else if !manifestFormatOk img.manifest then 0x08
  else if !bit (leField img.manifest 12 1) o.grade.maskBit || leField img.manifest 13 1 != 0xB1 || leField img.manifest 14 1 != 1
    then 0x04
  else if !svnOk o img.manifest then 0x05
  else if !manifestSizesOk img.manifest len then 0x07
  else 0

/-- A Causeway delivery is under way. -/
def State.fwRunning (s : State) : Bool :=
  match s.causeway.fw with
  | some t => !t.ended
  | none => false

/-- A delivery is in progress (R94, R521). -/
def State.loading (s : State) : Bool := s.start.load.isSome || s.start.update.isSome

/-- A refusal that leaves the load in progress alone (R94, R610). -/
def State.refuseBusy (s : State) : State :=
  { s with ret := { s.ret with setsRefused := bump s.ret.setsRefused }, start := { s.start with setResult := 0x09 } }

/-- R94: as one plane's manifest is accepted, a Causeway delivery under way is refused if the accepted one is the host's. -/
def State.refuseOther (s : State) (fromHost : Bool) : State :=
  if fromHost && s.fwRunning then ({ s with causeway := { s.causeway with fw := none } } : State).refuseBusy else s

/-- The head of a delivery has arrived: R83, R84, R86, R94, R123, R124, R610. -/
def State.deliver (s : State) (fromHost : Bool) (len : Nat) (img : SetImage) : State :=
  if s.loading || !s.pins.modResetN then s.refuseBusy
  else
    let code := setCheck s.otp img len
    let s := if fromHost && code == 0 then s.takeF0 else s
    let l : SetLoad := ⟨fromHost, manifestOf img.manifest, 0, s.host.f0Requests⟩
    if s.up then
      if code = 0 then ({ s with start := { s.start with update := some l } } : State).refuseOther fromHost
      else { s with start := { s.start with setResult := code } }
    else if code = 0 then
      ({ s with start := { s.start with
          load := some l, phase := .loading, running := some l.manifest, source := if fromHost then 1 else 2 } } : State).refuseOther fromHost
    else s.refuseSet code

/-! ### The key store (R111, R117) -/

def KeyName.index : KeyName → Nat
  | .root => 0 | .cdi0 => 1 | .cdi1 => 2 | .idevidEc => 3 | .idevidMl => 4 | .aliasEc => 5 | .aliasMl => 6
  | .bindEc => 7 | .bindKem => 8 | .sealing => 9 | .prevBindEc => 10 | .prevBindKem => 11

/-- A key put into its entry over the sealed key bus, by way of the WKR. -/
def State.putKey (s : State) (n : KeyName) (k : Bytes) : State :=
  let r := s.transfer k
  { r.1 with keys := { r.1.keys with store := SMap.set none r.1.keys.store n.index (some ⟨n, r.2⟩) } }

/-- What an entry of the store holds, as shares. -/
def State.entryOf (s : State) (n : KeyName) : Option MaskedKey := (SMap.get none s.keys.store n.index).map (·.held)

/-- A key of the store; empty when it is not there. -/
def State.keyOf (s : State) (n : KeyName) : Bytes := ((s.entryOf n).map MaskedKey.key).getD []

/-- A key-port slot takes the shares of an entry. -/
def State.loadPort (s : State) (c : BnCtx) (n : KeyName) : State :=
  { s with engines := match c with
      | .long => { s.engines with long := { s.engines.long with keyPort := s.entryOf n } }
      | .short => { s.engines with short := { s.engines.short with keyPort := s.entryOf n } } }

def State.dropKey (s : State) (n : KeyName) : State :=
  { s with keys := { s.keys with store := SMap.set none s.keys.store n.index none } }

/-! ### Step 12 of R104 -/

/-- R89: the octets under the OTP summary. -/
def otpSummary (o : Otp) : Bytes :=
  ((List.range 6).flatMap fun k => if o.closed.getLsbD k then digestBytes (o.regionDigest.getD k 0) else []) ++
    (o.caSlots.flatMap fun c => match c with | none => [] | some k => digestBytes k.digest) ++
    [o.lifecycleCode, o.svnValue 0, o.svnValue 1, o.svnValue 2, o.svnValue 3, if o.drsRevoked then 1 else 0,
     o.epochValue].map (BitVec.ofNat 8 ·)

def RootKind.code : RootKind → Nat
  | .drs => 0
  | .test => 1
  | .none => 2

/-- The 4-byte record of MR8 (13). -/
def securityRecord (o : Otp) (d : DebugCond) : Bytes :=
  [o.lifecycleCode, d.code, if d.debugClass then 1 else 0, 0].map (BitVec.ofNat 8 ·)

/-- A token still in force at a time (R560). -/
def liveToken (t : Option TokenInForce) (now : Nat) : Option TokenInForce :=
  t.bind fun k => if k.expiry ≤ now then none else some k

/-- R422: the highest scope in force. -/
def selectCondition (tokens : List (Option TokenInForce)) (now : Nat) : DebugCond :=
  if (liveToken (tokens.getD 2 none) now).isSome then .vendor
  else if (liveToken (tokens.getD 1 none) now).isSome then .debug
  else if (liveToken (tokens.getD 0 none) now).isSome then .profile
  else .sealed

/-- A token of this start's beginning, unless its scope has been withdrawn (R109: one accepted since acts only at the next
start). -/
def Retained.standing (r : Retained) (k : Nat) (t : Option TokenInForce) : Option TokenInForce :=
  if (r.tokens.getD k none).isSome then t else none

/-- The tokens that this start's condition comes from (R109, R422). -/
def State.startTokens (s : State) : List (Option TokenInForce) := s.start.tokensAtStart.mapIdx s.ret.standing

/-- R107, R109, R422: the debug condition and the root of this start. -/
def State.selectRoot (s : State) : State :=
  let d := selectCondition s.startTokens s.now
  { s with start := { s.start with condition := d }
           keys := { s.keys with root := if d.debugClass then .test else .drs } }

/-- R88, steps 4 and 5. -/
def State.extendSecurity (s : State) : State :=
  (s.extendMr 7 (digestBytes (sha384 (otpSummary s.otp)))).extendMr 8 (securityRecord s.otp s.start.condition)

/-- R594: the record that says receipts were made and not written. -/
def State.chainCut (s : State) : State :=
  if s.ret.receiptsWritten < s.ret.receiptsMade then
    s.extendFault { code := 0x10, tide := s.ret.receiptsWritten, a := s.ret.receiptsMade - s.ret.receiptsWritten,
                    time := s.now, head := some s.ret.headWritten }
  else s

/-- R88 step 6, R99, R102, R134, R560, R561, R594: records held for this start. -/
def State.extendPending (s : State) : State :=
  let s := s.ret.pendingFaults.foldl State.extendFault s
  let s := s.chainCut
  let s := s.ret.pendingWithdrawals.foldl (fun s w => s.extendMr 12 (eventRecord 3 w.1 w.2)) s
  let expired := s.ret.tokens.filterMap fun t => t.bind fun k => if k.expiry ≤ s.now then some k.digest else none
  let s := expired.foldl (fun s d => s.extendMr 12 (eventRecord 2 d s.now)) s
  let s := match s.ret.pendingZeroise with
    | none => s
    | some t => s.extendMr 15 (keyRecord 0x0A 0 0 t)
  { s with ret := { s.ret with
      pendingFaults := [], pendingWithdrawals := [], pendingZeroise := none, receiptsMade := 0, receiptsWritten := 0,
      tokens := s.ret.tokens.map fun t => liveToken t s.now } }

def dayNs : Nat := 86400 * 1000000000

/-- R131: the previous epoch still unwraps bundles. -/
def State.bindingOverlapRuns (s : State) : Bool :=
  match s.ret.bindingAdvancedAt with
  | none => false
  | some t => decide (s.clock.count < t + s.ret.bindingOverlap * dayNs)

/-- R111, R112: the Binding key of the fused epoch (its EC seed goes to SHORT's key port, log 9), and that of the epoch before while its overlap runs (R131). -/
def State.deriveBinding (s : State) : State :=
  let root := s.keyOf .root
  let e := s.otp.epochValue
  let sd := bindSeeds root s.otp.serial e
  let s := (s.putKey .bindEc sd.1).putKey .bindKem sd.2
  let s := ({ s with keys := { s.keys with bindPub := bindingPub sd.1 sd.2 } } : State).loadPort .short .bindEc
  if s.bindingOverlapRuns then
    let pd := bindSeeds root s.otp.serial (e - 1)
    let s := (s.putKey .prevBindEc pd.1).putKey .prevBindKem pd.2
    { s with keys := { s.keys with prevBindPub := bindingPub pd.1 pd.2 } }
  else s

/-- MR0 to MR8 as a certificate carries them. -/
def State.bootMrs (s : State) : List Digest := s.measure.mrs.take 9

/-- The IDevID's seeds as the key store holds them. -/
def State.idevidSigner (s : State) : Signer := ⟨s.keyOf .idevidEc, s.keyOf .idevidMl⟩

/-- The Alias's seeds as the key store holds them. -/
def State.aliasSigner (s : State) : Signer := ⟨s.keyOf .aliasEc, s.keyOf .aliasMl⟩

/-- R115, R126: the Alias of this start (its EC seed goes to LONG's key port, log 9), its certificate, and the comparison after a commit. -/
def State.deriveAlias (s : State) : State :=
  let sd := aliasSeeds (s.keyOf .cdi1) s.otp.serial
  let pub := hybridPub sd.1 sd.2
  let s := (s.putKey .aliasEc sd.1).putKey .aliasMl sd.2
  let s := (s.putKey .sealing (sealingOf (s.keyOf .cdi1) s.otp.serial)).loadPort .long .aliasEc
  let r := s.issueCert 2 pub s.idevidSigner s.bootMrs
  let s := { r.1 with keys := { r.1.keys with aliasPub := pub, wrapSlot := r.1.entryOf .sealing, aliasCert := r.2 } }
  match s.ret.commitDue, s.ret.pendingAlias with
  | true, some p =>
    let s := if sha384 p = sha384 pub then s.keyEvent 3 0 (sha384 pub) else s.keyEvent 4 0 (sha384 p)
    { s with ret := { s.ret with commitDue := false, pendingAlias := none } }
  | _, _ => { s with ret := { s.ret with commitDue := false } }

/-- R558: the IDevID certificate served under the test root, issued by the debug manufacturing key. -/
def State.issueDebugCert (s : State) (pub : Bytes) : State :=
  let r := s.issueCert 1 pub ⟨debugRootSeeds.1, debugRootSeeds.2⟩ []
  { r.1 with keys := { r.1.keys with debugIdevidCert := r.2 } }

/-- R558: under the test root, step 12 issues it. -/
def State.debugCert (s : State) : State :=
  if s.start.condition.debugClass then s.issueDebugCert s.keys.idevidPub else s

/-- R107-R116, R126, R134: the layer keys, and the identity comparison under the DRS. At the factory's first start, whose region 3 bears
no digest yet, nothing is compared (R82; log 100). -/
def State.deriveKeys (s : State) : State :=
  let root := s.otp.rootSecret s.start.condition.debugClass
  let s := (s.putKey .root root).keyEvent 1 0 0
  let c0 := cdi0Of root (s.mr 0) (s.mr 7) (s.mr 8)
  let c1 := cdi1Of c0 [s.mr 1, s.mr 2, s.mr 3, s.mr 4, s.mr 5, s.mr 6]
  let s := (s.putKey .cdi0 c0).putKey .cdi1 c1
  let sd := idevidSeeds root s.otp.serial
  let s := (s.putKey .idevidEc sd.1).putKey .idevidMl sd.2
  let s := ({ s with keys := { s.keys with idevidPub := hybridPub sd.1 sd.2 } } : State).debugCert
  if s.start.condition.debugClass = false ∧ sha384 s.keys.idevidPub ≠ s.otp.idevidKeyDigest ∧ s.start.factory = false then
    { s with keys := { s.keys with identityFault := true }, start := { s.start with halt := .identity } }
  else s.deriveAlias.deriveBinding

/-- Step 12: the security state measured, held records extended, keys derived; from here on the time outputs serve (R554), and a
retained TIME_REF code locks (log 61). -/
def State.step12 (s : State) : State :=
  let s := s.selectRoot.extendSecurity.extendPending.deriveKeys
  { s with start := { s.start with step12 := true }
           time := { s.time with refState := if s.ret.timeRef = 0 then 0 else 1 } }

/-! ### Release (step 13; R96, R532) -/

/-- A die released, or left offline by a failed governor or VFAB ramp. -/
def releasedDie (ok : Bool) (idle : Nat) (d : Die) : Die :=
  { d with online := ok, vfabOn := ok, vioOn := ok, vhbmOn := ok, setpoint := if ok then idle else 0, slack := idle }

/-- A governor that stayed silent through its restarts at release has failed (04, Collisions). -/
def failedGovernor (govFail : BitVec 12) (now g : Nat) (x : Governor) : Governor :=
  let x := { x with commandAt := now }
  if 1 ≤ g ∧ govFail.getLsbD (g - 1) = true then { x with state := .failed } else x

/-- The records of dies left offline (R96; code 0x08, A = 4). -/
def State.recordStartFailures (s : State) (mask : BitVec 12) : State :=
  (List.range 12).foldl (fun s n =>
    if mask.getLsbD n then s.fault { code := 8, die := n, a := 4, time := s.now } else s) s

/-- R97, R439: enabled ports of released dies begin to train. -/
def trainPort (ok : Bool) (enable : Nat) (p : Port) : Port := p.fresh (if ok && bit enable 0 then .training else .disabled)

/-- Step 13: supplies ramped, governors released; HBM and Strait training begin. -/
def State.release (s : State) (govFail vfabFail : BitVec 12) : State :=
  let bad := govFail ||| vfabFail
  let s := { s with
    fabric := { s.fabric with dies := s.fabric.dies.mapIdx fun n d => releasedDie (!bad.getLsbD n) s.ret.idleSetpoint d }
    power := { s.power with governors := s.power.governors.mapIdx (failedGovernor govFail s.clock.count) }
    straits := { s.straits with
      ports := s.straits.ports.mapIdx fun n p => trainPort (!bad.getLsbD n) (s.ret.portEnable.getD n 0) p }
    start := { s.start with phase := .training } }
  s.recordStartFailures bad

/-- The chain claim names the latest checkpoint signed before the start (R374). -/
def State.nameLastSigned (s : State) : State := { s with measure := { s.measure with named := s.ret.lastSigned } }

/-- An item whose digest compares EQUAL: its register is extended, its target released (R85, R88). -/
def State.acceptItem (s : State) (l : SetLoad) (i : SetItem) : State :=
  let s := s.extendMr i.type (digestBytes i.digest)
  let s := { s with start := { s.start with
      load := some { l with done := l.done + 1 }, released := s.start.released ++ [i.type],
      runtime := s.start.runtime || i.type == 1, causewayRuntime := s.start.causewayRuntime || i.type == 6 } }
  if i.type = 1 then s.nameLastSigned else s

/-- A Causeway delivery is complete: nothing of it is left to be refused (R522). -/
def State.endTransfer (s : State) (fromHost : Bool) : State :=
  if fromHost then s else { s with causeway := { s.causeway with fw := s.causeway.fw.map fun t => { t with ended := true } } }

/-- All six items are in: OD 0x2002.01 reads OK (log 98); step 12, then the release unless the identity comparison stopped the start (R113). -/
def State.loadComplete (s : State) (govFail vfabFail : BitVec 12) : State :=
  let s := ({ s with start := { s.start with load := none, phase := .releasing, setResult := 0 } } : State).endTransfer (s.start.source == 1)
  let s := s.step12
  if s.start.halt = .identity then s else s.release govFail vfabFail

end Sys2Proof.Machine
end

