-- ==== Sys2Proof/Machine/BigNumRows.lean ====
section
/-! DEFINITION. The big-number engine: two contexts, their arithmetic, yields, sealed words and alarms (06). -/

namespace Sys2Proof.Machine

def Engines.ctx (e : Engines) : BnCtx → BnContext
  | .long => e.long
  | .short => e.short

def Engines.modCtx (e : Engines) (c : BnCtx) (f : BnContext → BnContext) : Engines :=
  match c with
  | .long => { e with long := f e.long }
  | .short => { e with short := f e.short }

def BnContext.word (c : BnContext) (i : BitVec 12) : BitVec 128 := SMap.get 0 c.words i.toNat

/-- The accumulator and the carry of adding or subtracting in `w` bits (R160). -/
def accStep (w : Nat) (acc : Nat) (p : Nat) (sub : Bool) : Nat × Bool :=
  if sub then ((acc + 2 ^ w - p % 2 ^ w) % 2 ^ w, decide (acc < p))
  else ((acc + p) % 2 ^ w, decide (2 ^ w ≤ acc + p))

/-- WMAC on the accumulator (06, R160). -/
def wmacAcc (acc : BitVec 384) (a b : BitVec 128) (f : BnFlags) : BitVec 384 × Bool :=
  let start := if f.clr then 0 else acc.toNat
  let r := accStep 384 start (a.toNat * b.toNat) f.sub
  (BitVec.ofNat 384 r.1, r.2)

/-- LMAC: four lanes of 32 bits into four of 96 (06, R160). -/
def lmacAcc (acc : BitVec 384) (a b : BitVec 128) (f : BnFlags) : BitVec 384 × Bool :=
  let start := if f.clr then 0 else acc.toNat
  let lane (k : Nat) : Nat × Bool :=
    accStep 96 (field start (96 * k) 96) (field a.toNat (32 * k) 32 * field b.toNat (32 * k) 32) f.sub
  let sum := (List.range 4).foldl (fun t k => t + (lane k).1 * 2 ^ (96 * k)) 0
  (BitVec.ofNat 384 sum, (List.range 4).any fun k => (lane k).2)

/-- What OUT writes: the low 128 bits, or the low 32 bits of each lane. -/
def bnOut (lanes : Bool) (acc : BitVec 384) : BitVec 128 :=
  if lanes then
    BitVec.ofNat 128 ((List.range 4).foldl (fun t k => t + field acc.toNat (96 * k) 32 * 2 ^ (32 * k)) 0)
  else BitVec.ofNat 128 acc.toNat

/-- SHR: the accumulator by 128 bits, or each lane by 32. -/
def bnShift (lanes : Bool) (acc : BitVec 384) : BitVec 384 :=
  if lanes then
    BitVec.ofNat 384 ((List.range 4).foldl (fun t k => t + (field acc.toNat (96 * k) 96 / 2 ^ 32) * 2 ^ (96 * k)) 0)
  else acc >>> 128

/-- A word index is an open or a sealed word (06). -/
def wordOk (i : BitVec 12) : Bool := decide (i.toNat < 0x900)

/-- One arithmetic command whole (R159, R160); an index out of range ends the job with ERR_ADDR. -/
def BnContext.mac (c : BnContext) (lanes : Bool) (f : BnFlags) (a b dst : BitVec 12) : BnContext :=
  if !(wordOk a && wordOk b && wordOk dst) then { c with err := 0x0B, job := false, queue := [] }
  else
    let r := if lanes then lmacAcc c.acc (c.word a) (c.word b) f else wmacAcc c.acc (c.word a) (c.word b) f
    { c with
      acc := if f.shr then bnShift lanes r.1 else r.1
      carry := c.carry || r.2
      words := if f.out then SMap.set 0 c.words dst.toNat (bnOut lanes r.1) else c.words }

/-- KEYLOAD: the key-port slot into four consecutive sealed words from DST (R164). -/
def BnContext.keyload (c : BnContext) (dst : BitVec 12) : BnContext :=
  if dst.toNat < 0x800 ∨ 0x8FF < dst.toNat + 3 then { c with err := 0x0D, job := false, queue := [] }
  else match c.keyPort with
    | none => { c with err := 3, job := false, queue := [] }
    | some k =>
      let w := (k.share0 ^^^ k.share1).toNat
      { c with words := SMap.setMany 0 c.words dst.toNat ((List.range 4).map fun i => BitVec.ofNat 128 (field w (128 * i) 128)) }

/-- What one command does to a context. -/
def BnContext.act (c : BnContext) : BnCmd → BnContext
  | .mac lanes f a b dst => c.mac lanes f a b dst
  | .keyload dst => c.keyload dst
  | .fin => { c with job := false }

/-- One command completed for the holder: the lease's timer restarts (R165). -/
def BnContext.run (now : Nat) (c : BnContext) (cmd : BnCmd) : BnContext := { c.act cmd with lastDone := now }

/-- What is queued behind the END of the present job. -/
def laterJobs : List BnCmd → List BnCmd
  | [] => []
  | .fin :: q => q
  | _ :: q => laterJobs q

/-- At most `n` queued commands executed in order, up to the END of the job (R159); a job that ends in an error takes its own
remaining commands with it. The second component counts the commands done. -/
def BnContext.drain (now : Nat) : Nat → BnContext → List BnCmd → BnContext × Nat
  | _, c, [] => ({ c with queue := [] }, 0)
  | 0, c, q => ({ c with queue := q }, 0)
  | n + 1, c, cmd :: q =>
    let c := c.run now cmd
    if c.job then
      let r := c.drain now n q
      (r.1, r.2 + 1)
    else ({ c with queue := if c.err = 0 then q else laterJobs q }, 1)

/-- A job begins. -/
def BnContext.begin (c : BnContext) : BnContext := { c with job := true, err := 0 }

/-- The yield quantum in force and the timebase count, as the scheduler sees them. -/
structure BnEnv where
  quantum : Nat
  now : Nat
  deriving DecidableEq, Repr

def State.bnEnv (s : State) : BnEnv := ⟨s.ret.yieldQuantum, s.clock.count⟩

/-- The next queued SHORT job runs to its END (R162). -/
def Engines.runShort (e : Engines) (v : BnEnv) : Engines :=
  { e with short := (e.short.begin.drain v.now e.short.queue.length e.short.queue).1, bnRunning := some .short }

/-- A yielded context's timer goes on where it stood (R165). -/
def Engines.resumed (e : Engines) (c : BnContext) (now : Nat) : BnContext :=
  if e.longYielded then { c with lastDone := c.lastDone + (now - e.yieldedAt) } else c

/-- LONG starts or resumes with what is queued for it; while a SHORT job is queued it stops at a quantum (R161). `done` counts the
commands of this run so far. -/
def Engines.runLong (e : Engines) (c : BnContext) (done : Nat) (v : BnEnv) : Engines :=
  let r := (e.resumed c v.now).drain v.now (if e.short.queue.isEmpty then c.queue.length else v.quantum - done) c.queue
  { e with long := r.1, bnRunning := some .long, longYielded := false, longDone := done + r.2, longQuantum := v.quantum }

/-- What runs once the job of `c` has ended: a yielded LONG resumes after a SHORT job (R162); else a queued job of the other context,
then one of its own. -/
def Engines.schedule (v : BnEnv) : Nat → Engines → BnCtx → Engines
  | 0, e, _ => { e with bnRunning := none }
  | n + 1, e, c =>
    if (e.ctx c).job then { e with bnRunning := some c }
    else match c with
      | .short =>
        if e.longYielded then (e.runLong e.long 0 v).schedule v n .long
        else if e.long.queue ≠ [] then (e.runLong e.long.begin 0 v).schedule v n .long
        else if e.short.queue ≠ [] then (e.runShort v).schedule v n .short
        else { e with bnRunning := none }
      | .long =>
        if e.short.queue ≠ [] then (e.runShort v).schedule v n .short
        else if e.long.queue ≠ [] then (e.runLong e.long.begin 0 v).schedule v n .long
        else { e with bnRunning := none }

/-- The engine after a command of `c` has completed. -/
def Engines.settle (e : Engines) (c : BnCtx) (v : BnEnv) : Engines :=
  e.schedule v (e.long.queue.length + e.short.queue.length + 2) c

/-- R161: LONG stands at a boundary where it yields: a quantum has completed since it last started or resumed, and a SHORT job is
queued. -/
def Engines.yieldDue (e : Engines) : Bool :=
  e.bnRunning == some .long && decide (e.longQuantum ≤ e.longDone) && !e.short.queue.isEmpty

/-- A command waits in its context's queue; the first of a job starts the lease's timer. -/
def BnContext.enqueue (c : BnContext) (cmd : BnCmd) (now : Nat) : BnContext :=
  { c with queue := c.queue ++ [cmd], lastDone := if c.job || !c.queue.isEmpty then c.lastDone else now }

/-- A command to a context: it executes when the context runs and nothing waits ahead of it, and waits in the context's queue
otherwise (R159, R161). -/
def Engines.command (e : Engines) (c : BnCtx) (cmd : BnCmd) (v : BnEnv) : Engines :=
  match e.bnRunning with
  | none =>
    let e := e.modCtx c fun x => x.begin.run v.now cmd
    ({ e with
      longDone := if c = .long then 1 else e.longDone
      longQuantum := if c = .long then v.quantum else e.longQuantum } : Engines).settle c v
  | some r =>
    if r = c ∧ (e.ctx c).queue = [] ∧ (c = .long → e.yieldDue = false) then
      let e := e.modCtx c fun x => x.run v.now cmd
      ({ e with longDone := if c = .long then e.longDone + 1 else e.longDone } : Engines).settle c v
    else e.modCtx c fun x => x.enqueue cmd v.now

/-- WMAC (R159, R160). -/
def execWmac (c : BnCtx) (f : BnFlags) (a b dst : BitVec 12) (s : State) : Host.Outcome State Fault Refusal :=
  .next { s with engines := s.engines.command c (.mac false f a b dst) s.bnEnv }

/-- LMAC (R159, R160). -/
def execLmac (c : BnCtx) (f : BnFlags) (a b dst : BitVec 12) (s : State) : Host.Outcome State Fault Refusal :=
  .next { s with engines := s.engines.command c (.mac true f a b dst) s.bnEnv }

/-- KEYLOAD (R164). -/
def execKeyload (c : BnCtx) (dst : BitVec 12) (s : State) : Host.Outcome State Fault Refusal :=
  .next { s with engines := s.engines.command c (.keyload dst) s.bnEnv }

/-- BN_END: the job closes; after a SHORT job LONG resumes (R162). -/
def execBnEnd (c : BnCtx) (s : State) : Host.Outcome State Fault Refusal :=
  .next { s with engines := s.engines.command c .fin s.bnEnv }

/-- BN_YIELD: LONG has completed a quantum since it started or resumed and a SHORT job is queued (R161). -/
def execBnYield (s : State) : Host.Outcome State Fault Refusal :=
  .next (if s.engines.yieldDue then
    let e := { s.engines with longYielded := true, yieldedAt := s.clock.count, yields := bump s.engines.yields, longDone := 0 }
    { s with engines := (e.runShort s.bnEnv).settle .short s.bnEnv }
  else s)

/-- BN_SEALED_ACCESS: a processor access to a sealed word or key-port slot reads zero, is ignored and counted (R163). -/
def execBnSealedAccess (_c : BnCtx) (word : BitVec 12) (s : State) : Host.Outcome State Fault Refusal :=
  .next (if word.toNat < 0x800 then s
    else { s with engines := { s.engines with sealedAccess := bump s.engines.sealedAccess } })

/-- BN_ALARM: both contexts and both key-port slots are cleared (R166). -/
def execBnAlarm (s : State) : Host.Outcome State Fault Refusal :=
  .next s.bnAlarm

end Sys2Proof.Machine
end

