-- ==== Sys2Proof/Machine/KeyRows.lean ====
section
/-! DEFINITION. The rows of keys: Alias commit, IDevID copy, re-masking, Binding epoch, management CA (05, 17). -/

namespace Sys2Proof.Machine

/-- OD 0x2026.01 takes a code (R140). -/
def State.keyCommand (s : State) (code : Nat) : State := { s with keys := { s.keys with lastCommand := code } }

/-- The effect of ALIAS_COMMIT on its object, where it is accepted. -/
def State.writeAliasCommit (v : Byte) (s : State) : Option State :=
  if v ≠ 0xA5 then none
  else if s.ret.pendingAlias.isNone then some (s.keyCommand 5)
  else if s.up = false then some (s.keyCommand 1)
  else
    let s := s.keyCommand 0
    some (({ s with
      keys := { s.keys with committing := true }
      measure := { s.measure with commitTransition := true, named := s.ret.lastSigned } } : State).cut 4)

/-- ALIAS_COMMIT: OD 0x2023.05; the COMMIT checkpoint is cut, and the warm reset follows its signing (R125). -/
def execAliasCommit (ch : Channel) (v : Byte) (s : State) : Host.Outcome State Fault Refusal :=
  .next (s.odRow ch 0x2023 5 .hOpCu fun s => s.writeAliasCommit v)

/-- The effect of IDEVID_CERT_COPY_WRITE on its object, where it is accepted. -/
def State.writeIdevidCertCopyWrite (cert : Bytes) (s : State) : Option State :=
  if cert.length ≤ 16384 ∧ sha384 cert = s.otp.idevidCertDigest then
    some { s with ret := { s.ret with idevidCopy := cert } }
  else none

/-- IDEVID_CERT_COPY_WRITE: OD 0x2022.02; a copy that does not compare EQUAL is ignored (R116). -/
def execIdevidCertCopyWrite (ch : Channel) (cert : Bytes) (s : State) : Host.Outcome State Fault Refusal :=
  .next (s.odRow ch 0x2022 2 .hOpCu fun s => s.writeIdevidCertCopyWrite cert)

/-- Both shares under a fresh mask: the key they carry is the same (05, Masking). -/
def MaskedKey.remask (e : MaskedKey) (m : BitVec 512) : MaskedKey := { e with share0 := e.share0 ^^^ m, share1 := e.share1 ^^^ m }

def KeyEntry.remask (e : KeyEntry) (m : BitVec 512) : KeyEntry := { e with held := e.held.remask m }

/-- R121: a re-mask period of OD 0x2020.01 has passed since the end of the last pass. -/
def State.remaskDue (s : State) : Bool := decide (s.keys.remaskedAt + s.ret.remaskPeriod * 100000 ≤ s.clock.count)

/-- REMASK_PASS: once per period, the whole key store and the WKR (R121, R122). -/
def execRemaskPass (s : State) : Host.Outcome State Fault Refusal :=
  .next (if s.start.drbgUp ∧ s.remaskDue = true then
    let m := Config.drbg s.draws
    ({ s with
      keys := { s.keys with
        store := s.keys.store.map fun e => (e.1, e.2.map fun k => k.remask m)
        wkr := s.keys.wkr.map fun w => (w.1 ^^^ m, w.2 ^^^ m)
        remaskedAt := s.clock.count
        remaskPasses := bump s.keys.remaskPasses } } : State).generated
  else s)

/-- The Binding key of the next epoch takes over; the old one stays in overlap (R129, R131; overlap 0: at once refused). -/
def State.advanceBinding (s : State) : State :=
  let e := s.otp.epochValue
  let old := s.keys.bindPub
  let s := { s with
    otp := { s.otp with epoch := s.otp.epoch.blow e }
    ret := { s.ret with bindingAdvancedAt := if s.ret.bindingOverlap = 0 then none else some s.clock.count } }
  let sd := bindSeeds (s.keyOf .root) s.otp.serial (e + 1)
  let ec := s.keyOf .bindEc
  let kem := s.keyOf .bindKem
  let s := if s.ret.bindingOverlap = 0 then (s.dropKey .prevBindEc).dropKey .prevBindKem
           else (s.putKey .prevBindEc ec).putKey .prevBindKem kem
  let s := ((s.putKey .bindEc sd.1).putKey .bindKem sd.2).loadPort .short .bindEc
  let pub := bindingPub sd.1 sd.2
  let s := { s with keys := { s.keys with bindPub := pub, prevBindPub := if s.ret.bindingOverlap = 0 then [] else old } }
  (s.keyEvent 5 1 (sha384 pub)).keyCommand 0

/-- The effect of BINDING_ADVANCE on its object, where it is accepted. -/
def State.writeBindingAdvance (v : Byte) (selfTestOk blowOk : Bool) (s : State) : Option State :=
  if v ≠ 0xA5 then none
  else if s.up = false then some (s.keyCommand 1)
  else if 64 ≤ s.otp.epochValue then some (s.keyCommand 4)
  else if selfTestOk = false then some (s.keyCommand 2)
  else if blowOk = false then some (s.keyCommand 3)
  else some s.advanceBinding

/-- BINDING_ADVANCE: OD 0x2024.05 (R129-R131, R138). -/
def execBindingAdvance (ch : Channel) (v : Byte) (selfTestOk blowOk : Bool) (s : State) : Host.Outcome State Fault Refusal :=
  .next (s.odRow ch 0x2024 5 .cust fun s => s.writeBindingAdvance v selfTestOk blowOk)

/-- BINDING_OVERLAP_END: the overlap of OD 0x2024.04 has elapsed (R131, R134). -/
def execBindingOverlapEnd (s : State) : Host.Outcome State Fault Refusal :=
  .next (if s.ret.bindingAdvancedAt.isSome ∧ s.bindingOverlapRuns = false then
    let old := s.keys.prevBindPub
    let s := (s.dropKey .prevBindEc).dropKey .prevBindKem
    ({ s with ret := { s.ret with bindingAdvancedAt := none }, keys := { s.keys with prevBindPub := [] } } : State).keyEvent
      6 1 (sha384 old)
  else s)

/-- The lowest free slot of OTP region 6. -/
def Otp.freeSlot (o : Otp) : Option Nat := o.caSlots.findIdx? fun c => c.isNone

/-- The channel's session was authenticated under the active CA slot (R132, R133). -/
def State.underCurrentCa (s : State) : Channel → Bool
  | .causeway i => (s.causeway.session i.val).anchorSlot == s.otp.activeSlot
  | _ => false

/-- The effect of CA_STAGE on its object, where it is accepted. -/
def State.writeCaStage (ch : Channel) (anchor : Bytes) (s : State) : Option State :=
  if anchor.length ≠ 96 then none
  else if s.otp.freeSlot.isNone then some (s.keyCommand 4)
  else if s.underCurrentCa ch = false then some (s.keyCommand 1)
  else
    let a : BitVec 768 := BitVec.ofNat 768 (beNat anchor)
    let s := { s with ret := { s.ret with stagedCa := some (a, s.clock.count) } }
    some ((s.keyEvent 7 2 (sha384 anchor)).keyCommand 0)

/-- CA_STAGE: OD 0x7830.01 written by a Custodian under the current CA (R132, R526; all slots closed: code 0x04). -/
def execCaStage (ch : Channel) (anchor : Bytes) (s : State) : Host.Outcome State Fault Refusal :=
  .next (s.odRow ch 0x7830 1 .cust fun s => s.writeCaStage ch anchor)

/-- The confirmation window of a staged CA: 24 h (R138). -/
def caWindow : Nat := 24 * 3600 * 1000000000

/-- CA_STAGE_LAPSE: no Custodian session under the new CA came in time (R132). -/
def execCaStageLapse (s : State) : Host.Outcome State Fault Refusal :=
  .next (match s.ret.stagedCa with
  | none => s
  | some (a, t) =>
    if t + caWindow ≤ s.clock.count then
      let s := { s with ret := { s.ret with stagedCa := none } }
      (s.keyEvent 9 2 (sha384 (beBytes 96 a.toNat))).keyCommand 6
    else s)

/-- R133: the slot below the active one still authenticates. -/
def State.caOverlapRuns (s : State) : Bool :=
  match s.ret.caClosedAt with
  | none => false
  | some t => decide (s.clock.count < t + s.ret.caOverlap * dayNs)

/-- CA_OVERLAP_END: sessions of the slot in overlap end with it (R133, R517). -/
def execCaOverlapEnd (s : State) : Host.Outcome State Fault Refusal :=
  .next (if s.ret.caClosedAt.isSome ∧ s.caOverlapRuns = false then
    let old := s.otp.activeSlot
    let s := { s with ret := { s.ret with caClosedAt := none } }
    (List.range 8).foldl (fun s i =>
      if (s.causeway.session i).phase ≠ 0 ∧ (s.causeway.session i).anchorSlot < old then s.endCauseway i else s) s
  else s)

end Sys2Proof.Machine
end

