-- ==== Sys2Proof/Machine/Flags.lean ====
section
/-! DEFINITION. Level-AL1 arithmetic: the exact integer, then one saturation that sets the CLIPPED tag (08). -/

namespace Sys2Proof.Machine

/-- R223: saturation to the signed range of `w` bits, and whether it changed the value. -/
def satS (w : Nat) (v : Int) : Int × Bool :=
  let hi : Int := 2 ^ (w - 1) - 1
  let lo : Int := -(2 ^ (w - 1))
  if hi < v then (hi, true) else if v < lo then (lo, true) else (v, false)

/-- R223: saturation to the unsigned range of `w` bits. -/
def satU (w : Nat) (v : Int) : Int × Bool :=
  let hi : Int := 2 ^ w - 1
  if hi < v then (hi, true) else if v < 0 then (0, true) else (v, false)

/-- Saturation to a format of width `w`. -/
def sat (isSigned : Bool) (w : Nat) (v : Int) : Int × Bool := if isSigned then satS w v else satU w v

/-- R232: rounded to the nearest multiple of 2^s, divided by 2^s, ties to even. -/
def rhe (p : Int) (s : Nat) : Int :=
  if s = 0 then p
  else
    let q := p / (2 ^ s : Int)
    let r := p - q * 2 ^ s
    if 2 ^ s < 2 * r ∨ (2 * r = 2 ^ s ∧ q % 2 = 1) then q + 1 else q

/-- R231: requantisation. -/
def requantise (x m : Int) (s : Nat) (z : Int) (isSigned : Bool) (w : Nat) : Int × Bool :=
  sat isSigned w (rhe (x * m) s + z)

/-- R233: a lookup in a table of 256 entries. -/
def lookup (t : List Int) (x0 : Int) (k : Nat) (x : Int) : Int :=
  let u := x - x0
  if u < 0 then t.getD 0 0
  else
    let i := (u / (2 ^ k : Int)).toNat
    if 255 ≤ i then t.getD 255 0
    else
      let f := u - (i : Int) * 2 ^ k
      t.getD i 0 + rhe ((t.getD (i + 1) 0 - t.getD i 0) * f) k

/-- A lookup table: base, shift, entries. -/
structure LutTable where
  x0 : Int
  k : Nat
  entries : List Int
  deriving DecidableEq, Repr

def LutTable.at (t : LutTable) (x : Int) : Int := lookup t.entries t.x0 t.k x

/-- R236: the softmax of a list of logits; the tag of the result. -/
def softmax (z : List Int) (e r : LutTable) : List Int × Bool :=
  match z with
  | [] => ([], false)
  | z0 :: zs =>
    let m := zs.foldl max z0
    let ej := z.map fun v => e.at (v - m)
    let s := satS 48 (ej.foldl (· + ·) 0)
    if s.1 ≤ 0 then (z.map fun _ => 0, true)
    else
      let t := Nat.log2 s.1.toNat
      let u : Int := if t ≤ 31 then s.1 * 2 ^ (31 - t) else s.1 / 2 ^ (t - 31)
      let rho := r.at (u - 2 ^ 31)
      let ps := ej.map fun v => satS 32 (rhe (v * rho) (t + 14))
      (ps.map (·.1), s.2 || ps.any (·.2))

/-- R223, R241: a value of the softmax saturates. A sum that is not positive sets the tag without one (R236). -/
def softmaxSaturates (z : List Int) (e r : LutTable) : Bool :=
  match z with
  | [] => false
  | z0 :: zs =>
    let m := zs.foldl max z0
    let s := satS 48 ((z.map fun v => e.at (v - m)).foldl (· + ·) 0)
    if s.1 ≤ 0 then s.2 else (softmax z e r).2

/-- R227: one foot: the carry-in and the weighted sum, exact, then saturated to 48 bits. -/
def footValue (carry : Int) (products : List Int) : Int × Bool := satS 48 (products.foldl (· + ·) carry)

/-- R229: one OPACC update of a cell. -/
def cellUpdate (a x y : Int) : Int × Bool := satS 24 (a + x * y)

end Sys2Proof.Machine
end

