-- ==== Sys2Proof/Machine/ShoalOps.lean ====
section
/-! DEFINITION. The Shoal engine: event records, keys, leak, application, spikes, samples, forwarding in key order, images
(12). -/

namespace Sys2Proof.Machine

/-! ### Keys and event records (R341-R345) -/

/-- Keys compare as unsigned integers, SEQ first (R344). -/
def ShoalEvent.before (a b : ShoalEvent) : Bool := decide (a.seq < b.seq) || (a.seq == b.seq && decide (a.suborder < b.suborder))

def ShoalEvent.depth (e : ShoalEvent) : Nat := field e.suborder 24 2

/-- Cluster and index of a neuron identifier (R341). -/
def nidCluster (nid : Nat) : Nat := field nid 27 4
def nidIndex (nid : Nat) : Nat := field nid 0 27

/-- Event `e` of a fetched record, stamped (R342, R343). -/
def stampedEvent (record : Bytes) (e time seq : Nat) : ShoalEvent :=
  let w := leNat (slice record (32 * e) 32)
  { nid := field w 0 31, chmask := field w 32 8, sample := bit w 40, mag := signed 16 (field w 48 16), time := time, seq := seq,
    suborder := e * 2 ^ 16, tag := false,
    zeroOk := field w 31 1 == 0 && field w 41 7 == 0 && field w 224 32 == 0 }

/-- The cluster that takes an event: SH0 stands for one above 11 (R345). -/
def ShoalEvent.target (e : ShoalEvent) : Nat := if nidCluster e.nid < 12 then nidCluster e.nid else 0

def Shoal.cluster (h : Shoal) (n : Nat) : Cluster := h.clusters.getD n {}

/-- R345. -/
def Shoal.valid (h : Shoal) (e : ShoalEvent) : Bool :=
  decide (nidCluster e.nid < 12) && decide (nidIndex e.nid < (h.cluster (nidCluster e.nid)).neurons) && e.zeroOk

/-! ### Records (R338, R339, R346, R347, R578, R579) -/

/-- Channel k of a record. -/
def channelOf (w k : Nat) : Int := signed 40 (field w (40 * k) 40)

/-- A record of a cluster as it reads: a poisoned one is zero with TAG set. -/
def Cluster.record (c : Cluster) (i : Nat) : Nat :=
  if c.poisoned.contains i then 2 ^ 420 else (SMap.get (0 : BitVec 512) c.records i).toNat

/-- Decay factor P_i and input shift g of a time-constant entry (R339). -/
def Cluster.decay (c : Cluster) (entry i : Nat) : Nat := leField c.table (256 * entry + 4 * i) 4
def Cluster.shift (c : Cluster) (entry : Nat) : Nat := leField c.table (256 * entry + 192) 1

/-- R347: leak over Δ ticks. -/
def Cluster.leak (c : Cluster) (entry delta : Nat) (v : Int) : Int :=
  (List.range 48).foldl (fun v i => if bit delta i then rhe (v * (c.decay entry i : Int)) 32 else v) v

/-- Shoal tick of a time (R346). -/
def tickOf (t : Nat) : Nat := t / 16384

/-- R346. -/
def deltaOf (w t : Nat) : Nat := tickOf t - field w 320 48

/-- Time-constant entry of channel k. -/
def tcselOf (w k : Nat) : Nat := field w (368 + 6 * k) 6

/-- The eight channels leaked to a time. -/
def Cluster.leaked (c : Cluster) (w t : Nat) : List Int :=
  (List.range 8).map fun k => c.leak (tcselOf w k) (deltaOf w t) (channelOf w k)

/-- A record with new channels, LAST_T (its low 48 bits) and TAG. -/
def packRecord (w : Nat) (ch : List Int) (lastT : Nat) (tag : Bool) : BitVec 512 :=
  BitVec.ofNat 512 (pack8 ch + lastT % 2 ^ 48 * 2 ^ 320 + field w 368 52 * 2 ^ 368 + (if tag then 2 ^ 420 else 0) + (w >>> 421) * 2 ^ 421)
where
  /-- Eight 40-bit channels. -/
  pack8 (l : List Int) : Nat := l.foldr (fun v t => twos 40 v + 2 ^ 40 * t) 0

/-- R351: the spike of synapse entry j. -/
def spikeOf (e : ShoalEvent) (syn : BitVec 64) (width j : Nat) (tag : Bool) : ShoalEvent :=
  let w := syn.toNat
  let d := e.depth + 1
  { nid := field w 0 31, chmask := field w 40 8, sample := false, mag := signed width (field w 32 width), time := e.time,
    seq := e.seq, suborder := field e.suborder 0 24 + d * 2 ^ 24 + (if d = 1 then j * 2 ^ 8 else j), tag := tag, zeroOk := true }

/-- What applying a valid event with a mask gives: the record, spikes, saturations, a crossing at depth 2. -/
structure Applied where
  record : BitVec 512
  spikes : List ShoalEvent
  sats : Nat
  crossed2 : Bool
  deriving DecidableEq, Repr

/-- R348, R350, R351. -/
def Cluster.applyEvent (c : Cluster) (e : ShoalEvent) : Applied :=
  let w := c.record (nidIndex e.nid)
  let added := (c.leaked w e.time).mapIdx fun k v =>
    if bit e.chmask k then satS 40 (v + e.mag * 2 ^ c.shift (tcselOf w k)) else (v, false)
  let tag := bit w 420 || e.tag || added.any (·.2)
  let ch := added.map (·.1)
  let watch := field w 416 3
  let thresh : Int := (field w 424 24 : Int) * 65536
  let crossed := bit w 419 && decide (thresh ≤ ch.getD watch 0)
  let emits := crossed && decide (e.depth < 2)
  let ch := if emits then ch.modify watch fun v => v - thresh else ch
  { record := packRecord w ch (max (field w 320 48) (tickOf e.time)) tag
    spikes := if emits then (List.range (field w 476 9)).map fun j =>
        spikeOf e (SMap.get 0 c.synapses (field w 448 28 + j)) c.width j tag
      else []
    sats := (added.filter (·.2)).length
    crossed2 := crossed && decide (2 ≤ e.depth) }

/-- A record written: an earlier uncorrectable line is written over (R578). -/
def Cluster.write (c : Cluster) (i : Nat) (w : BitVec 512) : Cluster :=
  { c with records := SMap.set 0 c.records i w, poisoned := c.poisoned.filter (· != i) }

/-! ### Inboxes and relay (R355-R358) -/

/-- R355: an inbox has room. -/
def Shoal.room (h : Shoal) (n : Nat) : Bool := decide ((h.cluster n).inbox.length < 4096)

/-- R355: an event enters its inbox, which wakes the cluster, or waits in the relay. -/
def Shoal.enter (h : Shoal) (e : ShoalEvent) : Shoal :=
  if h.room e.target then
    { h with clusters := modifyAt h.clusters e.target fun c => { c with inbox := c.inbox ++ [e], asleep := false } }
  else { h with relay := h.relay ++ [e] }

/-- A new event at its inbox; a full one refuses it, once (R355, R365). -/
def Shoal.deliver (h : Shoal) (e : ShoalEvent) : Shoal :=
  ({ h with inboxFull := if h.room e.target then h.inboxFull else bumpAt h.inboxFull e.target } : Shoal).enter e

/-- Every event not yet applied. -/
def Shoal.pending (h : Shoal) : List ShoalEvent := h.clusters.flatMap (·.inbox) ++ h.relay

/-- The lowest key of a list. -/
def lowest : List ShoalEvent → Option ShoalEvent
  | [] => none
  | e :: es => match lowest es with
    | none => some e
    | some f => if f.before e then some f else some e

/-- The positions a spike of an event shares with it: of its depth-0 ancestor, then the fan-out index at depth 1 (R344). -/
def ShoalEvent.ancestry (e : ShoalEvent) (depth : Nat) : Nat := field e.suborder (16 - 8 * depth) (8 + 8 * depth)

/-- A spike that comes of one event could have a key below another's (R344, R351). -/
def ShoalEvent.mayPrecede (f e : ShoalEvent) : Bool :=
  decide (f.depth < 2) &&
    (decide (f.seq < e.seq) || (f.seq == e.seq &&
      (decide (f.depth + 1 < e.depth) || (f.depth + 1 == e.depth && decide (f.ancestry f.depth ≤ e.ancestry f.depth)))))

/-- The event a cluster takes next: its lowest, once no event outstanding can send it a lower one (R352; 12, "Order"). -/
def Shoal.next (h : Shoal) (n : Nat) : Option ShoalEvent :=
  match lowest (h.pending.filter fun e => e.target == n) with
  | some e => if h.pending.any fun f => f.mayPrecede e then none else some e
  | none => none

/-- Relay events move into inboxes with room, in order (R356). -/
def Shoal.drainRelay (h : Shoal) : Shoal := h.relay.foldl Shoal.enter { h with relay := [] }

/-- An event taken out of its inbox or out of the relay. -/
def Shoal.take (h : Shoal) (e : ShoalEvent) : Shoal :=
  if (h.cluster e.target).inbox.contains e then
    { h with clusters := modifyAt h.clusters e.target fun c => { c with inbox := c.inbox.erase e } }
  else { h with relay := h.relay.erase e }

/-! ### Forwarding from the rings (R316, R317, R331, R358) -/

/-- The ingest watermark passes a sequence (R317). -/
def HostPath.passed (h : HostPath) (seq : Nat) : Bool :=
  match h.watermark with
  | none => false
  | some m => decide (seq ≤ m)

/-- Submissions behind the watermark, in ascending sequence. -/
def HostPath.behind (h : HostPath) : List (Nat × Submission) :=
  (h.subs.filterMap fun e => e.2.bind fun x => if h.passed x.seq then none else some (e.1, x)).insertionSort
    fun a b => a.2.seq ≤ b.2.seq

/-- An event addressed to a cluster that is offline. -/
def State.toAway (s : State) (e : ShoalEvent) : Bool :=
  decide (nidCluster e.nid < 12) && !(s.fabric.die (nidCluster e.nid)).online

/-- R358, R577: forwarding stops at an event of an offline cluster, and while one that its cluster has not applied is outstanding: every
event still to be forwarded has a higher key. -/
def State.clusterAway (s : State) (e : ShoalEvent) : Bool := s.toAway e || s.shoal.pending.any s.toAway

/-- Whether the next event of a submission can be forwarded. -/
def State.canForward (s : State) (e : ShoalEvent) : Bool :=
  !s.clusterAway e && s.shoal.room e.target

/-- R331: forwarding is held; each hold counts once. -/
def HostPath.hold (h : HostPath) : HostPath :=
  if h.forwardHold then h else { h with forwardHold := true, forwardHolds := bump h.forwardHolds }

/-- Events of one submission forwarded from position `k` on, at most `fuel` of them. The flag says all are out. -/
def State.forwardEvents (s : State) (tag : Nat) (x : Submission) : Nat → Nat → State × Bool
  | 0, k => ({ s with host := s.host.modSub tag fun y => { y with forwarded := k } }, true)
  | fuel + 1, k =>
    let e := stampedEvent x.record k x.time x.seq
    if s.canForward e then
      State.forwardEvents { s with shoal := s.shoal.deliver e, host := { s.host with forwardHold := false } } tag x fuel (k + 1)
    else
      let s := if s.clusterAway e || s.host.forwardHold then s else { s with shoal := { s.shoal with inboxFull := bumpAt s.shoal.inboxFull e.target } }
      ({ s with host := (s.host.modSub tag fun y => { y with forwarded := k }).hold }, false)

/-- R25, R317: the watermark passes every number consumed below `bound`: a number that no submission behind it holds is a logged gap, or
has completed. -/
def HostPath.passBelow (h : HostPath) (bound : Nat) : HostPath :=
  { h with watermark := h.watermark.map fun m => max m (bound - 1) }

/-- R316, R317: forwarding over the submissions behind the watermark, in order, until one is not ready. -/
def State.forwardFrom (s : State) : List (Nat × Submission) → State
  | [] => { s with host := { s.host.passBelow ((s.host.lastLogged.map (·.1 + 1)).getD 0) with forwardHold := false } }
  | (tag, x) :: l =>
    if x.status = some 2 then State.forwardFrom { s with host := { s.host with watermark := some x.seq } } l
    else if x.inputDigest.isNone then { s with host := { s.host.passBelow x.seq with forwardHold := false } }
    else
      let s := { s with host := s.host.passBelow x.seq }
      let r := s.forwardEvents tag x (x.eventCount - x.forwarded) x.forwarded
      if r.2 then State.forwardFrom { r.1 with host := { r.1.host with watermark := some x.seq } } l else r.1

/-- Forwarding, unless a snapshot holds it (R362). -/
def State.forward (s : State) : State := if s.host.snapshotHold then s else s.forwardFrom s.host.behind

/-! ### Completion of events and the Shoal watermark (R322, R353, R365) -/

/-- Every event of sequences up to `seq` is applied. -/
def Shoal.clearTo (h : Shoal) (seq : Nat) : Bool := h.pending.all fun e => decide (seq < e.seq)

/-- OD 0x6030.01: highest sequence of the session whose events and spikes are all applied (log 107). -/
def State.shoalMark (s : State) : Nat :=
  match s.host.watermark with
  | none => s.host.shoalMark
  | some m => match lowest s.shoal.pending with
    | none => max s.host.shoalMark m
    | some e => max s.host.shoalMark (min m (e.seq - 1))

/-- An EVENTS submission whose events are all applied is answered OK. -/
def Submission.eventsDone (x : Submission) (debug : Bool) : Submission :=
  { x with phase := .answered, status := some 0, flags := flagBits false false false false debug false }

/-- After an application: the watermark, and EVENTS submissions that are complete. -/
def State.settleShoal (s : State) : State :=
  let debug := s.start.condition.debugClass
  let h := s.host.mapSubs fun _ x =>
    if x.kind = 2 ∧ x.phase = .staged ∧ s.host.passed x.seq = true ∧ s.shoal.clearTo x.seq = true then x.eventsDone debug else x
  { s with host := { h with shoalMark := s.shoalMark } }

/-- Forwarding and what follows from it. -/
def State.pump (s : State) : State := s.forward.settleShoal

/-! ### Samples (R353, R354) -/

/-- 40 B of one sampled event. -/
def Shoal.sampleEvent (h : Shoal) (e : ShoalEvent) : Bytes × Bool :=
  if h.valid e then
    let c := h.cluster e.target
    let w := c.record (nidIndex e.nid)
    ((c.leaked w e.time).flatMap fun v => leBytes 5 (twos 40 v), bit w 420)
  else (List.replicate 40 0, false)

/-- The feature sample of a SCORE submission and its tag. -/
def Shoal.sampleOf (h : Shoal) (x : Submission) : Bytes × Bool :=
  let l := ((List.range x.eventCount).map fun k => stampedEvent x.record k x.time x.seq).filter (·.sample)
  let r := l.map h.sampleEvent
  (r.flatMap (·.1), r.any (·.2))

/-! ### Images (R29, R359-R361) -/

/-- One cluster's entry of an image. -/
structure ClusterDir where
  neurons : Nat
  width : Nat
  synapses : Nat
  tcOff : Nat
  recOff : Nat
  synOff : Nat
  deriving DecidableEq, Repr

def clusterDir (b : Bytes) (n : Nat) : ClusterDir :=
  let o := 0x40 + 48 * n
  { neurons := leField b o 4, width := leField b (o + 4) 1, synapses := leField b (o + 8) 4, tcOff := leField b (o + 16) 8,
    recOff := leField b (o + 24) 8, synOff := leField b (o + 32) 8 }

/-- Sections within the image and apart from each other. -/
def imageSectionsOk (len : Nat) (l : List (Nat × Nat)) : Bool :=
  (l.all fun a => decide (a.1 + a.2 ≤ len)) &&
    (List.range l.length).all fun i => (List.range i).all fun j =>
      let a := l.getD i (0, 0)
      let b := l.getD j (0, 0)
      a.2 == 0 || b.2 == 0 || decide (a.1 + a.2 ≤ b.1) || decide (b.1 + b.2 ≤ a.1)

def imageSections (b : Bytes) : List (Nat × Nat) :=
  (0, 640) :: (List.range 12).flatMap fun n =>
    let d := clusterDir b n
    if d.neurons = 0 then [] else [(d.tcOff, 16384), (d.recOff, 64 * d.neurons), (d.synOff, 8 * d.synapses)]

/-- Zero fields of a record and of a synapse entry (R338, R340). -/
def recordZeroOk (w : Nat) : Bool := field w 421 3 == 0 && w >>> 485 == 0
def synapseZeroOk (w : Nat) : Bool := field w 31 1 == 0 && w >>> 48 == 0

/-- Code 0x01 of R359. -/
def imageFormatOk (b : Bytes) (len : Nat) : Bool :=
  decide (640 ≤ b.length) && b.length == len && leField b 0 4 == 0x53484F4C && leField b 4 2 == 1 && allZero (slice b 6 2) &&
    allZero (slice b 16 48) && imageSectionsOk b.length (imageSections b) &&
    (List.range 12).all fun n =>
      let o := 0x40 + 48 * n
      let d := clusterDir b n
      allZero (slice b (o + 5) 3) && allZero (slice b (o + 12) 4) && allZero (slice b (o + 40) 8) &&
        (d.neurons != 0 || (d.tcOff == 0 && d.recOff == 0 && d.synOff == 0)) &&
        ((List.range 64).all fun k => d.neurons == 0 || allZero (slice b (d.tcOff + 256 * k + 193) 63)) &&
        ((List.range d.neurons).all fun i => recordZeroOk (leField b (d.recOff + 64 * i) 64)) &&
        (d.neurons == 0 || (List.range d.synapses).all fun i => synapseZeroOk (leField b (d.synOff + 8 * i) 8))

/-- A record's fields in range: THRESH when the threshold is checked, the fan-out list (R338, R359). -/
def recordRangeOk (w synapses : Nat) : Bool :=
  (!bit w 419 || decide (1 ≤ field w 424 24)) && decide (field w 476 9 ≤ 256) &&
    (field w 476 9 == 0 || decide (field w 448 28 + field w 476 9 ≤ synapses))

/-- Code 0x04 of R359. -/
def imageRangeOk (b : Bytes) : Bool :=
  (List.range 12).all fun n =>
    let d := clusterDir b n
    decide (d.neurons ≤ 2 ^ 27) && decide (d.synapses ≤ 2 ^ 28) && [1, 2, 4, 8].contains d.width &&
      (d.neurons == 0 ||
        ((List.range 64).all fun k => decide (leField b (d.tcOff + 256 * k + 192) 1 ≤ 23)) &&
        ((List.range d.neurons).all fun i => recordRangeOk (leField b (d.recOff + 64 * i) 64) d.synapses) &&
        (List.range d.synapses).all fun i => decide (field (leField b (d.synOff + 8 * i) 8) 27 4 < 12))

/-- A cluster as an image gives it; one without neurons has its width and its synapse count, and no section (R361). -/
def loadedCluster (b : Bytes) (n : Nat) : Cluster :=
  let d := clusterDir b n
  if d.neurons = 0 then { width := d.width, synCount := d.synapses }
  else
    { neurons := d.neurons, width := d.width, synCount := d.synapses, table := slice b d.tcOff 16384
      records := SMap.ofFn 0 d.neurons fun i => BitVec.ofNat 512 (leField b (d.recOff + 64 * i) 64)
      synapses := SMap.ofFn 0 d.synapses fun i => BitVec.ofNat 64 (leField b (d.synOff + 8 * i) 8) }

/-- A record as the program digest takes it: bits [367:320], [319:0] and [420] zero (R360). -/
def programRecord (w : Nat) : Nat := field w 368 52 * 2 ^ 368 + (w >>> 421) * 2 ^ 421

/-- R360: the octets under the program digest; a cluster without neurons has no table and no synapse entry (log 108). -/
def programBytes (l : List Cluster) : Bytes :=
  l.flatMap fun c => leBytes 4 c.neurons ++ leBytes 1 c.width ++ leBytes 4 c.synCount ++ c.table ++
    ((List.range (if c.neurons = 0 then 0 else c.synCount)).flatMap fun i => leBytes 8 (SMap.get (0 : BitVec 64) c.synapses i).toNat) ++
    (List.range c.neurons).flatMap fun i => leBytes 64 (programRecord (c.record i))

/-- The neuron records of the device, key cluster * 2^27 + index. -/
def Shoal.allRecords (h : Shoal) : List (Nat × BitVec 512) :=
  (List.range 12).flatMap fun n => (h.cluster n).records.map fun e => (n * 2 ^ 27 + e.1, e.2)

/-- The lines of allocated regions: the plan state of R29. -/
def State.regionLines (s : State) : List (Nat × BitVec 512) :=
  (s.fabric.hbm.filter fun e => s.ret.regions.any fun r =>
    r.2.state == .allocated && decide (r.2.stack * 2 ^ 29 + r.2.base * 16384 ≤ e.1) &&
      decide (e.1 < r.2.stack * 2 ^ 29 + (r.2.base + r.2.size) * 16384)).map fun e => (e.1, e.2.data)

/-- R29: the start-state digest (the order of its parts is not given). -/
def State.startStateDigest (s : State) : Digest := sha384 (Config.startState s.shoal.allRecords s.regionLines)

/-- The image of the present state (R361, R362). -/
def State.shoalImage (s : State) : Bytes :=
  let sizes := (List.range 12).map fun n =>
    let c := s.shoal.cluster n
    if c.neurons = 0 then 0 else 16384 + 64 * c.neurons + 8 * c.synCount
  let start (n : Nat) : Nat := 640 + (sizes.take n).foldl (· + ·) 0
  let head := (List.range 12).flatMap fun n =>
    let c := s.shoal.cluster n
    if c.neurons = 0 then leBytes 4 0 ++ leBytes 1 c.width ++ [0, 0, 0] ++ leBytes 4 c.synCount ++ List.replicate 36 (0 : Byte)
    else leBytes 4 c.neurons ++ leBytes 1 c.width ++ [0, 0, 0] ++ leBytes 4 c.synCount ++ [0, 0, 0, 0] ++
      leBytes 8 (start n) ++ leBytes 8 (start n + 16384) ++ leBytes 8 (start n + 16384 + 64 * c.neurons) ++ List.replicate 8 0
  let body := (List.range 12).flatMap fun n =>
    let c := s.shoal.cluster n
    if c.neurons = 0 then []
    else padTo 16384 c.table ++ ((List.range c.neurons).flatMap fun i => leBytes 64 (c.record i)) ++
      (List.range c.synCount).flatMap fun i => leBytes 8 (SMap.get (0 : BitVec 64) c.synapses i).toNat
  leBytes 4 0x53484F4C ++ leBytes 2 1 ++ [0, 0] ++ leBytes 8 s.host.shoalMark ++ List.replicate 48 0 ++ head ++ body

end Sys2Proof.Machine
end

