-- ==== Sys2Proof/Machine/MonitorRows.lean ====
section
/-! DEFINITION. Pace, temperature and voltage monitors, and ballast (03). -/

namespace Sys2Proof.Machine

/-- Twice the median of a list: the sum of its two middle elements in order (R54, R60; even counts: log 10). -/
def twiceMedian (l : List Int) : Int :=
  let o := l.insertionSort (fun a b => a ≤ b)
  let n := o.length
  o.getD ((n - 1) / 2) 0 + o.getD (n / 2) 0

/-- R54: within 300 to 2,500 Mbeat/s and within 10 % of the median of the die's readings in the window. -/
def paceValid (readings : List Nat) (x : Nat) : Bool :=
  let m2 := twiceMedian (readings.map Int.ofNat)
  decide (300 ≤ x) && decide (x ≤ 2500) && decide (10 * (2 * (x : Int) - m2).natAbs ≤ m2.natAbs)

/-- R55: the lowest valid reading; 0 when none is valid. -/
def beatRate (readings : List Nat) : Nat :=
  match readings.filter (paceValid readings) with
  | [] => 0
  | x :: xs => xs.foldl min x

/-- A window's effect on a die (R53-R57). A die that is offline or without VFAB reads no rate; its mask stays as the last window left
it (log 97). -/
def Die.window (d : Die) (readings : List Nat) (count : Nat) : Die :=
  if d.online && d.vfabOn then
    let valid := (readings.filter (paceValid readings)).length
    let rate := beatRate readings
    { d with
      rate := rate
      validMask := BitVec.ofNat 16 (maskOf 16 fun k => paceValid readings (readings.getD k 0))
      rates := (count, rate) :: d.rates.filter fun w => decide (count < w.1 + 10000000)
      validSince := if valid < 12 then none else some (d.validSince.getD count) }
  else { d with rate := 0, floor := 0, rates := [], validSince := none }

/-- PACE_MONITOR_WINDOW: one 10 us window of a die's 16 monitors (R52-R57). -/
def execPaceMonitorWindow (die : Fin 12) (readings : List Nat) (s : State) : Host.Outcome State Fault Refusal :=
  .next { s with fabric := s.fabric.modDie die.val fun d => d.window readings s.clock.count }

/-- R55, R56: the lowest rate of the last 10 ms, once at least 12 monitors have been valid for a full 10 ms. -/
def Die.updateFloor (d : Die) (count : Nat) : Die :=
  if d.online && d.vfabOn then
    let full := match d.validSince with
      | none => false
      | some t => decide (t + 10000000 ≤ count)
    let l := (d.rates.filter fun w => decide (count < w.1 + 10000000)).map (·.2)
    { d with floor := if full then (match l with | [] => 0 | x :: xs => xs.foldl min x) else 0 }
  else { d with rate := 0, floor := 0 }

/-- R57: the lowest floor of the dies that are online and powered; 0 where there is none (log 97). -/
def moduleFloorOf (dies : List Die) : Nat :=
  match (dies.filter fun d => d.online && d.vfabOn).map (·.floor) with
  | [] => 0
  | x :: xs => xs.foldl min x

/-- BEAT_FLOOR_UPDATE: every 100 us (R55-R57). -/
def execBeatFloorUpdate (s : State) : Host.Outcome State Fault Refusal :=
  let dies := s.fabric.dies.map fun d => d.updateFloor s.clock.count
  .next { s with
    fabric := { s.fabric with dies := dies }
    monitors := { s.monitors with moduleFloor := moduleFloorOf dies } }

/-- R60: within −40 to 150 °C, and no more than 15 °C from the median of its die's readings. -/
def sensorValid (readings : List Int) (x : Int) : Bool :=
  let m2 := twiceMedian readings
  decide (-40000 ≤ x) && decide (x ≤ 150000) && decide ((2 * x - m2).natAbs ≤ 30000)

/-- R59, R60: the highest valid reading; 150 °C with fewer than `need` valid sensors. -/
def dieTemperature (readings : List Int) (need : Nat) : Int :=
  match readings.filter (sensorValid readings) with
  | [] => 150000
  | x :: xs => if (x :: xs).length < need then 150000 else xs.foldl max x

def invalidMask (readings : List Int) : BitVec 32 :=
  BitVec.ofNat 32 (maskOf readings.length fun k => !sensorValid readings (readings.getD k 0))

/-- TEMPERATURE_SAMPLE: the sensors of a die, or of the hub (12), at 1 kHz (R59, R60). -/
def execTemperatureSample (die : Fin 13) (readings : List Int) (s : State) : Host.Outcome State Fault Refusal :=
  .next (if die.val = 12 then
    { s with monitors := { s.monitors with
        hubTemp := dieTemperature readings 2, hubSensors := readings, hubBad := invalidMask readings } }
  else
    { s with fabric := s.fabric.modDie die.val fun d =>
        { d with temperature := dieTemperature readings 4, sensors := readings, sensorsBad := invalidMask readings } })

/-- VOLTAGE_SAMPLE: a voltage monitor at 10 kHz (R61). -/
def execVoltageSample (m : VoltMonitor) (mv : Nat) (s : State) : Host.Outcome State Fault Refusal :=
  .next (match m with
  | .vfab i => { s with fabric := s.fabric.modDie i.val fun d => { d with vfabMv := mv } }
  | .vio i => { s with fabric := s.fabric.modDie i.val fun d => { d with vioMv := mv } }
  | .vhbm i => { s with fabric := s.fabric.modDie i.val fun d => { d with vhbmMv := mv } }
  | .vhub => { s with monitors := { s.monitors with vhubMv := mv } }
  | .stby => { s with monitors := { s.monitors with stbyMv := mv } })

/-- An array quiesces: no ballast beat until its next row (R63). -/
def Core.quiesce (c : Core) (a : Nat) : Core :=
  { c with arrays := modifyAt c.arrays a fun x => { x with quiesced := true } }

/-- BALLAST_THRESHOLD_REACHED: the ballast beats of a gap reach the threshold, and the array quiesces (R63, R64, R66). -/
def execBallastThresholdReached (core : Fin 1200) (array : Fin 4) (s : State) : Host.Outcome State Fault Refusal :=
  let t := s.monitors.ballastActive
  .next (if t = 0 ∨ (((s.fabric.core core.val).arrays.getD array.val {}).quiesced = true) then s
  else
    let f := s.fabric.modCore core.val fun c => c.quiesce array.val
    { s with fabric := f.modDie (dieOf core.val) fun d => { d with ballast := bumpBy t d.ballast } })

/-- The effect of BALLAST_THRESHOLD_WRITE on its object, where it is accepted. -/
def State.writeBallastThresholdWrite (v : Byte) (s : State) : Option State :=
  some { s with monitors := { s.monitors with ballast := v.toNat } }

/-- BALLAST_THRESHOLD_WRITE: OD 0x4080.01; in force from the next departure (R66, R71). -/
def execBallastThresholdWrite (ch : Channel) (v : Byte) (s : State) : Host.Outcome State Fault Refusal :=
  .next (s.odRow ch 0x4080 1 .hOpCu fun s => s.writeBallastThresholdWrite v)

end Sys2Proof.Machine
end

