-- ==== Sys2Proof/Machine/PowerRows.lean ====
section
/-! DEFINITION. The governors: setpoint, thermal and power-cap loops, watchdogs, hardware backstops, dies offline
(18, R573-R577). -/

namespace Sys2Proof.Machine

/-- The range of VFAB, mV (R551). -/
def clampMv (v : Nat) : Nat := max 600 (min v 850)

/-- R524: the lowest of the local cap and every budget in force. -/
def State.capInEffect (s : State) : Nat := (s.causeway.budgets.map (·.cap)).foldl min s.ret.localCap

def State.governor (s : State) (g : Nat) : Governor := s.power.governors.getD g {}

/-- R533: 10^6 times the slack loop's target rate. -/
def slackTarget (minFloor margin headroom : Nat) : Nat := minFloor * (1000 + margin) * (1000 + headroom)

/-- R533, R534: the slack request after a step; the setpoint is held to its range, the request is not. -/
def Die.nextSlack (d : Die) (target : Option Nat) (idle : Nat) : Nat :=
  match target with
  | none => idle
  | some t =>
    if d.rate * 1000000 < t then (if d.setpoint < d.slack then d.slack else d.slack + 5)
    else if t * 102 < d.rate * 1000000 * 100 then d.slack - 1
    else d.slack

/-- R538: the power ceiling after a step; the allocation is in mW. -/
def Die.nextPower (d : Die) (powerW : Nat) : Nat :=
  if d.allocation < powerW * 1000 then clampMv (d.power - 10)
  else if powerW * 1000 * 100 < d.allocation * 98 then clampMv (d.power + 5)
  else d.power

/-- R532: the setpoint from the three requests. -/
def Die.retarget (d : Die) : Die := { d with setpoint := clampMv (min d.slack (min d.thermal d.power)) }

/-- R533: the target of a die that hosts a core of the running plan. -/
def State.dieTarget (s : State) (n : Nat) : Option Nat :=
  if s.fabric.planDie n then
    s.fabric.plan.map fun p => slackTarget p.cert.minFloor s.ret.margin s.ret.headroom
  else none

/-- R542: a plan die is held below its slack request. -/
def State.limited (s : State) : Bool :=
  (List.range 12).any fun n => s.fabric.planDie n && (s.fabric.die n).online && decide ((s.fabric.die n).setpoint < (s.fabric.die n).slack)

/-- R530, R542: RUN and LIMIT follow the condition; entries are counted. -/
def State.settleLimit (s : State) : State :=
  match s.start.power, s.limited with
  | .run, true =>
    { s with start := { s.start with power := .limit }, power := { s.power with limitEntries := bump s.power.limitEntries } }
  | .limit, false => { s with start := { s.start with power := .run } }
  | _, _ => s

/-- A governor has given its regulators a command (R531, R600). -/
def State.commanded (s : State) (g : Nat) : State :=
  { s with power := { s.power with governors := modifyAt s.power.governors g fun x => { x with commandAt := s.clock.count } } }

/-- VFAB_SETPOINT_STEP: one 100 us step of a die governor (R531-R534, R538, R542, R544). -/
def execVfabSetpointStep (die : Fin 12) (powerW : Nat) (s : State) : Host.Outcome State Fault Refusal :=
  let n := die.val
  .next (if (s.governor (n + 1)).state = .running ∧ (s.fabric.die n).online ∧ (s.fabric.die n).vfabOn then
    let t := s.dieTarget n
    let s := { s with fabric := s.fabric.modDie n fun d =>
      ({ d with slack := d.nextSlack t s.ret.idleSetpoint, power := d.nextPower powerW, powerW := powerW } : Die).retarget }
    (s.commanded (n + 1)).settleLimit
  else s)

/-- R535: the thermal ceiling after a step. -/
def Die.nextThermal (d : Die) (target : Nat) : Nat :=
  let t := (target : Int) * 1000
  if 95000 ≤ d.temperature then 600
  else if t < d.temperature then clampMv (d.thermal - 5 * (((d.temperature - t).toNat + 999) / 1000))
  else if d.temperature < t - 1000 then clampMv (d.thermal + 2)
  else d.thermal

/-- THERMAL_LOOP_STEP: one 1 ms step (R535, R544). -/
def execThermalLoopStep (die : Fin 12) (s : State) : Host.Outcome State Fault Refusal :=
  .next (if (s.governor (die.val + 1)).state = .running ∧ (s.fabric.die die.val).online then
    { s with fabric := s.fabric.modDie die.val fun d => { d with thermal := d.nextThermal s.ret.thermalTarget } }
  else s)

/-- A die in the water-filling, in mW; one that has given its unused share away takes no more part (log 11). -/
structure Share where
  die : Nat
  draw : Nat
  share : Nat
  gave : Bool
  deriving DecidableEq, Repr

/-- A die that draws less than its share, and one that draws at least its share (R537). -/
def Share.gives (x : Share) : Bool := !x.gave && decide (x.draw < x.share)
def Share.takes (x : Share) : Bool := !x.gave && decide (x.share ≤ x.draw)

/-- One round of R537: unused shares go in equal parts to the dies that draw at least theirs. -/
def fillRound (l : List Share) : List Share :=
  let takers := (l.filter Share.takes).length
  let unused := ((l.filter Share.gives).map fun x => x.share - x.draw).foldl (· + ·) 0
  if takers = 0 then l
  else l.map fun x =>
    if x.gives then { x with share := x.draw, gave := true }
    else if x.takes then { x with share := x.share + unused / takers }
    else x

def fillRounds : Nat → List Share → List Share
  | 0, l => l
  | n + 1, l => fillRounds n (fillRound l)

/-- R536, R537: allocations in mW of the online dies; every round in which a share moves settles a die, so thirteen do. -/
def allocate (budgetMw : Nat) (draws : List (Nat × Nat)) : List (Nat × Nat) :=
  (fillRounds 13 (draws.map fun d => ⟨d.1, d.2 * 1000, budgetMw / draws.length, false⟩)).map fun x => (x.die, x.share)

/-- A die takes its allocation and the power measured for it. -/
def Die.allocated (d : Die) (n : Nat) (alloc : List (Nat × Nat)) (w : Nat) : Die :=
  match alloc.find? fun a => a.1 == n with
  | some (_, a) => { d with allocation := a, powerW := w }
  | none => { d with powerW := w }

/-- R549: a measurement enters the running windows: the module, the dies, the hub. -/
def Power.measure (p : Power) (moduleW hubW : Nat) (dieW : List Nat) : Power :=
  let l := moduleW :: (List.range 12).map (fun n => dieW.getD n 0) ++ [hubW]
  { p with moduleW := moduleW, hubW := hubW,
           sum1 := List.zipWith (· + ·) p.sum1 l, count1 := p.count1 + 1,
           sum100 := List.zipWith (· + ·) p.sum100 l, count100 := p.count100 + 1 }

/-- POWER_CAP_STEP: one 100 us step of G0 (R536, R537, R539, R544, R549). -/
def execPowerCapStep (moduleW hubW : Nat) (dieW : List Nat) (s : State) : Host.Outcome State Fault Refusal :=
  .next (if (s.governor 0).state = .running ∧ s.start.power.running then
    let online := (List.range 12).filter fun n => (s.fabric.die n).online
    let alloc := allocate ((s.capInEffect - hubW) * 1000) (online.map fun n => (n, dieW.getD n 0))
    ({ s with
      fabric := { s.fabric with dies := s.fabric.dies.mapIdx fun n d => Die.allocated d n alloc (dieW.getD n 0) }
      power := s.power.measure moduleW hubW dieW } : State).commanded 0
  else s)

/-- Firings within 60 s, this one among them (R573). -/
def recentFirings (g : Governor) (now : Nat) : List Nat := now :: g.firings.filter fun t => decide (now < t + 60000000000)

/-- Instance number of a governor's regulator bus (R601). -/
def busOf (g : Nat) : Nat := if g = 0 then 12 else g - 1

/-- R543, R573, R585: the bus is revoked, the image is checked, and the governor restarts; the third firing within 60 s
leaves it FAILED. -/
def State.watchdog (s : State) (g : Nat) (imageEqual : Bool) : State :=
  let fires := recentFirings (s.governor g) s.clock.count
  let failed := decide (3 ≤ fires.length)
  let s := { s with
    faults := { s.faults with leaseEnds := bumpAt s.faults.leaseEnds 0 }
    ret := { s.ret with firings := bumpAt s.ret.firings g } }
  let s := s.fault { code := 7, unit := 1, a := busOf g, b := 2, time := s.now }
  let s := { s with power := { s.power with
    governors := modifyAt s.power.governors g fun x =>
      { x with state := if failed then .failed else .restarting, firedAt := s.clock.count, firings := fires, copied := !imageEqual } } }
  if failed then s.fault { code := 6, unit := g, a := fires.length, time := s.now } else s

/-- R543: 2 ms without service; a loop step that commands the regulators is one (log 111). -/
def State.watchdogDue (s : State) (g : Nat) : Bool := decide ((s.governor g).commandAt + 2000000 ≤ s.clock.count)

/-- WATCHDOG_FIRE: 2 ms without service (R373, R384, R543, R573, R575, R585). -/
def execWatchdogFire (g : Fin 13) (imageEqual : Bool) (s : State) : Host.Outcome State Fault Refusal :=
  .next (if (s.governor g.val).state = .running ∧ s.start.step12 = true ∧ s.watchdogDue g.val = true then
    s.track (s.watchdog g.val imageEqual)
  else s)

/-- GOVERNOR_RESTART: the governor is released again (R543, R587). -/
def execGovernorRestart (g : Fin 13) (s : State) : Host.Outcome State Fault Refusal :=
  let x := s.governor g.val
  .next (if x.state = .restarting then
    let s := { s with power := { s.power with
      governors := modifyAt s.power.governors g.val fun x => { x with state := .running, commandAt := s.clock.count, copied := false } } }
    s.fault { code := 5, unit := g.val, a := (s.clock.count - x.firedAt) / 1000, b := if x.copied then 1 else 0, time := s.now }
  else s)

/-- R577: an offline die's records are lost with VHBM; its cluster stays configured, so forwarding is held at its first
event. -/
def Cluster.lost (c : Cluster) : Cluster := { c with records := [], poisoned := [] }

/-- A die off: its supplies, rates and floor. -/
def Die.off (d : Die) : Die :=
  { d with online := false, vfabOn := false, vioOn := false, vhbmOn := false, setpoint := 0, rate := 0, floor := 0,
           rates := [], validSince := none, commit := [], foldedAt := none }

/-- R576, R577: a die goes offline. The record is of code 0x08 with its cause. -/
def State.dieOff (s : State) (n cause : Nat) : State :=
  if (s.fabric.die n).online then
    let l := s.fabric.streamsOfDie n
    let s := (s.voidStreams l).haltStreams l
    let s := { s with
      fabric := s.fabric.modDie n Die.off
      shoal := { s.shoal with clusters := modifyAt s.shoal.clusters n Cluster.lost }
      straits := { s.straits with ports := modifyAt s.straits.ports n fun p => p.fresh .disabled } }
    let s := s.fault { code := 8, die := n, a := cause, time := s.now }
    (if l.isEmpty then s else s.selectFallback (some n) l).settleReady
  else s

/-- R546: the trip point of a thermal backstop: two valid sensors at or above 105 °C. -/
def tripped (readings : List Int) : Bool :=
  decide (2 ≤ (readings.filter fun x => sensorValid readings x && decide (105000 ≤ x)).length)

/-- DIE_THERMAL_TRIP (R546, R576). -/
def execDieThermalTrip (die : Fin 12) (s : State) : Host.Outcome State Fault Refusal :=
  .next (if (s.fabric.die die.val).online ∧ tripped (s.fabric.die die.val).sensors = true then
    s.track (({ s with ret := { s.ret with trips := bumpAt s.ret.trips die.val } } : State).dieOff die.val 1)
  else s)

/-- HUB_THERMAL_TRIP: every MAIN domain off, as a loss of MAIN (R546). -/
def execHubThermalTrip (s : State) : Host.Outcome State Fault Refusal :=
  .next (if s.pins.vhub ∧ tripped s.monitors.hubSensors = true then ({ s with ret := { s.ret with trips := bumpAt s.ret.trips 12 } } : State).internalReset else s)

/-- VFAB_CURRENT_LIMIT: fold-back at 320 A; no result changes (R546, R547). -/
def execVfabCurrentLimit (die : Fin 12) (s : State) : Host.Outcome State Fault Refusal :=
  .next { s with fabric := s.fabric.modDie die.val fun d =>
    { d with foldbacks := bump d.foldbacks, foldedAt := some s.clock.count } }

/-- R546: 320 A have been exceeded for 1 ms since the fold-back (log 111). -/
def Die.overcurrent (d : Die) (count : Nat) : Bool :=
  match d.foldedAt with
  | some t => decide (t + 1000000 ≤ count)
  | none => false

/-- VFAB_OVERCURRENT_OFF: as the die thermal trip (R546, R576). -/
def execVfabOvercurrentOff (die : Fin 12) (s : State) : Host.Outcome State Fault Refusal :=
  .next (if (s.fabric.die die.val).online ∧ (s.fabric.die die.val).overcurrent s.clock.count = true then
    s.track (({ s with ret := { s.ret with trips := bumpAt s.ret.trips die.val } } : State).dieOff die.val 2)
  else s)

/-- DIE_OFFLINE: a die whose governor is FAILED goes offline at a tide boundary (R574, R576). -/
def execDieOffline (die : Fin 12) (s : State) : Host.Outcome State Fault Refusal :=
  .next (if (s.governor (die.val + 1)).state = .failed ∧ (s.fabric.die die.val).online ∧ s.fabric.tide.isNone then
    s.track (s.dieOff die.val 3)
  else s)

end Sys2Proof.Machine
end

