-- ==== Sys2Proof/Machine/Operands.lean ====
section
/-! DEFINITION. Operand forms of a core: step encoding, Lagoon layouts, descriptors and tables (09). -/

namespace Sys2Proof.Machine

/-! ### Step encoding (R251) -/

/-- `n` lines from `lo` stay within the Lagoon. -/
def linesOk (lo n : Nat) : Bool := decide (lo + n ≤ 32768)

/-- Lines of `n` values of `w` bits. -/
def packedLines (n w : Nat) : Nat := (n * w + 511) / 512

/-- Lines a LOADW reads (09, Data layouts). -/
def loadLines (width shape : Nat) : Nat := if shape = 2 then packedLines 128 width else 32 * width

def decodeLoadw (arrays w : Nat) : Option CoreStep :=
  let a := field w 8 2
  let width := 2 ^ field w 10 2
  let shape := field w 12 2
  let src := field w 14 15
  if w >>> 29 = 0 ∧ a < arrays ∧ shape ≤ 2 ∧ linesOk src (loadLines width shape) = true then some (.loadw a width shape src) else none

/-- Arrays of a mask, ascending. -/
def maskArrays (m : Nat) : List Nat := (List.range 4).filter fun k => bit m k

/-- Activations per row of a STREAM (09, Data layouts). -/
def StreamF.rowValues (f : StreamF) : Nat := if f.mode = 1 then f.s else if f.mode = 2 then 32 else 128

/-- Foot values per row over the mask. -/
def StreamF.footValues (f : StreamF) : Nat := (maskArrays f.mask).length * (if f.mode = 2 then 512 else 128)

/-- Lines of one activation row. -/
def StreamF.rowLines (f : StreamF) : Nat := packedLines f.rowValues f.p

def decodeStream (arrays w : Nat) : Option CoreStep :=
  let fromSlot := bit w 20
  let dest := field w 67 2
  let f : StreamF :=
    { mask := field w 8 4, p := field w 12 4 + 1, signed := bit w 16, mode := field w 17 2, carry := bit w 19,
      fromSlot := fromSlot, src := field w 21 15, rows := field w 36 20 + 1, s := field w 56 7 + 1, k := field w 63 4 + 1,
      dest := dest, dst := field w 69 15, cline := field w 84 15, dparam := field w 99 15 }
  if w >>> 114 = 0 ∧ f.mask ≠ 0 ∧ f.mask < 2 ^ arrays ∧ f.mode ≤ 2 ∧ dest ≤ 2 ∧
      (if fromSlot then f.src < 4096 else linesOk f.src (f.rows * f.rowLines) = true) ∧
      (if dest = 2 then f.dst < 4096 else if dest = 0 then linesOk f.dst (f.rows * (f.footValues / 8)) = true else True) ∧
      (f.carry = true → linesOk f.cline (f.rows * (f.footValues / 8)) = true) then
    some (.stream f)
  else none

def decodeOpacc (arrays w : Nat) : Option CoreStep :=
  let u := field w 42 20 + 1
  if w >>> 62 = 0 ∧ field w 8 2 < arrays ∧ linesOk (field w 12 15) (2 * u) = true ∧ linesOk (field w 27 15) (2 * u) = true then
    some (.opacc (field w 8 2) (bit w 10) (bit w 11) (field w 12 15) (field w 27 15) u)
  else none

def decodeDrain (arrays w : Nat) : Option CoreStep :=
  let dest := field w 10 2
  let dst := field w 12 15
  if w >>> 42 = 0 ∧ field w 8 2 < arrays ∧ dest ≤ 2 ∧
      (if dest = 2 then dst < 4096 else if dest = 0 then linesOk dst 2048 = true else True) then
    some (.drain (field w 8 2) dest dst (field w 27 15))
  else none

/-- The VOPs of the table. -/
def vopListed (v : Nat) : Bool := [1, 2, 3, 4, 0x10, 0x11, 0x12, 0x13, 0x14, 0x18, 0x19, 0x1A, 0x20].contains v

/-- Lines a VEC step names at LINE. -/
def vecLines (f : VecF) : Nat :=
  if f.vop = 1 ∨ f.vop = 3 then packedLines 128 f.w
  else if f.vop = 2 ∨ f.vop = 4 then 16
  else if f.vop = 0x18 then 1
  else if f.vop = 0x19 then 17
  else if f.vop = 0x20 then packedLines f.n 32
  else 0

def decodeVec (w : Nat) : Option CoreStep :=
  let f : VecF :=
    { vop := field w 8 8, vd := field w 16 4, va := field w 20 4, vb := field w 24 4, line := field w 28 15,
      aux := field w 43 15, w := field w 58 5 + 1, signed := bit w 63, n := field w 64 12 + 1 }
  if w >>> 76 = 0 ∧ vopListed f.vop = true ∧ linesOk f.line (vecLines f) = true then some (.vec f) else none

/-- A SEND or RECV: slot, line, count. -/
def decodeTransfer (w : Nat) : Option (Nat × Nat × Nat) :=
  let n := field w 35 15 + 1
  if w >>> 50 = 0 ∧ linesOk (field w 20 15) n = true then some (field w 8 12, field w 20 15, n) else none

/-- A step of 128 bits; none is a plan fault with code 0x01 (R251). `arrays` is the grade's. -/
def decodeStep (arrays w : Nat) : Option CoreStep :=
  match w % 256 with
  | 0x00 => if w = 0 then some .nop else none
  | 0x01 => decodeLoadw arrays w
  | 0x02 => decodeStream arrays w
  | 0x03 => decodeOpacc arrays w
  | 0x04 => decodeDrain arrays w
  | 0x05 => decodeVec w
  | 0x06 => (decodeTransfer w).map fun t => .send t.1 t.2.1 t.2.2
  | 0x07 => (decodeTransfer w).map fun t => .recv t.1 t.2.1 t.2.2
  | 0x08 => if w >>> 20 = 0 then some (.waitslot (field w 8 12)) else none
  | 0x09 => if w >>> 14 = 0 then some (.fence (field w 8 6)) else none
  | 0x0F => if w = 0x0F then some .fin else none
  | _ => none

/-! ### The Lagoon -/

def Core.line (c : Core) (i : Nat) : Line := SMap.get {} c.lagoon i

/-- `n` lines as one little-endian number: an invalid line reads zero (R225). -/
def Core.linesNat (c : Core) (i n : Nat) : Nat :=
  (List.range n).foldr (fun k t => (c.line (i + k)).data.toNat + 2 ^ 512 * t) 0

/-- The OR of the tags of `n` lines (R224). -/
def Core.linesTag (c : Core) (i n : Nat) : Bool := (List.range n).any fun k => (c.line (i + k)).tag

/-- A line of the execute or the constant window. -/
def Core.inWindow (c : Core) (i : Nat) : Bool :=
  (decide (c.execBase ≤ i) && decide (i < c.execBase + c.execLines)) ||
    (decide (c.constBase ≤ i) && decide (i < c.constBase + c.constLines))

/-- The low `n` bits of a line written (R245): an invalid line takes zero in the rest; a whole line takes the new tag, a part
of a valid line keeps the earlier tag beside it (log 12). -/
def Line.write (l : Line) (n v : Nat) (tag : Bool) : Line :=
  if 512 ≤ n then { valid := true, tag := tag, data := BitVec.ofNat 512 v }
  else { valid := true, tag := tag || l.tag, data := BitVec.ofNat 512 (v % 2 ^ n + (l.data.toNat >>> n) * 2 ^ n) }

/-- `n` bits written to one line; a line of a window is refused (R247). The count is of lines refused. -/
def Core.writeLine (c : Core) (i n v : Nat) (tag : Bool) : Core × Nat :=
  if c.inWindow i then (c, 1)
  else ({ c with lagoon := SMap.modify {} c.lagoon i fun l => l.write n v tag }, 0)

/-- `n` bits written from a line on, with the tag of each line. -/
def Core.writeBits (c : Core) (i n v : Nat) (tag : Nat → Bool) : Core × Nat :=
  (List.range ((n + 511) / 512)).foldl
    (fun acc k =>
      let r := acc.1.writeLine (i + k) (n - 512 * k) (field v (512 * k) 512) (tag k)
      (r.1, acc.2 + r.2)) (c, 0)

/-- Value `i` of `w` bits of a packed number. -/
def packedAt (v i w : Nat) (isSigned : Bool) : Int :=
  let x := field v (i * w) w
  if isSigned then signed w x else x

/-- Values packed at `w` bits each, value 0 lowest. -/
def pack (w : Nat) (l : List Int) : Nat := l.foldr (fun v t => twos w v + 2 ^ w * t) 0

/-! ### Descriptors and tables -/

/-- A requantisation descriptor (09, Data layouts). -/
structure Requant where
  m : List Int
  z : List Int
  s : Nat
  w : Nat
  signed : Bool
  tag : Bool
  lines : Nat
  deriving DecidableEq, Repr

/-- Lines of a descriptor for `v` columns: one, and with PERCOL the multipliers and the offsets. -/
def descriptorLines (c : Core) (d v : Nat) : Nat := if bit (c.line d).data.toNat 49 then 1 + 2 * packedLines v 32 else 1

/-- The descriptor at line D for `v` columns; none when a field is out of range (R231, R251). -/
def Core.requant (c : Core) (d v : Nat) : Option Requant :=
  let h := (c.line d).data.toNat
  let perCol := bit h 49
  let n := descriptorLines c d v
  let per := packedLines v 32
  let mulN := c.linesNat (d + 1) per
  let offN := c.linesNat (d + 1 + per) per
  let one (lo : Nat) : Int := signed 32 (field h lo 32)
  let q : Requant :=
    { m := (List.range v).map fun i => if perCol then packedAt mulN i 32 true else one 0
      z := (List.range v).map fun i => if perCol then packedAt offN i 32 true else one 64
      s := field h 32 8, w := field h 40 8, signed := bit h 48, tag := c.linesTag d n, lines := n }
  if q.s ≤ 63 ∧ 1 ≤ q.w ∧ q.w ≤ 32 ∧ field h 50 14 = 0 ∧ h >>> 96 = 0 ∧ linesOk d n = true then some q else none

/-- The lookup table at line D (09, R233); none when the shift is out of range. -/
def Core.lut (c : Core) (d : Nat) : Option (LutTable × Bool) :=
  let h := (c.line d).data.toNat
  let t := c.linesNat (d + 1) 16
  let k := field h 32 8
  if k ≤ 24 ∧ linesOk d 17 = true then
    some (⟨signed 32 (field h 0 32), k, (List.range 256).map fun i => packedAt t i 32 true⟩, c.linesTag d 17)
  else none

/-- A RAW row: 48-bit values sign-extended to 8 octets each. -/
def rawNat (l : List Int) : Nat := pack 64 l

/-- A row requantised for the VQ layout: values and which of them saturated (R231, R255). -/
def Requant.row (q : Requant) (l : List Int) : List (Int × Bool) :=
  l.mapIdx fun i x => requantise x (q.m.getD i 0) q.s (q.z.getD i 0) q.signed q.w

/-- The tag of output line `k` of a VQ row of `w`-bit values (R224, R255): saturations in it, the feet its values came from,
the descriptor. -/
def vqTag (q : Requant) (vals : List (Int × Bool)) (footTag : Nat → Bool) (k : Nat) : Bool :=
  q.tag || (List.range vals.length).any fun i =>
    decide (i * q.w < 512 * (k + 1)) && decide (512 * k < (i + 1) * q.w) && ((vals.getD i (0, false)).2 || footTag i)

end Sys2Proof.Machine
end

