-- ==== Sys2Proof/Machine/CoreOps.lean ====
section
/-! DEFINITION. How a core's operations run: what each reads and writes, which earlier operation it waits for (R249), and
what it does to the core when it runs (07, 08, 09). Every operation acts at one instant; beats are not modelled. -/

namespace Sys2Proof.Machine

/-! ### Footprints -/

def stepArrays : CoreStep → List Nat
  | .loadw a _ _ _ => [a]
  | .stream f => maskArrays f.mask
  | .opacc a _ _ _ _ _ => [a]
  | .drain a _ _ _ => [a]
  | _ => []

/-- Lines a requantisation descriptor takes, as the Lagoon stands. -/
def Core.descRange (c : Core) (d v : Nat) : Nat × Nat := (d, descriptorLines c d v)

/-- Lines of a VQ row of `v` values under the descriptor at `d`. -/
def Core.vqLines (c : Core) (d v : Nat) : Nat := packedLines v (field (c.line d).data.toNat 40 8)

/-- The softmax descriptor at a line: exp table, reciprocal table (09, Data layouts). -/
def Core.softmaxTables (c : Core) (l : Nat) : Nat × Nat :=
  let h := (c.line l).data.toNat
  (field h 0 16, field h 16 16)

/-- Line ranges a step reads. -/
def Core.readsOf (c : Core) : CoreStep → List (Nat × Nat)
  | .loadw _ w sh src => [(src, loadLines w sh)]
  | .stream f =>
    (if f.fromSlot then [] else [(f.src, f.rows * f.rowLines)]) ++
      (if f.carry then [(f.cline, f.rows * (f.footValues / 8))] else []) ++
      (if f.dest = 1 then [c.descRange f.dparam f.footValues] else [])
  | .opacc _ _ _ a b u => [(a, 2 * u), (b, 2 * u)]
  | .drain _ dest _ dp => if dest = 1 then [c.descRange dp 128] else []
  | .vec f =>
    if f.vop = 0x01 ∨ f.vop = 0x02 then [(f.line, vecLines f)]
    else if f.vop = 0x18 then [c.descRange f.line 128]
    else if f.vop = 0x19 then [(f.line, 17)]
    else if f.vop = 0x20 then
      let t := c.softmaxTables f.aux
      [(f.line, vecLines f), (f.aux, 1), (t.1, 17), (t.2, 17)]
    else []
  | .send _ l n => [(l, n)]
  | _ => []

/-- Line ranges a step writes. -/
def Core.writesOf (c : Core) : CoreStep → List (Nat × Nat)
  | .stream f =>
    if f.dest = 0 then [(f.dst, f.rows * (f.footValues / 8))]
    else if f.dest = 1 then [(f.dst, f.rows * c.vqLines f.dparam f.footValues)]
    else []
  | .drain _ dest dst dp =>
    if dest = 0 then [(dst, 2048)] else if dest = 1 then [(dst, 128 * c.vqLines dp 128)] else []
  | .vec f => if f.vop = 0x03 ∨ f.vop = 0x04 ∨ f.vop = 0x20 then [(f.line, vecLines f)] else []
  | .recv _ l n => [(l, n)]
  | _ => []

def overlaps (a b : Nat × Nat) : Bool := decide (a.1 < b.1 + b.2) && decide (b.1 < a.1 + a.2)

def anyOverlap (l m : List (Nat × Nat)) : Bool := l.any fun a => m.any fun b => overlaps a b

/-- Steps that use the activation stream (R199). -/
def CoreStep.usesStream : CoreStep → Bool
  | .stream _ => true
  | .opacc .. => true
  | _ => false

def CoreStep.isVec : CoreStep → Bool
  | .vec _ => true
  | _ => false

def CoreStep.isFront : CoreStep → Bool
  | .loadw .. => true
  | _ => false

def CoreStep.isArrayOp : CoreStep → Bool
  | .stream _ => true
  | .opacc .. => true
  | .drain .. => true
  | _ => false

/-- Steps that give the outgoing port units (R260). -/
def CoreStep.produces : CoreStep → Bool
  | .send .. => true
  | .stream f => f.dest == 2
  | .drain _ dest _ _ => dest == 2
  | _ => false

/-- The receive slot a step takes units from. -/
def CoreStep.takesFrom : CoreStep → Option Nat
  | .recv s _ _ => some s
  | .stream f => if f.fromSlot then some f.src else none
  | _ => none

/-- The descriptor line that a step's line ranges depend on. -/
def CoreStep.header : CoreStep → Option Nat
  | .stream f => if f.dest = 1 then some f.dparam else none
  | .drain _ dest _ dp => if dest = 1 then some dp else none
  | .vec f => if f.vop = 0x18 then some f.line else if f.vop = 0x20 then some f.aux else none
  | _ => none

/-- An operation with the line ranges it reads and writes. -/
structure Footprint where
  step : CoreStep
  reads : List (Nat × Nat)
  writes : List (Nat × Nat)
  deriving DecidableEq, Repr

/-- The ranges as the Lagoon stands. -/
def Core.exact (c : Core) (st : CoreStep) : Footprint := ⟨st, c.readsOf st, c.writesOf st⟩

/-- The widest ranges a step can have, while its descriptor is still due: offsets and multipliers per column, values of 32 bits
(R231), softmax tables anywhere. -/
def Core.widest (c : Core) (st : CoreStep) : Footprint :=
  match st with
  | .stream f => ⟨st, c.readsOf st ++ [(f.dparam, 1 + 2 * packedLines f.footValues 32)],
      [(f.dst, f.rows * packedLines f.footValues 32)]⟩
  | .drain _ _ dst dp => ⟨st, [(dp, 1 + 2 * packedLines 128 32)], [(dst, 128 * packedLines 128 32)]⟩
  | .vec f =>
    if f.vop = 0x20 then ⟨st, (0, 32768) :: c.readsOf st, c.writesOf st⟩
    else ⟨st, [(f.line, 1 + 2 * packedLines 128 32)], c.writesOf st⟩
  | _ => c.exact st

/-- The footprints of operations in issue order; `due` are the ranges that earlier ones have yet to write. -/
def Core.footprints (c : Core) (due : List (Nat × Nat)) : List Issued → List Footprint
  | [] => []
  | o :: os =>
    let p := match o.step.header with
      | some d => if anyOverlap due [(d, 1)] then c.widest o.step else c.exact o.step
      | none => c.exact o.step
    p :: c.footprints (due ++ p.writes) os

/-- An operation that may not run before an earlier one: R249 for the Lagoon, R203-R207 for the arrays, R199 for the
activation stream, the vector unit's issue order, R260 for the outgoing port, and one slot's order. -/
def mustWait (e o : Footprint) : Bool :=
  anyOverlap e.writes o.reads || anyOverlap e.writes o.writes || anyOverlap e.reads o.writes ||
    ((stepArrays e.step).any fun a => (stepArrays o.step).contains a) || (e.step.isFront && o.step.isFront) ||
    (e.step.usesStream && o.step.usesStream) || (e.step.isVec && o.step.isVec) || (e.step.produces && o.step.produces) ||
    (e.step.takesFrom.isSome && e.step.takesFrom == o.step.takesFrom)

/-- An operation whose own descriptor is due waits for it through its exact reads, which name the descriptor line. -/
def Core.blocked (c : Core) (earlier : List Issued) (o : Issued) : Bool :=
  (c.footprints [] earlier).any fun e => mustWait e (c.exact o.step)

/-! ### Effects -/

/-- What running operations leaves: the core, units for the Sound, counts of saturations (R241), lines
refused (R247) and updates beyond the 256th (R192), and a plan fault: its code and step. -/
structure CoreFx where
  core : Core
  out : List SoundUnit := []
  sats : Nat := 0
  refused : Nat := 0
  excess : Nat := 0
  fault : Option (Nat × Nat) := none
  deriving DecidableEq, Repr

def CoreFx.fail (x : CoreFx) (code step : Nat) : CoreFx := { x with fault := some (code, step) }

def CoreFx.modCore (x : CoreFx) (g : Core → Core) : CoreFx := { x with core := g x.core }

/-- Bits written to the Lagoon, refused lines counted (R245, R247). -/
def CoreFx.write (x : CoreFx) (line n v : Nat) (tag : Nat → Bool) : CoreFx :=
  let r := x.core.writeBits line n v tag
  { x with core := r.1, refused := x.refused + r.2 }

def Core.array (c : Core) (a : Nat) : ArrayState := c.arrays.getD a {}

def Core.modArray (c : Core) (a : Nat) (g : ArrayState → ArrayState) : Core := { c with arrays := modifyAt c.arrays a g }

def Core.slot (c : Core) (sl : Nat) : Option SlotEntry := c.slots.find? fun e => e.slot == sl

/-! ### Weight fronts (R180, R181, R195, R196) -/

/-- The weight latches a LOADW leaves, key 128 r + c, as octets of the sign-extended weight. -/
def loadedWeights (v width shape : Nat) : SMap Byte :=
  let w (i : Nat) : Byte := BitVec.ofNat 8 (twos 8 (packedAt v i width true))
  SMap.ofFn 0 16384 fun k =>
    let r := k / 128
    let col := k % 128
    if shape = 0 then w k
    else if shape = 1 then w (512 * (r % 32) + 128 * (r / 32) + col)
    else if r = col then w r else 0

def CoreFx.runLoadw (x : CoreFx) (a width shape src : Nat) : CoreFx :=
  let n := loadLines width shape
  let ws := loadedWeights (x.core.linesNat src n) width shape
  let tag := x.core.linesTag src n
  x.modCore fun c => c.modArray a fun r =>
    { r with shape := if shape = 1 then .narrows else .stationary, weights := ws, wTag := tag }

/-! ### Streams (R182-R201, R227, R228, R254) -/

def ArrayState.weight (r : ArrayState) (row col : Nat) : Int :=
  signed 8 (SMap.get (0 : Byte) r.weights (128 * row + col)).toNat

/-- R182: the activations of row m as the row layout gives them. -/
def rowActivations (v m : Nat) (f : StreamF) : List Int :=
  (List.range f.rowValues).map fun i => packedAt (field v (512 * f.rowLines * m) (512 * f.rowLines)) i f.p f.signed

/-- R188, R189: the values on the array rows at step m of a shift pass: block j holds the input of j steps earlier. -/
def shiftRow (rows : List (List Int)) (m s k : Nat) : List Int :=
  (List.range 128).map fun r =>
    let j := r / s
    if k ≤ j ∨ m < j then 0 else (rows.getD (m - j) []).getD (r % s) 0

/-- R227: the feet of one array for one row: value and saturation. -/
def footRow (arr : ArrayState) (narrows : Bool) (xs : List Int) (carry : Nat → Int) : List (Int × Bool) :=
  if narrows then
    (List.range 512).map fun n =>
      footValue (carry n) (xs.mapIdx fun r x => arr.weight (32 * (n / 128) + r) (n % 128) * x)
  else
    (List.range 128).map fun col => footValue (carry col) (xs.mapIdx fun r x => arr.weight r col * x)

/-- One row of a gang at the feet: values in array order, the tag of each array's foot row, how many of them saturated. -/
structure GangRow where
  vals : List Int
  tags : List Bool
  sats : Nat
  deriving DecidableEq, Repr

/-- R200, R227, R228: row m over the arrays of the mask. -/
def Core.gangRow (c : Core) (f : StreamF) (xs : List Int) (xTag : Bool) (m : Nat) : GangRow :=
  let per := if f.mode = 2 then 512 else 128
  let cl := f.cline + m * (f.footValues / 8)
  let carryV := if f.carry then c.linesNat cl (f.footValues / 8) else 0
  let rows := (maskArrays f.mask).mapIdx fun k a =>
    let arr := c.array a
    let vals := footRow arr (f.mode == 2) xs fun i => if f.carry then signed 48 (field carryV (64 * (per * k + i)) 48) else 0
    let sat := vals.any (·.2)
    let ct := f.carry && c.linesTag (cl + k * (per / 8)) (per / 8)
    (vals.map (·.1), sat || xTag || arr.wTag || ct, sat)
  { vals := rows.flatMap (·.1), tags := rows.map fun r => r.2.1, sats := (rows.filter fun r => r.2.2).length }

/-- The octets of a RAW row, in Sound units of 256 B, with the tag of the foot row each comes from. -/
def rawUnits (g : GangRow) (per : Nat) : List (Bytes × Bool) :=
  let b := leBytes (8 * g.vals.length) (rawNat g.vals)
  (List.range (8 * g.vals.length / 256)).map fun i => (slice b (256 * i) 256, g.tags.getD (32 * i / per) false)

/-- Units handed to the outgoing port on a slot, in ascending sequence (R257, R260). -/
def CoreFx.emit (x : CoreFx) (core slot : Nat) (dst : BitVec 16) (data : List (Bytes × Bool)) : CoreFx :=
  let seq := SMap.get 0 x.core.sendSeq slot
  let units := data.mapIdx fun k d =>
    ({ dst := dst, token := BitVec.ofNat 48 (slot + 2 ^ 12 * ((seq + k) % 2 ^ 20) + 2 ^ 32 * core),
       data := d.1, tag := d.2 } : SoundUnit)
  { x with
    core := { x.core with
      sendSeq := SMap.set 0 x.core.sendSeq slot (seq + data.length)
      unacked := SMap.modify 0 x.core.unacked slot (· + data.length) }
    out := x.out ++ units }

/-- Where a finished row goes: RAW, VQ or SEND (09, "Sharing the activation stream and the feet"). -/
def CoreFx.deliverRow (x : CoreFx) (core dest dst per m : Nat) (q : Option Requant) (partner : BitVec 16) (g : GangRow) :
    CoreFx :=
  let n := g.vals.length
  let x := { x with sats := x.sats + g.sats }
  match dest, q with
  | 0, _ => x.write (dst + m * (n / 8)) (64 * n) (rawNat g.vals) fun k => g.tags.getD (8 * k / per) false
  | 1, some q =>
    let vals := q.row g.vals
    let x := { x with sats := x.sats + if vals.any (·.2) then 1 else 0 }
    x.write (dst + m * packedLines n q.w) (n * q.w) (pack q.w (vals.map (·.1)))
      (vqTag q vals fun i => g.tags.getD (i / per) false)
  | _, _ => x.emit core dst partner (rawUnits g per)

/-- The destination of a STREAM or DRAIN stands: the descriptor is in range, the destination lines are, the slot sends. -/
def Core.destOk (c : Core) (dest dst dparam rows v : Nat) : Bool :=
  match dest with
  | 0 => true
  | 1 => match c.requant dparam v with
    | some q => linesOk dst (rows * packedLines v q.w)
    | none => false
  | _ => match c.slot dst with
    | some e => !e.receive
    | none => false

def Core.destQuant (c : Core) (dest dparam v : Nat) : Option Requant := if dest = 1 then c.requant dparam v else none

def Core.partnerOf (c : Core) (sl : Nat) : BitVec 16 := ((c.slot sl).map (·.partner)).getD 0

/-- R201, R214: the shape a STREAM needs. -/
def Core.shapeOk (c : Core) (f : StreamF) : Bool :=
  ((maskArrays f.mask).all fun a => (c.array a).shape == if f.mode = 2 then .narrows else .stationary) &&
    (f.mode != 1 || decide (f.k * f.s ≤ 128))

/-- Lines a FROMSLOT STREAM takes: those of its rows (R254). -/
def StreamF.linesNeeded (f : StreamF) : Nat := f.rows * f.rowLines

/-- The slot and sequence of a unit's token (R257). -/
def unitSlot (u : SoundUnit) : Nat := field u.token.toNat 0 12
def unitSeq (u : SoundUnit) : Nat := field u.token.toNat 12 20
def unitSource (u : SoundUnit) : Nat := field u.token.toNat 32 16

/-- Buffered units of a slot, in order of arrival. -/
def Core.buffered (c : Core) (sl : Nat) : List SoundUnit := c.recvBuf.filter fun u => unitSlot u == sl

/-- The lines of a unit: one for every 64 octets, the last with what is left. -/
def unitLines (u : SoundUnit) : List UnitLine :=
  (List.range ((u.data.length + 63) / 64)).map fun k =>
    let b := slice u.data (64 * k) 64
    ⟨BitVec.ofNat 512 (leNat b), u.tag, 8 * b.length⟩

/-- The first `n` lines of a slot's buffered units in order of arrival, and the buffer without them: what is left of a unit stays
for the next operation on the slot (log 94). -/
def takeLines (sl : Nat) : Nat → List SoundUnit → List UnitLine × List SoundUnit
  | _, [] => ([], [])
  | n, u :: us =>
    let ls := unitLines u
    if unitSlot u = sl ∧ 0 < n then
      if ls.length ≤ n then
        let r := takeLines sl (n - ls.length) us
        (ls ++ r.1, r.2)
      else (ls.take n, { u with data := u.data.drop (64 * n) } :: us)
    else
      let r := takeLines sl n us
      (r.1, u :: r.2)

/-- Lines as one little-endian number. -/
def feedNat (l : List UnitLine) : Nat := l.foldr (fun x t => x.data.toNat + 2 ^ 512 * t) 0

/-- The source of a STREAM: its octets as one number, and the tag of each row's lines; `fed` are the lines taken from its slot. -/
def Core.streamSource (c : Core) (f : StreamF) (fed : List UnitLine) : Nat × (Nat → Bool) :=
  if f.fromSlot then
    (feedNat fed, fun m => ((fed.drop (m * f.rowLines)).take f.rowLines).any (·.tag))
  else (c.linesNat f.src (f.rows * f.rowLines), fun m => c.linesTag (f.src + m * f.rowLines) f.rowLines)

/-- A row finishes in an array's feet and waits there for the drain path (R183, R187). -/
def ArrayState.finishRow (r : ArrayState) (vals : List Int) : ArrayState :=
  { r with feet := vals, waiting := r.waiting ++ [vals] }

/-- The oldest finished row goes to the drain path. -/
def ArrayState.handOff (r : ArrayState) : ArrayState := { r with waiting := r.waiting.drop 1 }

/-- A row of a gang in the feet of its arrays, `per` values each, in ascending order. -/
def Core.finishRow (c : Core) (arrays : List Nat) (per : Nat) (vals : List Int) : Core :=
  (arrays.mapIdx fun k a => (k, a)).foldl (fun c p => c.modArray p.2 fun r => r.finishRow ((vals.drop (per * p.1)).take per)) c

def Core.handOff (c : Core) (arrays : List Nat) : Core := arrays.foldl (fun c a => c.modArray a ArrayState.handOff) c

/-- A finished row of a gang leaves by the drain path (R187, R200). -/
def CoreFx.drainRow (x : CoreFx) (core : Nat) (arrays : List Nat) (dest dst per m : Nat) (q : Option Requant) (partner : BitVec 16)
    (g : GangRow) : CoreFx :=
  ((x.modCore fun c => c.finishRow arrays per g.vals).deliverRow core dest dst per m q partner g).modCore fun c => c.handOff arrays

/-- A STREAM runs (R186-R189, R197, R200, R227, R228, R254, R255). -/
def CoreFx.runStream (x : CoreFx) (core : Nat) (f : StreamF) (fed : List UnitLine) : CoreFx :=
  let c := x.core
  let src := c.streamSource f fed
  let acts := (List.range f.rows).map fun m => rowActivations src.1 m f
  let per := if f.mode = 2 then 512 else 128
  let q := c.destQuant f.dest f.dparam f.footValues
  let x := x.modCore fun c => { c with curMask := BitVec.ofNat 4 f.mask }
  (List.range f.rows).foldl (fun x m =>
    let xs := if f.mode = 1 then shiftRow acts m f.s f.k else acts.getD m []
    let tag := if f.mode = 1 then (List.range f.k).any fun j => decide (j ≤ m) && src.2 (m - j) else src.2 m
    x.drainRow core (maskArrays f.mask) f.dest f.dst per m q (c.partnerOf f.dst) (c.gangRow f xs tag m)) x

/-! ### Outer products and drains (R190-R194, R229, R230) -/

/-- One update of every cell. -/
def ArrayState.update (r : ArrayState) (a b : List Int) (tag : Bool) : ArrayState × Nat :=
  let cells := (List.range 16384).map fun k =>
    cellUpdate (signed 24 (SMap.get (0 : BitVec 24) r.acc k).toNat) (a.getD (k / 128) 0) (b.getD (k % 128) 0)
  let rowSat := maskOf 128 fun row => (List.range 128).any fun col => (cells.getD (128 * row + col) (0, false)).2
  ({ r with
     acc := SMap.ofFn 0 16384 fun k => BitVec.ofNat 24 (twos 24 (cells.getD k (0, false)).1)
     rowSat := r.rowSat ||| BitVec.ofNat 128 rowSat
     accTag := r.accTag || tag
     updates := r.updates + 1 }, (cells.filter (·.2)).length)

/-- The 128 operands of an OPACC side at update u (09, Data layouts). -/
def Core.opaccRow (c : Core) (base u : Nat) (sgn : Bool) : List Int :=
  let v := c.linesNat (base + 2 * u) 2
  (List.range 128).map fun i => packedAt v i 8 sgn

def CoreFx.runOpacc (x : CoreFx) (a : Nat) (asg bsg : Bool) (asrc bsrc u : Nat) : CoreFx :=
  let c := x.core
  let r := (List.range u).foldl (fun acc k =>
    let s := acc.1.update (c.opaccRow asrc k asg) (c.opaccRow bsrc k bsg)
      (c.linesTag (asrc + 2 * k) 2 || c.linesTag (bsrc + 2 * k) 2)
    (s.1, acc.2 + s.2)) (c.array a, 0)
  let before := (c.array a).updates
  { x with
    core := { c.modArray a fun _ => r.1 with curMask := BitVec.ofNat 4 (2 ^ a) }
    sats := x.sats + r.2
    excess := x.excess + ((before + u - 256) - (before - 256)) }

/-- A DRAIN runs (R193, R230). -/
def CoreFx.runDrain (x : CoreFx) (core a dest dst dparam : Nat) : CoreFx :=
  let c := x.core
  let arr := c.array a
  let q := c.destQuant dest dparam 128
  let x := x.modCore fun c => c.modArray a fun r => { r with acc := [], rowSat := 0, accTag := false, updates := 0 }
  (List.range 128).foldl (fun x row =>
    let g : GangRow :=
      { vals := (List.range 128).map fun col => signed 24 (SMap.get (0 : BitVec 24) arr.acc (128 * row + col)).toNat
        tags := [arr.rowSat.getLsbD row || arr.accTag || decide (256 < arr.updates)], sats := 0 }
    x.drainRow core [a] dest dst 128 row q (c.partnerOf dst) g) x

/-- R192: OPACC updates after the 256th count as they execute. -/
def Core.arrayShapeOk (c : Core) (a : Nat) : Bool := (c.array a).shape != .narrows

/-! ### The vector unit (R256, R269, VOP table) -/

def Core.vreg (c : Core) (i : Nat) : VReg := c.vregs.getD i {}

def CoreFx.setVreg (x : CoreFx) (d : Nat) (vals : List (Int × Bool)) (tag : Bool) : CoreFx :=
  let sat := vals.any (·.2)
  { x with
    core := { x.core with vregs := modifyAt x.core.vregs d fun _ => ⟨vals.map (·.1), tag || sat⟩ }
    sats := x.sats + if sat then 1 else 0 }

/-- VADD, VSUB, VMUL, VMAX, VMIN. -/
def vecArith (vop : Nat) (a b : Int) : Int :=
  match vop with
  | 0x10 => a + b
  | 0x11 => a - b
  | 0x12 => a * b
  | 0x13 => max a b
  | _ => min a b

def CoreFx.vld (x : CoreFx) (f : VecF) : CoreFx :=
  let n := packedLines 128 f.w
  let v := x.core.linesNat f.line n
  x.setVreg f.vd ((List.range 128).map fun i => (packedAt v i f.w f.signed, false)) (x.core.linesTag f.line n)

def CoreFx.vld48 (x : CoreFx) (f : VecF) : CoreFx :=
  let v := x.core.linesNat f.line 16
  x.setVreg f.vd ((List.range 128).map fun i => (signed 48 (field v (64 * i) 48), false)) (x.core.linesTag f.line 16)

/-- VST: each line takes the register's tag and the saturations in it (R224). -/
def CoreFx.vst (x : CoreFx) (f : VecF) : CoreFx :=
  let r := x.core.vreg f.va
  let vals := r.lanes.map fun v => sat f.signed f.w v
  let tag (k : Nat) : Bool := r.tag || (List.range 128).any fun i =>
    decide (i * f.w < 512 * (k + 1)) && decide (512 * k < (i + 1) * f.w) && (vals.getD i (0, false)).2
  let x := x.write f.line (128 * f.w) (pack f.w (vals.map (·.1))) tag
  { x with sats := x.sats + if vals.any (·.2) then 1 else 0 }

def CoreFx.vst48 (x : CoreFx) (f : VecF) : CoreFx :=
  let r := x.core.vreg f.va
  x.write f.line 8192 (rawNat r.lanes) fun _ => r.tag

def CoreFx.vbin (x : CoreFx) (f : VecF) : CoreFx :=
  let a := x.core.vreg f.va
  let b := x.core.vreg f.vb
  x.setVreg f.vd ((List.range 128).map fun i => satS 48 (vecArith f.vop (a.lanes.getD i 0) (b.lanes.getD i 0))) (a.tag || b.tag)

def CoreFx.vreq (x : CoreFx) (f : VecF) (q : Requant) : CoreFx :=
  let a := x.core.vreg f.va
  x.setVreg f.vd (q.row a.lanes) (a.tag || q.tag)

def CoreFx.vlut (x : CoreFx) (f : VecF) (t : LutTable) (tag : Bool) : CoreFx :=
  let a := x.core.vreg f.va
  let x := x.modCore fun c => { c with lastLut := some f.line }
  x.setVreg f.vd (a.lanes.map fun v => (t.at (satS 32 v).1, (satS 32 v).2)) (a.tag || tag)

def CoreFx.vsum (x : CoreFx) (f : VecF) : CoreFx :=
  let a := x.core.vreg f.va
  let s := satS 48 (a.lanes.foldl (· + ·) 0)
  x.setVreg f.vd (s :: List.replicate 127 (0, false)) a.tag

def CoreFx.vsmax (x : CoreFx) (f : VecF) (e r : LutTable × Bool) : CoreFx :=
  let n := packedLines f.n 32
  let v := x.core.linesNat f.line n
  let logits := (List.range f.n).map fun i => packedAt v i 32 true
  let out := softmax logits e.1 r.1
  let tag := out.2 || x.core.linesTag f.line n || (x.core.line f.aux).tag || e.2 || r.2
  let x := { x with sats := x.sats + if softmaxSaturates logits e.1 r.1 then 1 else 0 }
  x.write f.line (32 * f.n) (pack 32 out.1) fun _ => tag

/-- A VEC step runs; a descriptor or table out of range is a plan fault (R251). -/
def CoreFx.runVec (x : CoreFx) (f : VecF) (step : Nat) : CoreFx :=
  match f.vop with
  | 0x01 => x.vld f
  | 0x02 => x.vld48 f
  | 0x03 => x.vst f
  | 0x04 => x.vst48 f
  | 0x18 => match x.core.requant f.line 128 with
    | some q => x.vreq f q
    | none => x.fail 1 step
  | 0x19 => match x.core.lut f.line with
    | some t => x.vlut f t.1 t.2
    | none => x.fail 1 step
  | 0x1A => x.vsum f
  | 0x20 =>
    let t := x.core.softmaxTables f.aux
    match x.core.lut t.1, x.core.lut t.2 with
    | some e, some r => x.vsmax f e r
    | _, _ => x.fail 1 step
  | _ => x.vbin f

/-! ### Sends and receives (R250, R257-R260) -/

/-- The units of a SEND: four lines each, the last what is left. -/
def Core.sendData (c : Core) (line n : Nat) : List (Bytes × Bool) :=
  (List.range ((n + 3) / 4)).map fun k =>
    let m := min 4 (n - 4 * k)
    (leBytes (64 * m) (c.linesNat (line + 4 * k) m), c.linesTag (line + 4 * k) m)

def CoreFx.runSend (x : CoreFx) (core slot line n step : Nat) : CoreFx :=
  match x.core.slot slot with
  | some e => if e.receive then x.fail 1 step else x.emit core slot e.partner (x.core.sendData line n)
  | none => x.fail 1 step

/-- Lines land from a line on (R245, R250). -/
def CoreFx.land (x : CoreFx) : Nat → List UnitLine → CoreFx
  | _, [] => x
  | line, l :: ls => (x.write line l.bits l.data.toNat fun _ => l.tag).land (line + 1) ls

/-- Buffered lines of the slot land in a posted RECV of `n` lines, in order (R250, R259): what is left of it, and the lines
landed so far. -/
def CoreFx.landBuffered (x : CoreFx) (slot line n landed : Nat) : CoreFx × Nat :=
  let r := takeLines slot (n - landed) x.core.recvBuf
  ((x.modCore fun c => { c with recvBuf := r.2 }).land (line + landed) r.1, landed + r.1.length)

/-- A FROMSLOT STREAM takes what its slot has buffered (R254). -/
def CoreFx.feed (x : CoreFx) (o : Issued) (f : StreamF) : CoreFx × Issued :=
  let r := takeLines f.src (f.linesNeeded - o.fed.length) x.core.recvBuf
  (x.modCore fun c => { c with recvBuf := r.2 }, { o with fed := o.fed ++ r.1 })

/-! ### Running what can run -/

/-- What becomes of an operation that nothing blocks: `none` when it has completed. Fronts and array operations wait for
their own start. -/
def CoreFx.advance (x : CoreFx) (core : Nat) (o : Issued) : CoreFx × Option Issued :=
  match o.step with
  | .vec f => (x.runVec f o.index, none)
  | .send sl l n => (x.runSend core sl l n o.index, none)
  | .recv sl l n =>
    let r := x.landBuffered sl l n o.landed
    (r.1, if r.2 = n then none else some { o with landed := r.2 })
  | .stream f =>
    if f.fromSlot then
      let r := x.feed o f
      (r.1, some r.2)
    else (x, some o)
  | _ => (x, some o)

/-- One pass over the operations in issue order; `kept` are the earlier ones that are not complete. -/
def CoreFx.settleFrom (core : Nat) : List Issued → List Issued → CoreFx → CoreFx
  | [], kept, x => x.modCore fun c => { c with ops := kept }
  | o :: os, kept, x =>
    if x.fault.isSome || x.core.blocked kept o then CoreFx.settleFrom core os (kept ++ [o]) x
    else
      let r := x.advance core o
      CoreFx.settleFrom core os (kept ++ r.2.toList) r.1

/-- VEC, SEND and RECV operations that can run, run; a FROMSLOT STREAM that holds the activation stream takes its units. -/
def CoreFx.settle (core : Nat) (x : CoreFx) : CoreFx := CoreFx.settleFrom core x.core.ops [] x

/-- The first operation of a kind that nothing earlier blocks, with the operations that remain. -/
def Core.firstReady (c : Core) (p : Issued → Bool) : List Issued → List Issued → Option (Issued × List Issued)
  | _, [] => none
  | kept, o :: os =>
    if p o && !c.blocked kept o then some (o, kept ++ os) else c.firstReady p (kept ++ [o]) os

/-- The lines of a FROMSLOT STREAM have all arrived. -/
def Issued.fedWhole (o : Issued) : Bool :=
  match o.step with
  | .stream f => !f.fromSlot || decide (f.linesNeeded ≤ o.fed.length)
  | _ => true

/-- Lines an operation still takes from its slot. -/
def Issued.need (o : Issued) : Nat :=
  match o.step with
  | .recv _ _ n => n - o.landed
  | .stream f => f.linesNeeded - o.fed.length
  | _ => 0

/-- R202: code 0x05 for the shapes of R194, R201 and R214; R251: code 0x01 for a destination out of range. -/
def Core.arrayFault (c : Core) : CoreStep → Option Nat
  | .stream f =>
    if !c.shapeOk f then some 5
    else if !c.destOk f.dest f.dst f.dparam f.rows f.footValues then some 1
    else if f.fromSlot && !((c.slot f.src).map (·.receive)).getD false then some 1
    else none
  | .opacc a _ _ _ _ _ => if c.arrayShapeOk a then none else some 5
  | .drain a dest dst dp => if !c.arrayShapeOk a then some 5 else if !c.destOk dest dst dp 128 128 then some 1 else none
  | _ => none

/-- An array operation starts and, in this model, completes. -/
def CoreFx.runArrayOp (x : CoreFx) (core : Nat) (o : Issued) : CoreFx :=
  match x.core.arrayFault o.step with
  | some code => x.fail code o.index
  | none =>
    match o.step with
    | .stream f => x.runStream core f o.fed
    | .opacc a asg bsg asrc bsrc u => x.runOpacc a asg bsg asrc bsrc u
    | .drain a dest dst dp => x.runDrain core a dest dst dp
    | _ => x

end Sys2Proof.Machine
end

