-- ==== Sys2Proof/Machine/CoreRows.lean ====
section
/-! DEFINITION. The steps of a core (09): issue, fronts, array operations, freezes, Sound units, and plan faults. -/

namespace Sys2Proof.Machine

/-! ### Plan faults and effects on the device (R202, R247, R263) -/

/-- R263: a plan fault of a core, with the counter of its code: array faults in OD 0x4093, the others in OD 0x40B2 (log 25). -/
def State.coreFail (s : State) (core code step : Nat) : State :=
  let s := { s with fabric := s.fabric.modDie (dieOf core) fun d =>
               if code = 5 then { d with arrayFaults := bump d.arrayFaults } else { d with coreFaults := bump d.coreFaults } }
  s.planFault core code step

/-- The counters of a die that operations raise. -/
def Die.count (d : Die) (x : CoreFx) : Die :=
  { d with saturations := bumpBy x.sats d.saturations, windowRefused := bumpBy x.refused d.windowRefused,
           opaccOver := bumpBy x.excess d.opaccOver }

/-- What operations left is put into the fabric. -/
def Fabric.applyFx (f : Fabric) (core : Nat) (x : CoreFx) : Fabric :=
  let f := (f.setCore core x.core).modDie (dieOf core) fun d => d.count x
  { f with flight := f.flight ++ x.out.map fun u => ⟨core, u, false⟩ }

/-- The device after a step issued, an operation completed or a unit landed on a core: progress (R262). -/
def State.applyFx (s : State) (core : Nat) (x : CoreFx) : State :=
  let s := { s with fabric := s.fabric.applyFx core { x with core := { x.core with lastProgress := s.clock.count } } }
  match x.fault with
  | none => s
  | some (code, step) => s.coreFail core code step

/-! ### Issue (R248, R251-R253, R268) -/

/-- The step at the sequencer: 16 octets at 16 i of the execute window. -/
def Core.stepWord (c : Core) : Nat := field (c.line (c.execBase + c.seq / 4)).data.toNat (128 * (c.seq % 4)) 128

/-- Operations of a kind not complete. -/
def Core.count (c : Core) (p : CoreStep → Bool) : Nat := (c.ops.filter fun o => p o.step).length

def CoreStep.isSend : CoreStep → Bool
  | .send .. => true
  | _ => false

def CoreStep.isRecv : CoreStep → Bool
  | .recv .. => true
  | _ => false

def CoreStep.isDrain : CoreStep → Bool
  | .drain .. => true
  | _ => false

/-- R253: the classes of a FENCE. -/
def CoreStep.inClasses (m : Nat) (st : CoreStep) : Bool :=
  (bit m 0 && st.usesStream) || (bit m 1 && st.isFront) || (bit m 2 && st.isDrain) ||
    (bit m 2 && match st with | .stream _ => true | _ => false) ||
    (bit m 3 && st.isVec) || (bit m 4 && st.isSend) || (bit m 5 && st.isRecv)

/-- R248, R253, R268: the unit's queue has room, or the condition of FENCE or WAITSLOT holds. -/
def Core.mayIssue (c : Core) : CoreStep → Bool
  | .nop => true
  | .loadw a _ _ _ => decide (c.count (fun st => st.isFront && (stepArrays st).contains a) < 2)
  | .stream _ => decide (c.count CoreStep.usesStream < 2)
  | .opacc .. => decide (c.count CoreStep.usesStream < 2)
  | .drain a _ _ _ => decide (c.count (fun st => st.isDrain && (stepArrays st).contains a) < 1)
  | .vec _ => decide (c.count CoreStep.isVec < 9)
  | .send .. => decide (c.count CoreStep.isSend < 16)
  | .recv .. => decide (c.count CoreStep.isRecv < 16)
  | .waitslot sl =>
    (c.ops.all fun o => match o.step with | .recv k _ _ => k != sl | .send k _ _ => k != sl | _ => true) &&
      SMap.get 0 c.unacked sl == 0
  | .fence m => c.ops.all fun o => !o.step.inClasses m
  | .fin => true

/-- A RECV on a slot that does not receive, or a FROMSLOT one, is outside its range (R251). -/
def Core.slotFault (c : Core) : CoreStep → Bool
  | .recv sl _ _ => !((c.slot sl).map (·.receive)).getD false
  | .send sl _ _ => ((c.slot sl).map (·.receive)).getD true
  | _ => false

/-- The sequencer moves on: NOP, FENCE and WAITSLOT leave nothing behind, END stops issue, the others queue. -/
def Core.issue (c : Core) (st : CoreStep) : Core :=
  match st with
  | .nop => { c with seq := c.seq + 1 }
  | .waitslot _ => { c with seq := c.seq + 1 }
  | .fence _ => { c with seq := c.seq + 1 }
  | .fin => { c with seq := c.seq + 1, issuing := false, ended := true }
  | st => { c with seq := c.seq + 1, ops := c.ops ++ [⟨st, c.seq, 0, []⟩] }

/-- The sequencer is issuing within a tide. -/
def State.issues (s : State) (core : Nat) : Bool := s.fabric.tide.isSome && (s.fabric.core core).issuing

/-- The step the sequencer has before it, none where R251 makes it a fault. -/
def State.stepAt (s : State) (core : Nat) : Option CoreStep :=
  let c := s.fabric.core core
  if c.execLines * 4 ≤ c.seq then none else decodeStep s.otp.grade.arrays c.stepWord

/-- Beats without issue before a core's present issue, from the time since its last one and its die's beat rate (R248; OD 0x40B3,
log 95). -/
def State.idleBeats (s : State) (core : Nat) : Nat :=
  (s.clock.count - (s.fabric.core core).lastIssue) * (s.fabric.die (dieOf core)).rate / 1000 - 1

def State.countIdle (s : State) (core : Nat) : State :=
  let n := s.idleBeats core
  { s with fabric := s.fabric.modDie (dieOf core) fun d => { d with noIssue := bumpBy n d.noIssue } }

/-- A step issues and what can run, runs. -/
def State.runStep (s : State) (core : Nat) (st : CoreStep) : State :=
  let c := s.fabric.core core
  if c.slotFault st then s.coreFail core 1 c.seq
  else (s.countIdle core).applyFx core (CoreFx.settle core { core := { c.issue st with lastIssue := s.clock.count } })

/-- A step row: the step before the sequencer issues when it is the row's and may issue; a step that R251 refuses is a plan
fault; while another step stands there the row does not arise. -/
def State.issueStep (s : State) (core : Nat) (row : CoreStep → Bool) : State :=
  if s.issues core then
    match s.stepAt core with
    | none => s.coreFail core 1 (s.fabric.core core).seq
    | some st => if row st && (s.fabric.core core).mayIssue st then s.runStep core st else s
  else s

def isVop (v : Nat) : CoreStep → Bool
  | .vec f => f.vop == v
  | _ => false

/-- NOP (R248). -/
def execNop (core : Fin 1200) (s : State) : Host.Outcome State Fault Refusal :=
  .next (s.issueStep core.val fun st => st == .nop)

/-- LOADW: a front is queued (R180, R248). -/
def execLoadw (core : Fin 1200) (s : State) : Host.Outcome State Fault Refusal :=
  .next (s.issueStep core.val CoreStep.isFront)

/-- STREAM: queued for the activation stream (R186, R248). -/
def execStream (core : Fin 1200) (s : State) : Host.Outcome State Fault Refusal :=
  .next (s.issueStep core.val fun st => match st with | .stream _ => true | _ => false)

/-- OPACC: queued for the activation stream (R190, R248). -/
def execOpacc (core : Fin 1200) (s : State) : Host.Outcome State Fault Refusal :=
  .next (s.issueStep core.val fun st => st.usesStream && !(match st with | .stream _ => true | _ => false))

/-- DRAIN: queued for its array (R193, R248). -/
def execDrain (core : Fin 1200) (s : State) : Host.Outcome State Fault Refusal :=
  .next (s.issueStep core.val CoreStep.isDrain)

/-- VLD. -/
def execVld (core : Fin 1200) (s : State) : Host.Outcome State Fault Refusal := .next (s.issueStep core.val (isVop 0x01))

/-- VLD48. -/
def execVld48 (core : Fin 1200) (s : State) : Host.Outcome State Fault Refusal := .next (s.issueStep core.val (isVop 0x02))

/-- VST. -/
def execVst (core : Fin 1200) (s : State) : Host.Outcome State Fault Refusal := .next (s.issueStep core.val (isVop 0x03))

/-- VST48. -/
def execVst48 (core : Fin 1200) (s : State) : Host.Outcome State Fault Refusal := .next (s.issueStep core.val (isVop 0x04))

/-- VADD. -/
def execVadd (core : Fin 1200) (s : State) : Host.Outcome State Fault Refusal := .next (s.issueStep core.val (isVop 0x10))

/-- VSUB. -/
def execVsub (core : Fin 1200) (s : State) : Host.Outcome State Fault Refusal := .next (s.issueStep core.val (isVop 0x11))

/-- VMUL. -/
def execVmul (core : Fin 1200) (s : State) : Host.Outcome State Fault Refusal := .next (s.issueStep core.val (isVop 0x12))

/-- VMAX. -/
def execVmax (core : Fin 1200) (s : State) : Host.Outcome State Fault Refusal := .next (s.issueStep core.val (isVop 0x13))

/-- VMIN. -/
def execVmin (core : Fin 1200) (s : State) : Host.Outcome State Fault Refusal := .next (s.issueStep core.val (isVop 0x14))

/-- VREQ (R231). -/
def execVreq (core : Fin 1200) (s : State) : Host.Outcome State Fault Refusal := .next (s.issueStep core.val (isVop 0x18))

/-- VLUT (R233, R256). -/
def execVlut (core : Fin 1200) (s : State) : Host.Outcome State Fault Refusal := .next (s.issueStep core.val (isVop 0x19))

/-- VSUM. -/
def execVsum (core : Fin 1200) (s : State) : Host.Outcome State Fault Refusal := .next (s.issueStep core.val (isVop 0x1A))

/-- VSMAX (R236, R256). -/
def execVsmax (core : Fin 1200) (s : State) : Host.Outcome State Fault Refusal := .next (s.issueStep core.val (isVop 0x20))

/-- SEND (R250, R260). -/
def execSend (core : Fin 1200) (s : State) : Host.Outcome State Fault Refusal := .next (s.issueStep core.val CoreStep.isSend)

/-- RECV (R250, R259). -/
def execRecv (core : Fin 1200) (s : State) : Host.Outcome State Fault Refusal := .next (s.issueStep core.val CoreStep.isRecv)

/-- WAITSLOT (R253). -/
def execWaitslot (core : Fin 1200) (s : State) : Host.Outcome State Fault Refusal :=
  .next (s.issueStep core.val fun st => match st with | .waitslot _ => true | _ => false)

/-- FENCE (R253). -/
def execFence (core : Fin 1200) (s : State) : Host.Outcome State Fault Refusal :=
  .next (s.issueStep core.val fun st => match st with | .fence _ => true | _ => false)

/-- END (R252). -/
def execEndStep (core : Fin 1200) (s : State) : Host.Outcome State Fault Refusal :=
  .next (s.issueStep core.val fun st => st == .fin)

/-! ### Fronts and array operations (R203-R208, R63-R65) -/

/-- An operation started: the rest stays queued, what waited for it runs. -/
def State.started (s : State) (core : Nat) (rest : List Issued) (run : CoreFx → CoreFx) : State :=
  let x := run { core := { s.fabric.core core with ops := rest } }
  s.applyFx core (if x.fault.isSome then x else x.settle core)

def CoreFx.runFront (x : CoreFx) (o : Issued) : CoreFx :=
  match o.step with
  | .loadw a w sh src => x.runLoadw a w sh src
  | _ => x

/-- FRONT_START: the first front that nothing earlier holds writes its array; the beats it waited are counted (R207, R208). -/
def execFrontStart (core : Fin 1200) (waitBeats : Nat) (s : State) : Host.Outcome State Fault Refusal :=
  let c := s.fabric.core core.val
  .next (if s.fabric.tide.isSome then
    match c.firstReady (fun o => o.step.isFront) [] c.ops with
    | none => s
    | some (o, rest) =>
      let s := s.started core.val rest fun x => x.runFront o
      { s with fabric := s.fabric.modDie (dieOf core.val) fun d => { d with frontWait := bumpBy waitBeats d.frontWait } }
  else s)

/-- R63, R65: the ballast beats of the gaps before an operation, array by array; a quiesced array ran its threshold before. -/
def ballastBeats (c : Core) (arrays gaps : List Nat) (threshold : Nat) : Nat :=
  (arrays.map fun a => if (c.array a).quiesced || threshold == 0 then 0 else min (gaps.getD a 0) threshold).foldl (· + ·) 0

/-- The arrays of an operation run again. -/
def Core.awaken (c : Core) (arrays : List Nat) : Core :=
  arrays.foldl (fun c a => c.modArray a fun r => { r with quiesced := false }) c

/-- ARRAY_OPERATION_START: the first STREAM, OPACC or DRAIN that nothing earlier holds runs, after a gap of `gapBeats` on each array;
an illegal shape is a plan fault and nothing starts (R63, R199, R201, R202, R204, R214). -/
def execArrayOperationStart (core : Fin 1200) (gapBeats : List Nat) (s : State) : Host.Outcome State Fault Refusal :=
  let c := s.fabric.core core.val
  .next (if s.fabric.tide.isSome then
    match c.firstReady (fun o => o.step.isArrayOp && o.fedWhole) [] c.ops with
    | none => s
    | some (o, rest) =>
      match c.arrayFault o.step with
      | some code =>
        ({ s with fabric := s.fabric.modCore core.val fun c => { c with ops := rest } } : State).coreFail core.val code o.index
      | none =>
        let arrays := stepArrays o.step
        let n := ballastBeats c arrays gapBeats s.monitors.ballastActive
        let s := s.started core.val rest fun x => (x.modCore fun c => c.awaken arrays).runArrayOp core.val o
        { s with fabric := s.fabric.modDie (dieOf core.val) fun d => { d with ballast := bumpBy n d.ballast } }
  else s)

/-- The arrays of the current STREAM or OPACC: the first that waits, once no operation before it still holds its arrays, so that
only its feeder is due; else the one that ran last (R199, R204, R210). -/
def Core.streamMask (c : Core) : List Nat :=
  match c.ops.findIdx? fun o => o.step.usesStream with
  | none => maskArrays c.curMask.toNat
  | some k =>
    let own := match c.ops[k]? with | some o => stepArrays o.step | none => []
    if (c.ops.take k).any fun e => (stepArrays e.step).any fun a => own.contains a then maskArrays c.curMask.toNat else own

/-- ARRAY_FREEZE: one frozen beat of the current STREAM's mask, or of the array whose DRAIN backs up (R210-R212). -/
def execArrayFreeze (core : Fin 1200) (draining : Option (Fin 4)) (s : State) : Host.Outcome State Fault Refusal :=
  let n := match draining with
    | some _ => 1
    | none => (s.fabric.core core.val).streamMask.length
  .next (if s.fabric.tide.isSome then
    { s with fabric := s.fabric.modDie (dieOf core.val) fun d =>
        { d with
          frozen := bumpBy n d.frozen
          frozenBy := SMap.modify 0 d.frozenBy (core.val % 100) (bumpBy n) } }
  else s)

/-! ### Sound units (R257-R261, R265) -/

/-- A SEND or drain path's unit is acknowledged (R252, R253). -/
def Core.ack (c : Core) (slot : Nat) : Core := { c with unacked := SMap.modify 0 c.unacked slot (· - 1) }

/-- The unit in flight with an arriving unit's destination and token: what was sent is what arrives. -/
def Fabric.inFlight (f : Fabric) (u : SoundUnit) : Option InFlight :=
  f.flight.find? fun e => e.unit.dst == u.dst && e.unit.token == u.token

/-- An accepted unit leaves flight, and the core that sent it is acknowledged. -/
def Fabric.accepted (f : Fabric) (u : SoundUnit) : Fabric :=
  match f.inFlight u with
  | none => f
  | some e =>
    let g := { f with flight := f.flight.erase e }
    if e.source < 1200 then g.modCore e.source fun c => c.ack (unitSlot e.unit) else g

/-- R259: the sender's handshake is held; the unit stays under way and counts once (OD 0x40B1). -/
def Fabric.hold (f : Fabric) (core : Nat) (u : SoundUnit) : Fabric :=
  let counted := f.modDie (dieOf core) fun d => { d with heldUnits := bump d.heldUnits }
  match f.inFlight u with
  | none => { counted with flight := f.flight ++ [⟨unitSource u, u, true⟩] }
  | some e =>
    if e.held then f
    else { counted with flight := f.flight.map fun x => if x = e then { x with held := true } else x }

/-- Key of line `l` of a stack. -/
def hbmKey (stack l : Nat) : Nat := stack * 2 ^ 29 + l

/-- Line `k` of unit `seq` of an HBM slot at the controller of stack `n`, when it lies in the slot's region: the region is
allocated, lies on that stack, and has the line (16,384 lines to a MiB; R45, R265). -/
def State.hbmLine (s : State) (e : SlotEntry) (n seq k : Nat) : Option Nat :=
  let r := SMap.get {} s.ret.regions e.region
  let off := e.regionOffset / 64 + 4 * seq + k
  if r.state = .allocated ∧ r.stack = n ∧ off < r.size * 16384 then some (r.base * 16384 + off) else none

/-- R265, R428, R578: a line as a slot partner reads it: an uncorrectable line is zero with its tag set, a line outside the region
is zero. -/
def Fabric.hbmRead (f : Fabric) (stack : Nat) : Option Nat → Bytes × Bool
  | some l =>
    let h := SMap.get ({} : HbmLine) f.hbm (hbmKey stack l)
    (leBytes 64 (if h.poisoned then 0 else h.data.toNat), h.tag || h.poisoned)
  | none => (List.replicate 64 0, false)

/-- The access is counted (OD 0x5010.03). -/
def Fabric.countScrubAccess (f : Fabric) : Fabric := { f with scrubAccess := bump f.scrubAccess }

/-- What a unit from the HBM controller of stack `n` carries: four lines of the slot's region; outside it, or while it is dark,
zero, counted once (R265, R428). -/
def State.hbmSource (s : State) (e : SlotEntry) (n : Nat) (u : SoundUnit) : State × SoundUnit :=
  let ls := (List.range 4).map fun k => s.hbmLine e n (unitSeq u) k
  let d := ls.map fun l => s.fabric.hbmRead n l
  let s' := if ls.any Option.isNone then { s with fabric := s.fabric.countScrubAccess } else s
  (s', { u with data := d.flatMap (·.1), tag := d.any (·.2) })

/-! ### Row inputs (10; R283-R286) -/

/-- What fills a row of a stream in a tide; a null row where the tide has none. -/
def Tide.fill (t : Tide) (st row : Nat) : RowFill :=
  (((t.rows.find? fun r => r.1 == st).map (·.2)).getD []).getD row .nullRow

/-- A row's input: its record in INPUT_MAX octets, then its feature sample; a padding row takes both from the image section, a
null row is all zeros. With it, whether the sample is tagged (R283-R285). -/
def State.rowInput (s : State) (p : PlanInfo) (e : StreamEntry) : RowFill → Bytes × Bool
  | .nullRow => ([], false)
  | .padding => (padTo e.inputMax (slice p.image e.padOff e.padLen) ++ slice p.image (e.padOff + e.padLen) 65536, false)
  | .sub tag =>
    match SMap.get none s.host.subs tag with
    | none => ([], false)
    | some x => (padTo e.inputMax x.record ++ x.sample.getD [], x.sampleTag)

/-- What a Ferry, the Ingest Sequencer or a Shoal cluster sends a core on a slot of the running tide: the octets of a row's input
that the plan routes there, zero past the input's end, tagged where they reach a tagged sample (10; R46). -/
def State.rowUnit (s : State) (u : SoundUnit) : Option SoundUnit :=
  match s.fabric.plan, s.fabric.tide with
  | some p, some t =>
    match Config.rowUnit p.image u.dst.toNat (unitSlot u) (unitSeq u) with
    | none => none
    | some (st, row, off, len) =>
      match p.entry st with
      | none => none
      | some e =>
        let x := s.rowInput p e (t.fill st row)
        let n := min len 256
        some { u with data := padTo n (slice x.1 off n), tag := x.2 && decide (e.inputMax < off + n) }
  | _, _ => none

/-- R259: the operation that takes units from a slot now, nothing earlier holding it, still wants all the unit's lines. -/
def Core.takes (c : Core) (u : SoundUnit) : Bool :=
  match c.firstReady (fun o => o.step.takesFrom == some (unitSlot u)) [] c.ops with
  | some (o, _) => decide ((unitLines u).length ≤ o.need)
  | none => false

/-- R258: the slot receives, its partner is the source, the sequence is the next. -/
def Core.tokenOk (c : Core) (u : SoundUnit) : Bool :=
  match c.slot (unitSlot u) with
  | none => false
  | some e => e.receive && e.partner.toNat == unitSource u && unitSeq u == SMap.get 0 c.recvSeq (unitSlot u)

/-- An accepted unit enters the receive buffer and what waits for it runs. -/
def State.receive (s : State) (core : Nat) (u : SoundUnit) : State :=
  let f := s.fabric.accepted u
  let c := f.core core
  let c := { c with recvSeq := SMap.modify 0 c.recvSeq (unitSlot u) (· + 1), recvBuf := c.recvBuf ++ [u] }
  ({ s with fabric := f } : State).applyFx core (CoreFx.settle core { core := c })

/-- The endpoints that send row inputs: Shoal clusters, the Ingest Sequencer, Ferries. -/
def rowEndpoint (n : Nat) : Bool :=
  (decide (0x0900 ≤ n) && decide (n < 0x090C)) || n == 0x0A00 || (decide (0x0A10 ≤ n) && decide (n < 0x0A20))

/-- An HBM controller's endpoint. -/
def hbmEndpoint (n : Nat) : Bool := decide (0x0800 ≤ n) && decide (n < 0x080C)

/-- What a unit that a core may accept carries: what its sender put under way, the lines of an HBM region, or a row's octets.
A unit that no planned sender has sent does not exist (R46). -/
def State.carried (s : State) (e : SlotEntry) (u : SoundUnit) : State × Option SoundUnit :=
  if hbmEndpoint (unitSource u) then
    let r := s.hbmSource e (unitSource u - 0x0800) u
    (r.1, some r.2)
  else
    match s.fabric.inFlight u with
    | some x => (s, some x.unit)
    | none => (s, if rowEndpoint (unitSource u) then s.rowUnit u else none)

/-- A unit at a core (R46, R258, R259, R261). -/
def State.unitAtCore (s : State) (core : Nat) (u : SoundUnit) : State :=
  let c := s.fabric.core core
  match c.slot (unitSlot u) with
  | none => s.coreFail core 2 c.seq
  | some e =>
    if !c.tokenOk u then s.coreFail core 2 c.seq
    else
      let r := s.carried e u
      match r.2 with
      | none => s
      | some v =>
        if decide (c.recvBuf.length < 64) || c.takes v then r.1.receive core v
        else { s with fabric := s.fabric.hold core v }

/-- The stream whose partition holds a core; 64 for none. -/
def Fabric.streamOf (f : Fabric) (core : Nat) : Nat := ((f.streamsOfCore core).head?).getD 64

/-- The oldest unit under way of a sender's slot is this one, and it was sent on a send slot with this partner (R46, R257, R260). -/
def Fabric.scheduled (f : Fabric) (x : InFlight) : Option SlotEntry :=
  match (f.core x.source).slot (unitSlot x.unit) with
  | none => none
  | some e =>
    let first := f.flight.find? fun y => y.source == x.source && unitSlot y.unit == unitSlot x.unit
    if x.source < 1200 ∧ e.receive = false ∧ e.partner = x.unit.dst ∧ first = some x then some e else none

/-- R570: plan-state writes of a unit, held in the die's commit buffer: the lines of the slot's region that it holds. -/
def State.commitEntries (s : State) (e : SlotEntry) (n : Nat) (u : SoundUnit) (row : Nat × Option Nat) :
    List ((Nat × Option Nat) × Nat × HbmLine) :=
  (unitLines u).zipIdx.filterMap fun l =>
    (s.hbmLine e n (unitSeq u) l.2).map fun k => (row, hbmKey n k, { tag := l.1.tag, data := l.1.data })

/-- A unit at the HBM controller of stack `n` (R45, R46, R265, R285, R570, R571): 8 MiB are 131,072 lines. -/
def State.unitAtHbm (s : State) (n : Nat) (u : SoundUnit) : State :=
  match s.fabric.inFlight u with
  | none => s
  | some x =>
    match s.fabric.scheduled x with
    | none => s
    | some e =>
      let row := (s.fabric.streamOf x.source, (s.fabric.plan).bind fun p => Config.stateRow p.image x.unit.token)
      let add := s.commitEntries e n x.unit row
      let f := s.fabric.accepted u
      let s := { s with fabric := if add.length < (unitLines x.unit).length then f.countScrubAccess else f }
      if 131072 < (s.fabric.die n).commit.length + add.length then s.coreFail x.source 6 (s.fabric.core x.source).seq
      else { s with fabric := s.fabric.modDie n fun d => { d with commit := d.commit ++ add } }

/-- Octets in hub staging (R336). -/
def Fabric.stagedOctets (f : Fabric) : Nat := (f.staging.map fun u => u.data.length).foldl (· + ·) 0

/-- A scheduled unit at a Ferry: its part of an output record is accepted into hub staging while that has room (10, Model; R46,
R336). -/
def State.unitAtFerry (s : State) (u : SoundUnit) : State :=
  match s.fabric.inFlight u with
  | none => s
  | some x =>
    if (s.fabric.scheduled x).isSome ∧ s.fabric.stagedOctets + x.unit.data.length ≤ 2 ^ 25 then
      let f := s.fabric.accepted u
      { s with fabric := { f with staging := f.staging ++ [x.unit] } }
    else s

/-- A scheduled unit at a Strait port waits there for a frame, addressed as the span plan's image says (R449). -/
def State.unitAtStrait (s : State) (p : Nat) (u : SoundUnit) : State :=
  match s.fabric.inFlight u, s.fabric.plan with
  | some x, some pl =>
    if (s.fabric.scheduled x).isSome ∧ pl.span.isSome then
      let d := Config.spanUnit pl.image p x.unit.token
      { s with
        fabric := s.fabric.accepted u
        straits := { s.straits with forwarded := s.straits.forwarded ++ [(p, ⟨d.1, 1, d.2.1, d.2.2, x.unit.data⟩)] } }
    else s
  | _, _ => s

/-- A unit reaches an endpoint (R46, R258, R259, R265, R449). The Ingest Sequencer and the Shoal clusters take a planned unit without
further effect. -/
def State.unitArrives (s : State) (u : SoundUnit) : State :=
  let d := u.dst.toNat
  if s.fabric.tide.isNone then s
  else if d < 1200 then s.unitAtCore d u
  else if hbmEndpoint d then s.unitAtHbm (d - 0x0800) u
  else if 0x0A10 ≤ d ∧ d < 0x0A20 then s.unitAtFerry u
  else if 0x0B00 ≤ d ∧ d < 0x0B0C then s.unitAtStrait (d - 0x0B00) u
  else { s with fabric := s.fabric.accepted u }

/-- SOUND_UNIT_ARRIVE: a unit reaches an endpoint and its token is checked; what it carries is what its sender sent (R46, R258, R259,
R265). -/
def execSoundUnitArrive (u : SoundUnit) (s : State) : Host.Outcome State Fault Refusal := .next (s.unitArrives u)

/-! ### No progress (R262, R590) -/

/-- R590: a Strait port endpoint. -/
def straitEndpoint (p : BitVec 16) : Bool := decide (0x0B00 ≤ p.toNat) && decide (p.toNat < 0x0B0C)

/-- The core's tide work is not complete (R252). -/
def Core.unfinished (c : Core) : Bool :=
  !c.ended || !c.ops.isEmpty || c.unacked.any fun e => e.2 != 0

/-- R590: all that is incomplete waits on Strait slots. -/
def Core.waitsOnStrait (c : Core) (atWait : Option CoreStep) : Bool :=
  let onStrait (sl : Nat) : Bool := straitEndpoint (c.partnerOf sl)
  (c.ops.all fun o => match o.step with | .recv sl _ _ => onStrait sl | _ => false) &&
    (if c.issuing then match atWait with | some (.waitslot sl) => onStrait sl | _ => false else !c.ops.isEmpty)

/-- The core belongs to a stream that takes part in the running tide. -/
def Fabric.inTide (f : Fabric) (core : Nat) : Bool :=
  match f.tide with
  | none => false
  | some t => (f.streamsOfCore core).any fun st => t.rows.any fun r => r.1 == st

/-- NO_PROGRESS_FAULT: 1 ms without an issue, a completed operation or a landed unit, while the core's work of the tide is not
complete (R262, R267, R590). -/
def execNoProgressFault (core : Fin 1200) (s : State) : Host.Outcome State Fault Refusal :=
  let c := s.fabric.core core.val
  let span := (s.fabric.plan.bind (·.span)).isSome
  .next (if s.fabric.inTide core.val = true ∧ c.unfinished = true ∧ c.lastProgress + 1000000 ≤ s.clock.count ∧
        ¬(span = true ∧ c.waitsOnStrait (s.stepAt core.val) = true) then
    s.coreFail core.val 4 c.seq
  else s)

end Sys2Proof.Machine
end

