-- ==== Sys2Proof/Machine/PlanOps.lean ====
section
/-! DEFINITION. The plan file, the admission checks in the table's order, and admission (10). -/

namespace Sys2Proof.Machine

/-! ### The plan file -/

/-- An optional section of a file: offset and length. -/
def sectionsOk (len : Nat) (l : List (Nat × Nat)) : Bool :=
  (l.all fun a => decide (a.1 + a.2 ≤ len)) &&
    (List.range l.length).all fun i => (List.range i).all fun j =>
      let a := l.getD i (0, 0)
      let b := l.getD j (0, 0)
      a.2 == 0 || b.2 == 0 || decide (a.1 + a.2 ≤ b.1) || decide (b.1 + b.2 ≤ a.1)

/-- The header's counts and offsets. -/
structure PlanHeader where
  streams : Nat
  regions : Nat
  fallbacks : Nat
  isSpan : Bool
  streamOff : Nat
  certOff : Nat
  regionOff : Nat
  fallbackOff : Nat
  spanOff : Nat
  imageOff : Nat
  imageLen : Nat
  deriving DecidableEq, Repr

def planHeader (b : Bytes) : PlanHeader :=
  { streams := leField b 0x14 1, isSpan := bit (leField b 0x15 1) 0, regions := leField b 0x16 2, fallbacks := leField b 0x18 2,
    streamOff := leField b 0x28 8, certOff := leField b 0x30 8, regionOff := leField b 0x38 8, fallbackOff := leField b 0x40 8,
    spanOff := leField b 0x48 8, imageOff := leField b 0x50 8, imageLen := leField b 0x58 8 }

/-- Length of the span section. -/
def spanLen (b : Bytes) (h : PlanHeader) : Nat := if h.spanOff = 0 then 0 else 64 + 2 * leField b (h.spanOff + 56) 2

def planSections (b : Bytes) (h : PlanHeader) : List (Nat × Nat) :=
  [(0, 256), (h.streamOff, 320 * h.streams), (h.certOff, 256), (h.regionOff, 16 * h.regions),
   (h.fallbackOff, 64 * h.fallbacks), (h.spanOff, spanLen b h), (h.imageOff, h.imageLen)]

/-- Bytes [a, b) of an entry are zero. -/
def zeroIn (b : Bytes) (off a e : Nat) : Bool := allZero (slice b (off + a) (e - a))

/-- Zero fields of the file's tables. -/
def planZerosOk (b : Bytes) (h : PlanHeader) : Bool :=
  zeroIn b 0 0x1A 0x20 && zeroIn b 0 0x60 0x100 && decide (leField b 0x15 1 < 2) &&
    ((List.range h.streams).all fun k =>
      let o := h.streamOff + 320 * k
      decide (leField b (o + 1) 1 < 2) && zeroIn b o 10 12 && zeroIn b o 270 320) &&
    zeroIn b h.certOff 11 16 && zeroIn b h.certOff 192 256 &&
    (let n := leField b (h.certOff + 10) 1
     decide (16 ≤ n) || zeroIn b h.certOff (16 + 8 * n) 144) &&
    ((List.range h.regions).all fun k =>
      let o := h.regionOff + 16 * k
      decide (leField b (o + 4) 1 < 4) && zeroIn b o 5 16) &&
    ((List.range h.fallbacks).all fun k => zeroIn b (h.fallbackOff + 64 * k) 2 8) &&
    (h.spanOff == 0 || zeroIn b h.spanOff 62 64)

/-- Check 1 of R274. -/
def planFormatOk (b : Bytes) : Bool :=
  let h := planHeader b
  decide (256 ≤ b.length) && decide (b.length ≤ 2 ^ 31) && leField b 0 4 == 0x54504C4E && leField b 4 2 == 1 &&
    leField b 0x20 8 == b.length && decide (1 ≤ h.streams) && decide (h.streams ≤ 64) && decide (h.regions ≤ 1024) &&
    decide (h.fallbacks ≤ 64) && decide (19200 ≤ h.imageLen) && sectionsOk b.length (planSections b h) && planZerosOk b h

def streamEntryOf (b : Bytes) (o : Nat) : StreamEntry :=
  { stream := leField b o 1, level := bit (leField b (o + 1) 1) 0, rows := leField b (o + 2) 2, inputMax := leField b (o + 4) 4,
    outputLen := leField b (o + 8) 2, padLen := leField b (o + 12) 4, padOff := leField b (o + 16) 8,
    form := digestOf (slice b (o + 24) 48), weights := digestOf (slice b (o + 72) 48),
    partition := BitVec.ofNat 1200 (leField b (o + 120) 150) }

def certOf (b : Bytes) (o : Nat) : Cert :=
  let n := leField b (o + 10) 1
  { wcBeats := leField b o 4, wcFixedNs := leField b (o + 4) 4, minFloor := leField b (o + 8) 2, phases := n,
    phaseBeats := (List.range (min n 16)).map fun k => leField b (o + 16 + 8 * k + 4) 4, binds := digestOf (slice b (o + 144) 48) }

def regionEntryOf (b : Bytes) (o : Nat) : RegionEntry :=
  { stack := leField b o 2, region := leField b (o + 2) 2, read := bit (leField b (o + 4) 1) 0, write := bit (leField b (o + 4) 1) 1 }

def fallbackOf (b : Bytes) (o : Nat) : FallbackEntry :=
  { dies := BitVec.ofNat 12 (leField b o 2), streams := BitVec.ofNat 64 (leField b (o + 8) 8), digest := digestOf (slice b (o + 16) 48) }

def spanOf (b : Bytes) (o : Nat) : SpanInfo :=
  let n := leField b (o + 56) 2
  { digest := digestOf (slice b o 48), epoch := leField b (o + 48) 8, modules := n, self := leField b (o + 58) 2,
    master := leField b (o + 60) 2, addresses := (List.range n).map fun k => leField b (o + 64 + 2 * k) 2 }

/-- What the device reads in a plan file. -/
def planInfo (b : Bytes) : PlanInfo :=
  let h := planHeader b
  { digest := sha384 b, al := leField b 6 1, grades := leField b 7 1, cadenceUs := leField b 0x10 4,
    streams := (List.range h.streams).map fun k => streamEntryOf b (h.streamOff + 320 * k)
    cert := certOf b h.certOff
    regions := (List.range h.regions).map fun k => regionEntryOf b (h.regionOff + 16 * k)
    fallbacks := (List.range h.fallbacks).map fun k => fallbackOf b (h.fallbackOff + 64 * k)
    span := if h.isSpan && h.spanOff != 0 then some (spanOf b h.spanOff) else none
    image := slice b h.imageOff h.imageLen }

/-- CERT_BINDS as the device computes it. -/
def planBinding (b : Bytes) : Digest :=
  let h := planHeader b
  sha384 (slice b h.streamOff (320 * h.streams) ++ slice b h.regionOff (16 * h.regions) ++ slice b h.imageOff h.imageLen)

/-! ### The admission checks (R274) -/

/-- MIN_FLOOR of Model, "The timing certificate". -/
def minFloorOf (wcBeats cadenceUs wcFixedNs : Nat) : Nat :=
  let d := 1000 * cadenceUs - wcFixedNs
  (1000 * wcBeats + d - 1) / d

def noRepeats (l : List Nat) : Bool := decide l.Nodup

/-- Check 5. -/
def planStreamsOk (p : PlanInfo) : Bool :=
  noRepeats (p.streams.map (·.stream)) &&
    (p.streams.all fun e =>
      decide (e.stream ≤ 63) && decide (1 ≤ e.rows) && decide (e.rows ≤ 4096) && decide (1 ≤ e.inputMax) &&
        decide (e.inputMax ≤ 65536) && decide (1 ≤ e.outputLen) && decide (e.outputLen ≤ 4096) &&
        decide (e.padLen ≤ e.inputMax) && (if e.level then decide (0 < e.padLen) else e.padLen == 0) && e.partition != 0) &&
    (p.streams.foldl (fun (acc : BitVec 1200 × Bool) e => (acc.1 ||| e.partition, acc.2 && (acc.1 &&& e.partition) == 0)) (0, true)).2

/-- Logical cores of a plan, ascending. -/
def PlanInfo.cores (p : PlanInfo) : List Nat :=
  let m := p.streams.foldl (fun (acc : BitVec 1200) e => acc ||| e.partition) 0
  (List.range 1200).filter fun i => m.getLsbD i

/-- Check 6. -/
def State.planCoresOk (s : State) (p : PlanInfo) : Bool :=
  (List.range 12).all fun n => (s.fabric.die n).online || !(p.cores.any fun i => dieOf i == n)

/-- Check 8, with the range of MIN_FLOOR (R301). -/
def planCertOk (p : PlanInfo) : Bool :=
  let c := p.cert
  decide (1 ≤ c.phases) && decide (c.phases ≤ 16) && c.phaseBeats.foldl (· + ·) 0 == c.wcBeats &&
    decide (c.wcFixedNs < 1000 * p.cadenceUs) && c.minFloor == minFloorOf c.wcBeats p.cadenceUs c.wcFixedNs &&
    decide (1 ≤ c.minFloor) && decide (c.minFloor ≤ 2500)

/-- Check 9. -/
def State.planWeightsOk (s : State) (p : PlanInfo) : Bool :=
  p.streams.all fun e => s.hosting.models.any fun m => m.1 == e.weights

/-- Check 10. -/
def State.planRegionsOk (s : State) (p : PlanInfo) : Bool :=
  p.regions.all fun e =>
    let r := SMap.get {} s.ret.regions e.region
    decide (e.region < 1024) && r.state == .allocated && r.stack == e.stack

/-- Check 11. -/
def State.planSpanOk (s : State) (b : Bytes) (p : PlanInfo) : Bool :=
  !(planHeader b).isSpan ||
    match p.span with
    | none => false
    | some sp => decide (2 ≤ sp.modules) && decide (sp.modules ≤ 4096) && decide (sp.self < sp.modules) &&
        (sp.addresses.all fun a => decide (a < 4096)) && decide (sp.master < 4096) && sp.addresses.getD sp.self 0xFFFF == s.ret.moduleAddr

/-- The directory entry of a logical core. -/
def PlanInfo.dir (p : PlanInfo) (core : Nat) : DirEntry :=
  let b := slice p.image (16 * core) 16
  { execBase := leField b 0 2, execSize := leField b 2 2, constBase := leField b 4 2, constSize := leField b 6 2,
    contentOff := leField b 8 8 }

/-- Check 12 for a partition core; 4 KiB are 64 lines (R267). -/
def dirOk (d : DirEntry) : Bool :=
  decide (1 ≤ d.execSize) && decide (d.execSize ≤ 256) && decide (d.constSize ≤ 256) && decide (d.execSize + d.constSize ≤ 384) &&
    linesOk d.execBase (64 * d.execSize) && linesOk d.constBase (64 * d.constSize) &&
    (d.constSize == 0 || decide (d.execBase + 64 * d.execSize ≤ d.constBase) || decide (d.constBase + 64 * d.constSize ≤ d.execBase))

def planImageOk (p : PlanInfo) : Bool :=
  let l := p.cores
  (List.range 1200).all fun i => if l.contains i then dirOk (p.dir i) else allZero (slice p.image (16 * i) 16)

/-- Check 13. -/
def planFallbackOk (p : PlanInfo) : Bool :=
  p.fallbacks.all fun f => f.dies != 0 && f.streams != 0 &&
    f.streams &&& ~~~(streamMask (p.streams.map (·.stream))) == 0

/-- R274: the first failing check's code, in the table's order; 0 passes. -/
def State.planCode (s : State) (b : Bytes) : Nat :=
  let p := planInfo b
  if !planFormatOk b then 0x01
  else if p.al ≠ 1 then 0x02
  else if !bit p.grades s.otp.grade.maskBit then 0x03
  else if p.cadenceUs < 50 ∨ 10000 < p.cadenceUs then 0x04
  else if !planStreamsOk p then 0x05
  else if !s.planCoresOk p then 0x06
  else if p.cert.binds ≠ planBinding b then 0x07
  else if !planCertOk p then 0x08
  else if !s.planWeightsOk p then 0x09
  else if !s.planRegionsOk p then 0x0A
  else if !s.planSpanOk b p then 0x0B
  else if !planImageOk p then 0x0C
  else if !planFallbackOk p then 0x0F
  else 0

/-- R277: the checks that depend on device state. -/
def State.recheckCode (s : State) (p : PlanInfo) : Nat :=
  if !s.planCoresOk p then 0x06 else if !s.planWeightsOk p then 0x09 else if !s.planRegionsOk p then 0x0A else 0

/-- A refusal: code, count, nothing staged (R273, R274, R277). -/
def State.refusePlan (s : State) (code : Nat) : State :=
  { s with fabric := { s.fabric with refusal := code, refused := bump s.fabric.refused, staged := none } }

/-! ### Admission (R246, R277-R280, R293, R294, R416, R581) -/

/-- Lines of octets, 64 B each, zero past the end. -/
def linesOf (b : Bytes) (n : Nat) : List (BitVec 512) := (List.range n).map fun k => BitVec.ofNat 512 (leNat (slice b (64 * k) 64))

/-- R416: model bytes copied into constant-window lines; past the model's end, zeros. -/
def placeModels (models : List (Digest × Bytes)) (pl : List Placement) (core constBase : Nat) (ls : List (BitVec 512)) :
    List (BitVec 512) :=
  (pl.filter fun p => p.core == core).foldl (fun ls p =>
    let b := ((models.find? fun m => m.1 == p.weights).map (·.2)).getD []
    (List.range p.lines).foldl (fun ls k =>
      if constBase ≤ p.line + k then
        ls.modify (p.line + k - constBase) fun _ => BitVec.ofNat 512 (leNat (slice b (p.offset + 64 * k) 64))
      else ls) ls) ls

/-- A core's windows as admission writes them: at CONTENT_OFF the execute window, then the constant window (log 46). -/
def PlanInfo.windowsOf (p : PlanInfo) (models : List (Digest × Bytes)) (core : Nat) : WindowCopy :=
  let d := p.dir core
  let b := p.image.drop d.contentOff
  { execBase := d.execBase, exec := linesOf b (64 * d.execSize), constBase := d.constBase,
    const := placeModels models (Config.placements p.image) core d.constBase (linesOf (b.drop (4096 * d.execSize)) (64 * d.constSize)) }

def lineOf (w : BitVec 512) : Line := { valid := true, tag := false, data := w }

/-- The Lagoon that holds two windows and nothing else. -/
def WindowCopy.lagoon (w : WindowCopy) : SMap Line :=
  SMap.setMany {} (SMap.setMany {} [] w.execBase (w.exec.map lineOf)) w.constBase (w.const.map lineOf)

/-- A cleared core that holds its windows and the slot table of its execute window (R246, R264). -/
def WindowCopy.core (w : WindowCopy) : Core :=
  { lagoon := w.lagoon, execBase := w.execBase, execLines := w.exec.length, constBase := w.constBase, constLines := w.const.length,
    slots := Config.slotTable (w.exec.flatMap fun l => leBytes 64 l.toNat) }

/-- R278, R279: every partition core's windows written, and copied into the window stores. -/
def Fabric.writeWindows (f : Fabric) (p : PlanInfo) (models : List (Digest × Bytes)) : Fabric :=
  p.cores.foldl (fun f i =>
    let w := p.windowsOf models i
    { f with cores := SMap.set {} f.cores i w.core, windows := SMap.set {} f.windows i w }) { f with windows := [] }

/-- R580, R581: partition cores whose windows met an uncorrectable read are idle, and their streams enter HALTED with the
fallback selection of R292. -/
def State.haltPoisoned (s : State) (cores : List Nat) : State :=
  cores.foldl (fun s i =>
    let l := s.fabric.streamsOfCore i
    if l.isEmpty then s
    else
      let s := { s with fabric := s.fabric.modCore i fun c => { c with idle := true } }
      (s.haltStreams l).selectFallback (some (dieOf i)) l) s

/-- The streams a plan carries. -/
def PlanInfo.mask (p : PlanInfo) : BitVec 64 := streamMask (p.streams.map (·.stream))

/-- Rounded up to the whole µs (R280). -/
def roundUpUs (t : Nat) : Nat := (t + 999) / 1000 * 1000

/-- R280: the grid origin: EPOCH of a span plan (R295), else the completion of window writing, up to 400 µs from now, by a free
value (log 47). -/
def State.gridOrigin (s : State) (p : PlanInfo) : Nat :=
  match p.span with
  | some sp => sp.epoch
  | none => roundUpUs (s.now + Config.freeDelay s.draws % 400001)

/-- OD 0x7440.01 as a plan is admitted: NONE, MASTER, or EXTRAPOLATING until the first exchange (log 48). -/
def spanStateOf (sp : Option SpanInfo) (addr : Nat) : Nat :=
  match sp with
  | none => 0
  | some x => if x.master = addr then 1 else 3

/-- The smallest grid point at or after a time (R280). -/
def gridAtOrAfter (origin cadence t : Nat) : Nat :=
  if t ≤ origin then origin else origin + (t - origin + cadence - 1) / cadence * cadence

/-- The smallest grid point after a time. -/
def gridAfter (origin cadence t : Nat) : Nat := gridAtOrAfter origin cadence (t + 1)

/-- R277-R281, R293-R295: the plan becomes the running plan. -/
def State.takePlan (s : State) (p : PlanInfo) (poisoned : List Nat) : State :=
  let carried := p.mask
  let f := s.fabric.writeWindows p s.hosting.models
  let s' := { s with
    fabric := { f with
      plan := some p, staged := none, origin := s.gridOrigin p, skipped := s.fabric.skippedAt s.gridNow, gridNext := s.gridOrigin p
      lastTide := none, halted := f.halted &&& ~~~carried,
      dark := f.dark &&& ~~~carried, marks := [], allFinished := none, ownFinish := none }
    host := s.host.parkWaiting (~~~carried) 4 s.start.condition.debugClass
    shoal := { s.shoal with planAdmitted := true }
    straits := { s.straits with spanFences := p.span.isSome, spanState := spanStateOf p.span s.ret.moduleAddr }
    draws := s.draws + 1 }
  (s'.extendMr 9 (eventRecord 1 p.digest s.now)).haltPoisoned poisoned

/-- A SWITCH-PENDING plan at a tide boundary: rechecked, then admitted or discarded (R277). -/
def State.admission (s : State) (p : PlanInfo) (poisoned : List Nat) : State :=
  match s.recheckCode p with
  | 0 => s.takePlan p poisoned
  | code => s.refusePlan code

end Sys2Proof.Machine
end

