-- ==== Sys2Proof/Machine/TimeTree.lean ====
section
/-! DEFINITION. The time tree of a span: parents, children, finish marks and span fences (R451-R453, R588). -/

namespace Sys2Proof.Machine

/-- Axis k of a module address: X, Y, Z (15, "Addresses and routes"). -/
def axisOf (addr k : Nat) : Nat := field addr (4 * k) 4

/-- The first axis on which two addresses differ. -/
def firstAxis (a b : Nat) : Option Nat := (List.range 3).find? fun k => axisOf a k != axisOf b k

/-- R451: the direction towards the master: the first axis that differs, and whether it is the + direction. -/
def towards (master self : Nat) : Option (Nat × Bool) :=
  (firstAxis master self).map fun k => (k, decide ((axisOf master k + 16 - axisOf self k) % 16 ≤ 8))

/-- A neighbour's address. -/
def neighbour (addr k : Nat) (plus : Bool) : Nat :=
  let v := axisOf addr k
  addr - v * 2 ^ (4 * k) + ((v + if plus then 1 else 15) % 16) * 2 ^ (4 * k)

/-- The lower-numbered port of a direction. -/
def directionPort (k : Nat) (plus : Bool) : Nat := 4 * k + if plus then 0 else 2

def Straits.port (x : Straits) (p : Nat) : Port := x.ports.getD p {}

/-- R451: the port of a direction: the lower-numbered one, or the higher while the lower is not UP. -/
def Straits.treePort (x : Straits) (k : Nat) (plus : Bool) : Nat :=
  let p := directionPort k plus
  if (x.port p).state = .up then p else p + 1

/-- R451: the port to the parent; none at the master. -/
def State.parentPort (s : State) (sp : SpanInfo) : Option Nat :=
  (towards sp.master s.ret.moduleAddr).map fun d => s.straits.treePort d.1 d.2

/-- R451, R452: ports to the children: span modules whose parent this module is. -/
def State.childPorts (s : State) (sp : SpanInfo) : List Nat :=
  let self := s.ret.moduleAddr
  ((List.range 3).flatMap fun k => [(k, true), (k, false)]).filterMap fun d =>
    let nb := neighbour self d.1 d.2
    if sp.addresses.contains nb && towards sp.master nb == some (d.1, !d.2) && nb != sp.master then
      some (s.straits.treePort d.1 d.2) else none

/-- Two ports of one direction are one neighbour. -/
def sameNeighbour (p q : Nat) : Bool := p / 2 == q / 2

/-- The latest finish of tide `j` that a module knows of: its own and those its children's marks name (R296, log 92). -/
def Fabric.latestFinish (f : Fabric) (j own : Nat) : Nat :=
  ((f.marks.filter fun m => m.2.1 == j).map (·.2.2)).foldl max own

/-- R452: FINISH goes to the parent once the module holds its own finish and all its children's; at the master
ALL-FINISHED goes down. -/
def State.settleMarks (s : State) : State :=
  match s.fabric.plan.bind (·.span), s.fabric.ownFinish with
  | some sp, some (j, own) =>
    let kids := s.childPorts sp
    let latest := s.fabric.latestFinish j own
    let sent := s.straits.markSent == some j
    if !sent && kids.all (fun p => s.fabric.marks.any fun m => sameNeighbour m.1 p && m.2.1 == j) then
      match s.parentPort sp with
      | some p => { s with straits := { s.straits with markOut := s.straits.markOut ++ [(p, false, j, latest)], markSent := some j } }
      | none => { s with
          straits := { s.straits with markOut := s.straits.markOut ++ kids.map (fun p => (p, true, j, latest)), markSent := some j }
          fabric := { s.fabric with allFinished := some (j, latest) } }
    else s
  | _, _ => s

/-- Tree neighbours' ports. -/
def State.treePorts (s : State) : List Nat :=
  match s.fabric.plan.bind (·.span) with
  | none => []
  | some sp => (s.parentPort sp).toList ++ s.childPorts sp

/-- R328: a fence rises to the greater value. -/
def HostPath.raiseFence (h : HostPath) (f v : Nat) : HostPath := { h with fences := SMap.modify 0 h.fences f (max v) }

/-- R328, R453, R588: a fence written; a rise of a span fence while a span plan runs and the tree holds it goes to every tree
neighbour but the one it came from. -/
def State.writeFence (s : State) (f v : Nat) (origin : Option Nat) : State :=
  let old := SMap.get 0 s.host.fences f
  let s' := { s with host := s.host.raiseFence f v }
  if old < v ∧ 3072 ≤ f ∧ s.straits.spanFences = true then
    let out := s.treePorts.filter fun p => match origin with | some q => !sameNeighbour p q | none => true
    { s' with straits := { s.straits with fenceOut := s.straits.fenceOut ++ out.map fun p => (p, f, v) } }
  else s'

end Sys2Proof.Machine
end

