-- ==== Sys2Proof/Machine/TideRows.lean ====
section
/-! DEFINITION. Plans and tides as commands: delivery, checks, switching, admission, departure, finish, span halts; core
faults and swaps, HBM errors, the fault-record queue (10, 02, 20). -/

namespace Sys2Proof.Machine

/-! ### Plans -/

/-- A session is OPEN (R504). -/
def State.sessionOpen (s : State) : Bool := s.od.session == 1

/-- R272, R301: a delivery is refused with 0x0D while a plan is staged. -/
def State.stagePlan (s : State) (addr len : BitVec 64) : State :=
  match s.fabric.staged with
  | some _ => { s with fabric := { s.fabric with refusal := 0x0D, refused := bump s.fabric.refused } }
  | none =>
    let s := s.takeF0
    { s with fabric := { s.fabric with staged := some ⟨.loading, addr, len, none, s.host.f0Requests⟩ } }

/-- The effect of PLAN_DELIVERY on its object, where it is accepted. -/
def State.writePlanDelivery (addr len : BitVec 64) (s : State) : Option State :=
  if s.sessionOpen then some (s.stagePlan addr len) else none

/-- PLAN_DELIVERY: OD 0x4100.01 (R272, R504). -/
def execPlanDelivery (ch : Channel) (addr len : BitVec 64) (s : State) : Host.Outcome State Fault Refusal :=
  .next (s.odRow ch 0x4100 1 .host fun s => s.writePlanDelivery addr len)

/-- F0 is fetching the staged plan: DMA is allowed, no firmware set was asked for before, no page request holds it (R315, R318,
R402, R403). -/
def State.fetchesPlan (s : State) (p : Staged) : Bool :=
  p.state == .loading && s.dmaOk && !s.setBefore p.order && !s.host.paging .plan

/-- R273-R275: what the end of the fetch does; FILE_LENGTH is held to the length that was delivered. -/
def State.planFetched (s : State) (p : Staged) : HostFetch → State
  | .refused => s.refusedAccess .plan fun s => s.refusePlan 0x0E
  | .error => s.refusePlan 0x0E
  | .bytes b =>
    match if b.length = p.len.toNat then s.planCode b else 0x01 with
    | 0 => { s with fabric := { s.fabric with staged := some { p with state := .checked, info := some (planInfo b) } } }
    | code => s.refusePlan code

/-- PLAN_CHECK: the Ferry's fetch has ended (R273-R275, R315). -/
def execPlanCheck (file : HostFetch) (s : State) : Host.Outcome State Fault Refusal :=
  .next (match s.fabric.staged with
  | some p => if s.fetchesPlan p then s.planFetched p file else s
  | none => s)

/-- R276: what a value of OD 0x4100.02 does; any other value is ignored. -/
def State.planCommand (s : State) (v : Byte) : Option State :=
  match s.fabric.staged with
  | some p =>
    if v = 0xA5 ∧ p.state = .checked then
      some { s with fabric := { s.fabric with staged := some { p with state := .switchPending } } }
    else if v = 0x5A ∧ p.state ≠ .loading then some { s with fabric := { s.fabric with staged := none } }
    else none
  | none => none

/-- The effect of PLAN_SWITCH on its object, where it is accepted. -/
def State.writePlanSwitch (v : Byte) (s : State) : Option State :=
  if s.sessionOpen then s.planCommand v else none

/-- PLAN_SWITCH: OD 0x4100.02 (R276, R504). -/
def execPlanSwitch (ch : Channel) (v : Byte) (s : State) : Host.Outcome State Fault Refusal :=
  .next (s.odRow ch 0x4100 2 .hOpCu fun s => s.writePlanSwitch v)

/-- The effect of PLAN_DISCARD on its object, where it is accepted. -/
def State.writePlanDiscard (v : Byte) (s : State) : Option State :=
  if s.sessionOpen then s.planCommand v else none

/-- PLAN_DISCARD: OD 0x4100.02 (R276, R504). -/
def execPlanDiscard (ch : Channel) (v : Byte) (s : State) : Host.Outcome State Fault Refusal :=
  .next (s.odRow ch 0x4100 2 .hOpCu fun s => s.writePlanDiscard v)

/-- The staged plan that waits for a boundary, by kind. -/
def State.switching (s : State) (isSpan : Bool) : Option PlanInfo :=
  match s.fabric.staged, s.fabric.tide with
  | some ⟨.switchPending, _, _, some p, _⟩, none => if p.span.isSome == isSpan then some p else none
  | _, _ => none

/-- PLAN_ADMISSION: at the finish of the running tide, or at once if no plan runs (R277-R281, R581). -/
def execPlanAdmission (poisoned : List (Fin 1200)) (s : State) : Host.Outcome State Fault Refusal :=
  .next (match s.switching false with
  | some p => s.admission p (poisoned.map (·.val))
  | none => s)

/-! ### The grid (R280, R288, R297, R455) -/

/-- Time on the grid of a span plan that is not yet running. -/
def State.spanNow (s : State) (sp : SpanInfo) : Nat :=
  if sp.master = s.ret.moduleAddr then s.now else s.spanTime

/-- R297: the first grid point of the span at or after OD 0x4100.03 at which every module had reported, the last at `reportedAt`. -/
def State.atSpanPoint (s : State) (p : PlanInfo) (sp : SpanInfo) (reportedAt : Nat) : Bool :=
  gridAtOrAfter sp.epoch p.cadenceNs (max s.fabric.spanSwitch reportedAt) == s.spanNow sp

/-- SPAN_ADMISSION: at the first grid point at or after OD 0x4100.03 at which every module has reported its windows written;
the report names the time, on the span's grid, of the last (R277, R295, R297; log 96). -/
def execSpanAdmission (report : SpanReport) (s : State) : Host.Outcome State Fault Refusal :=
  .next (match s.switching true with
  | some p =>
    match p.span with
    | some sp =>
      if s.atSpanPoint p sp report.reportedAt then s.admission p (report.poisoned.map (·.val)) else s
    | none => s
  | none => s)

/-! ### Departure (R213, R244, R282-R290, R545) -/

/-- R287: the lowest floor over the dies that host a core of the plan. -/
def State.planFloorNow (s : State) (p : PlanInfo) : Nat :=
  let l := p.cores
  match ((List.range 12).filter fun n => l.any fun i => dieOf i == n).map fun n => (s.fabric.die n).floor with
  | [] => 0
  | x :: xs => xs.foldl min x

/-- R287: paced or UNPACED. -/
def pacedBy (floor minFloor margin : Nat) : Bool := decide (minFloor * (1000 + margin) < floor * 1000)

/-- R288: the table of "Pace and lateness", from the last finished tide (pace, next grid point, finish). -/
def dueTime (origin cadence : Nat) (last : Option (Bool × Nat × Nat)) (paced : Bool) : Nat :=
  match last with
  | none => origin
  | some (true, next, fin) => if paced then max next fin else fin
  | some (false, _, fin) => if paced then gridAtOrAfter origin cadence fin else fin

/-- R291, R572: a stream that takes part in tides: not HALTED, and no core of its partition awaits a swap. -/
def State.takesPart (s : State) (e : StreamEntry) : Bool :=
  !inMask s.fabric.halted e.stream &&
    (List.range 12).all fun n => (s.fabric.die n).swaps.all fun i => !e.partition.getLsbD (100 * n + i)

/-- R572, R290: cores of the streams that take part. -/
def State.tideCores (s : State) (p : PlanInfo) : List Nat :=
  let m := (p.streams.filter s.takesPart).foldl (fun (acc : BitVec 1200) e => acc ||| e.partition) 0
  (List.range 1200).filter fun i => m.getLsbD i

/-- Lines of the core's windows; every other line is invalid after a departure (R244). -/
def Core.keepWindows (c : Core) : SMap Line := c.lagoon.filter fun e => c.inWindow e.1

/-- R213: every latch, accumulator and foot reads zero, every shape is EMPTY, every count zero. An array that has quiesced stays so
until its next row (R63). -/
def Core.clearArrays (c : Core) : Core := { c with arrays := c.arrays.map fun a => { quiesced := a.quiesced } }

/-- R213, R244: a core of the plan at a departure. Its windows, slot table and map place stand; issue starts at step 0 on a core
that takes part. -/
def Core.depart (c : Core) (takes : Bool) (count : Nat) : Core :=
  let run := takes && !c.idle
  { lagoon := c.keepWindows, execBase := c.execBase, execLines := c.execLines, constBase := c.constBase,
    constLines := c.constLines, slots := c.slots, arrays := c.clearArrays.arrays, lastProgress := count, lastIssue := count,
    issuing := run, ended := !run, idle := c.idle }

/-- R213 on every core of the device, R244 on every core of the plan. -/
def Fabric.clearForTide (f : Fabric) (p : PlanInfo) (takes : List Nat) (count : Nat) : Fabric :=
  let f := f.cores.foldl (fun g e => g.modCore e.1 Core.clearArrays) f
  p.cores.foldl (fun g i => g.modCore i fun c => c.depart (takes.contains i) count) f

/-- R545, R575: receipts of the tide carry LOOP-OUT. -/
def State.loopOut (s : State) : Bool :=
  (List.range 13).any fun g =>
    (s.power.governors.getD g {}).state != .running && (g == 0 || s.fabric.planDie (g - 1))

/-- A submission eligible for a slot (R283, R313): its sample is taken and no answer is decided. -/
def Submission.eligible (st : Nat) (x : Submission) : Bool :=
  x.stream == st && x.kind != 2 && x.phase == .sampled && x.status.isNone

/-- Tags of the eligible submissions of a stream in slot order: resubmissions, then the others, each in ascending sequence
(R283). -/
def HostPath.slotOrder (h : HostPath) (st : Nat) : List Nat :=
  let l := h.subs.filterMap fun e => e.2.bind fun x => if x.eligible st then some (e.1, x) else none
  let l := l.insertionSort fun a b => a.2.seq ≤ b.2.seq
  ((l.filter fun e => e.2.kind == 3) ++ (l.filter fun e => e.2.kind != 3)).map (·.1)

/-- R283, R284: the slots of one stream. -/
def slotsFor (e : StreamEntry) (tags : List Nat) : List RowFill :=
  let used := tags.take e.rows
  used.map RowFill.sub ++ List.replicate (e.rows - used.length) (if e.level then .padding else .nullRow)

def rowCount (p : RowFill → Bool) (rows : List (Nat × List RowFill)) : Nat :=
  (rows.map fun r => (r.2.filter p).length).foldl (· + ·) 0

/-- Tags in the slots. -/
def tagsIn (rows : List (Nat × List RowFill)) : List Nat :=
  rows.flatMap fun r => r.2.filterMap fun f => match f with | .sub t => some t | _ => none

/-- The submissions in a tide's slots. -/
def HostPath.board (h : HostPath) (p : PlanInfo) (tags : List Nat) (no depart gen : Nat) : HostPath :=
  h.mapSubs fun t x =>
    if tags.contains t then
      { x with phase := .inTide, tide := some no, depart := depart, generation := gen, form := (p.entry x.stream).map (·.form) }
    else x

/-- A tide departs (R213, R244, R280-R290). -/
def State.departTide (s : State) (p : PlanInfo) (floor : Nat) (paced : Bool) : State :=
  let t := s.gridNow
  let rows := (p.streams.filter s.takesPart).map fun e => (e.stream, slotsFor e (s.host.slotOrder e.stream))
  let no := s.fabric.tideCount
  let tide : Tide := { no := no, depart := s.now, departCount := s.clock.count, paced := paced, nextGrid := gridAfter s.fabric.origin p.cadenceNs t, rows := rows,
                       voided := 0, loopOut := s.loopOut }
  let f := s.fabric.clearForTide p (s.tideCores p) s.clock.count
  { s with
    fabric := { f with
      dies := f.dies.map fun d => { d with commit := [] }
      flight := [], staging := [], tide := some tide, tideCount := no + 1, pace := if paced then 1 else 2, planFloor := floor
      unpacedTides := if paced then f.unpacedTides else bump f.unpacedTides
      skipped := s.fabric.skippedAt t
      gridNext := gridAfter s.fabric.origin p.cadenceNs t
      nullRows := bumpBy (rowCount (· == .nullRow) rows) f.nullRows
      paddingRows := bumpBy (rowCount (· == .padding) rows) f.paddingRows }
    host := s.host.board p (tagsIn rows) no s.now s.ret.generation
    monitors := { s.monitors with ballastActive := s.monitors.ballast }
    start := { s.start with power := if s.start.power = .ready then .run else s.start.power } }

/-- TIDE_DEPARTURE: the next departure when it is due (R288, R290, R296, R505). A SWITCH-PENDING plan is admitted at the boundary
before another tide departs (R277). A span's tide runs until every module's mark of it is held. -/
def execTideDeparture (s : State) : Host.Outcome State Fault Refusal :=
  .next (match s.fabric.plan, s.fabric.tide with
  | some p, none =>
    let floor := s.planFloorNow p
    let paced := pacedBy floor p.cert.minFloor s.ret.margin
    if (s.switching false).isNone ∧ s.up ∧ s.od.session ≠ 0 ∧ s.od.drained = false ∧ (s.tideCores p).isEmpty = false ∧
        dueTime s.fabric.origin p.cadenceNs s.fabric.lastTide paced ≤ s.gridNow then
      s.departTide p floor paced
    else s
  | _, _ => s)

/-! ### Finish (R252, R289, R570) -/

/-- R252: the core's tide work is complete. -/
def Core.done (c : Core) : Bool := !c.unfinished

/-- Streams of a tide all of whose slots are null or padding rows: they write no plan state (R285). -/
def emptyStreams (rows : List (Nat × List RowFill)) : BitVec 64 :=
  streamMask ((rows.filter fun r => r.2.all fun f => match f with | .sub _ => false | _ => true).map (·.1))

def RowFill.real : RowFill → Bool
  | .sub _ => true
  | _ => false

/-- The plan-state writes that a tide leaves: those of streams that were not voided, made for rows that hold a submission. A write
that the plan gives to no row of its own is its stream's (R285, R570). -/
def Tide.commits (t : Tide) (w : Nat × Option Nat) : Bool :=
  !inMask t.voided w.1 &&
    match w.2 with
    | some row => (t.fill w.1 row).real
    | none => !inMask (emptyStreams t.rows) w.1

/-- R570: a die's held writes that are kept. -/
def commitDie (keep : Nat × Option Nat → Bool) (hbm : SMap HbmLine) (d : Die) : SMap HbmLine :=
  d.commit.foldl (fun m w => if keep w.1 then SMap.set {} m w.2.1 w.2.2 else m) hbm

/-- The plan-state writes of a tide are written to HBM. -/
def Fabric.commitAll (f : Fabric) (keep : Nat × Option Nat → Bool) : Fabric :=
  { f with
    hbm := f.dies.foldl (commitDie keep) f.hbm
    dies := f.dies.map fun d => { d with commit := [] } }

/-- The staged units that hold a row's output record, in the order the plan gives them (10; log 88). -/
def rowUnits (p : PlanInfo) (stream row : Nat) (staging : List SoundUnit) : List SoundUnit :=
  (Config.outputUnits p.image stream row).filterMap fun tok => staging.find? fun u => u.token == tok

/-- The output record of a row, cut or padded to OUTPUT_LEN (R320), and its CLIPPED tag: the OR of the tags of its lines (R226). -/
def rowOutput (p : PlanInfo) (e : StreamEntry) (row : Nat) (staging : List SoundUnit) : Bytes × Bool :=
  let us := rowUnits p e.stream row staging
  (padTo e.outputLen ((us.flatMap (·.data)).take e.outputLen), us.any (·.tag))

/-- Every output record of a tide's submissions in streams that are not HALTED is in hub staging (10, Model). -/
def Fabric.outputsStaged (f : Fabric) (p : PlanInfo) (t : Tide) : Bool :=
  t.rows.all fun r => inMask f.halted r.1 || inMask t.voided r.1 ||
    r.2.zipIdx.all fun x => !x.1.real ||
      (Config.outputUnits p.image r.1 x.2).all fun tok => f.staging.any fun u => u.token == tok

/-- An answered submission of a finished tide. -/
def Submission.answer (x : Submission) (out : Bytes × Bool) (late unpaced loopOut debug : Bool) : Submission :=
  { x with
    phase := .answered, status := some 0, output := some out.1, outWritten := false, parked := false, receiptNo := none, held := false
    flags := flagBits (out.2 || x.sampleTag) late unpaced loopOut debug false }

/-- The row of a tag in a tide. -/
def rowOf (rows : List (Nat × List RowFill)) (st tag : Nat) : Option Nat :=
  ((rows.find? fun r => r.1 == st).map (·.2)).bind fun l => l.findIdx? (· == .sub tag)

/-- The answers of a tide. -/
def HostPath.answerTide (h : HostPath) (p : PlanInfo) (t : Tide) (staging : List SoundUnit) (late debug : Bool) : HostPath :=
  h.mapSubs fun tag x =>
    if x.phase == .inTide && x.tide == some t.no then
      match p.entry x.stream, rowOf t.rows x.stream tag with
      | some e, some r => x.answer (rowOutput p e r staging) late (!t.paced) t.loopOut debug
      | _, _ => x
    else x

/-- F_j. In a span it is the latest finish of any module, which ALL-FINISHED names (R296; log 92). -/
def State.finishTime (s : State) (p : PlanInfo) (t : Tide) : Nat :=
  match p.span, s.fabric.ownFinish, s.fabric.allFinished with
  | some _, some (_, own), some (j, latest) => if j = t.no then max own latest else s.gridNow
  | _, _, _ => s.gridNow

/-- A tide finishes. -/
def State.finishTide (s : State) (p : PlanInfo) (t : Tide) : State :=
  let now := s.finishTime p t
  let late := t.isLate now
  let f := s.fabric.commitAll t.commits
  ({ s with
     fabric := { f with
       tide := none, lastTide := some (t.paced, t.nextGrid, now)
       lateTides := if late then bump f.lateTides else f.lateTides
       lastDuration := (s.clock.count - t.departCount) % 2 ^ 32
       ownFinish := none }
     host := s.host.answerTide p t s.fabric.staging late s.start.condition.debugClass } : State)

/-- R296, R298: nothing holds a tide open once the module itself has finished it: no span, every mark held, or every stream HALTED. -/
def State.marksHeld (s : State) (p : PlanInfo) : Bool :=
  p.span.isNone || (p.mask &&& ~~~s.fabric.halted) == 0 || s.fabric.allFinished.map (·.1) == s.fabric.ownFinish.map (·.1)

/-- The tide finishes once the module has finished it and its marks are held. -/
def State.settleTide (s : State) : State :=
  match s.fabric.plan, s.fabric.tide with
  | some p, some t => if s.fabric.ownFinish.isSome && s.marksHeld p then (s.finishTide p t).settleReady.settleClose.settleDebug else s
  | _, _ => s

/-- The module's own finish of a tide, which goes to the time tree in a span (R296, R452). -/
def State.ownTide (s : State) (t : Tide) : State :=
  if s.fabric.ownFinish.isSome then s
  else ({ s with fabric := { s.fabric with ownFinish := some (t.no, s.gridNow) } } : State).settleMarks

/-- TIDE_FINISH: every core of every stream in the tide has completed its work, and the outputs are in hub staging (R252, R289, R296, R424, R452, R505, R570). -/
def execTideFinish (s : State) : Host.Outcome State Fault Refusal :=
  .next (match s.fabric.plan, s.fabric.tide with
  | some p, some t =>
    if ((p.streams.filter fun e => (t.rows.map (·.1)).contains e.stream && !inMask s.fabric.halted e.stream).all fun e =>
          (s.fabric.coresOf e.stream).all fun i => (s.fabric.core i).done) = true ∧ s.fabric.outputsStaged p t = true then
      (s.ownTide t).settleTide
    else s
  | _, _ => s)

/-! ### Span halts (R298, R591, R592) -/

/-- The wait limit in ns. -/
def State.spanLimit (s : State) : Nat := s.ret.spanWait * 1000000

/-- R298, R591: the limit has elapsed after the module's own finish with marks missing, or after the next grid point of a tide
not finished. -/
def State.spanExpired (s : State) : Bool :=
  match s.fabric.tide, s.fabric.ownFinish with
  | some _, some (_, own) => decide (own + s.spanLimit ≤ s.gridNow)
  | some t, none => decide (t.nextGrid + s.spanLimit ≤ s.gridNow)
  | none, _ => false

/-- SPAN_WAIT_EXPIRY: every stream of the span plan is voided and HALTED (R298, R591, R592). -/
def execSpanWaitExpiry (missing : BitVec 12) (s : State) : Host.Outcome State Fault Refusal :=
  .next (match s.fabric.plan with
  | some p =>
    let l := p.streams.map (·.stream)
    if p.span.isSome ∧ s.spanExpired = true ∧ (p.mask &&& ~~~s.fabric.halted) ≠ 0 then
      let tide := (s.fabric.tide.map (·.no)).getD u64Max
      let s := (s.voidStreams l).haltStreams l
      (s.fault { code := 9, tide := tide, a := missing.toNat, time := s.now }).selectFallback none l
    else s
  | none => s)

/-! ### Core faults and swaps (R39-R43, R47, R264, R567-R569, R572) -/

/-- A physical core's state written. -/
def Retained.setPhys (r : Retained) (die p st : Nat) : Retained :=
  { r with coreState := SMap.set (coreStateDefault p) r.coreState (physKey die p) st }

/-- R47: no spare: the core is retired, the streams enter HALTED, and their fallback is selected. -/
def State.noSpare (s : State) (die i : Nat) (l : List Nat) : State :=
  let p := s.ret.physOf (100 * die + i)
  let s := { s with ret := s.ret.setPhys die p 2 }
  let s := s.fault { code := 2, die := die, unit := i, a := p, tide := (s.fabric.tide.map (·.no)).getD u64Max, time := s.now }
  if l.isEmpty then s else ((s.haltStreams l).selectFallback (some die) l).settleReady

/-- The logical indices that await a swap with one more, in ascending order (02, Collisions). -/
def Die.awaiting (d : Die) (i : Nat) : List Nat := d.swaps.orderedInsert (· ≤ ·) i

/-- CORE_FAULT (R567-R569): the tide is voided for the core's streams; a swap is due. With more cores due than spares are left
the highest index is the one R47 applies to (02, Collisions). A core that no spare replaced may run in a later plan (R293), and faults
again. -/
def execCoreFault (core : Fin 1200) (s : State) : Host.Outcome State Fault Refusal :=
  let die := dieOf core.val
  let i := core.val % 100
  let d := s.fabric.die die
  .next (if !d.online ∨ d.swaps.contains i then s
  else
    let due := d.awaiting i
    let s := s.voidStreams (s.fabric.streamsOfCore core.val)
    if due.length ≤ (s.ret.spares die).length then
      { s with fabric := s.fabric.modDie die fun d => { d with swaps := due } }
    else
      let k := due.getLastD i
      ({ s with fabric := s.fabric.modDie die fun d => { d with swaps := due.dropLast } } : State).noSpare die k
        (s.fabric.streamsOfCore (100 * die + k)))

/-- R41, R264: the spare takes the logical index, invalidated and loaded from the window store. -/
def State.swap (s : State) (die i spare : Nat) : State :=
  let core := 100 * die + i
  let old := s.ret.physOf core
  let r := (s.ret.setPhys die old 2).setPhys die spare 0
  let fresh := match s.fabric.windows.find? fun e => e.1 == core with
    | some e => e.2.core
    | none => {}
  let f := s.fabric.modDie die fun d => { d with swaps := d.swaps.erase i }
  ({ s with
     ret := { r with coreMap := SMap.set i r.coreMap core spare, generation := bump32 r.generation }
     fabric := f.setCore core fresh } : State).fault
    { code := 1, die := die, unit := i, a := old + 256 * spare, b := bump32 s.ret.generation, time := s.now }

/-- CORE_SWAP: at a tide boundary with the die's governor RUNNING, the first faulty core of the die is replaced by the
lowest-numbered spare (R40-R42, R264, R572). -/
def execCoreSwap (die : Fin 12) (s : State) : Host.Outcome State Fault Refusal :=
  let n := die.val
  .next (if s.fabric.tide.isNone ∧ (s.governor (n + 1)).state = .running ∧ (s.fabric.die n).online then
    match (s.fabric.die n).swaps, s.ret.spares n with
    | i :: _, sp :: _ => s.swap n i sp
    | _, _ => s
  else s)

/-! ### HBM errors (R578-R580) -/

/-- The region a line of a stack lies in; 0xFFFF for none. -/
def Retained.regionAt (r : Retained) (stack line : Nat) : Nat :=
  ((r.regions.find? fun e => e.2.state != .free && e.2.stack == stack && decide (e.2.base * 16384 ≤ line) &&
      decide (line < (e.2.base + e.2.size) * 16384)).map (·.1)).getD 0xFFFF

def Cluster.poison (c : Cluster) (k : Nat) : Cluster :=
  if c.poisoned.contains k then c else { c with poisoned := k :: c.poisoned }

/-- R578, R579: the line is poisoned; lines from 2^29 on name the neuron records of the stack's Shoal store (log 49). -/
def State.poisonLine (s : State) (stack line : Nat) : State :=
  if line < 2 ^ 29 then
    { s with fabric := { s.fabric with hbm := SMap.modify {} s.fabric.hbm (hbmKey stack line) fun h => { h with poisoned := true } } }
  else
    { s with shoal := { s.shoal with clusters := modifyAt s.shoal.clusters stack fun c => c.poison (line - 2 ^ 29) } }

/-- HBM_UNCORRECTABLE_READ (R578, R580): counted, and recorded at most once per stack per second. -/
def execHbmUncorrectableRead (stack : Fin 12) (line : Nat) (s : State) : Host.Outcome State Fault Refusal :=
  let n := stack.val
  let s := s.poisonLine n line
  let s := { s with ret := { s.ret with poison := bumpAt s.ret.poison n } }
  let count := s.faults.poisonSince.getD n 0 + 1
  let due := match s.faults.poisonAt.getD n none with
    | none => true
    | some t => decide (t + 1000000000 ≤ s.clock.count)
  .next (if due then
    ({ s with faults := { s.faults with
        poisonAt := modifyAt s.faults.poisonAt n fun _ => some s.clock.count
        poisonSince := modifyAt s.faults.poisonSince n fun _ => 0 } } : State).fault
      { code := 0x0E, unit := n, a := s.ret.regionAt n line, b := count, time := s.now }
  else { s with faults := { s.faults with poisonSince := modifyAt s.faults.poisonSince n fun _ => count } })

/-! ### The record queue (R596, R597) -/

/-- R596: the pending OVERFLOW record enters the queue as space frees. -/
def Faults.refill (f : Faults) (now : Nat) : Faults :=
  match f.overflow with
  | some (n, mask) => { f with queue := f.queue ++ [{ code := 0x1F, a := n, b := mask % 2 ^ 32, time := now }], overflow := none }
  | none => f

/-- FAULT_RECORD_EXTEND: the oldest record is extended into MR14; a cleared extension is issued again (R596, R597, R604). -/
def execFaultRecordExtend (cleared : Bool) (s : State) : Host.Outcome State Fault Refusal :=
  .next (match s.faults.queue with
  | [] => s
  | r :: rest =>
    if cleared then s
    else
      let s := s.extendFault r
      { s with faults := ({ s.faults with queue := rest } : Faults).refill s.now })

end Sys2Proof.Machine
end

