-- ==== Sys2Proof/Machine/ShoalRows.lean ====
section
/-! DEFINITION. The commands of the Shoal engine (12). -/

namespace Sys2Proof.Machine

/-- A SCORE whose record is fetched and whose sample is not taken: parked or not, it is taken in order (R353). -/
def Submission.unsampled (x : Submission) : Bool := x.kind != 2 && x.inputDigest.isSome && x.sample.isNone

/-- R353: a SCORE of a lower sequence is still to be sampled. -/
def HostPath.owesSample (h : HostPath) (seq : Nat) : Bool :=
  h.subs.any fun e => match e.2 with
    | some x => x.unsampled && decide (x.seq < seq) && h.passed x.seq
    | none => false

/-- R351, R352: spikes are applied only once every event of their submission has been forwarded. -/
def State.mayApply (s : State) (e : ShoalEvent) : Bool :=
  (e.depth == 0 || s.host.passed e.seq) && !s.host.owesSample e.seq && !s.toAway e

/-- R356, R364: the relay's store for a cluster, 65,536 spikes, and its inbox cannot take so many more. -/
def Shoal.storeFull (h : Shoal) (n more : Nat) : Bool :=
  decide (65536 + 4096 < (h.relay.filter fun e => e.target == n).length + (h.cluster n).inbox.length + more)

/-- R356: an event whose spikes do not all fit holds its cluster. -/
def Shoal.emitHeld (h : Shoal) (e : ShoalEvent) : Bool :=
  let out := ((h.cluster e.target).applyEvent e).spikes
  h.valid e && e.chmask != 0 && out.any fun x => h.storeFull x.target (out.filter fun y => y.target == x.target).length

/-- R356: a hold of a cluster counts once. -/
def Shoal.holdRelay (h : Shoal) (n : Nat) : Shoal :=
  if h.relayHeld.getLsbD n then h
  else { h with relayHeld := h.relayHeld ||| BitVec.ofNat 12 (2 ^ n), relayHolds := bump h.relayHolds }

/-- The hold of a cluster ends. -/
def Shoal.release (h : Shoal) (n : Nat) : Shoal := { h with relayHeld := h.relayHeld &&& ~~~BitVec.ofNat 12 (2 ^ n) }

/-- R345, R348-R351: an event taken from its inbox acts on its neuron. -/
def Shoal.act (h : Shoal) (e : ShoalEvent) : Shoal :=
  let n := e.target
  let h := h.take e
  if h.valid e then
    let h := { h with applied := bumpAt h.applied n }
    if e.chmask = 0 then h
    else
      let r := (h.cluster n).applyEvent e
      let h := { h with
        clusters := modifyAt h.clusters n fun c => c.write (nidIndex e.nid) r.record
        saturated := modifyAt h.saturated n (bumpBy r.sats)
        spikes := modifyAt h.spikes n (bumpBy r.spikes.length)
        depth2 := if r.crossed2 then bumpAt h.depth2 n else h.depth2 }
      r.spikes.foldl Shoal.deliver h
  else { h with invalid := bumpAt h.invalid n }

/-- SHOAL_EVENT_APPLY: cluster SHn applies its event once no lower key can reach it (R345-R352, R356). -/
def execShoalEventApply (n : Fin 12) (s : State) : Host.Outcome State Fault Refusal :=
  .next (match s.shoal.next n.val with
  | some e =>
    if s.mayApply e then
      if s.shoal.emitHeld e then { s with shoal := s.shoal.holdRelay n.val }
      else ({ s with shoal := ((s.shoal.release n.val).act e).drainRelay } : State).pump
    else s
  | none => s)

/-- The sample is taken; a staged submission is eligible (R283, R353). -/
def Submission.sampled (x : Submission) (r : Bytes × Bool) : Submission :=
  { x with sample := some r.1, sampleTag := r.2, phase := if x.phase = .staged then .sampled else x.phase }

/-- SHOAL_SAMPLE: every event and spike of the submission is applied; its sample is taken and it is eligible (R353, R354). -/
def execShoalSample (tag : BitVec 18) (s : State) : Host.Outcome State Fault Refusal :=
  .next (match s.host.sub tag.toNat with
  | some x =>
    if x.unsampled = true ∧ s.host.passed x.seq = true ∧ s.shoal.clearTo x.seq = true then
      { s with host := s.host.modSub tag.toNat fun y => y.sampled (s.shoal.sampleOf x) }
    else s
  | none => s)

/-- SHOAL_SLEEP: nothing in the inbox and nothing pending for 64 beats (R357). -/
def execShoalSleep (n : Fin 12) (s : State) : Host.Outcome State Fault Refusal :=
  .next (if s.shoal.pending.all (fun e => e.target != n.val) then
    { s with shoal := { s.shoal with clusters := modifyAt s.shoal.clusters n.val fun c => { c with asleep := true } } }
  else s)

/-- R359: the request is refused at once, or a load is in progress. -/
def Shoal.requestLoad (h : Shoal) (addr len : BitVec 64) : Shoal :=
  if h.planAdmitted then { h with loadResult := 2 }
  else if h.load.isSome || h.snapshot.isSome then { h with loadResult := 6 }
  else { h with load := some (addr, len) }

/-- The effect of SHOAL_IMAGE_LOAD on its object, where it is accepted. -/
def State.writeShoalImageLoad (addr len : BitVec 64) (s : State) : Option State :=
  if s.sessionOpen then some { s with shoal := s.shoal.requestLoad addr len } else none

/-- SHOAL_IMAGE_LOAD: OD 0x6001.01 (R359, R504). -/
def execShoalImageLoad (ch : Channel) (addr len : BitVec 64) (s : State) : Host.Outcome State Fault Refusal :=
  .next (s.odRow ch 0x6001 1 .host fun s => s.writeShoalImageLoad addr len)

/-- R359: the code of a fetched image. -/
def State.imageCode (s : State) (b : Bytes) (len : Nat) : Nat :=
  if !imageFormatOk b len then 1
  else if s.shoal.planAdmitted then 2
  else if (List.range 12).any fun n => (clusterDir b n).neurons != 0 && !(s.fabric.die n).online then 3
  else if !imageRangeOk b then 4
  else 0

/-- A loaded cluster takes the place of an earlier one; events in its inbox stand. -/
def Cluster.replace (c d : Cluster) : Cluster := { d with inbox := c.inbox, asleep := c.asleep }

/-- R359, R360: the state replaced, MR11 extended, the start-state digest computed again. -/
def State.loadImage (s : State) (b : Bytes) : State :=
  let l := s.shoal.clusters.mapIdx fun n c => c.replace (loadedCluster b n)
  let s := { s with shoal := { s.shoal with clusters := l, load := none, loadResult := 0 } }
  let s := s.extendMr 11 (eventRecord 1 (sha384 (programBytes l)) s.now)
  { s with shoal := { s.shoal with startState := s.startStateDigest } }

def State.refuseImage (s : State) (code : Nat) : State := { s with shoal := { s.shoal with load := none, loadResult := code } }

/-- SHOAL_IMAGE_LOADED: the fetch has ended; `none` is a translation fault or completion error (R359-R361). -/
def execShoalImageLoaded (img : Option Bytes) (s : State) : Host.Outcome State Fault Refusal :=
  .next (match s.shoal.load with
  | none => s
  | some (_, len) =>
    if !s.dmaOk then s
    else match img with
    | none => s.refuseImage 5
    | some b =>
      match s.imageCode b len.toNat with
      | 0 => s.loadImage b
      | code => s.refuseImage code)

/-- The effect of SHOAL_SNAPSHOT on its object, where it is accepted. -/
def State.writeShoalSnapshot (addr len : BitVec 64) (s : State) : Option State :=
  if s.sessionOpen then
    some { s with shoal := if s.shoal.load.isSome || s.shoal.snapshot.isSome then { s.shoal with snapResult := 6 }
                           else { s.shoal with snapshot := some (addr, len) } }
  else none

/-- SHOAL_SNAPSHOT: OD 0x6002.01 (R362, R504). -/
def execShoalSnapshot (ch : Channel) (addr len : BitVec 64) (s : State) : Host.Outcome State Fault Refusal :=
  .next (s.odRow ch 0x6002 1 .host fun s => s.writeShoalSnapshot addr len)

/-- R362: the Shoal watermark covers every forwarded event: none is unapplied, and no submission is forwarded in part. -/
def State.allCovered (s : State) : Bool :=
  s.shoal.pending.isEmpty && s.host.subs.all fun e => match e.2 with
    | some x => x.forwarded == 0 || s.host.passed x.seq
    | none => true

/-- SNAPSHOT_CAPTURE: the watermark covers every forwarded event; forwarding is held and the state is taken (R362). A length
below the image's is refused with code 0x01 (log 50). -/
def execSnapshotCapture (s : State) : Host.Outcome State Fault Refusal :=
  .next (match s.shoal.snapshot, s.shoal.image with
  | some (_, len), none =>
    if s.allCovered then
      let b := s.shoalImage
      if len.toNat < b.length then { s with shoal := { s.shoal with snapshot := none, snapResult := 1 } }
      else { s with shoal := { s.shoal with image := some b }, host := { s.host with snapshotHold := true } }
    else s
  | _, _ => s)

/-- The snapshot ends and forwarding is released. -/
def State.endSnapshot (s : State) (code : Nat) : State :=
  ({ s with
     shoal := { s.shoal with snapshot := none, image := none, snapResult := code }
     host := { s.host with snapshotHold := false } } : State).pump

/-- SNAPSHOT_COMPLETE: the image is written out, or a translation fault abandons it (R362, R402, R403). -/
def execSnapshotComplete (translated : Bool) (s : State) : Host.Outcome State Fault Refusal :=
  .next (match s.shoal.snapshot, s.shoal.image with
  | some (addr, _), some b =>
    if !s.dmaOk || s.host.paging .snapshot then s
    else if translated then
      ({ s with hostMem := storeBytes s.hostMem addr.toNat b, shoal := { s.shoal with snapDigest := sha384 b } } : State).endSnapshot 0
    else s.refusedAccess .snapshot fun s => s.endSnapshot 5
  | _, _ => s)

end Sys2Proof.Machine
end

