-- ==== Sys2Proof/Machine/ReceiptOps.lean ====
section
/-! DEFINITION. Receipts and their chain, the evidence rings, interrupts (13, R327). -/

namespace Sys2Proof.Machine

/-! ### Interrupts (R327) -/

/-- A vector is masked, by its entry or by the function (R327, MSI-X). -/
def HostPath.masked (h : HostPath) (v : Nat) : Bool := h.msixMask || (SMap.get (0, 0, true) h.msix v).2.2

/-- A vector sent, or pending while it is masked or the device may not write host memory (R327, R402, R403, MSI-X). -/
def HostPath.send (h : HostPath) (dma : Bool) (v : Nat) : HostPath :=
  if !h.msixOn then h
  else if h.masked v || !dma then
    { h with msixPending := if h.msixPending.contains v then h.msixPending else v :: h.msixPending }
  else { h with msixSent := SMap.modify 0 h.msixSent v (· + 1) }

/-- A pending vector is sent once nothing holds it back. -/
def HostPath.sendPending (h : HostPath) (dma : Bool) (v : Nat) : HostPath :=
  if h.msixPending.contains v && h.msixOn && !h.masked v && dma then
    ({ h with msixPending := h.msixPending.filter fun x => x != v } : HostPath).send dma v
  else h

/-- Every pending vector that nothing holds back is sent (R327). -/
def State.sendVectors (s : State) : State :=
  { s with host := s.host.msixPending.foldl (fun h v => h.sendPending s.dmaOk v) s.host }

/-- R327: a vector is raised, at most once per hold-off interval. -/
def State.raiseVector (s : State) (v : Nat) : State :=
  let h := s.host
  if 2048 ≤ v then s
  else if h.holding.any fun e => e.1 == v then
    { s with host := { h with deferred := if h.deferred.contains v then h.deferred else v :: h.deferred } }
  else
    let h := h.send s.dmaOk v
    { s with host := { h with
        holding := if h.holdoff = 0 then h.holding else (v, s.clock.count + h.holdoff * 1000) :: h.holding } }

/-! ### The evidence rings (R389, R390) -/

def EvRingState.depth (r : EvRingState) : Nat := 2 ^ r.log2Depth

/-- Room for one entry on an enabled ring that is not faulted. -/
def EvRingState.ready (r : EvRingState) : Bool := r.enabled && !r.faulted && decide (r.tail < r.head + r.depth)

/-- Address of the next entry of `size` octets. -/
def EvRingState.slot (r : EvRingState) (size : Nat) : Nat := r.base.toNat + r.tail % r.depth * size

/-- The queued receipts written to their ring, in order, as long as it takes them; a failed translation faults it. -/
def State.flushReceiptsFrom (translated : Bool) : List Bytes → State → State
  | [], s => { s with measure := { s.measure with receipts := [] } }
  | r :: rs, s =>
    if !s.measure.receiptRing.ready || !s.dmaOk then { s with measure := { s.measure with receipts := r :: rs } }
    else if !translated then
      { s with measure := { s.measure with
          receipts := r :: rs, ringFaults := bump s.measure.ringFaults
          receiptRing := { s.measure.receiptRing with faulted := true } } }
    else
      let ring := s.measure.receiptRing
      State.flushReceiptsFrom translated rs
        (({ s with
           hostMem := storeBytes s.hostMem (ring.slot 160) r
           measure := { s.measure with receiptRing := { ring with tail := ring.tail + 1 } }
           ret := { s.ret with
             receiptsWritten := s.ret.receiptsWritten + 1
             headWritten := sha384 (digestBytes s.ret.headWritten ++ r) } } : State).raiseVector ring.vector.toNat)

/-- Receipts written as far as their ring takes them. -/
def State.flushReceipts (s : State) (translated : Bool) : State := s.flushReceiptsFrom translated s.measure.receipts

/-- The queued checkpoints written to their ring. -/
def State.flushCheckpointsFrom (translated : Bool) : List Bytes → State → State
  | [], s => { s with measure := { s.measure with checkpoints := [] } }
  | c :: cs, s =>
    if !s.measure.ckptRing.ready || !s.dmaOk then { s with measure := { s.measure with checkpoints := c :: cs } }
    else if !translated then
      { s with measure := { s.measure with
          checkpoints := c :: cs, ringFaults := bump s.measure.ringFaults
          ckptRing := { s.measure.ckptRing with faulted := true } } }
    else
      let ring := s.measure.ckptRing
      State.flushCheckpointsFrom translated cs
        (({ s with
           hostMem := storeBytes s.hostMem (ring.slot 4096) c
           measure := { s.measure with ckptRing := { ring with tail := ring.tail + 1 } } } : State).raiseVector ring.vector.toNat)

def State.flushCheckpoints (s : State) (translated : Bool) : State := s.flushCheckpointsFrom translated s.measure.checkpoints

/-- A cut that was deferred is made once nothing is being signed and the checkpoint queue has room (R385, R391). -/
def State.settleCut (s : State) : State :=
  match s.measure.deferred with
  | none => s
  | some cause =>
    if s.measure.signing.isNone ∧ s.measure.checkpoints.length < 16 ∧ s.aliasExists = true then s.makeCut cause else s

/-! ### Receipts (R226, R379-R384, R391, R575) -/

/-- What R380 puts into the digest fields: input, output, feature, form. -/
def receiptDigests (x : Submission) (a : Answer) : Bytes × Bytes × Bytes × Bytes :=
  let zero32 : Bytes := List.replicate 32 0
  let lead (n : Nat) (d : Digest) : Bytes := (digestBytes d).take n
  let input := (x.inputDigest.map (lead 32)).getD zero32
  let feature := (x.sample.map fun b => lead 32 (sha384 b)).getD zero32
  let empty := lead 32 (sha384 [])
  let form := (a.form.map (lead 16)).getD (List.replicate 16 0)
  if a.status = 2 then (zero32, zero32, zero32, List.replicate 16 0)
  else if a.kind = 2 then (input, empty, empty, List.replicate 16 0)
  else if a.status = 0 ∨ a.status = 3 then (input, (x.output.map fun b => lead 32 (sha384 b)).getD zero32, feature, form)
  else if a.status = 1 then (input, zero32, feature, form)
  else (input, zero32, feature, List.replicate 16 0)

/-- R379: the 160 octets of a receipt. -/
def receiptBytes (x : Submission) (a : Answer) (link : Digest) (gen : Nat) : Bytes :=
  let d := receiptDigests x a
  leBytes 1 1 ++ leBytes 1 a.status ++ leBytes 1 a.flags.toNat ++ leBytes 1 x.stream ++ leBytes 1 1 ++ leBytes 1 a.kind ++ [0, 0] ++
    leBytes 8 x.seq ++ leBytes 8 x.time ++ leBytes 8 (a.tide.getD u64Max) ++ leBytes 8 a.depart ++ leBytes 4 gen ++
    (digestBytes link).take 4 ++ d.1 ++ d.2.1 ++ d.2.2.1 ++ d.2.2.2

/-- R575: every receipt carries LOOP-OUT while G0 is FAILED. -/
def State.receiptFlags (s : State) (f : BitVec 6) : BitVec 6 :=
  if (s.power.governors.getD 0 {}).state = .failed then f ||| 8 else f

/-- R391: a receipt can be made. -/
def State.mayReceipt (s : State) : Bool :=
  decide (s.measure.receipts.length < 32768) && decide (s.measure.checkpoints.length < 16)

/-- R383, R384: the receipt is made, folded into the chain and queued; a count cut may fall due. -/
def State.makeReceipt (s : State) (x : Submission) (a : Answer) : State :=
  let gen := if a.tide.isSome then a.generation else s.ret.generation
  let r := receiptBytes x a s.chainHead gen
  let held := !(s.measure.receiptRing.ready && s.dmaOk && s.measure.receipts.isEmpty)
  let s := { s with
    ret := { s.ret with receiptsMade := s.ret.receiptsMade + 1, liveHead := sha384 (digestBytes s.chainHead ++ r) }
    measure := { s.measure with
      receipts := s.measure.receipts ++ [r], sinceCut := s.measure.sinceCut + 1, flagsOr := s.measure.flagsOr ||| a.flags
      receiptHolds := if held then bump s.measure.receiptHolds else s.measure.receiptHolds } }
  if s.ret.ckptCount ≤ s.measure.sinceCut then s.cut 1 else s

end Sys2Proof.Machine
end

