-- ==== Sys2Proof/Machine/RingOps.lean ====
section
/-! DEFINITION. Rings, submission entries, page requests, record fetches and completions as shared operations (11, 01, R157). -/

namespace Sys2Proof.Machine

/-! ### MMIO (R304, R328, R389, R401, R482) -/

/-- A host access to a BAR: the link is up in D0; outside the TEE stream it is refused and counted in CONFIG_LOCKED and RUN. -/
def State.mmio (s : State) (tee : Bool) (f : State → State) : State :=
  if !s.pins.pcieUp || s.host.d3hot then s
  else if s.teeBlocked (.bar0 tee) then s.countTee
  else f s

/-! ### Rings (R304-R307) -/

def HostPath.ring (h : HostPath) (r : Nat) : Ring := SMap.get {} h.rings r

def HostPath.modRing (h : HostPath) (r : Nat) (g : Ring → Ring) : HostPath := { h with rings := SMap.modify {} h.rings r g }

def Ring.depth (q : Ring) : Nat := 2 ^ q.log2Depth

/-- A submission whose completion goes to a ring. -/
def Submission.uses (x : Submission) (r : Nat) : Bool := x.ring == r || x.owed.any fun a => a.ring == r

/-- A tag of the ring is held. -/
def HostPath.holdsTag (h : HostPath) (r : Nat) : Bool :=
  h.subs.any fun e => match e.2 with | some x => x.uses r | none => false

/-- R305: neither enabled nor DRAINING. -/
def HostPath.disabled (h : HostPath) (r : Nat) : Bool := !(h.ring r).enabled && !h.holdsTag r

/-- One more entry would reach CQ_HEAD (R325). -/
def Ring.cqFull (q : Ring) : Bool := (q.cqTail + 1) % q.depth == q.cqHead

/-- OD 0x5420.03 and RING_STATE (R304, R337). -/
def HostPath.ringState (h : HostPath) (r : Nat) : Nat :=
  let q := h.ring r
  if h.disabled r then 0
  else if !q.enabled then 6
  else if q.cqStop = .faulted then 5
  else if q.cqStop = .full ∨ q.cqFull = true then 4
  else if q.stop = .entry then 2
  else if q.stop = .fence then 3
  else 1

def HostPath.countIgnored (h : HostPath) : HostPath := { h with ignored := bump h.ignored }

/-- The running plan carries a stream and its rings may be fetched (R291, R294, R433). -/
def State.carries (s : State) (st : Nat) : Bool :=
  (s.fabric.entry st).isSome && !inMask s.fabric.halted st && !inMask s.fabric.dark st

/-- R294: a doorbell of a ring whose stream the running plan does not carry. -/
def State.notCarriedBy (s : State) (st : Nat) : Bool :=
  match s.fabric.plan with
  | none => false
  | some p => (p.entry st).isNone

/-- A ring whose SQ_TAIL is written: one stopped at an entry resumes (R24, R310). -/
def Ring.tail (q : Ring) (v : Nat) : Ring := { q with sqTail := v, stop := if q.stop = .entry then .none else q.stop }

/-- SQ_TAIL recorded; a stopped ring resumes (R304, R305, R310, R294). -/
def State.sqTail (s : State) (r v : Nat) : State :=
  let q := s.host.ring r
  if s.host.disabled r ∨ q.depth ≤ v then { s with host := s.host.countIgnored }
  else
    let s := { s with host := s.host.modRing r fun q => q.tail v }
    if s.notCarriedBy q.stream then { s with fabric := { s.fabric with notCarried := bump s.fabric.notCarried } } else s

/-- CQ_HEAD recorded; posting resumes (R304, R305, R325, R326). -/
def State.cqHead (s : State) (r v : Nat) : State :=
  let q := s.host.ring r
  if s.host.disabled r ∨ q.depth ≤ v then { s with host := s.host.countIgnored }
  else
    let q := { q with cqHead := v }
    { s with host := s.host.modRing r fun _ => { q with cqStop := if q.cqFull then .full else .none } }

/-- Fields of R306 in range; there are 2,048 vectors (R303, R336). -/
def ringCfgOk (c : RingCfg) : Bool :=
  decide (4 ≤ c.log2Depth.toNat) && decide (c.log2Depth.toNat ≤ 16) && decide (c.stream.toNat < 64) && decide (c.enable.toNat < 2) &&
    (decide (c.vector.toNat < 2048) || c.vector == 0xFFFF) && c.sqBase.toNat % 4096 == 0 && c.cqBase.toNat % 4096 == 0

/-- A ring as a configuration write leaves it: enabling starts both queues at entry 0. -/
def Ring.configure (q : Ring) (c : RingCfg) : Ring :=
  let q := { q with
    configured := true, log2Depth := c.log2Depth.toNat, stream := c.stream.toNat, vector := c.vector, sqBase := c.sqBase,
    cqBase := c.cqBase }
  if c.enable = 0 then q
  else { q with enabled := true, sqTail := 0, sqHead := 0, cqHead := 0, cqTail := 0, posted := 0, stop := .none, cqStop := .none,
                heldEntry := none }

/-- R306, R307, R504: a configuration write. -/
def State.configureRing (s : State) (c : RingCfg) : Option State :=
  let r := c.ring.toNat
  if (s.host.ring r).enabled then
    if c.enable = 0 then some { s with host := s.host.modRing r fun q => { q with enabled := false } }
    else some { s with host := s.host.countIgnored }
  else if !ringCfgOk c then none
  else if s.od.session ≠ 1 ∧ c.enable ≠ 0 then none
  else some { s with host := s.host.modRing r fun q => q.configure c }

/-! ### Entries (R308, R309) -/

/-- A submission entry (R308). -/
structure SqEntry where
  opcode : Nat
  fenceWait : Bool
  fenceSignal : Bool
  noIrq : Bool
  fenceId : Nat
  eventCount : Nat
  stream : Nat
  inputLen : Nat
  cookie : Nat
  inputAddr : Nat
  outputAddr : Nat
  seq : Nat
  time : Nat
  fenceValue : Nat
  deriving DecidableEq, Repr

def sqEntryOf (w : Nat) : SqEntry :=
  { opcode := field w 0 8, fenceWait := bit w 8, fenceSignal := bit w 9, noIrq := bit w 10, fenceId := field w 16 12,
    eventCount := field w 32 16, stream := field w 48 6, inputLen := field w 64 32, cookie := field w 96 32,
    inputAddr := field w 128 64, outputAddr := field w 192 64, seq := field w 256 64, time := field w 320 64,
    fenceValue := field w 384 64 }

/-- A zero field of R308 is not zero; in LIVE mode STREAM, TIME and, but for a RESUBMIT, SEQ are zero fields, and OUTPUT_ADDR
is one for EVENTS. -/
def entryZeroBad (logged : Bool) (w : Nat) (e : SqEntry) : Bool :=
  field w 11 5 != 0 || field w 28 4 != 0 || field w 54 10 != 0 || field w 448 64 != 0 ||
    (!logged && (e.stream != 0 || e.time != 0 || (e.opcode != 3 && e.seq != 0))) || (e.opcode == 2 && e.outputAddr != 0)

/-- The cases of R309 in the order listed. -/
def entryCases (logged : Bool) (inputMax w : Nat) : List Bool :=
  let e := sqEntryOf w
  let pay := e.inputLen - 32 * e.eventCount
  [!([1, 2, 3].contains e.opcode) || entryZeroBad logged w e,
   e.fenceWait && e.fenceSignal,
   decide (65536 < e.inputLen) || decide (e.inputLen < 32 * e.eventCount),
   decide (256 < e.eventCount),
   e.opcode == 1 && (pay == 0 || decide (inputMax < pay)),
   e.opcode == 2 && (e.eventCount == 0 || pay != 0),
   e.opcode == 3 && (e.inputLen != 0 || e.eventCount != 0 || e.outputAddr != 0)]

/-- R309, R310: the first failing case, numbered from 1. -/
def malformedCase (logged : Bool) (inputMax w : Nat) : Option Nat :=
  ((entryCases logged inputMax w).findIdx? id).map (· + 1)

/-! ### Rounds (11, "The path of a submission"; R22, R307, R330, R331, R402, R403) -/

/-- The sequencer reads entries: an OPEN session, DMA allowed, no forwarding hold, a free tag. -/
def State.reads (s : State) : Bool :=
  s.sessionOpen && s.up && s.dmaOk && !s.host.forwardHold && decide (s.host.subs.length < 262144)

def State.logged (s : State) : Bool := s.host.modeLatched == 1

/-- A ring has unfetched entries and may be read. -/
def State.fetchable (s : State) (r : Nat) : Bool :=
  let q := s.host.ring r
  q.enabled && q.stop == .none && q.sqHead != q.sqTail &&
    (if s.logged then r == s.host.replayRing else s.carries q.stream)

/-- The next ring of the round: the first fetchable ring above the last one read, or the first of all. -/
def State.nextRing (s : State) : Option Nat :=
  let l := (s.host.rings.map (·.1)).filter s.fetchable
  match s.host.visited with
  | none => l.head?
  | some v => (l.find? fun r => decide (v < r)).orElse fun _ => l.head?

/-- Ring `r` is the one read next. -/
def State.readsRing (s : State) (r : Nat) : Bool := s.reads && s.nextRing == some r

/-! ### What becomes of an entry (R24, R28, R310, R311) -/

def HostPath.visit (h : HostPath) (r : Nat) : HostPath := { h with visited := some r }

/-- R310. -/
def State.stopMalformed (s : State) (r k : Nat) : State :=
  let h := s.host.modRing r fun q => { q with stop := .entry }
  { s with host := { h with malformed := bump h.malformed, lastMalformed := (r, k, s.now) } }

/-- R24, R28. -/
def HostPath.stopReplay (h : HostPath) (r : Nat) : HostPath :=
  let h := h.modRing r fun q => { q with stop := .entry }
  { h with replayRefused := bump h.replayRefused }

/-- R311. -/
def HostPath.stopFence (h : HostPath) (r : Nat) (w : BitVec 512) : HostPath :=
  h.modRing r fun q => { q with stop := .fence, heldEntry := some w }

/-- The entry is consumed. -/
def HostPath.consume (h : HostPath) (r : Nat) : HostPath := h.modRing r fun q => { q with sqHead := (q.sqHead + 1) % q.depth }

/-- R23. -/
def HostPath.replayOrder (h : HostPath) (e : SqEntry) : Bool :=
  match h.lastLogged with
  | none => true
  | some (seq, time) => decide (seq < e.seq) && decide (time ≤ e.time)

/-- The lowest tag that is free: the first gap in the keys. -/
def firstGap {α : Type} : SMap α → Nat → Nat
  | [], i => i
  | (k, _) :: m, i => if k = i then firstGap m (i + 1) else i

def HostPath.freeTag (h : HostPath) : Nat := firstGap h.subs 0

/-! ### Record fetches (R155-R158, R303, R315-R319, R332) -/

/-- R315: the inline lane of a ring's Ferry (R155). -/
def laneOf (ring : Nat) : Nat := ferryOf ring % 4

/-- The lane is idle and nothing waits for it. -/
def Engines.laneFree (e : Engines) (l : Nat) : Bool := (e.laneBusy.getD l none).isNone && (e.laneQueue.getD l []).isEmpty

/-- The record in a lane is that of the tag. -/
def Engines.inLane (e : Engines) (tag : Nat) : Bool := e.laneBusy.any fun b => b == some tag

/-- The lane that holds a tag's record is free again and has counted its octets. -/
def Engines.laneDone (e : Engines) (tag len : Nat) : Engines :=
  { e with
    laneBytes := (e.laneBytes.zip e.laneBusy).map fun p => if p.2 = some tag then bumpBy len p.1 else p.1
    laneBusy := e.laneBusy.map fun b => if b = some tag then none else b }

/-- A tag's record enters a lane. -/
def Engines.enterLane (e : Engines) (l tag : Nat) : Engines := { e with laneBusy := modifyAt e.laneBusy l fun _ => some tag }

/-- R155: a Ferry's record waits for its lane. -/
def Engines.awaitLane (e : Engines) (f tag : Nat) : Engines :=
  { e with laneQueue := modifyAt e.laneQueue (f % 4) fun q => q ++ [(f, tag)], laneWaits := bump e.laneWaits }

/-- R155: the record takes its Ferry's lane, or waits for it. -/
def State.startFetch (s : State) (tag ring : Nat) : State :=
  if s.engines.laneFree (laneOf ring) then
    { s with
      engines := s.engines.enterLane (laneOf ring) tag
      host := s.host.modSub tag fun x => { x with phase := .fetching } }
  else
    { s with
      engines := s.engines.awaitLane (ferryOf ring) tag
      host := s.host.modSub tag fun x => { x with phase := .laneWait } }

/-- R318: INPUT_FAULT of a submission. -/
def Submission.faultInput (x : Submission) (debug : Bool) : Submission :=
  { x with phase := .answered, status := some 2, inputDigest := none, record := [],
           flags := flagBits false false false false debug false }

/-- R157, R317, R318: a submission completes with INPUT_FAULT and the watermark may pass it. -/
def State.inputFault (s : State) (tag : Nat) : State :=
  let h := s.host.modSub tag fun x => x.faultInput s.start.condition.debugClass
  ({ s with host := { h with inputFaults := bump h.inputFaults } } : State).pump

/-- R318: a record fetch meets a refused translation. -/
def State.refusedFetch (s : State) (tag : Nat) : State :=
  ({ s with host := s.host.modSub tag fun x => { x with phase := .pageWait } } : State).refusedAccess (.record (BitVec.ofNat 18 tag))
    fun s => s.inputFault tag

/-- R157: a record whose lane was cleared is fetched again under its tag, at most twice; the third clear is INPUT_FAULT and
frees the lane. -/
def State.clearLane (s : State) (tag : Nat) : State :=
  match s.host.sub tag with
  | some x =>
    if x.phase = .fetching then
      let s := { s with host := s.host.modSub tag fun y => { y with clears := y.clears + 1 } }
      if 2 ≤ x.clears then
        ({ s with engines := { s.engines with
             laneBusy := s.engines.laneBusy.map fun b => if b = some tag then none else b } } : State).inputFault tag
      else s
    else s
  | none => s

/-- R291, R294, R433: a submission staged while its stream is HALTED, dark or not carried is parked at once (log 51). -/
def State.parkStaged (s : State) (st : Nat) : State :=
  let m := streamMask [st]
  let debug := s.start.condition.debugClass
  if inMask s.fabric.halted st then { s with host := s.host.parkWaiting m 5 debug }
  else if inMask s.fabric.dark st then { s with host := s.host.parkWaiting m 6 debug }
  else if s.notCarriedBy st then { s with host := s.host.parkWaiting m 4 debug }
  else s

/-! ### Sequencing (R18, R19, R22, R312, R314, R330) -/

/-- Sequence number and time of an entry: assigned, or as logged (R18, R22). Assigned times do not fall behind an earlier
one's (R18). -/
def State.stamp (s : State) (e : SqEntry) : Nat × Nat :=
  if s.logged then (e.seq, e.time) else (s.ret.nextSeq, max s.now ((s.host.lastLogged.map (·.2)).getD 0))

/-- The submission an entry becomes. -/
def newSubmission (ring st : Nat) (e : SqEntry) (seq time : Nat) : Submission :=
  { ring := ring, seq := seq, time := time, stream := st, kind := e.opcode, cookie := e.cookie, inputLen := e.inputLen,
    eventCount := e.eventCount, inputAddr := e.inputAddr, outputAddr := e.outputAddr, noIrq := e.noIrq,
    fenceSignal := if e.fenceSignal then some (e.fenceId, e.fenceValue) else none }

/-- A number, a time and the lowest free tag are assigned and the entry is consumed. -/
def State.sequence (s : State) (ring st : Nat) (e : SqEntry) : State :=
  let q := s.stamp e
  let h := s.host.consume ring
  let subs := SMap.set none h.subs s.host.freeTag (some (newSubmission ring st e q.1 q.2))
  { s with
    host := { h with subs := subs, lastLogged := some q, tagBound := if 262144 ≤ subs.length then bump h.tagBound else h.tagBound }
    ret := { s.ret with nextSeq := max s.ret.nextSeq (q.1 + 1) } }

/-- A SCORE or EVENTS entry is sequenced and its fetch begins; a gap that it leaves is passed (R25, R317). -/
def State.accept (s : State) (ring st : Nat) (e : SqEntry) (translated : Bool) : State :=
  let tag := s.host.freeTag
  let s := s.sequence ring st e
  (if translated then ({ s with host := s.host.cache e.inputAddr e.inputLen } : State).startFetch tag ring else s.refusedFetch tag).pump

/-- The parked submission a RESUBMIT names (R27, R313). -/
def HostPath.parkedAs (h : HostPath) (st seq : Nat) : Option Nat :=
  (h.subs.find? fun e => match e.2 with | some x => x.parked && x.stream == st && x.seq == seq | none => false).map (·.1)

/-- A decided answer of a submission, as its completion takes it. -/
def Submission.answerOf (x : Submission) : Option Answer :=
  x.status.map fun c =>
    { ring := x.ring, cookie := x.cookie, kind := x.kind, status := c, flags := x.flags, tide := x.tide, depart := x.depart,
      generation := x.generation, form := x.form, noIrq := x.noIrq, fenceSignal := x.fenceSignal, receiptNo := x.receiptNo,
      held := x.held }

/-- R27, R313: a parked submission becomes eligible again under the entry that names it; an answer not yet posted stays
owed. -/
def Submission.resubmitted (x : Submission) (ring : Nat) (e : SqEntry) : Submission :=
  { x with
    owed := if x.phase = .posted then x.owed else x.owed ++ x.answerOf.toList
    ring := ring, kind := 3, cookie := e.cookie, noIrq := e.noIrq
    fenceSignal := if e.fenceSignal then some (e.fenceId, e.fenceValue) else none
    phase := if x.sample.isSome then .sampled else .staged
    status := none, parked := false, tide := none, depart := 0, generation := 0, form := none, flags := 0, output := none,
    outDigested := false, outLane := false, outWritten := false, outPending := false, receiptNo := none, held := false }

/-- A RESUBMIT entry is matched, or stops its ring (R28, R313). -/
def State.matchParked (s : State) (ring st : Nat) (e : SqEntry) : State :=
  match s.host.parkedAs st e.seq with
  | some tag => { s with host := (s.host.consume ring).modSub tag fun x => x.resubmitted ring e }
  | none => { s with host := s.host.stopReplay ring }

/-- An entry read from the ring whose turn it is (R309-R313, R22-R24). -/
def State.readEntry (s : State) (r : Nat) (w : BitVec 512) (act : State → Nat → SqEntry → State) : State :=
  let e := sqEntryOf w.toNat
  let st := if s.logged then e.stream else (s.host.ring r).stream
  let max := ((s.fabric.entry st).map (·.inputMax)).getD 0
  let s := { s with host := s.host.visit r }
  if s.logged && !s.carries st then s
  else match malformedCase s.logged max w.toNat with
  | some k => s.stopMalformed r k
  | none =>
    if s.logged && e.opcode != 3 && !s.host.replayOrder e then { s with host := s.host.stopReplay r }
    else if e.fenceWait ∧ SMap.get 0 s.host.fences e.fenceId < e.fenceValue then { s with host := s.host.stopFence r w }
    else act s st e

/-- The entry is of the kind a command reads, or of no listed kind. -/
def entryIs (k : Nat) (w : BitVec 512) : Bool :=
  let c := field w.toNat 0 8
  c == k || !([1, 2, 3].contains c)

/-! ### Completions (R319-R328) -/

/-- The answer to post next: one owed from before a resubmission, else the present one. -/
def Submission.nextAnswer (x : Submission) : Option Answer :=
  match x.owed with
  | a :: _ => some a
  | [] => if x.phase = .answered then x.answerOf else none

/-- R323: first completions of a stream are posted in ascending sequence. -/
def HostPath.inOrder (h : HostPath) (x : Submission) : Bool :=
  x.firstPosted || h.subs.all fun e => match e.2 with
    | some y => y.firstPosted || y.stream != x.stream || decide (x.seq ≤ y.seq)
    | none => true

/-- The next answer updated in place. -/
def Submission.setAnswer (x : Submission) (receiptNo : Option Nat) (flags : BitVec 6) (held : Bool) : Submission :=
  match x.owed with
  | a :: l => { x with owed := { a with receiptNo := receiptNo, flags := flags, held := held } :: l }
  | [] => { x with receiptNo := receiptNo, flags := flags, held := held }

/-- R319: OUTPUT_FAULT; the bytes at OUTPUT_ADDR become free values (log 2). -/
def State.outputFault (s : State) (tag : Nat) : State :=
  match s.host.sub tag with
  | none => s
  | some x =>
    let n := (x.output.getD []).length
    let h := s.host.modSub tag fun y => { y with status := some 3, outWritten := true, outPending := false }
    ({ s with
       host := { h with outputFaults := bump h.outputFaults }
       hostMem := storeBytes s.hostMem x.outputAddr ((List.range n).map (Config.freeByte s.draws)) } : State).drawn

/-- R155, R156, R158: an output record goes through the lane of its ring's Ferry, or waits for it; it stays in hub staging until it is
digested. -/
def State.digestOutput (s : State) (tag : Nat) (x : Submission) : State :=
  let l := laneOf x.ring
  let len := (x.output.getD []).length
  if x.outDigested then s
  else if s.engines.laneFree l || s.engines.inLane tag then
    { s with
      engines := ((if s.engines.inLane tag then s.engines else s.engines.enterLane l tag).laneDone tag len)
      host := s.host.modSub tag fun y => { y with outDigested := true, outLane := false } }
  else if x.outLane then s
  else
    { s with
      engines := s.engines.awaitLane (ferryOf x.ring) tag
      host := s.host.modSub tag fun y => { y with outLane := true } }

/-- R319, R320: the output written at OUTPUT_ADDR, or its write faults. -/
def State.writeOutput (s : State) (tag : Nat) (x : Submission) (translated : Bool) : State :=
  let out := x.output.getD []
  if translated then
    { s with
      hostMem := storeBytes s.hostMem x.outputAddr out
      host := (s.host.modSub tag fun y => { y with outWritten := true, outPending := false }).cache x.outputAddr out.length }
  else
    ({ s with host := s.host.modSub tag fun y => { y with outPending := true } } : State).refusedAccess (.output (BitVec.ofNat 18 tag))
      fun s => s.outputFault tag

/-- An answer whose output is still to be written. -/
def Submission.owesOutput (x : Submission) : Bool :=
  x.owed.isEmpty && x.status == some 0 && x.kind != 2 && !x.outWritten

/-- The receipt of the next answer is made (R320, R379, R391, R575). -/
def State.giveReceipt (s : State) (tag : Nat) (x : Submission) (a : Answer) : State :=
  if a.receiptNo.isSome ∨ s.mayReceipt = false then s
  else
    let a := { a with flags := s.receiptFlags a.flags }
    let n := s.ret.receiptsMade
    let s := s.makeReceipt x a
    { s with host := s.host.modSub tag fun y => y.setAnswer (some n) a.flags a.held }

/-- R321: the 32 octets of a completion entry. -/
def completionBytes (tag : Nat) (x : Submission) (a : Answer) (phase : Bool) : Bytes :=
  let outLen := if a.status = 0 then (x.output.getD []).length else 0
  leBytes 32 (x.seq + x.time * 2 ^ 64 + a.cookie * 2 ^ 128 + tag * 2 ^ 160 + x.stream * 2 ^ 178 + a.status * 2 ^ 184 +
    (if a.kind = 2 then 0 else outLen) * 2 ^ 192 + a.flags.toNat * 2 ^ 208 + (a.tide.getD 0) % 2 ^ 31 * 2 ^ 224 +
    (if phase then 2 ^ 255 else 0))

/-- A submission whose completion has been posted: a parked one keeps its tag, another releases it (11, Model; R33). -/
def HostPath.afterPost (h : HostPath) (tag : Nat) (x : Submission) : HostPath :=
  match x.owed with
  | _ :: l => h.modSub tag fun y => { y with owed := l, firstPosted := true }
  | [] =>
    if x.parked then h.modSub tag fun y => { y with phase := .posted, firstPosted := true }
    else { h with subs := SMap.set none h.subs tag none }

/-- R325, R326: a completion held at a full or faulted CQ; each counts once at a full one. -/
def HostPath.holdCompletion (h : HostPath) (tag ring : Nat) (a : Answer) : HostPath :=
  let h := h.modRing ring fun q => { q with cqStop := if q.cqStop = .faulted then .faulted else .full }
  if a.held ∨ (h.ring ring).cqStop = .faulted then h
  else
    let h := h.modSub tag fun y => y.setAnswer a.receiptNo a.flags true
    { h with cqHeld := bump h.cqHeld }

/-- R320, R327: the fence signal, then the interrupt. -/
def State.signal (s : State) (a : Answer) (vector : Nat) : State :=
  let s := match a.fenceSignal with
    | some (f, v) => s.writeFence f v none
    | none => s
  if a.noIrq then s else s.raiseVector vector

/-- The completion entry of an answer whose receipt is in host memory (R320-R327). -/
def State.postEntry (s : State) (tag : Nat) (x : Submission) (a : Answer) (translated : Bool) : State :=
  let q := s.host.ring a.ring
  if q.cqStop ≠ .none ∨ q.cqFull = true then { s with host := s.host.holdCompletion tag a.ring a }
  else if translated = false then
    let h := s.host.modRing a.ring fun q => { q with cqStop := .faulted }
    { s with host := { h with cqFaults := bump h.cqFaults } }
  else
    let phase := q.posted / q.depth % 2 == 0
    let h := s.host.modRing a.ring fun q => { q with cqTail := (q.cqTail + 1) % q.depth, posted := q.posted + 1 }
    (({ s with
        hostMem := storeBytes s.hostMem (q.cqBase.toNat + 32 * q.cqTail) (completionBytes tag x a phase)
        host := (h.cache (q.cqBase.toNat + 32 * q.cqTail) 32).afterPost tag x } : State).signal a q.vector.toNat).settleClose

/-- The receipt of a submission's next answer is in host memory. -/
def State.receiptOut (s : State) (a : Answer) : Bool :=
  match a.receiptNo with
  | none => false
  | some n => decide (n < s.ret.receiptsWritten)

/-- Receipt and completion of a submission's next answer. -/
def State.postAnswer (s : State) (tag : Nat) (tr : PostTranslation) : State :=
  match s.host.sub tag with
  | none => s
  | some x =>
    match x.nextAnswer with
    | none => s
    | some a =>
      let s := (s.giveReceipt tag x a).flushReceipts tr.receipt
      match s.host.sub tag with
      | none => s
      | some y =>
        match y.nextAnswer with
        | some b => if s.receiptOut b then s.postEntry tag y b tr.completion else s
        | none => s

/-- R319-R323: output, receipt, completion. -/
def State.post (s : State) (tag : Nat) (tr : PostTranslation) : State :=
  match s.host.sub tag with
  | none => s
  | some x =>
    if s.dmaOk = false ∨ x.nextAnswer = none ∨ x.outPending = true ∨ s.host.inOrder x = false then s
    else if x.owesOutput then
      let s := s.digestOutput tag x
      if ((s.host.sub tag).map (·.outDigested)).getD false then
        let s := s.writeOutput tag x tr.output
        if ((s.host.sub tag).map (·.outPending)).getD true then s else s.postAnswer tag tr
      else s
    else s.postAnswer tag tr

end Sys2Proof.Machine
end

