-- ==== Sys2Proof/Machine/MeasureRows.lean ====
section
/-! DEFINITION. Evidence, tenant extensions, checkpoints and the evidence rings as commands (13). -/

namespace Sys2Proof.Machine

/-! ### The claims and the token (R371-R377, R127) -/

/-- The debug condition of this start: step 12 fixes it; before it, the one step 12 would select (R107, R109, R114). -/
def State.conditionNow (s : State) : DebugCond :=
  if s.start.step12 then s.start.condition else selectCondition s.startTokens s.now

/-- The IDevID's key pair: from the key store after step 12, derived from the root before it (R107, R127). -/
def State.idevidKeyNow (s : State) : Signer :=
  if s.start.step12 then s.idevidSigner
  else
    let sd := idevidSeeds (s.otp.rootSecret s.conditionNow.debugClass) s.otp.serial
    ⟨sd.1, sd.2⟩

/-- The IDevID's public keys. -/
def State.idevidPubNow (s : State) : Bytes := if s.start.step12 then s.keys.idevidPub else s.idevidKeyNow.pub

/-- R558: under the test root, an IDevID certificate that this start still lacks is issued before it is served. -/
def State.readyIdevidCert (s : State) : State :=
  if s.conditionNow.debugClass && s.keys.debugIdevidCert.isEmpty then s.issueDebugCert s.idevidPubNow else s

/-- The IDevID certificate in CBOR form: the debug manufacturing key's, or the first item of the copy's array (13, R116, R558). -/
def State.idevidCertNow (s : State) : Bytes :=
  if s.conditionNow.debugClass then s.keys.debugIdevidCert else (cborFirst (s.ret.idevidCopy.drop 1)).getD []

def Grade.model : Grade → String
  | .q4 => "TLU1200-Q4"
  | .d2 => "TLU1200-D2"

/-- OD 0x2001.01 (R106). -/
def StartPhase.code : StartPhase → Nat
  | .romCheck => 1
  | .standby => 2
  | .awaitSet => 3
  | .loading => 4
  | .releasing => 5
  | .training => 6
  | .readyOrLater => 7
  | .entropyFail => 0x0E
  | .tamperHalt => 0x0F

/-- R374: the checkpoint the chain claim names. -/
def State.chainClaim (s : State) : Option (Nat × Nat × Digest) :=
  if s.transition = 0 then s.ret.lastCut.map fun c => (c.1, c.2.1, c.2.2.1) else s.measure.named

/-- R374: live head and receipt count, in STABLE only and with a checkpoint named. -/
def State.liveClaim (s : State) : Option (Digest × Nat) :=
  if s.transition = 0 ∧ s.ret.lastCut.isSome then some (s.chainHead, s.ret.receiptsMade) else none

/-- Claim −70014. -/
def State.scrubClaim (s : State) : List (Nat × Nat) :=
  (s.ret.regions.filter fun e => e.2.state.pending).map fun e => (e.2.stack, e.1)

/-- R372: the claims at this instant. -/
def State.claims (s : State) (nonce : Bytes) : Claims :=
  { nonce := nonce, ueid := 1 :: kidOf s.idevidPubNow, oemid := Config.oemId, hwmodel := s.otp.grade.model
    dbgstat := if s.conditionNow.debugClass then 0 else 2
    state := if s.transition = 0 then 1 else 2, transition := s.transition, offline := s.offlineMask, serial := s.otp.serial
    identity := (s.otp.grade.code, 0xB1, 1), lifecycle := s.otp.lifecycleCode, debug := s.conditionNow.code
    svns := [s.otp.svnValue 0, s.otp.svnValue 1, s.otp.svnValue 2, s.otp.svnValue 3, s.otp.epochValue]
    measurements := s.measure.mrs, log := (s.measure.log.length, s.measure.complete), deviceTime := s.now
    chain := s.chainClaim, live := s.liveClaim
    coreMap := (s.ret.generation, (List.range 12).map fun n => (s.ret.spares n).length)
    scrub := s.scrubClaim, plan := s.fabric.plan.map (·.digest), phase := s.start.phase.code
    pendingAlias := s.ret.pendingAlias.map kidOf }

/-- R372: the claims map, and no other claims; keys in the order of their encodings. Claim 259 is a byte string (RFC 9711; log
101). -/
def encodeClaims (c : Claims) : Bytes :=
  let digest (d : Digest) : Bytes := cborBytes (digestBytes d)
  let uints (l : List Nat) : Bytes := cborArr (l.map cborUint)
  let chain : List (Int × Bytes) := match c.chain with
    | none => []
    | some (t, n, h) => [(1, cborUint t), (2, cborUint n), (3, digest h)] ++
        (match c.live with | none => [] | some (h, n) => [(4, digest h), (5, cborUint n)])
  cborMap [(10, cborBytes c.nonce), (256, cborBytes c.ueid), (258, cborBytes (beBytes 16 c.oemid.toNat)), (259, cborBytes (ascii c.hwmodel)),
    (263, cborUint c.dbgstat), (-70001, cborUint c.state), (-70002, cborUint c.transition), (-70003, cborUint c.offline),
    (-70004, cborBytes (beBytes 16 c.serial.toNat)), (-70005, uints [c.identity.1, c.identity.2.1, c.identity.2.2]),
    (-70006, cborUint c.lifecycle), (-70007, cborUint c.debug), (-70008, uints c.svns), (-70009, cborArr (c.measurements.map digest)),
    (-70010, cborArr [cborUint c.log.1, cborBool c.log.2]), (-70011, cborUint c.deviceTime), (-70012, cborMap chain),
    (-70013, cborArr [cborUint c.coreMap.1, uints c.coreMap.2]), (-70014, cborArr (c.scrub.map fun e => uints [e.1, e.2])),
    (-70015, match c.plan with | none => cborNull | some d => digest d), (-70016, cborUint c.phase),
    (-70017, match c.pendingAlias with | none => cborNull | some k => cborBytes k)]

/-- R127: the key pair that signs: the Alias once step 12 has completed, the IDevID before. -/
def State.evidenceKey (s : State) : Signer := if s.aliasExists then s.aliasSigner else s.idevidKeyNow

/-- The certificates that evidence carries in CBOR form; one that the device does not hold is not among them (13, R116, log 101). -/
def State.evidenceCerts (s : State) : List Bytes :=
  ((if s.aliasExists then [s.keys.aliasCert] else []) ++ [s.idevidCertNow]).filter fun b => !b.isEmpty

/-- The device's evidence is to be had: from item 0 of a start on, while its keys stand (19, R554). -/
def State.evidenceServed (s : State) : Bool := s.start.runtime && s.start.halt == .none && (s.aliasExists || !s.start.step12)

/-- Largest token (R395). -/
def tokenMax : Nat := 65536

/-- R371: the token over the claims of this instant: tag 61 around a COSE_Sign by one key pair. None where no signature was released
(R172) or the bound of R395 is passed. -/
def State.token (s : State) (nonce : Bytes) : State × Option (Claims × Bytes) :=
  let s := s.readyIdevidCert
  let c := s.claims nonce
  let r := s.signCose s.evidenceKey (cborMap [(-70100, cborArr s.evidenceCerts)]) (encodeClaims c)
  (r.1, (r.2.map fun b => (c, cborTag 61 b)).filter fun t => decide (t.2.length ≤ tokenMax))

/-- R376: the token kept for the plane that asked. -/
def State.keepToken (s : State) (ch : Channel) (t : Option (Claims × Bytes)) : State :=
  match ch with
  | .causeway _ => { s with measure := { s.measure with tokenC := t } }
  | _ => { s with measure := { s.measure with tokenH := t } }

/-- R371, R376: a token made for a plane. -/
def State.makeToken (s : State) (ch : Channel) (nonce : Bytes) : State :=
  let r := s.token nonce
  r.1.keepToken ch r.2

/-- The effect of EVIDENCE_REQUEST on its object, where it is accepted. -/
def State.writeEvidenceRequest (ch : Channel) (nonce : Bytes) (s : State) : Option State :=
  if 8 ≤ nonce.length ∧ nonce.length ≤ 64 ∧ s.evidenceServed = true then some (s.makeToken ch nonce) else none

/-- EVIDENCE_REQUEST: OD 0x2040.01; the token stands in OD 0x2040.02 of the plane (R127, R371-R377). -/
def execEvidenceRequest (ch : Channel) (nonce : Bytes) (s : State) : Host.Outcome State Fault Refusal :=
  .next (s.odRow ch 0x2040 1 .all fun s => s.writeEvidenceRequest ch nonce)

/-- The effect of TENANT_EXTEND on its object, where it is accepted. -/
def State.writeTenantExtend (mr : Byte) (data : Bytes) (s : State) : Option State :=
  if 16 ≤ mr.toNat ∧ mr.toNat ≤ 31 ∧ 1 ≤ data.length ∧ data.length ≤ 256 then some (s.extendMr mr.toNat data) else none

/-- TENANT_EXTEND: OD 0x2041.01 (R366, R367, R369). -/
def execTenantExtend (ch : Channel) (mr : Byte) (data : Bytes) (s : State) : Host.Outcome State Fault Refusal :=
  .next (s.odRow ch 0x2041 1 .hOpCu fun s => s.writeTenantExtend mr data)

/-! ### Checkpoints (R384-R391) -/

/-- The interval of OD 0x2044.02 has passed since the last cut or the session's start. -/
def State.intervalOver (s : State) : Bool :=
  s.od.session != 0 && decide (s.measure.lastCutAt + s.ret.ckptInterval * 1000000 ≤ s.clock.count)

/-- CHECKPOINT_INTERVAL: a TIME cut (R384, R385, R388). -/
def execCheckpointInterval (s : State) : Host.Outcome State Fault Refusal :=
  .next (if s.intervalOver then s.cut 2 else s)

/-- The effect of CHECKPOINT_REQUEST on its object, where it is accepted. -/
def State.writeCheckpointRequest (v : Byte) (s : State) : Option State :=
  if v = 0xA5 then some (s.cut 3) else none

/-- CHECKPOINT_REQUEST: OD 0x2044.03; a REQUEST cut (R384, R385, R388). -/
def execCheckpointRequest (ch : Channel) (v : Byte) (s : State) : Host.Outcome State Fault Refusal :=
  .next (s.odRow ch 0x2044 3 .all fun s => s.writeCheckpointRequest v)

/-- R386: the 256 octets of a checkpoint's body. -/
def checkpointBody (serial : BitVec 128) (c : Cut) : Bytes :=
  leBytes 4 0x55434B50 ++ leBytes 2 1 ++ leBytes 1 c.cause ++ leBytes 1 c.flagsOr.toNat ++ beBytes 16 serial.toNat ++
    leBytes 8 c.session ++ leBytes 8 c.no ++ leBytes 8 c.first ++ leBytes 8 c.count ++ leBytes 8 c.time ++ digestBytes c.head ++
    digestBytes c.prev ++ digestBytes c.mrd ++ fit 16 c.kid ++ leBytes 4 c.generation ++
    leBytes 1 (if c.transition = 0 then 1 else 2) ++ leBytes 1 c.transition ++ leBytes 1 c.debug ++ [0] ++ leBytes 8 c.lastStep ++
    List.replicate 16 0

/-- R386, R387: the 4,096 octets of a checkpoint entry. -/
def checkpointEntry (body : Bytes) (sig : Bytes × Bytes) : Bytes := fit 4096 (body ++ sig.1 ++ sig.2)

/-- A signed checkpoint enters its queue; one that cannot be written at once counts as a hold (R390). The chain claim may name
it (R374). -/
def State.queueCheckpoint (s : State) (c : Cut) (entry : Bytes) : State :=
  let m := s.measure
  let held := !(m.ckptRing.ready && s.dmaOk && m.checkpoints.isEmpty)
  let me := (c.session, c.no, c.head)
  { s with measure := { m with
     checkpoints := m.checkpoints ++ [entry], signing := none
     named := if c.cause = 4 ∨ c.cause = 5 then some me else m.named
     ckptHolds := if held then bump m.ckptHolds else m.ckptHolds }
           ret := { s.ret with lastSigned := some me } }

/-! ### The end of a session by STOP_INTERFACE_REQUEST (R404, R506) -/

/-- The receipts of an answered list, as far as R391 lets them be made. -/
def State.receiptsFor (s : State) (x : Submission) : List Answer → State × List Answer
  | [] => (s, [])
  | a :: l =>
    if a.receiptNo.isSome || !s.mayReceipt then
      let r := s.receiptsFor x l
      (r.1, a :: r.2)
    else
      let b := { a with flags := s.receiptFlags a.flags, receiptNo := some s.ret.receiptsMade }
      let r := (s.makeReceipt x { a with flags := b.flags }).receiptsFor x l
      (r.1, b :: r.2)

/-- Every decided answer of a submission. -/
def Submission.answers (x : Submission) : List Answer := x.owed ++ (if x.phase = .answered then x.answerOf.toList else [])

/-- The receipts of a submission's answers are made, oldest answer first. -/
def State.receiptAll (s : State) (tag : Nat) (x : Submission) : State :=
  let r := s.receiptsFor x x.answers
  { r.1 with host := r.1.host.modSub tag fun y =>
      let y := { y with owed := r.2.take y.owed.length }
      match r.2[y.owed.length]? with
      | some a => { y with receiptNo := a.receiptNo, flags := a.flags }
      | none => y }

/-- Submissions in ascending ingest sequence. -/
def HostPath.bySeq (h : HostPath) : List (Nat × Submission) :=
  (h.subs.filterMap fun e => e.2.map fun x => (e.1, x)).insertionSort fun a b => a.2.seq ≤ b.2.seq

/-- The receipts still owed to decided answers, made so that the FINAL checkpoint covers them (R404). -/
def State.receiptsOwed (s : State) : State := s.host.bySeq.foldl (fun s e => s.receiptAll e.1 e.2) s

/-- Every decided answer has its receipt. -/
def HostPath.receipted (h : HostPath) : Bool :=
  h.subs.all fun e => match e.2 with
    | some x => x.answers.all fun a => a.receiptNo.isSome
    | none => true

/-- A cut made now is made at once; without an Alias none is made (R384, R388, R391). -/
def State.cutFree (s : State) : Bool :=
  !s.aliasExists || (s.measure.signing.isNone && s.measure.deferred.isNone && decide (s.measure.checkpoints.length < 16))

/-- R404: the TDI is CONFIG_UNLOCKED; pending vectors go out. -/
def State.unlockTdi (s : State) : State :=
  ({ s with hosting := { s.hosting with tdi := .unlocked, startNonce := none, stopping := false } } : State).sendVectors

/-- R404: what is held is discarded and the session ends; a model load in progress is abandoned with code 0x09. -/
def State.stopNow (s : State) : State :=
  let busy := s.hosting.loads.any (·.isSome)
  let s := if s.od.drained then s else s.finishClose
  let s := { s with
    measure := { s.measure with receipts := [] }
    hosting := { s.hosting with loadResult := if busy then 9 else s.hosting.loadResult } }
  s.settleClosed.unlockTdi

/-- R404: a stop goes on once every held answer has its receipt and the FINAL cut can be made. -/
def State.settleStop (s : State) : State :=
  if s.hosting.stopping then
    let s := if s.od.drained then s else s.receiptsOwed
    if s.od.drained || (s.host.receipted && s.cutFree) then s.stopNow else s
  else s

/-- R404, R506: the session is closing; it ends at once where FINAL can cover every held receipt at once, and otherwise as soon as it
can. -/
def State.stopSession (s : State) : State :=
  if s.od.session = 0 then s.unlockTdi
  else ({ s with od := { s.od with session := 2 }, hosting := { s.hosting with stopping := true, startNonce := none } } : State).settleStop

/-- Deferred cuts, stops and resets that waited for a checkpoint. -/
def State.settleCheckpoint (s : State) : State := s.settleCut.settleStop.settleClosed.settleReset

/-- R172, R385-R387: the cut being signed is signed by the Alias of this start; a checkpoint whose signatures are not released stays
the one being signed (log 102). -/
def State.signCheckpoint (s : State) (c : Cut) (translated : Bool) : State :=
  let b := checkpointBody s.otp.serial c
  let r := s.sign s.aliasSigner b b
  match r.2 with
  | some sig => ((r.1.queueCheckpoint c (checkpointEntry b sig)).flushCheckpoints translated).settleCheckpoint
  | none => r.1

/-- CHECKPOINT_SIGNED: the signing in progress ends; the checkpoint is queued and written (R125, R172, R374, R385-R390, R424). -/
def execCheckpointSigned (translated : Bool) (s : State) : Host.Outcome State Fault Refusal :=
  .next (match s.measure.signing with
  | some c => s.signCheckpoint c translated
  | none => s)

/-! ### The control blocks of BAR4 (R389, R390) -/

def Measure.ring (m : Measure) : EvRing → EvRingState
  | .receipt => m.receiptRing
  | .checkpoint => m.ckptRing

def State.setRing (s : State) (r : EvRing) (x : EvRingState) : State :=
  match r with
  | .receipt => { s with measure := { s.measure with receiptRing := x } }
  | .checkpoint => { s with measure := { s.measure with ckptRing := x } }

/-- What waits in a device queue is written to its ring. -/
def State.flushRing (s : State) (r : EvRing) (translated : Bool) : State :=
  match r with
  | .receipt => (s.flushReceipts translated).settleStop
  | .checkpoint => (s.flushCheckpoints translated).settleCheckpoint

/-- LOG2_DEPTH in range. -/
def depthOk : EvRing → Nat → Bool
  | .receipt, n => decide (10 ≤ n) && decide (n ≤ 24)
  | .checkpoint, n => decide (4 ≤ n) && decide (n ≤ 16)

/-- ENABLE written: 0x01 starts an empty ring of a depth in range, 0x00 disables it; anything else is ignored (log 54). -/
def State.enableRing (s : State) (r : EvRing) (v : Nat) (translated : Bool) : State :=
  let x := s.measure.ring r
  if v = 1 ∧ x.enabled = false ∧ depthOk r x.log2Depth = true then
    (s.setRing r { x with enabled := true, head := 0, tail := 0, faulted := false }).flushRing r translated
  else if v = 0 then s.setRing r { x with enabled := false, faulted := false }
  else s

/-- RING_CONTROL_ENABLE: BAR4 offset 0x09 of a block; what waited is written (R389, R390, R401). -/
def execRingControlEnable (tee : Bool) (r : EvRing) (v : Byte) (translated : Bool) (s : State) : Host.Outcome State Fault Refusal :=
  .next (s.mmio tee fun s => s.enableRing r v.toNat translated)

/-- HEAD written: entries consumed; a faulted ring is tried again. A head behind the last one or beyond TAIL is ignored
(log 54). -/
def State.headRing (s : State) (r : EvRing) (v : Nat) (translated : Bool) : State :=
  let x := s.measure.ring r
  if x.head ≤ v ∧ v ≤ x.tail then (s.setRing r { x with head := v, faulted := false }).flushRing r translated else s

/-- RING_CONTROL_HEAD: BAR4 offset 0x10 of a block (R389, R390, R401). -/
def execRingControlHead (tee : Bool) (r : EvRing) (v : BitVec 64) (translated : Bool) (s : State) : Host.Outcome State Fault Refusal :=
  .next (s.mmio tee fun s => s.headRing r v.toNat translated)

end Sys2Proof.Machine
end

