-- ==== Sys2Proof/Machine/StartRows.lean ====
section
/-! DEFINITION. The rows of the start, the supplies, tamper, firmware sets and provisioning (04, 19, 21). -/

namespace Sys2Proof.Machine

/-- COLD_START: STBY rises from OFF (R73, R43, R136, R431, R456, R559). -/
def execColdStart (c : StartConds) (s : State) : Host.Outcome State Fault Refusal :=
  .next (if s.start.power = .off then s.coldStart c else s)

/-- ENTROPY_CONTINUOUS_FAIL: a continuous entropy test fails after start; handled as T1, with the source mask 0 (R81, R99,
R135; log 98). -/
def execEntropyContinuousFail (s : State) : Host.Outcome State Fault Refusal :=
  .next (if s.start.drbgUp ∧ s.start.halt ≠ .fuse then s.tamperAt 0 1 else s)

/-- DRBG_RESEED: after 2^20 requests or 1 s, whichever comes first (R80). -/
def execDrbgReseed (s : State) : Host.Outcome State Fault Refusal :=
  .next (if s.start.drbgUp ∧ s.reseedDue = true then
    { s with start := { s.start with
        drbgRequests := 0, drbgSeededAt := s.clock.count, drbgReseeds := bump s.start.drbgReseeds } }
  else s)

/-- MAIN_VALID: MAIN has stayed at or above 39.0 V for 10 ms (R615). -/
def execMainValid (s : State) : Host.Outcome State Fault Refusal :=
  .next { s with pins := { s.pins with mainValid := true } }

/-- MAIN_LOSS: MAIN below 37.5 V for 20 us; a warm reset (R593, R615). -/
def execMainLoss (c : StartConds) (s : State) : Host.Outcome State Fault Refusal :=
  .next (({ s with pins := { s.pins with mainValid := false } } : State).warmReset c)

/-- STBY_LOSS: STBY below 3.0 V; OFF (R607, R617). -/
def execStbyLoss (s : State) : Host.Outcome State Fault Refusal :=
  let v := s.volatile
  .next { v with pins := { v.pins with stby := false, presentLow := false }, tap := {} }

/-- VHUB_RAMP: step 7 of R104, at the latest of MAIN valid, step 6 and MOD_RESET_N high; OD 0x2001.01 turns to AWAIT-SET with
it (R530, R609; log 98). -/
def execVhubRamp (s : State) : Host.Outcome State Fault Refusal :=
  .next (if s.start.power = .standby ∧ s.start.phase = .standby ∧ s.start.halt = .none ∧ s.pins.mainValid ∧ s.pins.modResetN then
    { s with start := { s.start with power := .start, phase := .awaitSet }, pins := { s.pins with vhub := true } }
  else s)

/-- MOD_RESET_ASSERT: a low pulse below 1 us is ignored, one of 10 us acts, one between acts whole or not at all (R608). -/
def execModResetAssert (lowNs : Nat) (recognised : Bool) (c : StartConds) (s : State) : Host.Outcome State Fault Refusal :=
  .next (if 10000 ≤ lowNs ∨ (1000 ≤ lowNs ∧ recognised = true) then
    ({ s with pins := { s.pins with modResetN := false } } : State).warmReset c
  else s)

/-- MOD_RESET_RELEASE: MOD_RESET_N rises (R609). -/
def execModResetRelease (s : State) : Host.Outcome State Fault Refusal :=
  .next { s with pins := { s.pins with modResetN := true } }

/-- The effect of WARM_RESET_REQUEST on its object, where it is accepted. -/
def State.writeWarmResetRequest (v : Byte) (c : StartConds) (s : State) : Option State :=
  if v = 0xA5 then some (s.warmReset c) else none

/-- WARM_RESET_REQUEST: 0xA5 written to OD 0x2006.01; other values are ignored (R106). -/
def execWarmResetRequest (ch : Channel) (v : Byte) (c : StartConds) (s : State) : Host.Outcome State Fault Refusal :=
  .next (s.odRow ch 0x2006 1 .hOpCu fun s => s.writeWarmResetRequest v c)

/-- TAMPER_FIRE: a source fires and acts at its level; FUSE-HALT stands (R77, R98-R100, R135, R561, R562, R611; log 98). -/
def execTamperFire (src : TamperSource) (s : State) : Host.Outcome State Fault Refusal :=
  .next (if s.pins.stby ∧ s.start.power ≠ .off ∧ s.start.halt ≠ .fuse then s.tamper (tamperIndex src) else s)

/-- The effect of HOST_DELIVERY on its object; a start that has passed step 9 and has not reached READY is busy (log 64). -/
def State.writeHostDelivery (addr : BitVec 64) (len : BitVec 32) (img : SetImage) (s : State) : Option State :=
  let s := { s with start := { s.start with delivery := (addr, len) } }
  some (if s.dmaBarred then s.refuseBusy
    else if s.up || s.start.phase == .awaitSet || s.start.phase == .loading then s.deliver true len.toNat img else s.refuseBusy)

/-- HOST_DELIVERY: OD 0x2010.01 written; the head is fetched and checked (R83, R84, R86, R93, R94, R123, R610). -/
def execHostDelivery (ch : Channel) (addr : BitVec 64) (len : BitVec 32) (img : SetImage) (s : State) : Host.Outcome State Fault Refusal :=
  .next (s.odRow ch 0x2010 1 .host fun s => s.writeHostDelivery addr len img)

/-- The octets of an item are those that a Causeway delivery has carried (R521); a host delivery is streamed from its Ferry. -/
def State.itemArrived (s : State) (l : SetLoad) (i : SetItem) (data : Bytes) : Bool :=
  l.fromHost || match s.causeway.fw with
    | some t => decide (i.offset + i.size ≤ t.data.length) && slice t.data i.offset i.size == data
    | none => false

/-- ITEM_VERIFIED: a streamed item is compared with its manifest entry (R85-R88); the last one completes the start's
steps 11 to 13. -/
def execItemVerified (data : Bytes) (govFail vfabFail : BitVec 12) (s : State) : Host.Outcome State Fault Refusal :=
  .next (match s.start.load with
  | none => s
  | some l =>
    match l.manifest.items[l.done]? with
    | none => s
    | some i =>
      if s.itemArrived l i data = false then s
      else if sha384 data = i.digest then
        let s := s.acceptItem l i
        if l.done = 5 then s.loadComplete govFail vfabFail else s
      else if s.start.runtime then s.refuseAfterRuntime 6 11
      else s.refuseSet 6)

/-- The value an SVN counter is raised to: the lowest SVN among the running set's items of that counter (R90). -/
def State.svnTarget (s : State) (n : Nat) : Nat :=
  match s.start.running with
  | none => 0
  | some m => ((m.items.filter fun i => svnCounterOf i.type == n).map (·.svn)).foldl min 64

/-- The effect of SVN_COMMIT on its object, where it is accepted. -/
def State.writeSvnCommit (n : Byte) (s : State) : Option State :=
  if 3 < n.toNat then none
  else if s.up ∧ s.otp.svnValue n.toNat < s.svnTarget n.toNat then
    some { s with otp := { s.otp with svn := modifyAt s.otp.svn n.toNat fun t => t.raiseTo (s.svnTarget n.toNat) } }
  else some { s with start := { s.start with setResult := 0x05 } }

/-- SVN_COMMIT: OD 0x2004.05 (R90-R92). -/
def execSvnCommit (ch : Channel) (n : Byte) (s : State) : Host.Outcome State Fault Refusal :=
  .next (s.odRow ch 0x2004 5 .cust fun s => s.writeSvnCommit n)

/-- The pending Alias of an update, from the prospective MR0 to MR8 (R123). -/
def State.prospectiveAlias (s : State) (items : List SetItem) : Bytes :=
  let d := selectCondition s.ret.tokens s.now
  let mr7 := extendValue 0 (digestBytes (sha384 (otpSummary s.otp)))
  let mr8 := extendValue 0 (securityRecord s.otp d)
  let c0 := cdi0Of (s.otp.rootSecret d.debugClass) (s.mr 0) mr7 mr8
  let mrOf (t : Nat) : Digest := ((items.find? fun i => i.type == t).map fun i => extendValue 0 (digestBytes i.digest)).getD 0
  let sd := aliasSeeds (cdi1Of c0 ((List.range 6).map fun k => mrOf (k + 1))) s.otp.serial
  hybridPub sd.1 sd.2

/-- UPDATE_CHECK_DONE: every item of an update has been streamed (R123, R124; 05, Collisions). -/
def execUpdateCheckDone (items : List Bytes) (s : State) : Host.Outcome State Fault Refusal :=
  .next (match s.start.update with
  | none => s
  | some l =>
    if s.up = false then { s with start := { s.start with update := none } }
    else if (l.fromHost && (!s.dmaOk || s.planBefore l.order)) = true then s
    else if ((l.manifest.items.zip items).all fun p => s.itemArrived l p.1 p.2) = false then s
    else let s := ({ s with start := { s.start with update := none } } : State).endTransfer l.fromHost
    if items.map sha384 = l.manifest.items.map (·.digest) then
      let pub := s.prospectiveAlias l.manifest.items
      let s := match s.ret.pendingAlias with
        | none => s
        | some p => s.keyEvent 4 0 (sha384 p)
      ({ s with ret := { s.ret with pendingAlias := some pub }, start := { s.start with setResult := 0 } } : State).keyEvent
        2 0 (sha384 pub)
    else { s with start := { s.start with setResult := 0x06 } })

/-- PROVISIONING: Nocheom's station closes region 4 and the first CA slot, then takes the PROVISIONED step (R557). -/
def execProvisioning (tamperPolicy : BitVec 6) (vendorDebug : Bool) (anchor : Bytes) (s : State) :
    Host.Outcome State Fault Refusal :=
  .next (if s.up ∧ s.otp.lifecycleCode = 0 ∧ s.otp.closed.getLsbD 4 = false ∧ s.otp.caSlots.head? = some none then
    let o := { s.otp with tamperT2 := tamperPolicy, vendorDebug := vendorDebug, closed := s.otp.closed ||| 0b010000 }
    let o := { o with
      regionDigest := modifyAt o.regionDigest 4 fun _ => sha384 (otpRegionBytes o 4)
      caSlots := modifyAt o.caSlots 0 fun _ => some (CaSlot.ofAnchor (BitVec.ofNat 768 (beNat anchor))) }
    ({ s with otp := o.takeLifecycle 1 } : State).internalReset
  else s)

/-- IDEVID_CERTIFICATE_RETURN: steps 5 and 6 of the factory's first start (R82). -/
def execIdevidCertificateReturn (cert : Bytes) (s : State) : Host.Outcome State Fault Refusal :=
  .next (if s.start.factory then
    let o := { s.otp with
      idevidKeyDigest := sha384 s.otp.idevidPub, idevidCertDigest := sha384 cert,
      closed := s.otp.closed ||| 0b001100 }
    let o := { o with
      regionDigest := modifyAt (modifyAt o.regionDigest 2 fun _ => sha384 (otpRegionBytes o 2)) 3 fun _ => sha384 (otpRegionBytes o 3) }
    { s with otp := o, start := { s.start with factory := false } }
  else s)

/-- A die whose HBM training failed is left offline (R96), and its rate and floor read 0 (R57). -/
def untrained (fail : BitVec 12) (n : Nat) (d : Die) : Die :=
  if fail.getLsbD n then
    { d with online := false, vfabOn := false, vioOn := false, vhbmOn := false
             rate := 0, floor := 0, rates := [], validSince := none }
  else d

/-- The port of a die left offline. -/
def untrainedPort (fail : BitVec 12) (n : Nat) (p : Port) : Port := if fail.getLsbD n then p.fresh .disabled else p

/-- R430: a SUSPENDED region becomes DARK at a warm reset. -/
def Region.afterTraining (r : Region) : Region := if r.state = .suspended then { r with state := .dark } else r

/-- R430, R431 after HBM training. -/
def Retained.afterTraining (r : Retained) : Retained :=
  { r with
    regions := r.regions.map fun e => (e.1, e.2.afterTraining)
    stores := r.stores.map Region.afterTraining }

/-- HBM_TRAINING_COMPLETE: step 14, then READY (R95, R96, R104, R430). -/
def execHbmTrainingComplete (hbmFail : BitVec 12) (s : State) : Host.Outcome State Fault Refusal :=
  .next (if s.start.phase = .training then
    let s := { s with
      fabric := { s.fabric with dies := s.fabric.dies.mapIdx (untrained hbmFail) }
      straits := { s.straits with ports := s.straits.ports.mapIdx (untrainedPort hbmFail) }
      ret := s.ret.afterTraining
      start := { s.start with phase := .readyOrLater, power := .ready }
      pins := { s.pins with rotStatus := 1 } }
    s.recordStartFailures hbmFail
  else s)

/-- PCIE_LINK_UP: step 8 of R104. -/
def execPcieLinkUp (s : State) : Host.Outcome State Fault Refusal :=
  .next (if s.pins.vhub then { s with pins := { s.pins with pcieUp := true } } else s)

end Sys2Proof.Machine
end

