-- ==== Sys2Proof/Machine/CausewayRows.lean ====
section
/-! DEFINITION. The Causeway (17): identity, sessions and roles, CA rollover at authentication, firmware delivery, budgets,
co-signature; the lifecycle commands (R555, R556). -/

namespace Sys2Proof.Machine

/-- The Causeway answers: in every state but OFF and FUSE-HALT (R77, R514). -/
def State.causewayUp (s : State) : Bool := s.start.power != .off && s.start.halt != .fuse

/-- The last frame the device sent. -/
def State.sendFrame (s : State) (ftype : Nat) (body : Bytes) : State :=
  { s with causeway := { s.causeway with lastFrame := some (ftype, body) } }

/-- R514: the values of IDENT-RESP. -/
def State.identValues (s : State) : List Nat :=
  [s.otp.serial.toNat, s.otp.grade.code, 0xB1, 1, s.start.phase.code, s.otp.lifecycleCode, s.pins.rotStatus.toNat,
   s.ret.tamper.mask.toNat, s.ret.tamper.level, s.ret.tamper.time]

/-- IDENT_REQ: answered unsigned in every state but FUSE-HALT; of all frames this one alone may be broadcast (R512, R514, R554). -/
def execIdentReq (s : State) (dest : CwDest := .device) : Host.Outcome State Fault Refusal :=
  .next (if s.causewayUp = true ∧ dest ≠ .other then s.sendFrame 2 (Config.encodeIdent s.identValues) else s)

/-! ### Sessions (R515-R518) -/

/-- R515: a halt that refuses sessions, and the comparison the ROM stack makes at a session request (R516). -/
def State.sessionState (s : State) : Bool :=
  s.start.halt == .none && !s.keys.identityFault &&
    (s.start.step12 || s.conditionNow.debugClass || s.start.factory ||
      sha384 s.idevidPubNow == s.otp.idevidKeyDigest)

/-- R132: the staged anchor authenticates a Custodian within 24 h. -/
def State.stageRuns (s : State) : Bool :=
  match s.ret.stagedCa with
  | some (_, t) => decide (s.clock.count < t + caWindow)
  | none => false

/-- R132, R133, R515: the slot a client's chain ends at may authenticate it. -/
def State.anchorOk (s : State) (m : ClientHello) : Bool :=
  let k := m.anchorSlot.val
  if k = 8 then s.stageRuns && m.role == some .custodian
  else (s.otp.caSlots.getD k none).any (·.closed) && (k == s.otp.activeSlot || (k + 1 == s.otp.activeSlot && s.caOverlapRuns))

/-- R515: certificates within their validity, unless the time is UNSET. -/
def State.validityOk (s : State) (m : ClientHello) : Bool :=
  !s.ret.timeSet || (decide (m.notBefore ≤ s.now) && decide (s.now ≤ m.notAfter))

/-- The lowest free session number. -/
def Causeway.freeSession (c : Causeway) : Option Nat := c.sessions.findIdx? fun x => x.phase == 0

/-- R515: the code a set-up is refused with; 0 accepts. The order of the checks is the model's (log 63). -/
def State.helloCode (s : State) (m : ClientHello) : Nat :=
  if !s.sessionState then 6
  else if !m.wellFormed then 1
  else if !m.chainOk || !s.anchorOk m || !s.validityOk m then 2
  else if m.role.isNone then 3
  else if s.causeway.freeSession.isNone then 5
  else 0

/-- A refused set-up (R529). -/
def State.refuseSetup (s : State) (code : Nat) : State :=
  { s with causeway := { s.causeway with refused := bump s.causeway.refused, lastRefusal := code } }

/-- R513: a frame discarded silently. -/
def State.discardFrame (s : State) : State :=
  { s with causeway := { s.causeway with discarded := bump s.causeway.discarded } }

/-- D-HELLO without its signatures: nonce, ephemeral key, certificates (17, Sessions). -/
def State.bareHello (s : State) (nonce seed : Bytes) : Bytes := Config.causewayMessage 0x11 ([nonce, ecPublic seed] ++ s.evidenceCerts)

/-- R515: a session number waits for C-FINISH; a staged anchor that the chain ended at is kept with it (R132). -/
def State.holdSession (s : State) (k : Nat) (m : ClientHello) (seed : MaskedKey) (reply : Bytes) : State :=
  let x : CwSession :=
    { phase := 1, role := m.role.getD .operator, certDigest := m.certDigest, anchorSlot := m.anchorSlot.val
      anchor := if m.anchorSlot.val = 8 then s.ret.stagedCa.map (·.1) else none
      lastFrame := s.clock.count, ephemeral := some seed, transcript := m.transcript ++ reply }
  ({ s with causeway := { s.causeway with sessions := modifyAt s.causeway.sessions k fun _ => x } } : State).sendFrame 0x11 reply

/-- D-HELLO goes out with the signatures released; without them nothing is answered (R172; log 102). -/
def releaseHello (k : Nat) (m : ClientHello) (seed bare : Bytes) (r : State × Option (Bytes × Bytes)) : State :=
  match r.2 with
  | some sig => (r.1.transfer seed).1.holdSession k m (r.1.transfer seed).2 (bare ++ sig.1 ++ sig.2)
  | none => r.1

/-- R515, R516: a set-up accepted so far is answered by D-HELLO, signed over both messages by the Alias, or before step 12 by the
IDevID. -/
def State.beginSession (s : State) (k : Nat) (m : ClientHello) : State :=
  let s := s.readyIdevidCert
  let seed := (drawBytes (s.draws + 1)).drop 8
  let bare := s.bareHello ((drawBytes s.draws).take 32) seed
  let h := digestBytes (sha384 (m.transcript ++ bare))
  releaseHello k m seed bare ((s.generatedBy 2).sign s.evidenceKey h h)

/-- C_HELLO (R515, R516, R518). -/
def execCHello (m : ClientHello) (s : State) : Host.Outcome State Fault Refusal :=
  .next (if s.causewayUp = true ∧ m.dest = .device then
    match s.helloCode m with
    | 0 => s.beginSession (s.causeway.freeSession.getD 0) m
    | code => s.refuseSetup code
  else s)

/-- R132, R133: the staged anchor closes into the lowest free slot; sessions of slots no longer kept end. -/
def State.closeCaSlot (s : State) (a : BitVec 768) : State :=
  match s.otp.freeSlot with
  | none => s
  | some k =>
    let old := s.otp.activeSlot
    let s := { s with
      otp := { s.otp with caSlots := modifyAt s.otp.caSlots k fun _ => some (CaSlot.ofAnchor a) }
      ret := { s.ret with stagedCa := none, caClosedAt := some s.clock.count } }
    let s := (List.range 8).foldl (fun s i =>
      if (s.causeway.session i).phase ≠ 0 ∧ (s.causeway.session i).anchorSlot < old then s.endCauseway i else s) s
    (s.keyEvent 8 2 (sha384 (beBytes 96 a.toNat))).keyCommand 0

/-- The session keys of R111: 32 octets for each direction. -/
def CwSession.sessionKeys (x : CwSession) (z sig : Bytes) : Bytes :=
  kdf z (ascii "U1200-CWY") (digestBytes (sha384 (x.transcript ++ sig))) 64

/-- R111, R117, R170: the session's two keys enter its consumer slots. -/
def State.keyCauseway (s : State) (i : Nat) (sig : Bytes) : State :=
  let x := s.causeway.session i
  let r := s.agreeEc ((x.ephemeral.map (·.key)).getD []) (slice x.transcript 32 97)
  let k := x.sessionKeys r.2 sig
  let a := r.1.transfer (k.take 32)
  let b := a.1.transfer (k.drop 32)
  { b.1 with causeway := { b.1.causeway with
    sessions := modifyAt b.1.causeway.sessions i fun x => { x with keyIn := some a.2, keyOut := some b.2, ephemeral := none } } }

/-- R515: authentication completes; D-FINISH grants the number and the role. A Custodian under the staged anchor closes it (R132). -/
def State.openSession (s : State) (i : Nat) (sig : Bytes) : State :=
  let x := s.causeway.session i
  let slot := if x.anchorSlot = 8 then s.otp.freeSlot.getD 0 else x.anchorSlot
  let s := s.keyCauseway i sig
  let s := { s with causeway := { s.causeway with
    sessions := modifyAt s.causeway.sessions i fun x =>
      { x with phase := 2, anchorSlot := slot, anchor := none, opened := s.now, lastFrame := s.clock.count,
               transcript := x.transcript ++ sig, framesIn := 1, framesOut := 1 } } }
  let s := match x.anchor with
    | some a => s.closeCaSlot a
    | none => s
  s.sendFrame 0x13 (leBytes 2 (i + 1) ++ leBytes 1 (roleCode (some x.role)))

/-- The anchor a waiting set-up's chain ended at may still authenticate it: a staged one is the one still staged (R132). -/
def State.anchorStands (s : State) (x : CwSession) : Bool :=
  match x.anchor with
  | none => true
  | some a => s.stageRuns && (s.ret.stagedCa.map (·.1)) == some a

/-- A set-up that fails at C-FINISH frees its number. -/
def State.failSetup (s : State) (i code : Nat) : State :=
  ({ s with causeway := { s.causeway with sessions := modifyAt s.causeway.sessions i fun _ => {} } } : State).refuseSetup code

/-- R512: a frame that the port takes in. -/
def State.hears (s : State) (f : CwFrame) : Bool := s.causewayUp && f.dest == .device

/-- R513: an encrypted frame is accepted whole, with SEQ one above the last accepted SEQ of its session. -/
def CwSession.accepts (x : CwSession) (f : CwFrame) : Bool := f.intact && f.seq.toNat == x.framesIn + 1

/-- C_FINISH: its frame, then the client's ES384 signature, r and s (R132, R513, R515). -/
def execCFinish (f : CwFrame) (sigOk : Bool) (sigR sigS : BitVec 384) (s : State) : Host.Outcome State Fault Refusal :=
  let i := f.session.val
  let x := s.causeway.session i
  .next (if s.hears f = false then s
  else if x.phase ≠ 1 ∨ x.accepts f = false then s.discardFrame
  else if sigOk = false then s.failSetup i 4
  else if s.anchorStands x = false then s.failSetup i 2
  else s.openSession i (beBytes 48 sigR.toNat ++ beBytes 48 sigS.toNat))

/-- A command of an open session: its frame is accepted, or discarded (R513). -/
def State.onSession (s : State) (f : CwFrame) (g : State → State) : State :=
  let x := s.causeway.session f.session.val
  if s.hears f = false then s
  else if x.phase ≠ 2 ∨ x.accepts f = false then s.discardFrame
  else g { s with causeway := { s.causeway with
    sessions := modifyAt s.causeway.sessions f.session.val fun x => { x with lastFrame := s.clock.count, framesIn := x.framesIn + 1 } } }

/-- A frame of a session sent: it takes the next SEQ of its direction (17, Frames). -/
def State.sendOn (s : State) (i ftype : Nat) (body : Bytes) : State :=
  ({ s with causeway := { s.causeway with
    sessions := modifyAt s.causeway.sessions i fun x => { x with framesOut := x.framesOut + 1 } } } : State).sendFrame ftype body

/-- CAUSEWAY_CLOSE (R517, R522). -/
def execCausewayClose (f : CwFrame) (s : State) : Host.Outcome State Fault Refusal :=
  .next (s.onSession f fun s => s.endCauseway f.session.val)

/-- R517, R528: the idle limit has passed without a frame received. -/
def State.sessionIdle (s : State) (i : Nat) : Bool :=
  let x := s.causeway.session i
  x.phase != 0 && decide (x.lastFrame + s.ret.idleLimit * 1000000000 ≤ s.clock.count)

/-- CAUSEWAY_SESSION_IDLE (R517, R522). -/
def execCausewaySessionIdle (i : Fin 8) (s : State) : Host.Outcome State Fault Refusal :=
  .next (if s.sessionIdle i.val then s.endCauseway i.val else s)

/-- CAUSEWAY_FRAME_LIMIT: 2^32 frames in a direction (R517). -/
def execCausewayFrameLimit (i : Fin 8) (s : State) : Host.Outcome State Fault Refusal :=
  let x := s.causeway.session i.val
  .next (if x.phase = 2 ∧ (2 ^ 32 ≤ x.framesIn ∨ 2 ^ 32 ≤ x.framesOut) then s.endCauseway i.val else s)

/-! ### Firmware delivery (R521, R522) -/

/-- The roles that deliver firmware and send budgets. -/
def roleCommands : Role → Bool
  | .operator | .custodian => true
  | _ => false

/-- R94, R521: no delivery may begin: one is in progress from a plane, or the start has not reached step 9 or has passed it
(R104; log 64). -/
def State.deliveryBusy (s : State) : Bool :=
  s.loading || s.fwRunning || !(s.up || s.start.phase == .awaitSet) || !s.pins.modResetN

/-- A set refused before its manifest is accepted (R86, R124). -/
def State.refuseHead (s : State) (code : Nat) : State :=
  if s.up then { s with start := { s.start with setResult := code } } else s.refuseSet code

/-- R521: a delivery of a length begins. -/
def State.beginDelivery (s : State) (i len : Nat) : State :=
  if s.deliveryBusy then s.refuseBusy
  else if 32 * 1048576 < len then s.refuseHead 7
  else { s with causeway := { s.causeway with fw := some ⟨i, len, [], 0, s.clock.count, false⟩ } }

/-- FW_BEGIN (R93, R94, R105, R521). -/
def execFwBegin (f : CwFrame) (len : BitVec 32) (s : State) : Host.Outcome State Fault Refusal :=
  .next (s.onSession f fun s =>
    if roleCommands (s.causeway.session f.session.val).role then s.beginDelivery f.session.val len.toNat else s)

/-- FW-ACK: the next expected offset. -/
def State.fwAck (s : State) : State :=
  match s.causeway.fw with
  | some t => s.sendOn t.session 0x32 (leBytes 4 t.data.length)
  | none => s

/-- The head of a delivery stream (04, "The firmware set"). -/
def headOf (b : Bytes) (ecdsaOk mldsaOk : Bool) : SetImage :=
  ⟨slice b 0 2112, slice b 2112 448, slice b 2560 3456, ecdsaOk, mldsaOk, false⟩

/-- The delivery has been taken for a load or an update. -/
def State.headAccepted (s : State) : Bool :=
  (s.start.load.map fun l => !l.fromHost).getD false || (s.start.update.map fun l => !l.fromHost).getD false

/-- R83, R86, R94: the head is complete: it is checked, and a set it refuses ends the delivery. -/
def State.fwHead (s : State) (t : FwTransfer) (ecdsaOk mldsaOk : Bool) : State :=
  let s := s.deliver false t.total (headOf t.data ecdsaOk mldsaOk)
  if s.headAccepted then s else { s with causeway := { s.causeway with fw := none } }

/-- R521: a contiguous segment of 1 to 1,280 B is taken; FW-ACK follows every sixteenth. -/
def State.fwTake (s : State) (t : FwTransfer) (data : Bytes) (ecdsaOk mldsaOk : Bool) : State :=
  let t' := { t with data := t.data ++ data, frames := t.frames + 1, lastFrame := s.clock.count }
  let s := { s with causeway := { s.causeway with fw := some t' } }
  let s := if t'.frames % 16 = 0 then s.fwAck else s
  if t.data.length < setHeadSize ∧ setHeadSize ≤ t'.data.length then s.fwHead t' ecdsaOk mldsaOk else s

/-- R521: what a FW-DATA frame does; any other offset is discarded and answered by FW-ACK. -/
def State.fwSegment (s : State) (i offset : Nat) (data : Bytes) (ecdsaOk mldsaOk : Bool) : State :=
  match s.causeway.fw with
  | some t =>
    if t.session = i ∧ t.ended = false then
      if offset = t.data.length ∧ 1 ≤ data.length ∧ data.length ≤ 1280 ∧ offset + data.length ≤ t.total then
        s.fwTake t data ecdsaOk mldsaOk
      else s.fwAck
    else s
  | none => s

/-- FW_DATA; the verdicts are those of the signature checks over the head, used by the frame that completes it (R83-R86, R521). -/
def execFwData (f : CwFrame) (offset : BitVec 32) (data : Bytes) (ecdsaOk mldsaOk : Bool) (s : State) :
    Host.Outcome State Fault Refusal :=
  .next (s.onSession f fun s => s.fwSegment f.session.val offset.toNat data ecdsaOk mldsaOk)

/-- R521: FW-END is answered by FW-ACK; the stream is over once all of it has come (log 64). -/
def State.fwFinish (s : State) (i : Nat) : State :=
  match s.causeway.fw with
  | some t =>
    if t.session = i then
      if t.data.length = t.total then ({ s with causeway := { s.causeway with fw := some { t with ended := true } } } : State).fwAck
      else s.fwAck
    else s
  | none => s

/-- FW_END (R521). -/
def execFwEnd (f : CwFrame) (s : State) : Host.Outcome State Fault Refusal := .next (s.onSession f fun s => s.fwFinish f.session.val)

/-- FW_TRANSFER_STALL: FW-DATA frames have stopped for 5 s (R86, R87, R522). -/
def execFwTransferStall (s : State) : Host.Outcome State Fault Refusal :=
  .next (match s.causeway.fw with
  | some t => if t.ended = false ∧ t.lastFrame + 5000000000 ≤ s.clock.count then s.refuseDelivery 0x0A else s
  | none => s)

/-! ### Budgets (R523-R525) -/

/-- R525: cap in effect, module power in 16 W steps over the last whole 100 ms, device time. -/
def State.budgetAck (s : State) : Bytes :=
  leBytes 2 s.capInEffect ++ leBytes 4 (s.power.mean100.getD 0 0 / 16 * 16) ++ leBytes 8 s.now

/-- R523: a budget takes the place of its namesake of the session. -/
def State.takeBudget (s : State) (b : Budget) : State :=
  { s with causeway := { s.causeway with
    budgets := (s.causeway.budgets.filter fun x => !(x.session == b.session && x.ident == b.ident)) ++ [b] } }

/-- R523: the range of a budget. -/
def budgetOk (cap validityMs : Nat) : Bool :=
  decide (900 ≤ cap) && decide (cap ≤ 2600) && decide (100 ≤ validityMs) && decide (validityMs ≤ 60000)

/-- BUDGET; one out of range or of another role is not accepted and not answered (R523-R525; log 65). -/
def execBudget (f : CwFrame) (cap : BitVec 16) (validityMs ident : BitVec 32) (s : State) : Host.Outcome State Fault Refusal :=
  .next (s.onSession f fun s =>
    let i := f.session.val
    if roleCommands (s.causeway.session i).role ∧ budgetOk cap.toNat validityMs.toNat = true then
      let s := s.takeBudget ⟨i, ident.toNat, cap.toNat, s.clock.count + validityMs.toNat * 1000000⟩
      s.sendOn i 0x41 s.budgetAck
    else s)

/-- BUDGET_LAPSE: validities have elapsed (R524). -/
def execBudgetLapse (s : State) : Host.Outcome State Fault Refusal :=
  let excess := s.causeway.budgets.filter fun b => decide (b.ends ≤ s.clock.count)
  .next { s with causeway := { s.causeway with
    budgets := s.causeway.budgets.filter fun b => !decide (b.ends ≤ s.clock.count)
    lapses := bumpBy excess.length s.causeway.lapses } }

/-! ### Co-signature (R519) -/

def eightHoursNs : Nat := 8 * 3600 * 1000000000

/-- The effect of COSIGN_GRANT_WRITE on its object, where it is accepted. -/
def State.writeCosignGrantWrite (d : Digest) (expiry : BitVec 64) (s : State) : Option State :=
  if expiry.toNat ≤ s.now + eightHoursNs then some { s with causeway := { s.causeway with grant := (d, expiry.toNat) } } else none

/-- COSIGN_GRANT_WRITE: OD 0x7820.01; all zero withdraws (R519). -/
def execCosignGrantWrite (ch : Channel) (d : Digest) (expiry : BitVec 64) (s : State) : Host.Outcome State Fault Refusal :=
  .next (s.odRow ch 0x7820 1 .cust fun s => s.writeCosignGrantWrite d expiry)

/-! ### Lifecycle commands (R555, R556, R565) -/

/-- The effect of LIFECYCLE_STAGE on its object, where it is accepted. -/
def State.writeLifecycleStage (v : Byte) (s : State) : Option State :=
  if v = 2 ∨ v = 3 then some { s with faults := { s.faults with lifecycleStaged := some (v.toNat, s.clock.count) } } else none

/-- LIFECYCLE_STAGE: OD 0x2003.02 (R555, R565). -/
def execLifecycleStage (ch : Channel) (v : Byte) (s : State) : Host.Outcome State Fault Refusal :=
  .next (s.odRow ch 0x2003 2 .cust fun s => s.writeLifecycleStage v)

/-- R565: the confirmation window. -/
def confirmWindow : Nat := 60 * 1000000000

/-- R555: the code of a confirmation; 0 takes the step. -/
def State.lifecycleVerdict (s : State) (v : Nat) (blowOk : Bool) : Nat :=
  match s.faults.lifecycleStaged with
  | none => 5
  | some (c, t) =>
    if c ≠ v then 5
    else if t + confirmWindow < s.clock.count then 6
    else if s.start.power ≠ .ready ∨ s.od.session ≠ 0 ∨ v ≤ s.otp.lifecycleCode then 1
    else if blowOk = false then 3
    else 0

/-- R556: the steps are taken and the device starts again from ROM. -/
def State.takeLifecycle (s : State) (v : Nat) : State :=
  ({ s with otp := s.otp.takeLifecycle v } : State).restart s.silicon

/-- The effect of LIFECYCLE_CONFIRM; a stage that has lapsed or failed is gone. -/
def State.writeLifecycleConfirm (v : Byte) (blowOk : Bool) (s : State) : Option State :=
  match s.lifecycleVerdict v.toNat blowOk with
  | 0 => some (s.takeLifecycle v.toNat)
  | 6 => some (({ s with faults := { s.faults with lifecycleStaged := none } } : State).keyCommand 6)
  | code => some (s.keyCommand code)

/-- LIFECYCLE_CONFIRM: OD 0x2003.03 (R555, R556, R565). -/
def execLifecycleConfirm (ch : Channel) (v : Byte) (blowOk : Bool) (s : State) : Host.Outcome State Fault Refusal :=
  .next (s.odRow ch 0x2003 3 .aud fun s => s.writeLifecycleConfirm v blowOk)

end Sys2Proof.Machine
end

