-- ==== Sys2Proof/Machine/DigestRows.lean ====
section
/-! DEFINITION. The digest engine: job channels, the comparator, extension, export and import, alarms, inline lanes (06). -/

namespace Sys2Proof.Machine

def Engines.job (e : Engines) (j : Nat) : JobChannel := e.jobs.getD j {}

def State.modJob (s : State) (j : Nat) (f : JobChannel → JobChannel) : State :=
  { s with engines := { s.engines with jobs := modifyAt s.engines.jobs j f } }

/-- A channel ends in ERROR with a code of R176; RESULT then returns zeros (R144). -/
def JobChannel.fail (c : JobChannel) (code : Nat) : JobChannel :=
  { c with state := .error, err := code, ctx := none, result := [], held := [], hmacSlot := false }

/-- An opcode that is not valid in the channel's state (R176, ERR_STATE). -/
def JobChannel.badState (c : JobChannel) : JobChannel := { c with err := 0x0A }

/-- The key a keyed job is given over the sealed key bus (R145, R146). -/
def State.jobKey (s : State) (d : JobDesc) : Option Bytes := (SMap.get none s.keys.store d.key.val).map fun e => e.held.key

/-- What START makes of a descriptor (R141, R145). -/
def startJob (d : JobDesc) (key : Option Bytes) : JobChannel :=
  let c : JobChannel := { desc := some d }
  match HashAlg.ofCode d.alg.toNat with
  | none => c.fail 2
  | some a =>
    if d.keyed then
      if a.isSha3 then c.fail 2
      else match key with
        | none => c.fail 3
        | some k => { c with state := .absorbing, ctx := some (HashCtx.initKeyed a k), hmacSlot := true }
    else { c with state := .absorbing, ctx := some (HashCtx.init a) }

/-- DIGEST_START: the START opcode; the length is fixed from here (R141, R145). A channel that absorbs answers ERR_STATE. -/
def execDigestStart (j : Fin 8) (d : JobDesc) (s : State) : Host.Outcome State Fault Refusal :=
  .next (s.modJob j.val fun c =>
    if c.state = .absorbing then c.badState else startJob d (s.jobKey d))

/-- DIGEST_RESULT: zeros and EARLY before the length is consumed; the digest after; zeros when the WKR took it (R142). -/
def execDigestResult (j : Fin 8) (s : State) : Host.Outcome State Fault Refusal :=
  let c := s.engines.job j.val
  .next (match c.state with
  | .absorbing =>
    let s := s.modJob j.val fun c => { c with early := true, resultOut := List.replicate 48 0 }
    { s with engines := { s.engines with early := bump s.engines.early } }
  | .done =>
    let toWkr := (c.desc.map (·.toWkr)).getD false
    s.modJob j.val fun c => { c with resultOut := if toWkr then List.replicate c.result.length 0 else c.result }
  | .error => s.modJob j.val fun c => { c with resultOut := List.replicate 48 0 }
  | .idle => s.modJob j.val JobChannel.badState)

/-- The comparator (R147, R148): the verdict only. -/
def JobChannel.compareWith (c : JobChannel) (aux : Bytes) : JobChannel :=
  if aux.length = c.result.length then { c with cmp := c.result == aux } else c.badState

/-- The data of an EXTEND: the result when AUXLEN is 0, the record otherwise; none where R150 does not allow it. -/
def JobChannel.extendData (c : JobChannel) (aux : Bytes) : Option Bytes :=
  if aux.isEmpty then
    match c.desc with
    | some d => if d.alg.toNat = 2 ∧ d.keyed = false then some c.result else none
    | none => none
  else if aux.length ≤ 256 then some aux else none

/-- Record codes of MR14 (20, Limits). -/
def faultCodes : List Nat := [1, 2, 3, 4, 5, 6, 7, 8, 9, 0x0B, 0x0C, 0x0D, 0x0E, 0x0F, 0x10, 0x1F]

/-- R366: a record fits its row of the register table (13, Model; R134, R278, R359, R595). -/
def recordFits (mr : Nat) (b : Bytes) : Bool :=
  let at_ (k : Nat) : Nat := leField b k 1
  if mr ≤ 7 then b.length == 48
  else if mr = 8 then b.length == 4 && decide (at_ 0 ≤ 3) && decide (at_ 1 ≤ 3) && decide (at_ 2 ≤ 2) && at_ 3 == 0
  else if mr = 10 then b.length == 57 && (at_ 0 == 1 || at_ 0 == 2)
  else if mr = 12 then b.length == 57 && (at_ 0 == 1 || at_ 0 == 2 || at_ 0 == 3)
  else if mr ≤ 12 then b.length == 57 && at_ 0 == 1
  else if mr = 13 then b.length == 65 && at_ 0 == 1
  else if mr = 14 then
    b.length == (if at_ 0 = 0x10 then 80 else 32) && faultCodes.contains (at_ 0) && leField b 28 4 == 0
  else if mr = 15 then b.length == 58 && decide (1 ≤ at_ 0) && decide (at_ 0 ≤ 10)
  else decide (1 ≤ b.length) && decide (b.length ≤ 256)

/-- EXTEND on a finished job (R149-R151); a record that does not fit its register's row is never extended (R366). -/
def State.extendJob (s : State) (j mr : Nat) (aux : Bytes) : State :=
  match (s.engines.job j).extendData aux with
  | none => s.modJob j fun c => c.fail 9
  | some d => if recordFits mr d then s.extendMr mr d else s.modJob j fun c => c.fail 9

/-- The 320 octets of an exported context (06, "Export of a context"). -/
def exportPlain (c : HashCtx) (remaining : Nat) : Bytes :=
  let head := leBytes 2 0x5844 ++ leBytes 1 c.alg.code ++ [if c.keyed then 1 else 0] ++ leBytes 1 c.buf.length ++
    leBytes 5 remaining ++ List.replicate 6 0
  let words32 (h : H8 32) : Bytes := fit 64 (h.toList.flatMap fun x => beBytes 4 x.toNat)
  let words64 (h : H8 64) : Bytes := h.toList.flatMap fun x => beBytes 8 x.toNat
  if c.alg.isSha3 then
    fit 320 (head ++ fit 200 ((spongeXor c.sponge 0 c.buf).flatMap fun x => leBytes 8 x.toNat))
  else
    let st := if c.alg = .sha256 then words32 c.inner32 else words64 c.inner64
    let out := if c.keyed = false then List.replicate 64 0 else if c.alg = .sha256 then words32 c.outer32 else words64 c.outer64
    fit 320 (head ++ st ++ out ++ leBytes 16 (8 * c.count) ++ fit 128 c.buf)

/-- EXPORT on a finished job: the blob wrapped under the Sealing key (R119, R146, R152). An empty wrap slot: ERR_KEY. -/
def State.exportJob (s : State) (j : Nat) : State :=
  match (s.engines.job j).ctx, s.keys.wrapSlot with
  | some c, some k =>
    s.modJob j fun x => { x with exportOut := kwWrap k.key (exportPlain c 0) }
  | _, none => s.modJob j fun c => c.fail 3
  | none, some _ => s.modJob j JobChannel.badState

/-- One operation on a consumed job (R143); after one that ended the job in ERROR the next meets ERR_STATE. -/
def State.runHeld (s : State) (j : Nat) (op : HeldOp) : State :=
  if (s.engines.job j).state ≠ .done then s.modJob j JobChannel.badState
  else match op with
    | .compare aux => s.modJob j fun c => c.compareWith aux
    | .extend mr aux => s.extendJob j mr.val aux
    | .exportCtx => s.exportJob j

/-- An operation on a channel: at once when the job is done, held while it absorbs, ERR_STATE otherwise (R143). -/
def State.jobOp (s : State) (j : Nat) (op : HeldOp) : State :=
  match (s.engines.job j).state with
  | .done => s.runHeld j op
  | .absorbing => s.modJob j fun c => { c with held := c.held ++ [op] }
  | _ => s.modJob j JobChannel.badState

/-- COMPARE (R143, R147, R148). -/
def execCompare (j : Fin 8) (aux : Bytes) (s : State) : Host.Outcome State Fault Refusal :=
  .next (s.jobOp j.val (.compare aux))

/-- EXTEND (R143, R149-R151, R366-R368). -/
def execExtend (j : Fin 8) (mr : Fin 32) (aux : Bytes) (s : State) : Host.Outcome State Fault Refusal :=
  .next (s.jobOp j.val (.extend mr aux))

/-- EXPORT (R119, R143, R152). -/
def execExportCtx (j : Fin 8) (s : State) : Host.Outcome State Fault Refusal :=
  .next (s.jobOp j.val .exportCtx)

/-- The context an unwrapped blob restores, with the length that remains; none when its layout is not that of an export. -/
def importPlain (p : Bytes) : Option (HashCtx × Nat) :=
  if p.length ≠ 320 ∨ leField p 0 2 ≠ 0x5844 then none
  else match HashAlg.ofCode (leField p 2 1) with
    | none => none
    | some a =>
      let c := HashCtx.init a
      let fill := leField p 4 1
      let rem := leField p 5 5
      let keyed := leField p 3 1 == 1
      let w32 (off : Nat) : H8 32 := H8.ofList ((List.range 8).map fun i => BitVec.ofNat 32 (beNat (slice p (off + 4 * i) 4)))
      let w64 (off : Nat) : H8 64 := H8.ofList ((List.range 8).map fun i => BitVec.ofNat 64 (beNat (slice p (off + 8 * i) 8)))
      if a.isSha3 then
        some ({ c with sponge := (List.range 25).map fun i => BitVec.ofNat 64 (leField p (16 + 8 * i) 8)
                       buf := List.replicate fill 0 }, rem)
      else
        some ({ c with keyed := keyed, inner32 := if a = .sha256 then w32 16 else zero32
                       inner64 := if a = .sha256 then zero64 else w64 16
                       outer32 := if keyed ∧ a = .sha256 then w32 80 else zero32
                       outer64 := if keyed ∧ a ≠ .sha256 then w64 80 else zero64
                       count := leField p 144 16 / 8, buf := slice p 160 fill }, rem)

/-- A restored channel: it absorbs what remained, or stands done with its result. -/
def restoredJob (c : HashCtx) (remaining : Nat) : JobChannel :=
  let d : JobDesc := ⟨BitVec.ofNat 4 c.alg.code, 0, c.keyed, false, false, 0, BitVec.ofNat 40 remaining, 0⟩
  if remaining = 0 then { state := .done, desc := some d, ctx := some c, result := c.close, hmacSlot := c.keyed }
  else { state := .absorbing, desc := some d, ctx := some c, hmacSlot := c.keyed }

/-- IMPORT into an IDLE channel (R120, R153); elsewhere ERR_BUSY. -/
def execImportCtx (j : Fin 8) (blob : Bytes) (s : State) : Host.Outcome State Fault Refusal :=
  .next (if (s.engines.job j.val).state ≠ .idle then s.modJob j.val fun c => { c with err := 8 }
  else
    match (s.keys.wrapSlot.bind fun k => kwUnwrap k.key blob).bind importPlain with
    | some (c, rem) => s.modJob j.val fun _ => restoredJob c rem
    | none =>
      let s := s.modJob j.val fun c => { c with err := 7 }
      { s with engines := { s.engines with importRefusals := bump s.engines.importRefusals } })

/-- DIGEST_ABORT: the ABORT opcode clears the channel. -/
def execDigestAbort (j : Fin 8) (s : State) : Host.Outcome State Fault Refusal :=
  .next (s.modJob j.val fun _ => {})

/-- The WKR takes a result as two shares (R110, R117). -/
def State.toWkr (s : State) (k : Bytes) : State := (s.transfer k).1

/-- The whole message of a job has come by DMA (R141, R143, R144). -/
def State.finishJob (s : State) (j : Nat) (bytes : Bytes) : State :=
  let c := s.engines.job j
  match c.state, c.desc, c.ctx with
  | .absorbing, some d, some ctx =>
    let need := d.length.toNat
    if bytes.length = need then
      let ctx := ctx.absorb bytes
      let res := ctx.close
      let s := s.modJob j fun c =>
        { c with state := .done, consumed := need, ctx := some ctx, result := res, held := [],
                 passed := if d.pass then bytes else [] }
      let s := if d.toWkr then s.toWkr res else s
      c.held.foldl (fun s op => s.runHeld j op) s
    else s.modJob j fun c => { c.fail 4 with consumed := min need bytes.length }
  | _, _, _ => s

/-- DIGEST_JOB_DONE: the DMA stream of a job ends (R141-R144). -/
def execDigestJobDone (j : Fin 8) (bytes : Bytes) (s : State) : Host.Outcome State Fault Refusal :=
  .next (s.finishJob j.val bytes)

/-- INLINE_LANE_GRANT: lane k mod 4 takes the head of its queue: the next waiting record of a Ferry (R155). -/
def execInlineLaneGrant (ferry : Fin 16) (s : State) : Host.Outcome State Fault Refusal :=
  let l := ferry.val % 4
  .next (match s.engines.laneBusy.getD l none, (s.engines.laneQueue.getD l []).find? fun q => q.1 == ferry.val with
  | none, some (_, tag) =>
    { s with
      engines := { s.engines with
        laneBusy := modifyAt s.engines.laneBusy l fun _ => some tag
        laneQueue := modifyAt s.engines.laneQueue l fun q => q.eraseP fun e => e.1 == ferry.val }
      host := s.host.mapSubs fun t x => if t = tag ∧ x.phase = .laneWait then { x with phase := .fetching } else x }
  | _, _ => s)

end Sys2Proof.Machine
end

