-- ==== Sys2Proof/Machine/SpdmRows.lean ====
section
/-! DEFINITION. SPDM, IDE_KM and TDISP over DOE: the device's choices of R378, R397, R400 and R405 over the published message
codes (log 55). -/

namespace Sys2Proof.Machine

/-! ### The responder -/

/-- The last response: message code and body. -/
def State.respond (s : State) (code : Nat) (body : Bytes) : State :=
  { s with hosting := { s.hosting with response := some (code, body) } }

/-- SPDM ERROR with an error code. -/
def State.spdmError (s : State) (code : Nat) : State := s.respond 0x7F [BitVec.ofNat 8 code]

/-- The DOE mailbox answers: the link is up in D0. -/
def State.doeUp (s : State) : Bool := s.pins.pcieUp && !s.host.d3hot

/-- A response too long for DataTransferSize is handed out by CHUNK_GET (R378). -/
def State.respondLarge (s : State) (code : Nat) (body : Bytes) : State :=
  if body.length ≤ 4080 then s.respond code body
  else ({ s with hosting := { s.hosting with large := leBytes 1 code ++ body } } : State).spdmError 0x0F

/-- A message of the connection in a phase; otherwise the request is unexpected. -/
def State.inPhase (s : State) (phase : Nat) (f : State → State) : State :=
  if !s.doeUp then s
  else if s.hosting.spdmPhase < phase then s.spdmError 0x04
  else f s

/-- Certificate chain of slot 0, in X.509 form (13, R378): of the IDevID certificate served and of this start's Alias. -/
def State.spdmChain (s : State) : Bytes :=
  Config.x509Chain (if s.conditionNow.debugClass then s.keys.debugIdevidCert else s.ret.idevidCopy) s.keys.aliasCert

/-- A signed response: the content, then the signature by the Alias P-384 key, or by the IDevID P-384 key before step 12, over what
the standard puts under it (R378). One that is not released leaves an ERROR, Unspecified (R172; log 55). -/
def State.respondSigned (s : State) (code : Nat) (content : Bytes) : State :=
  let r := s.drawn.signEc s.evidenceKey.ec (Config.spdmBytes s.draws content)
  match r.2 with
  | some sig => r.1.respondLarge code (content ++ sig)
  | none => r.1.spdmError 0x05

/-- A secured session ends and its keys are cleared; its OD transfer ends with it (R407, R493). -/
def State.endSpdm (s : State) (i : Nat) : State :=
  { s with
    hosting := { s.hosting with sessions := modifyAt s.hosting.sessions i fun _ => {} }
    od := s.od.closeTransfer (1 + i) }

/-- GET_VERSION: SPDM 1.3; the connection starts anew and its secured sessions end (R378). -/
def execGetVersion (s : State) : Host.Outcome State Fault Refusal :=
  .next (if s.doeUp then
    let s := (List.range 4).foldl State.endSpdm s
    ({ s with hosting := { s.hosting with spdmPhase := 1, large := [] } } : State).respond 0x04 [0x13]
  else s)

/-- GET_CAPABILITIES: DataTransferSize 4,096 and MaxSPDMmsgSize 73,728 (R378). -/
def execGetCapabilities (s : State) : Host.Outcome State Fault Refusal :=
  .next (s.inPhase 1 fun s =>
    ({ s with hosting := { s.hosting with spdmPhase := max s.hosting.spdmPhase 2 } } : State).respond 0x61
      (leBytes 4 4096 ++ leBytes 4 73728))

/-- NEGOTIATE_ALGORITHMS: ECDSA P-384 and SHA-384 (R378). -/
def execNegotiateAlgorithms (offersP384Sha384 : Bool) (s : State) : Host.Outcome State Fault Refusal :=
  .next (s.inPhase 2 fun s =>
    if offersP384Sha384 then
      ({ s with hosting := { s.hosting with spdmPhase := 3 } } : State).respond 0x63 [0x80, 0x02, 0x04]
    else s.spdmError 0x01)

/-- GET_DIGESTS: the digest of slot 0's chain (R378). -/
def execGetDigests (s : State) : Host.Outcome State Fault Refusal :=
  .next (s.inPhase 3 fun s =>
    let s := s.readyIdevidCert
    s.respond 0x01 (1 :: digestBytes (sha384 s.spdmChain)))

/-- GET_CERTIFICATE: a portion of slot 0's chain; there is no other slot (R378). -/
def execGetCertificate (slot : Byte) (offset len : Nat) (s : State) : Host.Outcome State Fault Refusal :=
  .next (s.inPhase 3 fun s =>
    let s := s.readyIdevidCert
    if slot = 0 ∧ offset < s.spdmChain.length then s.respondLarge 0x02 (slice s.spdmChain offset len) else s.spdmError 0x01)

/-- CHALLENGE: the chain's digest, a nonce and the signature (R378). -/
def execChallenge (slot : Byte) (nonce : BitVec 256) (s : State) : Host.Outcome State Fault Refusal :=
  .next (s.inPhase 3 fun s =>
    let s := s.readyIdevidCert
    if slot = 0 then s.respondSigned 0x03 (digestBytes (sha384 s.spdmChain) ++ beBytes 32 nonce.toNat) else s.spdmError 0x01)

/-- R378: the value type of an index's block: immutable ROM, mutable firmware, hardware configuration, firmware configuration, and the
measurement manifest of index 0xFD. -/
def measurementType (index : Nat) : Nat :=
  if index = 0xFD then 4 else if index = 1 then 0 else if index ≤ 7 then 1 else if index = 8 then 2 else 3

/-- A measurement block: index, specification, size, then value type with the raw bit, size and value (R378; codes: log 55). -/
def measurementBlock (index : Nat) (value : Bytes) : Bytes :=
  leBytes 1 index ++ [1] ++ leBytes 2 (value.length + 3) ++ leBytes 1 (0x80 + measurementType index) ++ leBytes 2 value.length ++ value

/-- The block of MR(index - 1). -/
def State.mrBlock (s : State) (index : Nat) : Bytes := measurementBlock index (digestBytes (s.mr (index - 1)))

/-- R378: index 0xFD, a full token under the request's nonce; no evidence is had before item 0 (R554). -/
def State.manifestBlock (s : State) (nonce : Bytes) : State × Option Bytes :=
  if s.evidenceServed then
    let r := s.token nonce
    (r.1, r.2.map fun t => measurementBlock 0xFD t.2)
  else (s, none)

/-- R378: what a measurement index answers; none for one that is not served. -/
def State.measurements (s : State) (index : Nat) (nonce : Bytes) : State × Option Bytes :=
  if index = 0 then (s, some [33])
  else if index ≤ 32 then (s, some (s.mrBlock index))
  else if index = 0xFD then s.manifestBlock nonce
  else if index = 0xFF then
    let r := s.manifestBlock nonce
    (r.1, r.2.map fun b => ((List.range 32).flatMap fun k => s.mrBlock (k + 1)) ++ b)
  else (s, none)

/-- GET_MEASUREMENTS: index k + 1 is MRk, 0xFD the manifest token with the request's nonce (R127, R378, R554). -/
def execGetMeasurements (index : Byte) (nonce : BitVec 256) (s : State) : Host.Outcome State Fault Refusal :=
  .next (s.inPhase 3 fun s =>
    let r := s.measurements index.toNat (beBytes 32 nonce.toNat)
    match r.2 with
    | some b => r.1.respondSigned 0x60 b
    | none => r.1.spdmError 0x01)

/-- CHUNK_GET: the next part of a large response (R378). -/
def execChunkGet (seq : Nat) (s : State) : Host.Outcome State Fault Refusal :=
  .next (s.inPhase 1 fun s =>
    if 4080 * seq < s.hosting.large.length then s.respond 0x06 (slice s.hosting.large (4080 * seq) 4080) else s.spdmError 0x01)

/-! ### Secured sessions (R405-R407) -/

def State.spdmSession (s : State) (i : Nat) : SpdmSession := s.hosting.sessions.getD i {}

def State.modSession (s : State) (i : Nat) (f : SpdmSession → SpdmSession) : State :=
  { s with hosting := { s.hosting with sessions := modifyAt s.hosting.sessions i f } }

/-- Secured sessions are served from step 12 of a start (19, "PCIe-E" and "PCIe"). -/
def State.securedServed (s : State) : Bool := s.doeUp && s.start.step12 && s.start.halt == .none

/-- A session's two direction keys enter its consumer slots through the WKR (R111, R117). -/
def State.keySession (s : State) (i : Nat) (k : Bytes × Bytes) : State :=
  let a := s.transfer k.1
  let b := a.1.transfer k.2
  b.1.modSession i fun x => { x with requestKey := some a.2, responseKey := some b.2 }

/-- A session's keys move on: into its data phase, or to their next generation (R405). -/
def State.rekeySession (s : State) (i : Nat) : State :=
  let x := s.spdmSession i
  let key (k : Option MaskedKey) : Bytes := (k.map (·.key)).getD []
  s.keySession i (Config.spdmKeys (key x.requestKey) (key x.responseKey))

/-- R405: a session of the four is set up: the responder's ephemeral secp384r1 share is drawn, and the key schedule runs over the
shared secret. -/
def State.exchangeKeys (s : State) (i : Nat) (exchangeData : Bytes) : State :=
  let seed := (drawBytes s.draws).drop 8
  let share := (ecPublic seed).drop 1
  let r := s.generated.agreeEc seed (4 :: exchangeData)
  let s := r.1.modSession i fun _ => { phase := 1, lastMessage := s.clock.count }
  (s.keySession i (Config.spdmKeys r.2 (exchangeData ++ share))).respondSigned 0x64 (leBytes 1 i ++ share)

/-- KEY_EXCHANGE: a share that is a point of the curve opens a free session of the four (R405). -/
def execKeyExchange (exchangeData : Bytes) (s : State) : Host.Outcome State Fault Refusal :=
  .next (s.inPhase 3 fun s =>
    if s.securedServed = false then s.spdmError 0x04
    else match s.hosting.sessions.findIdx? fun x => x.phase == 0 with
      | none => s.spdmError 0x0A
      | some i => if (ecDecode (4 :: exchangeData)).isNone then s.spdmError 0x01 else s.exchangeKeys i exchangeData)

/-- FINISH: the handshake completes with the requester's heartbeat period, or the session is dropped (R405). -/
def execFinish (i : Fin 4) (verifyOk : Bool) (heartbeatS : Byte) (s : State) : Host.Outcome State Fault Refusal :=
  .next (if s.securedServed ∧ (s.spdmSession i.val).phase = 1 then
    if verifyOk then
      ((s.rekeySession i.val).modSession i.val fun x =>
        { x with phase := 2, heartbeatS := heartbeatS.toNat, lastMessage := s.clock.count }).respond 0x65 []
    else (s.endSpdm i.val).spdmError 0x06
  else if s.doeUp then s.spdmError 0x04 else s)

/-- A secured message of an established session; it restarts the heartbeat period. -/
def State.secured (s : State) (i : Nat) (f : State → State) : State :=
  if s.securedServed ∧ (s.spdmSession i).phase = 2 then
    f (s.modSession i fun x => { x with lastMessage := s.clock.count })
  else if s.doeUp then s.spdmError 0x04 else s

/-- END_SESSION: the session's keys are cleared; IDE keys stay in use (R407). -/
def execEndSession (i : Fin 4) (s : State) : Host.Outcome State Fault Refusal :=
  .next (s.secured i.val fun s => (s.endSpdm i.val).respond 0x6C [])

/-- HEARTBEAT (R405). -/
def execHeartbeat (i : Fin 4) (s : State) : Host.Outcome State Fault Refusal :=
  .next (s.secured i.val fun s => s.respond 0x68 [])

/-- KEY_UPDATE: the session's keys move to their next generation (R405). -/
def execKeyUpdate (i : Fin 4) (s : State) : Host.Outcome State Fault Refusal :=
  .next (s.secured i.val fun s =>
    ((s.rekeySession i.val).modSession i.val fun x => { x with keyGeneration := x.keyGeneration + 1 }).respond 0x69 [])

/-- The heartbeat period of a session has passed without a message. -/
def State.heartbeatOver (s : State) (i : Nat) : Bool :=
  let x := s.spdmSession i
  x.phase == 2 && x.heartbeatS != 0 && decide (x.lastMessage + x.heartbeatS * 1000000000 ≤ s.clock.count)

/-- SPDM_HEARTBEAT_TIMEOUT: the secured session ends (R405). -/
def execSpdmHeartbeatTimeout (i : Fin 4) (s : State) : Host.Outcome State Fault Refusal :=
  .next (if s.heartbeatOver i.val then s.endSpdm i.val else s)

/-! ### IDE_KM (R397-R399) -/

/-- Consumer slot of a key set: stream, sub-stream, direction, set. -/
def ideKey (id : IdeKeyId) : Nat := 12 * id.stream.val + 4 * id.sub.val + (if id.tx then 2 else 0) + (if id.set then 1 else 0)

def Hosting.slot (h : Hosting) (k : Nat) : IdeSlot := SMap.get {} h.ide k

def Hosting.setSlot (h : Hosting) (k : Nat) (x : IdeSlot) : Hosting := { h with ide := SMap.set {} h.ide k x }

/-- Every sub-stream of a stream has a key set going in both directions. -/
def Hosting.streamKeyed (h : Hosting) (st : Nat) : Bool :=
  (List.range 6).all fun k => (h.slot (12 * st + 2 * k)).going || (h.slot (12 * st + 2 * k + 1)).going

/-- No key set of a stream is going. -/
def Hosting.streamIdle (h : Hosting) (st : Nat) : Bool := (List.range 12).all fun k => !(h.slot (12 * st + k)).going

/-- OD 0x2060.02: bit k is selective stream k, bit 8 the link stream. -/
def Hosting.secure (h : Hosting) : Nat := maskOf 9 fun k => h.streamKeyed k && !h.insecure.getLsbD k

/-- R397 as the IDE capability register states it (log 103): link and selective streams, IDE_KM, 8 selective streams and TEE-limited
streams supported; partial header encryption (bit 3) and aggregation (bit 4) not. -/
def ideCapability : Nat := 0x01070043

/-- QUERY: the capability and the secure streams (R397). -/
def execQuery (i : Fin 4) (s : State) : Host.Outcome State Fault Refusal :=
  .next (s.secured i.val fun s => s.respond 0x01 (leBytes 4 ideCapability ++ leBytes 2 s.hosting.secure))

/-- R398: a key enters a consumer slot, under the Stream ID of its message. -/
def State.programKey (s : State) (id : IdeKeyId) (key : BitVec 256) : State :=
  let r := s.transfer (beBytes 32 key.toNat)
  { r.1 with hosting := { r.1.hosting.setSlot (ideKey id) { key := some r.2 } with
      streamIds := modifyAt r.1.hosting.streamIds id.stream.val fun _ => id.streamId } }

/-- KEY_PROG: a key enters a consumer slot whose key set is not going (R398). -/
def execKeyProg (i : Fin 4) (id : IdeKeyId) (key : BitVec 256) (s : State) : Host.Outcome State Fault Refusal :=
  .next (s.secured i.val fun s =>
    if (s.hosting.slot (ideKey id)).going then s.respond 0x03 [4]
    else (s.programKey id key).respond 0x03 [0])

/-- K_SET_GO: a programmed key set is used (R397). -/
def execKSetGo (i : Fin 4) (id : IdeKeyId) (s : State) : Host.Outcome State Fault Refusal :=
  .next (s.secured i.val fun s =>
    let x := s.hosting.slot (ideKey id)
    let ok := x.key.isSome && s.hosting.streamIds.getD id.stream.val 0 == id.streamId
    ({ s with hosting := if ok then s.hosting.setSlot (ideKey id) { x with going := true } else s.hosting } : State).respond
      0x06 [if ok then 0 else 4])

/-- A key set is stopped and its key cleared; a stream with no key set going leaves the Insecure state. -/
def Hosting.stopSet (h : Hosting) (id : IdeKeyId) : Hosting :=
  let h := h.setSlot (ideKey id) {}
  if h.streamIdle id.stream.val then { h with insecure := h.insecure &&& ~~~(BitVec.ofNat 9 (2 ^ id.stream.val)) } else h

/-- K_SET_STOP (R397). -/
def execKSetStop (i : Fin 4) (id : IdeKeyId) (s : State) : Host.Outcome State Fault Refusal :=
  .next (s.secured i.val fun s => ({ s with hosting := s.hosting.stopSet id } : State).respond 0x06 [0])

/-- IDE_INTEGRITY_FAIL: the stream is Insecure and the TDI in ERROR (R399, R403). -/
def execIdeIntegrityFail (stream : Fin 9) (s : State) : Host.Outcome State Fault Refusal :=
  .next (if s.pins.pcieUp then
    { s with hosting := { s.hosting with
        insecure := s.hosting.insecure ||| BitVec.ofNat 9 (2 ^ stream.val), ideFailures := bump s.hosting.ideFailures,
        tdi := .error, startNonce := none } }
  else s)

/-! ### TDISP (R400-R404) -/

/-- OD 0x2060.01. -/
def TdiState.code : TdiState → Nat
  | .unlocked => 0
  | .locked => 1
  | .run => 2
  | .error => 3

/-- TDISP_ERROR with an error code. -/
def State.tdispError (s : State) (code : Nat) : State := s.respond 0x7F (leBytes 4 code)

/-- GET_TDISP_VERSION (R400). -/
def execGetTdispVersion (i : Fin 4) (s : State) : Host.Outcome State Fault Refusal :=
  .next (s.secured i.val fun s => s.respond 0x01 [0x10])

/-- GET_TDISP_CAPABILITIES (R400). -/
def execGetTdispCapabilities (i : Fin 4) (s : State) : Host.Outcome State Fault Refusal :=
  .next (s.secured i.val fun s => (s.respond 0x02 (Config.spdmBytes s.draws [])).drawn)

/-- LOCK_INTERFACE_REQUEST: CONFIG_UNLOCKED to CONFIG_LOCKED, with a fresh nonce (R400, R402). -/
def execLockInterfaceRequest (i : Fin 4) (s : State) : Host.Outcome State Fault Refusal :=
  .next (s.secured i.val fun s =>
    if s.hosting.tdi = .unlocked then
      let n : BitVec 256 := (Config.drbg s.draws).setWidth 256
      (({ s with hosting := { s.hosting with tdi := .locked, startNonce := some n } } : State).respond 0x03
        (beBytes 32 n.toNat)).drawn
    else s.tdispError 4)

/-- GET_DEVICE_INTERFACE_REPORT: in CONFIG_LOCKED and RUN (R400). -/
def execGetDeviceInterfaceReport (i : Fin 4) (s : State) : Host.Outcome State Fault Refusal :=
  .next (s.secured i.val fun s =>
    if s.hosting.tdi = .locked ∨ s.hosting.tdi = .run then
      (s.respond 0x04 (Config.spdmBytes s.draws (leBytes 8 (65536 + 67108864 + 1048576)))).drawn
    else s.tdispError 4)

/-- GET_DEVICE_INTERFACE_STATE (R400). -/
def execGetDeviceInterfaceState (i : Fin 4) (s : State) : Host.Outcome State Fault Refusal :=
  .next (s.secured i.val fun s => s.respond 0x05 (leBytes 1 s.hosting.tdi.code))

/-- START_INTERFACE_REQUEST: CONFIG_LOCKED to RUN under the nonce of the lock (R400, R402). -/
def execStartInterfaceRequest (i : Fin 4) (nonce : BitVec 256) (s : State) : Host.Outcome State Fault Refusal :=
  .next (s.secured i.val fun s =>
    if s.hosting.tdi ≠ .locked then s.tdispError 4
    else if s.hosting.startNonce ≠ some nonce then s.tdispError 0x102
    else ({ s with hosting := { s.hosting with tdi := .run, startNonce := none } } : State).sendVectors.respond 0x06 [])

/-- STOP_INTERFACE_REQUEST: the session ends, then the TDI is CONFIG_UNLOCKED (R404, log 107). -/
def execStopInterfaceRequest (i : Fin 4) (s : State) : Host.Outcome State Fault Refusal :=
  .next (s.secured i.val fun s => s.stopSession.respond 0x07 [])

/-- LOCKED_CONFIGURATION_CHANGE: a locked configuration changes; the TDI is in ERROR (R401, R403). -/
def execLockedConfigurationChange (s : State) : Host.Outcome State Fault Refusal :=
  .next (if s.hosting.tdi = .locked ∨ s.hosting.tdi = .run then
    { s with hosting := { s.hosting with tdi := .error, startNonce := none } }
  else s)

end Sys2Proof.Machine
end

