-- ==== Sys2Proof/Machine/HostingRows.lean ====
section
/-! DEFINITION. Model loads, consent tokens, regions and scrubs as commands (14, R583). -/

namespace Sys2Proof.Machine

/-! ### Model loads (R408-R414, R436) -/

def State.loadCode (s : State) (code : Nat) : State := { s with hosting := { s.hosting with loadResult := code } }

/-- Octets of the model store in use or promised. -/
def Hosting.storeUsed (h : Hosting) : Nat :=
  (h.models.map fun m => m.2.length).foldl (· + ·) 0 + (h.loads.filterMap fun l => l.map fun x => x.len.toNat).foldl (· + ·) 0

/-- R412, R436: no room for one more model of a length. -/
def Hosting.storeFull (h : Hosting) (len : Nat) : Bool :=
  decide (2 ^ 35 < h.storeUsed + len) || decide (64 ≤ h.models.length + (h.loads.filter (·.isSome)).length)

/-- R412: a load takes the lowest free slot, or is refused with BUSY or STORE. -/
def State.startLoad (s : State) (l : ModelLoad) : State :=
  match s.hosting.loads.findIdx? (·.isNone) with
  | none => s.loadCode 8
  | some k =>
    if s.hosting.storeFull l.len.toNat then s.loadCode 7
    else { s with hosting := { s.hosting with loads := modifyAt s.hosting.loads k fun _ => some l } }

/-- A model of 1 to 2^32 octets (R436). -/
def modelSizeOk (n : Nat) : Bool := decide (1 ≤ n) && decide (n ≤ 2 ^ 32)

/-- The effect of CLEAR_MODEL_LOAD on its object, where it is accepted. -/
def State.writeClearModelLoad (addr len : BitVec 64) (s : State) : Option State :=
  if s.sessionOpen ∧ modelSizeOk len.toNat = true then some (s.startLoad { bound := false, addr := addr, len := len }) else none

/-- CLEAR_MODEL_LOAD: OD 0x5100.01 (R408, R412, R504). -/
def execClearModelLoad (ch : Channel) (addr len : BitVec 64) (s : State) : Host.Outcome State Fault Refusal :=
  .next (s.odRow ch 0x5100 1 .host fun s => s.writeClearModelLoad addr len)

/-- R409: recipients and content length of a header. -/
def bundleRecipients (h : Bytes) : Nat := leField h 6 2
def bundleContent (h : Bytes) : Nat := leField h 8 8

/-- Recipient entry k. -/
def recipientOf (h : Bytes) (k : Nat) : Bytes := slice h (128 + 1280 * k) 1280

/-- Check 1 of R412. -/
def bundleFormatOk (h : Bytes) (len : Nat) : Bool :=
  decide (128 ≤ h.length) && leField h 0 4 == 0x4D424E44 && leField h 4 2 == 1 && decide (1 ≤ bundleRecipients h) &&
    decide (bundleRecipients h ≤ 4096) && modelSizeOk (bundleContent h) && allZero (slice h 0x1C 4) && allZero (slice h 0x36 2) &&
    allZero (slice h 0x68 24) && h.length == 128 + 1280 * bundleRecipients h && len == h.length + bundleContent h &&
    (List.range (bundleRecipients h)).all fun k =>
      allZero (slice (recipientOf h k) 17 7) && allZero (slice (recipientOf h k) 1249 31)

/-- Check 2 of R412. -/
def bundlePolicyOk (o : Otp) (h : Bytes) : Bool :=
  ((List.range 4).all fun k => decide (leField h (0x30 + k) 1 ≤ o.svnValue k)) && bit (leField h 0x34 1) o.grade.maskBit &&
    bit (leField h 0x35 1) o.lifecycleCode

/-- A recipient entry names the current Binding key (R410, R412). -/
def State.namesBinding (s : State) (r : Bytes) : Bool := slice r 0 16 == kidOf s.keys.bindPub && leField r 16 1 == s.otp.epochValue

/-- A recipient entry names the Binding key of the previous epoch while its overlap runs (R131, R412). -/
def State.namesPrevious (s : State) (r : Bytes) : Bool :=
  s.bindingOverlapRuns && slice r 0 16 == kidOf s.keys.prevBindPub && leField r 16 1 + 1 == s.otp.epochValue

/-- Check 3 of R412, R413: the first matching entry in table order. -/
def State.bundleRecipient (s : State) (h : Bytes) : Option Bytes :=
  ((List.range (bundleRecipients h)).map (recipientOf h)).find? fun r => s.namesBinding r || s.namesPrevious r

/-- Checks 1 to 3, on the head of a bundle. -/
def State.bundleCode (s : State) (h : Bytes) (len : Nat) : Nat :=
  if !bundleFormatOk h len then 1
  else if !bundlePolicyOk s.otp h then 2
  else if (s.bundleRecipient h).isNone then 3
  else 0

/-- The header that the wrapping key and the GCM tag are bound to: TAG set to zero (R411). -/
def boundHeader (h : Bytes) : Bytes := slice h 0 0x20 ++ List.replicate 16 0 ++ slice h 0x30 80

/-- R411: the wrapping key. -/
def wrappingKey (z k header kid : Bytes) : Bytes := kdf (z ++ k) (ascii "U1200-BUNDLE") (digestBytes (sha384 header) ++ kid) 32

/-- The Binding seeds an entry is for: P-384, then ML-KEM. -/
def State.bindingFor (s : State) (r : Bytes) : Bytes × Bytes :=
  if s.namesBinding r then (s.keyOf .bindEc, s.keyOf .bindKem) else (s.keyOf .prevBindEc, s.keyOf .prevBindKem)

/-- R411, check 4 of R412: the content key of an entry; none where a step fails, and where what is unwrapped is no key of AES-256
(log 104). -/
def State.unwrapContent (s : State) (h r : Bytes) : State × Option Bytes :=
  let sd := s.bindingFor r
  let pub := slice r 24 97
  let z := s.agreeEc sd.1 pub
  let w := wrappingKey z.2 (kemDecap sd.2 (slice r 121 1088)) (boundHeader h) (slice r 0 16)
  (z.1, if (ecDecode pub).isNone then none else (kwUnwrap w (slice r 1209 40)).filter fun k => k.length == 32)

/-- R411-R413: checks 1 to 4 on a bundle's head; what passes is a load whose slot holds the content key. -/
def State.openBundle (s : State) (addr len : BitVec 64) (head : Bytes) : State × Except Nat ModelLoad :=
  match s.bundleCode head len.toNat with
  | 0 =>
    let u := s.unwrapContent head ((s.bundleRecipient head).getD [])
    match u.2 with
    | none => (u.1, .error 4)
    | some k =>
      let t := u.1.transfer k
      (t.1, .ok { bound := true, addr := addr, len := BitVec.ofNat 64 (bundleContent head), weights := digestOf (slice head 0x38 48)
                  content := some t.2, header := slice head 0 128 })
  | code => (s, .error code)

/-- A bound load whose head has been fetched, or has met a fault (R412). -/
def State.startBundle (s : State) (addr len : BitVec 64) (head : Option Bytes) : State :=
  if s.hosting.loads.all (·.isSome) then s.loadCode 8
  else if s.dmaOk = false then s.startLoad { bound := true, addr := addr, len := len }
  else match head with
    | none => s.loadCode 9
    | some h =>
      let r := s.openBundle addr len h
      match r.2 with
      | .ok l => r.1.startLoad l
      | .error code => r.1.loadCode code

/-- The effect of BOUND_BUNDLE_LOAD on its object, where it is accepted. -/
def State.writeBoundBundleLoad (addr len : BitVec 64) (head : Option Bytes) (s : State) : Option State :=
  if s.sessionOpen then some (s.startBundle addr len head) else none

/-- BOUND_BUNDLE_LOAD: OD 0x5100.02; `head` is the header with its recipients as fetched, none where that fetch meets a fault. Where the
TDI forbids DMA the load waits in its slot with nothing fetched (R402, R403, R409-R413, R504). -/
def execBoundBundleLoad (ch : Channel) (addr len : BitVec 64) (head : Option Bytes) (s : State) : Host.Outcome State Fault Refusal :=
  .next (s.odRow ch 0x5100 2 .host fun s => s.writeBoundBundleLoad addr len head)

/-- Checks 5 and 6 of R412: the plaintext, or the code. -/
def ModelLoad.decrypt (l : ModelLoad) (data : Bytes) : Except Nat Bytes :=
  let key := (l.content.map (·.key)).getD []
  if data.length ≠ l.len.toNat then .error 9
  else match gcmOpen key (slice l.header 0x10 12) (boundHeader l.header) data (slice l.header 0x20 16) with
    | none => .error 5
    | some plain => if sha384 plain = l.weights then .ok plain else .error 6

/-- The plaintext that a completed fetch gives, or the code of R412. A bundle whose head was still to be fetched takes checks 1 to 4
and STORE now. -/
def State.loadPlain (s : State) (l : ModelLoad) (r : ModelResult) : State × Except Nat Bytes :=
  if !r.fetchOk then (s, .error 9)
  else if !l.bound then (s, if r.data.length = l.len.toNat then .ok r.data else .error 9)
  else if l.content.isSome then (s, l.decrypt r.data)
  else
    let n := 128 + 1280 * bundleRecipients r.data
    let o := s.openBundle l.addr l.len (r.data.take n)
    match o.2 with
    | .error code => (o.1, .error code)
    | .ok l' => (o.1, if s.hosting.storeFull l'.len.toNat then .error 7 else l'.decrypt (r.data.drop n))

/-- R408, R414: the model is usable and listed, and MR10 extended. -/
def State.acceptModel (s : State) (l : ModelLoad) (plain : Bytes) : State :=
  let d := sha384 plain
  let s := s.extendMr 10 (eventRecord (if l.bound then 2 else 1) d s.now)
  { s with hosting := { s.hosting with models := s.hosting.models ++ [(d, plain)], loadResult := 0 } }

/-- A slot's load ends: the slot is free and its content key gone (R413), and the model is usable or the code says why not. -/
def State.endLoad (s : State) (slot : Nat) (l : ModelLoad) (r : ModelResult) : State :=
  let o := ({ s with hosting := { s.hosting with loads := modifyAt s.hosting.loads slot fun _ => none } } : State).loadPlain l r
  match o.2 with
  | .ok plain => o.1.acceptModel l plain
  | .error code => o.1.loadCode code

/-- MODEL_LOAD_COMPLETE: the fetch, decryption and digest of a slot's load end; none does while the TDI forbids DMA (R402, R403, R408,
R412-R414). -/
def execModelLoadComplete (slot : Fin 4) (r : ModelResult) (s : State) : Host.Outcome State Fault Refusal :=
  .next (match s.hosting.loads.getD slot.val none with
  | none => s
  | some l => if s.dmaOk then s.endLoad slot.val l r else s)

/-! ### Consent (R418-R424) -/

def scopeIndexOf : Scope → Nat
  | .profile => 0
  | .debug => 1
  | .vendor => 2

/-- The scope a debug condition was selected by. -/
def DebugCond.scopeIndex : DebugCond → Option Nat
  | .sealed => none
  | .profile => some 0
  | .debug => some 1
  | .vendor => some 2

def Retained.token (r : Retained) (k : Nat) : Option TokenInForce := r.tokens.getD k none

/-- R423, R424: a token stops being in force. -/
def State.endToken (s : State) (k code : Nat) : State :=
  match s.ret.token k with
  | none => s
  | some t =>
    let s := s.extendMr 12 (eventRecord code t.digest s.now)
    let s := { s with ret := { s.ret with tokens := modifyAt s.ret.tokens k fun _ => none } }
    if s.start.condition.scopeIndex = some k ∧ s.start.condition.debugClass = true ∧ s.start.debugEnd = 0 then
      ({ s with start := { s.start with debugEnd := 1 } } : State).settleDebug
    else s

/-- The effect of CONSENT_KEY_WRITE on its object, where it is accepted. -/
def State.writeConsentKeyWrite (d : Digest) (s : State) : Option State :=
  let old := s.ret.tenantKey
  let s := { s with ret := { s.ret with tenantKey := d } }
  some (if old = d then s else ((s.endToken 0 3).endToken 1 3).endToken 2 3)

/-- CONSENT_KEY_WRITE: OD 0x2050.01; a new value withdraws every token in force (R418, R423, R424). -/
def execConsentKeyWrite (ch : Channel) (d : Digest) (s : State) : Host.Outcome State Fault Refusal :=
  .next (s.odRow ch 0x2050 1 .cust fun s => s.writeConsentKeyWrite d)

/-- A Vendor-Service session that a Custodian has co-signed (R419, R483). -/
def State.vendorChannel (s : State) : Channel → Bool
  | .causeway i => (s.causeway.session i.val).role == .vendorService && s.cosigned i.val
  | _ => false

def thirtyDaysNs : Nat := 30 * dayNs

/-- R420: the first failing check of a token; 0 accepts. -/
def State.tokenCode (s : State) (ch : Channel) (t : ConsentToken) : Nat :=
  if !t.wellFormed || t.keyDigest != s.ret.tenantKey then 1
  else if !t.sigOk then 2
  else if t.serial ≠ s.otp.serial then 3
  else if s.now < t.notBefore ∨ t.expiry ≤ s.now ∨ thirtyDaysNs < t.expiry - t.notBefore then 4
  else if t.seq.toNat ≤ s.ret.tokenSeq then 5
  else if t.scope = .vendor ∧ (s.otp.vendorDebug = false ∨ s.vendorChannel ch = false) then 6
  else 0

/-- R420, R421: a token is accepted in the place of the earlier one of its scope. -/
def State.acceptToken (s : State) (t : ConsentToken) : State :=
  let d := sha384 t.raw
  let s := s.extendMr 12 (eventRecord 1 d s.now)
  { s with
    ret := { s.ret with tokenSeq := t.seq.toNat, tokens := modifyAt s.ret.tokens (scopeIndexOf t.scope) fun _ => some ⟨t.seq.toNat, t.expiry, d⟩ }
    hosting := { s.hosting with tokenResult := 0 } }

/-- The effect of CONSENT_TOKEN_SUBMIT on its object, where it is accepted. -/
def State.writeConsentTokenSubmit (ch : Channel) (t : ConsentToken) (s : State) : Option State :=
  if 8192 < t.raw.length then none
  else match s.tokenCode ch t with
    | 0 => some (s.acceptToken t)
    | code => some { s with hosting := { s.hosting with tokenResult := code } }

/-- CONSENT_TOKEN_SUBMIT: OD 0x2050.02 (R419-R422). -/
def execConsentTokenSubmit (ch : Channel) (t : ConsentToken) (s : State) : Host.Outcome State Fault Refusal :=
  .next (s.odRow ch 0x2050 2 ⟨true, false, false, true, true⟩ fun s => s.writeConsentTokenSubmit ch t)

/-- CONSENT_TOKEN_EXPIRY: device time has reached the expiry of a scope's token (R423, R424). -/
def execConsentTokenExpiry (sc : Scope) (s : State) : Host.Outcome State Fault Refusal :=
  .next (match s.ret.token (scopeIndexOf sc) with
  | some t => if t.expiry ≤ s.now then s.endToken (scopeIndexOf sc) 2 else s
  | none => s)

/-- The effect of CONSENT_WITHDRAW on its object, where it is accepted. -/
def State.writeConsentWithdraw (v : Byte) (s : State) : Option State :=
  if 1 ≤ v.toNat ∧ v.toNat ≤ 3 ∧ (s.ret.token (v.toNat - 1)).isSome = true then some (s.endToken (v.toNat - 1) 3) else none

/-- CONSENT_WITHDRAW: OD 0x2050.06; a scope code with no token in force follows R485 (R423, R424; log 57). -/
def execConsentWithdraw (ch : Channel) (v : Byte) (s : State) : Host.Outcome State Fault Refusal :=
  .next (s.odRow ch 0x2050 6 .hCu fun s => s.writeConsentWithdraw v)

/-! ### Regions (R426-R434, R583) -/

def Retained.region (r : Retained) (k : Nat) : Region := SMap.get {} r.regions k

def Retained.setRegion (r : Retained) (k : Nat) (x : Region) : Retained := { r with regions := SMap.set {} r.regions k x }

def State.regionCode (s : State) (code : Nat) : State := { s with hosting := { s.hosting with regionResult := code } }

/-- MiB a stack gives to regions: between 1 and its 24 GiB (log 56). -/
def regionSpace : Nat := 1 + Config.regionSpace % 24576

/-- Space of a stack that is not FREE, as base and size. -/
def Retained.taken (r : Retained) (stack : Nat) : List (Nat × Nat) :=
  (r.regions.filter fun e => e.2.state != .free && e.2.stack == stack).map fun e => (e.2.base, e.2.size)

/-- FREE space of `size` MiB at `base`. -/
def Retained.fits (r : Retained) (stack base size : Nat) : Bool :=
  decide (base + size ≤ regionSpace) && (r.taken stack).all fun t => decide (base + size ≤ t.1) || decide (t.1 + t.2 ≤ base)

/-- Where an allocation goes: any FREE space (R432); a free value picks among it, the lowest otherwise (log 56). -/
def State.placeRegion (s : State) (stack size : Nat) : Option Nat :=
  ([Config.regionBase s.draws, 0] ++ ((s.ret.taken stack).map fun t => t.1 + t.2)).find? fun b => s.ret.fits stack b size

/-- R431, R432: FREE space is taken, or the result code says why not. -/
def State.allocate (s : State) (k stack size : Nat) : State :=
  if (s.ret.region k).state ≠ .free then s.regionCode 2
  else if s.ret.stackScrub.getLsbD stack then s.regionCode 1
  else match s.placeRegion stack size with
    | none => s.regionCode 1
    | some b => (({ s with ret := s.ret.setRegion k ⟨stack, b, size, .allocated, 0⟩ } : State).regionCode 0).drawn

/-- The effect of REGION_ALLOCATE on its object, where it is accepted. -/
def State.writeRegionAllocate (region : BitVec 16) (stack : Byte) (size : BitVec 32) (s : State) : Option State :=
  if s.sessionOpen ∧ region.toNat < 1024 ∧ stack.toNat < 12 ∧ 1 ≤ size.toNat then
    some (s.allocate region.toNat stack.toNat size.toNat)
  else none

/-- REGION_ALLOCATE: OD 0x5000.01 (R431, R432, R436, R504). -/
def execRegionAllocate (ch : Channel) (region : BitVec 16) (stack : Byte) (size : BitVec 32) (s : State) : Host.Outcome State Fault Refusal :=
  .next (s.odRow ch 0x5000 1 .hOpCu fun s => s.writeRegionAllocate region stack size)

/-- R432: the running or the staged plan names a region. -/
def State.regionNamed (s : State) (k : Nat) : Bool :=
  let names (p : PlanInfo) : Bool := p.regions.any fun e => e.region == k
  (s.fabric.plan.map names).getD false || ((s.fabric.staged.bind (·.info)).map names).getD false

/-- R432. -/
def State.freeRegion (s : State) (k : Nat) : State :=
  if s.regionNamed k then s.regionCode 3
  else if (s.ret.region k).state ≠ .allocated then s.regionCode 2
  else ({ s with ret := s.ret.setRegion k (s.ret.region k).scrub } : State).regionCode 0

/-- The effect of REGION_FREE on its object, where it is accepted. -/
def State.writeRegionFree (region : BitVec 16) (s : State) : Option State :=
  if region.toNat < 1024 then some (s.freeRegion region.toNat) else none

/-- REGION_FREE: OD 0x5000.05 (R432). -/
def execRegionFree (ch : Channel) (region : BitVec 16) (s : State) : Host.Outcome State Fault Refusal :=
  .next (s.odRow ch 0x5000 5 .hOpCu fun s => s.writeRegionFree region)

/-- The effect of SCRUB_SUSPEND on its object, where it is accepted. -/
def State.writeScrubSuspend (region : BitVec 16) (s : State) : Option State :=
  let x := s.ret.region region.toNat
  if x.state = .scrubbing then
    some (({ s with ret := s.ret.setRegion region.toNat { x with state := .suspended } } : State).darkenRegion region.toNat)
  else none

/-- SCRUB_SUSPEND: OD 0x5010.01 (R429, R433). -/
def execScrubSuspend (ch : Channel) (region : BitVec 16) (s : State) : Host.Outcome State Fault Refusal :=
  .next (s.odRow ch 0x5010 1 .cust fun s => s.writeScrubSuspend region)

/-- The effect of SCRUB_RESUME on its object, where it is accepted. -/
def State.writeScrubResume (region : BitVec 16) (s : State) : Option State :=
  let x := s.ret.region region.toNat
  if x.state = .suspended ∨ x.state = .dark then some { s with ret := s.ret.setRegion region.toNat { x with state := .scrubbing } }
  else none

/-- SCRUB_RESUME: OD 0x5010.02; from its recorded progress (R429, R430). -/
def execScrubResume (ch : Channel) (region : BitVec 16) (s : State) : Host.Outcome State Fault Refusal :=
  .next (s.odRow ch 0x5010 2 .cust fun s => s.writeScrubResume region)

/-- A line of the HBM map lies in a range of a stack. -/
def inStack (stack base lines : Nat) (key : Nat) : Bool :=
  decide (stack * 2 ^ 29 + base ≤ key) && decide (key < stack * 2 ^ 29 + base + lines)

/-- R427: zeros, clean ECC and clear tags: the lines read as unlisted ones. -/
def Fabric.zeroLines (f : Fabric) (stack base lines : Nat) : Fabric :=
  { f with hbm := f.hbm.filter fun e => !inStack stack base lines e.1 }

/-- Index of a store in `Retained.stores`. -/
def storeIndex : ScrubTarget → Nat
  | .modelStore => 0
  | .shoalStore => 1
  | .planStaging => 2
  | _ => 3

/-- The engine that scrubs a stack runs: training is over and the die is online. -/
def State.scrubs? (s : State) (stack : Nat) : Bool := s.up && (s.fabric.die stack).online

/-- A scrub ends (R426, R427, R431, R505). -/
def State.endScrub (s : State) : ScrubTarget → State
  | .region r =>
    let x := s.ret.region r.val
    if x.state = .scrubbing ∧ s.scrubs? x.stack = true then
      { s with ret := s.ret.setRegion r.val {}, fabric := s.fabric.zeroLines x.stack (x.base * 16384) (x.size * 16384) }
    else s
  | .stack i =>
    if s.ret.stackScrub.getLsbD i.val ∧ s.scrubs? i.val = true then
      { s with ret := { s.ret with stackScrub := s.ret.stackScrub &&& ~~~(BitVec.ofNat 12 (2 ^ i.val)) }
               fabric := s.fabric.zeroLines i.val 0 (2 ^ 29) }
    else s
  | t =>
    if (s.ret.stores.getD (storeIndex t) {}).state = .scrubbing ∧ s.up = true then
      ({ s with ret := { s.ret with stores := modifyAt s.ret.stores (storeIndex t) fun _ => {} } } : State).settleClosed
    else s

/-- SCRUB_COMPLETE (R426, R427, R431, R505). -/
def execScrubComplete (t : ScrubTarget) (s : State) : Host.Outcome State Fault Refusal := .next (s.endScrub t)

/-- The record of a scrub that failed (R583, R602). -/
def State.scrubFault (s : State) (stack region mib : Nat) : State :=
  s.fault { code := 0x0F, unit := stack, a := region, b := mib, time := s.now }

/-- R583: a line fails readback after three rewrites: the scrub ends and its space reads DARK. -/
def State.failScrub (s : State) (mib : Nat) : ScrubTarget → State
  | .region r =>
    let x := s.ret.region r.val
    if x.state = .scrubbing then
      (({ s with ret := s.ret.setRegion r.val { x with state := .dark, progress := mib } } : State).scrubFault x.stack r.val mib).darkenRegion
        r.val
    else s
  | .stack i => if s.ret.stackScrub.getLsbD i.val then s.scrubFault i.val 0xFFFF mib else s
  | t =>
    let x := s.ret.stores.getD (storeIndex t) {}
    if x.state = .scrubbing then
      ({ s with ret := { s.ret with stores := modifyAt s.ret.stores (storeIndex t) fun x => { x with state := .dark, progress := mib } } } :
        State).scrubFault 0xFFFF 0xFFFF mib
    else s

/-- SCRUB_READBACK_FAIL (R583, R602). -/
def execScrubReadbackFail (t : ScrubTarget) (mib : Nat) (s : State) : Host.Outcome State Fault Refusal := .next (s.failScrub mib t)

end Sys2Proof.Machine
end

