-- ==== Sys2Proof/Machine/LeaseRows.lean ====
section
/-! DEFINITION. Leases: what a lapse and a revocation do to each resource (R584-R589, R495, R434, R165, R600, R601). -/

namespace Sys2Proof.Machine

/-- The lease record of R586: row of R600, instance, 1 lapse or 2 revocation. -/
def leaseRecord (row inst how time : Nat) : FaultRec := { code := 7, unit := row, a := inst, b := how, time := time }

def State.countLease (s : State) (k : Nat) : State := { s with faults := { s.faults with leaseEnds := bumpAt s.faults.leaseEnds k } }

/-- R495: the open write is not applied and the lock is free. -/
def State.breakLock (s : State) : State :=
  match s.od.lock with
  | none => s
  | some (ch, _) =>
    let od := s.od.closeTransfer (channelIndex ch)
    { s with od := { od with
        lock := none, lockEnds := bump od.lockEnds,
        channels := modifyAt od.channels (channelIndex ch) fun c =>
          { c with expiredXid := (s.od.channel ch).opened.map (·.xid) } } }

/-- R589: the pending epoch's slots are cleared, the current epoch stays. -/
def Port.dropExchange (p : Port) : Port := { p with agreement := none, nextTx := none, nextRx := none }

/-- R165: the context is cleared and its job ends with ERR_LEASE; a yielded LONG resumes behind a SHORT that ends. -/
def Engines.endBnLease (e : Engines) (c : BnCtx) (v : BnEnv) : Engines :=
  let e := { e.modCtx c fun _ => BnContext.cleared 0x0E with bnLeaseEnds := bump e.bnLeaseEnds }
  let e := if c = .long then { e with longYielded := false } else e
  if e.bnRunning = some c then e.settle c v
  else if e.bnRunning = some .long ∧ e.short.queue = [] then
    (e.runLong e.long e.longDone ⟨e.longQuantum, v.now⟩).settle .long v
  else e

/-- A scrub of a stack is under way. -/
def State.scrubs (s : State) (stack : Nat) : Bool :=
  s.ret.stackScrub.getLsbD stack || s.ret.regions.any fun e => e.2.stack == stack && e.2.state == .scrubbing

/-- The lease is held. -/
def State.leaseHeld (s : State) : Lease → Bool
  | .regulator i => (s.power.governors.getD (if i.val = 12 then 0 else i.val + 1) {}).state == .running
  | .odLock => s.od.lock.isSome
  | .spanFences => s.straits.spanFences
  | .scrub i => s.scrubs i.val
  | .strait i => (s.straits.ports.getD i.val {}).state == .up && (s.straits.ports.getD i.val {}).agreement.isSome
  | .bignum c => (s.engines.ctx c).job || !(s.engines.ctx c).queue.isEmpty

/-- The action of the lease table, the counter and the record (R586, R600). -/
def State.endLease (s : State) (l : Lease) (how : Nat) : State :=
  match l with
  | .regulator i => (s.countLease 0).fault (leaseRecord 1 i.val how s.now)
  | .odLock => if how = 1 then s.breakLock else s.breakLock.fault (leaseRecord 2 0 how s.now)
  | .spanFences =>
    let s := { s with straits := { s.straits with spanFences := false } }
    (s.countLease 1).fault (leaseRecord 3 0 how s.now)
  | .scrub i => (s.countLease 2).fault (leaseRecord 4 i.val how s.now)
  | .strait i =>
    let s := { s with straits := { s.straits with ports := modifyAt s.straits.ports i.val Port.dropExchange } }
    (s.countLease 3).fault (leaseRecord 5 i.val how s.now)
  | .bignum c =>
    let s := { s with engines := s.engines.endBnLease c s.bnEnv }
    s.fault (leaseRecord 6 (if c = .long then 0 else 1) how s.now)

/-- The timer of a big-number lease is suspended while the context is yielded (R165). -/
def State.leaseSuspended (s : State) : Lease → Bool
  | .bignum .long => s.engines.longYielded
  | _ => false

/-- R584, R600: the timebase counts at which a lease's timer last restarted; one for each neighbour of the time tree. The scrub of a MiB
is no command of the block: its timer runs out when the command says so (log 105). -/
def State.leaseRestarts (s : State) : Lease → List Nat
  | .regulator i => [(s.power.governors.getD (if i.val = 12 then 0 else i.val + 1) {}).commandAt]
  | .odLock => (s.od.lock.bind fun l => (s.od.channel l.1).opened).toList.map (·.lastTu)
  | .spanFences => s.treePorts.map fun p => (s.straits.port p).heardAt
  | .scrub _ => [0]
  | .strait i => [(s.straits.port i.val).agreedAt]
  | .bignum c => [(s.engines.ctx c).lastDone]

/-- The length of a lease (R600). -/
def State.leaseLength (s : State) : Lease → Nat
  | .regulator _ => s.ret.leaseLen.getD 0 10
  | .odLock => s.ret.lockLease
  | .spanFences => s.ret.leaseLen.getD 1 10
  | .scrub _ => s.ret.leaseLen.getD 2 10
  | .strait _ => s.ret.leaseLen.getD 3 10
  | .bignum _ => s.ret.leaseLen.getD 4 10

/-- A timer of the lease has run out. -/
def State.leaseOver (s : State) (l : Lease) : Bool :=
  (s.leaseRestarts l).any fun t => decide (t + s.leaseLength l * 1000000 ≤ s.clock.count)

/-- LEASE_LAPSE: the holder's timer has run out (R584, R586). -/
def execLeaseLapse (l : Lease) (s : State) : Host.Outcome State Fault Refusal :=
  .next (if s.leaseHeld l && !s.leaseSuspended l && s.leaseOver l then s.endLease l 1 else s)

/-- The revoke object of a lease (R600). -/
def revokeObject : Lease → Nat × Nat
  | .regulator _ => (0x3060, 3)
  | .odLock => (0x1420, 4)
  | .spanFences => (0x5450, 3)
  | .scrub _ => (0x5020, 3)
  | .strait _ => (0x7050, 3)
  | .bignum _ => (0x2032, 8)

/-- The revocation of the write lock does not itself wait for the lock (R494, R495; log 17). -/
def State.revokeBy (s : State) (ch : Channel) (l : Lease) : State :=
  let o := revokeObject l
  let f (s : State) : Option State := some (if s.leaseHeld l then s.endLease l 2 else s)
  match l with
  | .odLock =>
    if s.channelUp ch && !s.notYet o.1 o.2 then
      if s.mayWrite ch o.1 o.2 .cust then (s.applyWrite o.1 o.2 f).1 else s.violate ch o.1 o.2 2
    else s
  | _ => s.odRow ch o.1 o.2 .cust f

/-- LEASE_REVOKE: by the Skerry itself, or by a Custodian's write to the revoke object (R585, R601). -/
def execLeaseRevoke (by_ : Option Channel) (l : Lease) (s : State) : Host.Outcome State Fault Refusal :=
  .next (match by_ with
  | none => if s.leaseHeld l then s.endLease l 2 else s
  | some ch => s.revokeBy ch l)

end Sys2Proof.Machine
end

