-- ==== Sys2Proof/Machine/OdTable.lean ====
section
/-! DEFINITION. The catalogue of the object dictionary: which objects exist and who may read and write them (16, R474, R484,
R510, R511, and the object tables of every chapter). -/

namespace Sys2Proof.Machine

/-- Sub-indices `lo` to `hi` of an index, with their rights. -/
structure OdEntry where
  index : Nat
  lo : Nat
  hi : Nat
  read : Rights
  write : Rights
  deriving DecidableEq, Repr

/-- Objects that every reader reads and nobody writes. -/
def ro (index lo hi : Nat) : OdEntry := ⟨index, lo, hi, .all, .nobody⟩

/-- Objects that every reader reads, with a write right. -/
def rw (index lo hi : Nat) (w : Rights) : OdEntry := ⟨index, lo, hi, .all, w⟩

/-- Command objects: nobody reads them. -/
def wo (index lo hi : Nat) (w : Rights) : OdEntry := ⟨index, lo, hi, .nobody, w⟩

/-- One index for each compute die. -/
def perDie (base hi : Nat) : List OdEntry := (List.range 12).map fun n => ro (base + n) 1 hi

/-- R2, R510, R529. -/
def odIdentity : List OdEntry :=
  [ro 0x1000 1 3, ro 0x1001 1 3, ro 0x1002 1 3, wo 0x1400 1 1 .hCu, ro 0x1400 2 5, ro 0x1420 1 1, rw 0x1420 2 2 .cust,
   ro 0x1420 3 3, wo 0x1420 4 4 .cust, ro 0x1430 1 9, ⟨0x1F40, 1, 3, .aud, .nobody⟩, ro 0x1F41 1 2]

/-- R106, R565. -/
def odSkerry : List OdEntry :=
  [ro 0x2001 1 1, ro 0x2002 1 3, ro 0x2003 1 1, rw 0x2003 2 2 .cust, wo 0x2003 3 3 .aud, ro 0x2004 1 4, wo 0x2004 5 5 .cust,
   ro 0x2005 1 2, wo 0x2006 1 1 .hOpCu, ro 0x2007 1 3, wo 0x2010 1 1 .host, ro 0x2010 2 2]

/-- R140, R177, R600. -/
def odKeys : List OdEntry :=
  [rw 0x2020 1 1 .cust, ro 0x2020 2 2, ro 0x2021 1 2, ro 0x2022 1 1, rw 0x2022 2 2 .hOpCu, ro 0x2023 1 4, wo 0x2023 5 5 .hOpCu,
   rw 0x2023 6 6 .cust, ro 0x2023 7 7, ro 0x2024 1 3, rw 0x2024 4 4 .cust, wo 0x2024 5 5 .cust, ro 0x2025 1 1, rw 0x2025 2 2 .cust,
   ro 0x2026 1 1, ro 0x2030 1 3, ro 0x2031 1 5, rw 0x2032 1 1 .cust, ro 0x2032 2 5, ⟨0x2032, 6, 6, .aud, .nobody⟩,
   rw 0x2032 7 7 .cust, wo 0x2032 8 8 .cust]

/-- R396, R437, R604. -/
def odEvidence : List OdEntry :=
  [wo 0x2040 1 1 .all, ro 0x2040 2 2, wo 0x2041 1 1 .hOpCu, ro 0x2042 1 32, ro 0x2043 1 2, rw 0x2044 1 2 .hOpCu, wo 0x2044 3 3 .all,
   ro 0x2045 1 3, ro 0x2046 1 3, rw 0x2050 1 1 .cust, wo 0x2050 2 2 ⟨true, false, false, true, true⟩, ro 0x2050 3 4, wo 0x2050 6 6 .hCu,
   ro 0x2050 7 7, ro 0x2060 1 3, ro 0x2070 1 3]

/-- R71, R552, R600. -/
def odPower : List OdEntry :=
  [ro 0x3000 1 1, rw 0x3001 1 1 .hOpCu, ro 0x3010 1 1, ro 0x3011 1 13, rw 0x3020 1 2 .hOpCu, ro 0x3021 1 12, ro 0x3030 1 13,
   ro 0x3031 1 13, ro 0x3040 1 12, ro 0x3041 1 13, ro 0x3042 1 1, rw 0x3050 1 1 .cust, rw 0x3060 1 1 .cust, ro 0x3060 2 2,
   wo 0x3060 3 3 .cust, ro 0x3410 1 12, ro 0x3411 1 12, ro 0x3412 1 1, ro 0x3413 1 12, ro 0x3420 1 13, ro 0x3430 1 13, ro 0x3431 1 13,
   ro 0x3440 1 12, ro 0x3441 1 12, ro 0x3442 1 12, ro 0x3443 1 2, ro 0x3450 1 13, ro 0x3460 1 12]

/-- R49, R71, R220, R241, R270, R302. -/
def odCompute : List OdEntry :=
  [ro 0x4001 1 12, ro 0x4002 1 1] ++ perDie 0x4010 100 ++ perDie 0x4030 104 ++ perDie 0x4050 104 ++
  [rw 0x4080 1 1 .hOpCu, ro 0x4090 1 12, ro 0x4091 1 12, ro 0x4092 1 12, ro 0x4093 1 12, ro 0x4094 1 12, ro 0x40A0 1 12, ro 0x40B0 1 12,
   ro 0x40B1 1 12, ro 0x40B2 1 12, ro 0x40B3 1 12, ro 0x40B4 1 12, wo 0x4100 1 1 .host, wo 0x4100 2 2 .hOpCu, rw 0x4100 3 3 .hOpCu,
   ro 0x4101 1 3, ro 0x4102 1 2, ro 0x4103 1 3, rw 0x4104 1 1 .hOpCu, ro 0x4105 1 7, ro 0x4106 1 2, ro 0x4107 1 1, rw 0x4108 1 1 .hOpCu,
   ro 0x4108 2 2]

/-- R32, R337, R365, R437, R600, R604. -/
def odMemory : List OdEntry :=
  [wo 0x5000 1 1 .hOpCu, rw 0x5000 2 2 .hOpCu, ro 0x5000 3 4, wo 0x5000 5 5 .hOpCu, wo 0x5010 1 2 .cust, ro 0x5010 3 3, rw 0x5020 1 1 .cust,
   ro 0x5020 2 2, wo 0x5020 3 3 .cust, ro 0x5030 1 12, wo 0x5100 1 2 .host, ro 0x5100 3 4, rw 0x5410 1 2 .hOpCu, ro 0x5410 3 4,
   wo 0x5420 1 1 .host, rw 0x5420 2 2 .hOpCu, ro 0x5420 3 3, rw 0x5430 1 1 .host, ro 0x5440 1 5, ro 0x5441 1 3, ro 0x5442 1 3,
   ro 0x5443 1 2, rw 0x5443 3 3 .host, rw 0x5450 1 1 .cust, ro 0x5450 2 2, wo 0x5450 3 3 .cust, ro 0x6000 1 12, wo 0x6001 1 1 .host,
   ro 0x6001 2 2, wo 0x6002 1 1 .host, ro 0x6002 2 3, ro 0x6010 1 1, ro 0x6020 1 12, ro 0x6021 1 12, ro 0x6022 1 12, ro 0x6023 1 12,
   ro 0x6024 1 12, ro 0x6025 1 12, ro 0x6026 1 1, ro 0x6030 1 1]

/-- R472, R529, R600. -/
def odLinks : List OdEntry :=
  [rw 0x7001 1 1 .hOpCu, rw 0x7002 1 1 .cust, rw 0x7010 1 12 .hOpCu, ro 0x7011 1 12, ro 0x7012 1 12, ro 0x7013 1 12, ro 0x7020 1 12,
   ro 0x7021 1 12, ro 0x7023 1 12, ro 0x7030 1 2, rw 0x7050 1 1 .cust, ro 0x7050 2 2, wo 0x7050 3 3 .cust, ro 0x7400 1 2, ro 0x7401 1 2,
   rw 0x7410 1 1 .cust, wo 0x7410 2 2 .aud, ro 0x7410 3 3, rw 0x7420 1 1 .hOpCu, ro 0x7420 2 2, ro 0x7421 2 2, rw 0x7430 1 6 .opCu,
   ro 0x7440 1 3, rw 0x7800 1 5 .opCu, ro 0x7801 1 1, rw 0x7802 1 1 .cust, ro 0x7810 1 2, rw 0x7820 1 1 .cust, rw 0x7830 1 1 .cust,
   ro 0x7840 1 3]

/-- Every object but the vendor diagnostics. -/
def odTable : List OdEntry :=
  odIdentity ++ odSkerry ++ odKeys ++ odEvidence ++ odPower ++ odCompute ++ odMemory ++ odLinks

/-- The entry of an object with a sub-index of its own. -/
def odFind (index sub : Nat) : Option OdEntry :=
  odTable.find? fun e => e.index == index && decide (e.lo ≤ sub) && decide (sub ≤ e.hi)

/-- R474: the highest sub-index in use at an index. -/
def odHighest (index : Nat) : Nat := ((odTable.filter fun e => e.index == index).map (·.hi)).foldl max 0

/-- OD 0xF000 to 0xFFFF (R484). -/
def vendorIndex (index : Nat) : Bool := decide (0xF000 ≤ index)

/-- R484: a co-signed Vendor-Service session under VENDOR-DEBUG. -/
def State.vendorReach (s : State) (ch : Channel) : Bool :=
  s.start.condition == .vendor && match ch with
    | .causeway i => (s.causeway.session i.val).role == .vendorService && s.cosigned i.val
    | _ => false

/-- Write right of a channel on an object (R478, R483, R484). Sub-index 0 is written by nobody. -/
def State.hasWrite (s : State) (ch : Channel) (index sub : Nat) : Bool :=
  if vendorIndex index then s.vendorReach ch
  else match odFind index sub with
    | some e => s.mayWrite ch index sub e.write
    | none => false

/-- Read right of a channel on an object (R474, R478, R484). -/
def State.hasRead (s : State) (ch : Channel) (index sub : Nat) : Bool :=
  if vendorIndex index then s.vendorReach ch
  else if sub = 0 then odTable.any fun e => e.index == index && s.permits ch e.read
  else match odFind index sub with
    | some e => s.permits ch e.read
    | none => false

end Sys2Proof.Machine
end

