-- ==== Sys2Proof/Machine/RingRows.lean ====
section
/-! DEFINITION. The commands of the host data path: doorbells, rings, entries, records, page requests, completions, fences,
interrupts; and the digest engine's alarm, which also strikes the inline lanes (11, 01, R154, R157). -/

namespace Sys2Proof.Machine

/-- SQ_TAIL_WRITE: BAR2 page of a ring, offset 0x000 (R294, R304, R305, R310, R401). -/
def execSqTailWrite (tee : Bool) (ring : BitVec 16) (v : BitVec 32) (s : State) : Host.Outcome State Fault Refusal :=
  .next (s.mmio tee fun s => s.sqTail ring.toNat v.toNat)

/-- CQ_HEAD_WRITE: offset 0x004 (R304, R305, R325, R326, R401). -/
def execCqHeadWrite (tee : Bool) (ring : BitVec 16) (v : BitVec 32) (s : State) : Host.Outcome State Fault Refusal :=
  .next (s.mmio tee fun s => s.cqHead ring.toNat v.toNat)

/-- The effect of RING_CONFIG_WRITE on its object, where it is accepted. -/
def State.writeRingConfigWrite (cfg : RingCfg) (s : State) : Option State :=
  s.configureRing cfg

/-- RING_CONFIG_WRITE: OD 0x5420.01 (R306, R307, R504). -/
def execRingConfigWrite (ch : Channel) (cfg : RingCfg) (s : State) : Host.Outcome State Fault Refusal :=
  .next (s.odRow ch 0x5420 1 .host fun s => s.writeRingConfigWrite cfg)

/-- The effect of INGEST_MODE_WRITE on its object, where it is accepted. -/
def State.writeIngestModeWrite (v : Byte) (s : State) : Option State :=
  if v.toNat < 2 then some { s with host := { s.host with mode := v.toNat } } else none

/-- INGEST_MODE_WRITE: OD 0x5410.01; it acts at the next session start (R21, R31, R32). -/
def execIngestModeWrite (ch : Channel) (v : Byte) (s : State) : Host.Outcome State Fault Refusal :=
  .next (s.odRow ch 0x5410 1 .hOpCu fun s => s.writeIngestModeWrite v)

/-- SCORE: an entry is read from the ring whose turn it is (R18-R24, R308-R312, R314, R315, R318). -/
def execScore (ring : BitVec 16) (entry : BitVec 512) (translated : Bool) (s : State) : Host.Outcome State Fault Refusal :=
  .next (if s.readsRing ring.toNat && entryIs 1 entry then
    s.readEntry ring.toNat entry fun s st e => s.accept ring.toNat st e translated
  else s)

/-- EVENTS: an entry is read from the ring whose turn it is (R18-R24, R308-R312, R314, R315, R318). -/
def execEvents (ring : BitVec 16) (entry : BitVec 512) (translated : Bool) (s : State) : Host.Outcome State Fault Refusal :=
  .next (if s.readsRing ring.toNat && entryIs 2 entry then
    s.readEntry ring.toNat entry fun s st e => s.accept ring.toNat st e translated
  else s)

/-- RESUBMIT: an entry names a parked submission, which becomes eligible again (R26-R28, R309-R313). -/
def execResubmit (ring : BitVec 16) (entry : BitVec 512) (s : State) : Host.Outcome State Fault Refusal :=
  .next (if s.readsRing ring.toNat && entryIs 3 entry then
    s.readEntry ring.toNat entry fun s st e => s.matchParked ring.toNat st e
  else s)

/-- R311: the fence of a held entry is reached. -/
def HostPath.fenceReached (h : HostPath) (r : Nat) : Bool :=
  let q := h.ring r
  match q.heldEntry with
  | some w => let e := sqEntryOf w.toNat
    q.stop == .fence && decide (e.fenceValue ≤ SMap.get 0 h.fences e.fenceId)
  | none => false

/-- FENCE_WAIT_RELEASE: the ring is read on from its held entry (R311). -/
def execFenceWaitRelease (ring : BitVec 16) (s : State) : Host.Outcome State Fault Refusal :=
  .next (if s.host.fenceReached ring.toNat then
    { s with host := s.host.modRing ring.toNat fun q => { q with stop := .none, heldEntry := none } }
  else s)

/-- A record stands in staging with its digest (R156, R316). -/
def Submission.recorded (x : Submission) (b : Bytes) : Submission :=
  { x with record := b, inputDigest := some (sha384 b), phase := .staged }

/-- RECORD_FETCH_DONE: the record is fetched and digested, and events are forwarded (R156, R158, R316, R317, R331). -/
def execRecordFetchDone (tag : BitVec 18) (record : Bytes) (s : State) : Host.Outcome State Fault Refusal :=
  .next (match s.host.sub tag.toNat with
  | some x =>
    if x.phase = .fetching ∧ s.engines.inLane tag.toNat = true ∧ record.length = x.inputLen ∧ s.dmaOk = true then
      (({ s with
          engines := s.engines.laneDone tag.toNat record.length
          host := s.host.modSub tag.toNat fun y => y.recorded record } : State).parkStaged x.stream).pump
    else s
  | none => s)

/-- R273: the plan fetch fails. -/
def State.failPlanFetch (s : State) : State :=
  match s.fabric.staged with
  | some p => if p.state = .loading then s.refusePlan 0x0E else s
  | none => s

/-- R362: the snapshot write fails. -/
def State.failSnapshot (s : State) : State := if s.shoal.image.isSome then s.endSnapshot 5 else s

/-- R318: the access whose page request succeeded is tried again. -/
def State.retryAccess (s : State) : PageOwner → State
  | .record tag =>
    match s.host.sub tag.toNat with
    | some x => if x.phase = .pageWait then s.startFetch tag.toNat x.ring else s
    | none => s
  | .output tag => { s with host := s.host.modSub tag.toNat fun x => { x with outPending := false } }
  | .plan => s
  | .snapshot => s

/-- R273, R318, R319, R362: the access whose page request failed. -/
def State.failAccess (s : State) : PageOwner → State
  | .record tag =>
    match s.host.sub tag.toNat with
    | some x => if x.phase = .pageWait then s.inputFault tag.toNat else s
    | none => s
  | .output tag => s.outputFault tag.toNat
  | .plan => s.failPlanFetch
  | .snapshot => s.failSnapshot

/-- PAGE_REQUEST_RESPONSE: a PRI response arrives (R273, R318, R319, R332, R362). -/
def execPageRequestResponse (o : PageOwner) (success : Bool) (s : State) : Host.Outcome State Fault Refusal :=
  .next (if s.host.pageOut o then
    let s := { s with host := s.host.endPage o s.clock.count }
    if success then s.retryAccess o else s.failAccess o
  else s)

/-- PRI_TIMEOUT: a page request has waited for OD 0x5443.03 (R318, R319, R332). -/
def execPriTimeout (o : PageOwner) (s : State) : Host.Outcome State Fault Refusal :=
  .next (if s.host.pageTimedOut o s.clock.count then
    ({ s with host := s.host.endPage o s.clock.count } : State).failAccess o
  else s)

/-- ATS_INVALIDATION: the translations leave the cache; the invalidation completes after the accesses issued under them (R303,
R333). -/
def execAtsInvalidation (iova : BitVec 64) (len : BitVec 64) (s : State) : Host.Outcome State Fault Refusal :=
  .next { s with host := s.host.invalidate iova.toNat len.toNat }

/-- COMPLETION_POST: output, receipt, completion, fence signal, interrupt (R319-R328, R379-R384, R389-R391). -/
def execCompletionPost (tag : BitVec 18) (tr : PostTranslation) (s : State) : Host.Outcome State Fault Refusal :=
  .next (s.post tag.toNat tr)

/-- The interval of a vector has ended. -/
def HostPath.holdoffOver (h : HostPath) (v count : Nat) : Bool := h.holding.any fun e => e.1 == v && decide (e.2 ≤ count)

/-- MSIX_HOLDOFF_EXPIRY: the interval ends and a deferred vector is raised (R327). -/
def execMsixHoldoffExpiry (vec : Fin 2048) (s : State) : Host.Outcome State Fault Refusal :=
  .next (if s.host.holdoffOver vec.val s.clock.count then
    let h := { s.host with
      holding := s.host.holding.filter fun e => e.1 != vec.val
      deferred := s.host.deferred.filter fun v => v != vec.val }
    if s.host.deferred.contains vec.val then ({ s with host := h } : State).raiseVector vec.val else { s with host := h }
  else s)

/-- R327: a vector's mask bit is cleared and what is pending is sent. -/
def State.unmask (s : State) (v : Nat) : State :=
  let h := { s.host with msix := SMap.modify (0, 0, true) s.host.msix v fun e => (e.1, e.2.1, false) }
  { s with host := h.sendPending s.dmaOk v }

/-- MSIX_VECTOR_UNMASK: the mask bit of an entry of BAR0's table is cleared and a pending interrupt is sent (R327, R401). -/
def execMsixVectorUnmask (a : MsixAccess) (s : State) : Host.Outcome State Fault Refusal :=
  .next (s.mmio a.tee fun s => s.unmask a.vec.val)

/-- FENCE_OBJECT_WRITE: BAR4, aligned 64 bits (R328, R329, R401, R453). -/
def execFenceObjectWrite (tee : Bool) (f : BitVec 12) (v : BitVec 64) (s : State) : Host.Outcome State Fault Refusal :=
  .next (s.mmio tee fun s => s.writeFence f.toNat v.toNat none)

/-- R87, R124: a set that is loading, or an update that is checked, is refused with 0x0A. -/
def State.refuseLoads (s : State) : State :=
  match s.start.load, s.start.update with
  | some _, _ => if s.start.runtime then s.refuseAfterRuntime 0x0A 11 else s.refuseSet 0x0A
  | none, some _ => { s with start := { s.start with update := none, setResult := 0x0A } }
  | none, none => s

/-- DIGEST_ALARM: the engine's own alarm, or a bus error: job channels, lanes and HMAC slots are cleared; records in a lane are
fetched again; a set being loaded is refused (R87, R154, R157, R597). -/
def execDigestAlarm (busError : Bool) (s : State) : Host.Outcome State Fault Refusal :=
  let s := { s with engines := s.engines.alarm (if busError then 5 else 6) }
  .next ((s.engines.laneBusy.filterMap id).foldl State.clearLane s).refuseLoads

end Sys2Proof.Machine
end

