-- ==== Sys2Proof/Machine/Frames.lean ====
section
/-! DEFINITION. Strait frames as a port sends them: their layout, their encryption, retransmission and acknowledgement (15,
"Frames"; R442-R445). -/

namespace Sys2Proof.Machine

/-! ### Units to send -/

/-- The first `n` entries of a list that are for port `p`, and what is left. -/
def takePort {α : Type} (p : Nat) : Nat → List (Nat × α) → List α × List (Nat × α)
  | _, [] => ([], [])
  | 0, l => ([], l)
  | n + 1, (q, x) :: l =>
    if q = p then ((x :: (takePort p n l).1), (takePort p n l).2)
    else ((takePort p (n + 1) l).1, (q, x) :: (takePort p (n + 1) l).2)

/-- A link-local unit: FINISH (2), with ALL-FINISHED marked, or FENCE (3). -/
def linkLocal (dest : Nat) (kind : Nat) (vals : List Nat) : FrameUnit :=
  ⟨BitVec.ofNat 12 dest, BitVec.ofNat 4 kind, 0, 0, Config.linkUnit kind vals⟩

/-- An IDLE unit. -/
def idleUnit : FrameUnit := ⟨0, 0, 0, 0, []⟩

/-- Units of one frame. -/
def frameUnits : Nat := 15

/-- The units that the next frame of a port carries, and the queues without them: marks, fences, then forwarded units. -/
def Straits.outUnits (x : Straits) (p dest : Nat) : List FrameUnit × Straits :=
  let m := takePort p frameUnits x.markOut
  let f := takePort p (frameUnits - m.1.length) x.fenceOut
  let u := takePort p (frameUnits - m.1.length - f.1.length) x.forwarded
  (m.1.map (fun e => linkLocal dest 2 [if e.1 then 1 else 0, e.2.1, e.2.2]) ++ f.1.map (fun e => linkLocal dest 3 [e.1, e.2]) ++ u.1,
   { x with markOut := m.2, fenceOut := f.2, forwarded := u.2 })

/-! ### The frame -/

/-- The 12 octets of a unit's descriptor. -/
def unitDesc (u : FrameUnit) : Bytes :=
  leBytes 2 (u.destModule.toNat + 4096 * u.kind.toNat) ++ leBytes 2 u.destEndpoint.toNat ++ leBytes 6 u.token.toNat ++ [0, 0]

/-- Header octets [239:0] of a DATA frame. -/
def frameHeader (counter : Nat) (mark : Bool) (units : List FrameUnit) (ack : Nat) (nak : Bool) : Bytes :=
  leBytes 8 counter ++ [if mark then 1 else 0, 1] ++ List.replicate 6 0 ++ units.flatMap unitDesc ++ leBytes 8 ack ++
    [if nak then 1 else 0] ++ List.replicate 35 0

/-- R442: the IV of a frame: port, direction (0 from the lower serial), COUNTER; integers little-endian (log 59). -/
def frameIv (p : Nat) (lower : Bool) (counter : Nat) : Bytes :=
  leBytes 2 p ++ leBytes 2 (if lower then 0 else 1) ++ leBytes 8 counter

/-- R442: a whole DATA frame: header, tag, and the encrypted flits 1 to 15. -/
def frameOctets (key iv header : Bytes) (units : List FrameUnit) : Bytes :=
  let cipher := gcmStream key iv (units.flatMap fun u => (padTo 256 u.data).take 256)
  header ++ gcmTag key iv header cipher ++ cipher

/-- The highest COUNTER received in order. -/
def Port.ack (p : Port) : Nat := p.expected - 1

/-- This device has the lower serial of a port's two. -/
def State.lowerAt (s : State) (x : Port) : Bool := (x.partner.map fun q => decide (s.otp.serial.toNat < q.2.1.toNat)).getD true

/-- R442, R443: the next new frame of a port. -/
def State.nextFrame (s : State) (p : Nat) (units : List FrameUnit) : SentFrame :=
  let x := s.straits.port p
  let u := units ++ List.replicate (frameUnits - units.length) idleUnit
  let key := (x.keyTx.map (·.key)).getD []
  { counter := x.txCounter, mark := x.txMark
    bytes := frameOctets key (frameIv p (s.lowerAt x) x.txCounter) (frameHeader x.txCounter x.txMark u x.ack x.nak) u }

/-- Largest number of frames kept for retransmission (R445, R470). -/
def frameWindow : Nat := 256

/-- R443, R445: a port at a frame slot: a frame to be sent again goes first, with its original octets; otherwise a new frame, as long as
fewer than 256 are unacknowledged (log 59). -/
def State.emitFrame (s : State) (p : Nat) : State :=
  let x := s.straits.port p
  let put (st : Straits) (y : Port) : State := { s with straits := { st with ports := modifyAt st.ports p fun _ => y } }
  match x.resend with
  | f :: rest => put s.straits { x with resend := rest, wire := f.bytes }
  | [] =>
    if frameWindow ≤ x.unacked.length then s
    else
      let u := s.straits.outUnits p ((x.partner.map (·.1)).getD 0)
      let f := s.nextFrame p u.1
      put u.2 { x with txCounter := x.txCounter + 1, unacked := x.unacked ++ [f], wire := f.bytes }

/-- Frame slots since an epoch began: one in 81.92 ns. -/
def frameSlots (ns : Nat) : Nat := ns * 100 / 8192

/-- A frame slot of a port that is UP begins in this nanosecond (15: frames flow without pause). -/
def State.frameDue (s : State) (p : Nat) : Bool :=
  let x := s.straits.port p
  x.state == .up && decide (x.epochCount < s.clock.count) &&
    decide (frameSlots (s.clock.count - 1 - x.epochCount) < frameSlots (s.clock.count - x.epochCount))

/-- Every port with a frame slot now sends. -/
def State.sendFrames (s : State) : State :=
  (List.range 12).foldl (fun s p => if s.frameDue p then s.emitFrame p else s) s

/-! ### Acknowledgement (R443-R445) -/

/-- An ACK: frames up to it are no longer kept. Frames of the epoch before precede those of this one; an ACK below them is one of this
epoch (log 59). -/
def Port.acknowledge (p : Port) (a : Nat) : Port :=
  let old := p.unacked.filter fun f => f.mark != p.txMark
  let new := p.unacked.filter fun f => f.mark == p.txMark
  let passed := old.all fun f => decide (a < f.counter)
  let keep (l : List SentFrame) : List SentFrame := if a = 0 then l else l.filter fun f => decide (a < f.counter)
  { p with unacked := if passed then keep new else keep old ++ new }

/-- A NAK: the first unacknowledged frame has failed, and it and all after it are sent again. One that comes while frames are being sent
again changes nothing (log 59). -/
def Port.nakked (p : Port) : Port :=
  match p.unacked, p.resend with
  | f :: rest, [] =>
    let l := { f with fails := f.fails + 1 } :: rest
    { p with unacked := l, resend := l }
  | _, _ => p

/-- The acknowledgement that rides on an accepted frame. -/
def Port.takeAck (p : Port) (ack : Nat) (nak : Bool) : Port :=
  let q := p.acknowledge ack
  if nak then q.nakked else q

/-- R445: one frame has failed 8 times. -/
def Port.exhausted (p : Port) : Bool := p.unacked.any fun f => decide (8 ≤ f.fails)

end Sys2Proof.Machine
end

