-- ==== Sys2Proof/Machine/StraitRows.lean ====
section
/-! DEFINITION. Strait ports, agreements, frames, marks, span fences and span time as commands (15). -/

namespace Sys2Proof.Machine

def State.modPort (s : State) (p : Nat) (f : Port → Port) : State :=
  { s with straits := { s.straits with ports := modifyAt s.straits.ports p f } }

def State.port (s : State) (p : Nat) : Port := s.straits.port p

/-! ### Agreement (R439-R441) -/

/-- The device's HELLO: serial, address, port, nonce, ephemeral keys, certificates, MR8 record. -/
def State.helloOf (s : State) (p : Nat) (ecSeed kemSeed nonce : Bytes) : Bytes :=
  Config.straitMessage 1
    [beBytes 16 s.otp.serial.toNat, leBytes 2 s.ret.moduleAddr, leBytes 1 p, nonce, ecPublic ecSeed, kemPublic kemSeed,
     s.keys.aliasCert, s.idevidCertNow, securityRecord s.otp s.start.condition]

/-- A port agrees keys for an epoch, from bring-up in AGREEING or beside an epoch in use: two ephemeral seeds and a nonce are drawn, the
seeds are held as shares, and HELLO is sent. -/
def State.agree (s : State) (p epoch : Nat) (f : Port → Port) : State :=
  let ec := (drawBytes s.draws).take 56
  let kem := drawBytes (s.draws + 1)
  let hello := s.helloOf p ec kem ((drawBytes (s.draws + 2)).take 32)
  let a := (s.generatedBy 3).transfer ec
  let b := a.1.transfer kem
  let g : Agreement :=
    { epoch := epoch, ecSeed := a.2, kemSeed := b.2, peer := none, kemToPeer := none, kemFromPeer := none, sent := hello, received := [] }
  b.1.modPort p fun x => { f x with agreement := some g, agreedAt := s.clock.count }

/-- Bring-up from agreement; its epochs count from 0 (log 58). -/
def State.bringUp (s : State) (p : Nat) : State := s.agree p 0 fun x => x.fresh .agreeing

/-- A port that may train: enabled on an online die. -/
def State.portLive (s : State) (p : Nat) : Bool := (s.fabric.die p).online && bit (s.ret.portEnable.getD p 0) 0

/-- TRAINING_DONE: TRAINING or FAULT to AGREEING (R97, R439, R445). -/
def execTrainingDone (p : Fin 12) (s : State) : Host.Outcome State Fault Refusal :=
  .next (if s.portLive p.val ∧ ((s.port p.val).state = .training ∨ (s.port p.val).state = .fault) then s.bringUp p.val else s)

/-- Octets of an MR8 record. -/
def mr8Octets (r : BitVec 32) : Bytes := leBytes 4 r.toNat

/-- The debug class an MR8 record states. -/
def recordDebugClass (r : BitVec 32) : Bool := decide (2 ≤ field r.toNat 8 8)

/-- R440: what a HELLO shows of the partner. -/
def State.acceptsPeer (s : State) (m : HelloMsg) : Bool :=
  (if s.start.condition.debugClass then m.idevidOkDebug else m.idevidOkProduction) && m.aliasOk &&
    sha384 (List.replicate 48 0 ++ mr8Octets m.mr8Record) == m.certMr.getD 8 0 && s.otp.lifecycleCode == 1 &&
    field m.mr8Record.toNat 0 8 == 1 && recordDebugClass m.mr8Record == s.start.condition.debugClass &&
    (s.ret.peerPolicy != 1 || (List.range 6).all fun k => m.certMr.getD (k + 1) 0 == s.mr (k + 1))

/-- R440: the port reads REFUSED and will retry. -/
def State.refusePort (s : State) (p : Nat) : State :=
  s.modPort p fun x => { x.fresh .refused with refusedAt := s.clock.count }

/-- The answer to a HELLO: ENCAP to the partner's key, its secret held as shares (R441). -/
def State.answerHello (s : State) (p : Nat) (a : Agreement) (m : HelloMsg) : State :=
  let e := Config.kemEncap m.kemPub ((drawBytes s.draws).take 32)
  let k := s.generated.transfer (fit 32 e.2)
  let b := { a with peer := some m, kemToPeer := some k.2, received := a.received ++ m.raw, sent := a.sent ++ Config.straitMessage 2 [e.1] }
  k.1.modPort p fun x => { x with agreement := some b, agreedAt := s.clock.count }

/-- HELLO: the partner is checked and answered with ENCAP, or refused (R440, R441). -/
def execHello (p : Fin 12) (m : HelloMsg) (s : State) : Host.Outcome State Fault Refusal :=
  .next (match (s.port p.val).agreement with
  | some a =>
    if a.peer.isSome then s
    else if s.acceptsPeer m then s.answerHello p.val a m
    else s.refusePort p.val
  | none => s)

/-- Whether this device has the lower serial. -/
def State.lower (s : State) (m : HelloMsg) : Bool := decide (s.otp.serial.toNat < m.serial.toNat)

/-- T: the digest of the agreement messages, ordered by sender serial. -/
def State.transcriptOf (s : State) (a : Agreement) (m : HelloMsg) : Digest :=
  sha384 (if s.lower m then a.sent ++ a.received else a.received ++ a.sent)

/-- The key that shares carry, if any. -/
def heldKey (k : Option MaskedKey) : Bytes := (k.map (·.key)).getD []

/-- R441: the keys of the two directions, transmit then receive, from the ECDH secret and the two ML-KEM secrets. -/
def State.linkKeys (s : State) (a : Agreement) (m : HelloMsg) (z mine : Bytes) : Bytes × Bytes :=
  let k := if s.lower m then mine ++ heldKey a.kemToPeer else heldKey a.kemToPeer ++ mine
  let dir (from_ to_ : BitVec 128) : Bytes :=
    kdf (z ++ k) (ascii "U1200-STRAIT")
      (digestBytes (s.transcriptOf a m) ++ beBytes 4 a.epoch ++ beBytes 16 from_.toNat ++ beBytes 16 to_.toNat) 32
  (dir s.otp.serial m.serial, dir m.serial s.otp.serial)

/-- ENCAP's ciphertext among the messages received. -/
def Agreement.received2 (a : Agreement) (ct : Bytes) : Agreement := { a with received := a.received ++ Config.straitMessage 2 [ct] }

/-- R441: the partner's secret, held as shares, and the direction keys of the epoch, in the port's slots of the next epoch. -/
def State.deriveLink (s : State) (p : Nat) (a : Agreement) (m : HelloMsg) (ct : Bytes) : State × Agreement :=
  let mine := kemDecap a.kemSeed.key ct
  let a := a.received2 ct
  let z := s.agreeEc a.ecSeed.key m.ecPub
  let k := z.1.linkKeys a m z.2 mine
  let held := z.1.transfer mine
  let tx := held.1.transfer k.1
  let rx := tx.1.transfer k.2
  (rx.1.modPort p fun x => { x with nextTx := some tx.2, nextRx := some rx.2 }, { a with kemFromPeer := some held.2 })

/-- R440, R441: ENCAP is opened, the keys are derived, and CONFIRM goes out over T, signed by the Alias; signatures that are not
released leave none (R172; log 102). -/
def State.encapped (s : State) (p : Nat) (a : Agreement) (m : HelloMsg) (ct : Bytes) : State :=
  let d := s.deriveLink p a m ct
  let t := digestBytes (d.1.transcriptOf d.2 m)
  let r := d.1.sign d.1.aliasSigner t t
  let b := { d.2 with confirm := match r.2 with | some sig => Config.straitMessage 3 [sig.1, sig.2] | none => [] }
  r.1.modPort p fun x => { x with agreement := some b, agreedAt := s.clock.count }

/-- ENCAP: the partner's ciphertext is opened, and CONFIRM is sent (R441). -/
def execEncap (p : Fin 12) (ct : Bytes) (s : State) : Host.Outcome State Fault Refusal :=
  .next (match (s.port p.val).agreement with
  | some a =>
    match a.peer with
    | some m => if a.kemFromPeer.isNone then s.encapped p.val a m ct else s
    | none => s
  | none => s)

/-- A port at the start of an epoch of its sender: its key of the next epoch comes into use. -/
def Port.sends (p : Port) (epoch now count : Nat) : Port :=
  { p with
    epoch := epoch, epochStart := now, epochCount := count, keyTx := p.nextTx, nextTx := none, txMark := epoch % 2 == 1, txCounter := 0,
    agreement := none, dataStopped := false }

/-- A port that comes UP with both keys. -/
def Port.up (p : Port) (m : HelloMsg) : Port :=
  { p with
    state := .up, heardAt := p.epochCount, partner := some (m.address.toNat, m.serial, m.port.toNat), keyRx := p.nextRx, rxMark := p.txMark, expected := 0,
    nak := false, framesReceived := 0, nextRx := none, unacked := [], resend := [] }

/-- R440, R441, R446: both CONFIRMs verify: the port is UP, or its sender switches to the next epoch. -/
def State.confirmed (s : State) (p : Nat) (a : Agreement) (m : HelloMsg) : State :=
  s.modPort p fun x =>
    let y := x.sends a.epoch s.now s.clock.count
    if x.state = .up then y else y.up m

/-- CONFIRM: the partner's two signatures over T (R440, R441, R446). -/
def execConfirm (p : Fin 12) (ecdsaOk mldsaOk : Bool) (s : State) : Host.Outcome State Fault Refusal :=
  .next (match (s.port p.val).agreement with
  | some a =>
    match a.peer with
    | some m =>
      if a.kemFromPeer.isNone ∨ a.confirm = [] then s
      else if ecdsaOk && mldsaOk then s.confirmed p.val a m
      else s.refusePort p.val
    | none => s
  | none => s)

/-- R440: the retry interval, 10 s. -/
def retryNs : Nat := 10000000000

/-- REFUSED_RETRY (R440). -/
def execRefusedRetry (p : Fin 12) (s : State) : Host.Outcome State Fault Refusal :=
  .next (if s.portLive p.val ∧ (s.port p.val).state = .refused ∧ (s.port p.val).refusedAt + retryNs ≤ s.clock.count then
    s.bringUp p.val
  else s)

/-! ### Epochs (R446-R448) -/

def hourNs : Nat := 3600 * 1000000000

/-- R446: 23 h, or 2^40 − 2^36 frames in either direction. -/
def Port.exchangeDue (p : Port) (count : Nat) : Bool :=
  decide (p.epochCount + 23 * hourNs ≤ count) || decide (2 ^ 40 - 2 ^ 36 ≤ p.txCounter) ||
    decide (2 ^ 40 - 2 ^ 36 ≤ p.framesReceived)

/-- R448: 24 h, or 2^40 frames. -/
def Port.boundReached (p : Port) (count : Nat) : Bool :=
  decide (p.epochCount + 24 * hourNs ≤ count) || decide (2 ^ 40 ≤ p.txCounter) || decide (2 ^ 40 ≤ p.framesReceived)

/-- EPOCH_EXCHANGE_START (R446). -/
def execEpochExchangeStart (p : Fin 12) (s : State) : Host.Outcome State Fault Refusal :=
  let x := s.port p.val
  .next (if x.state = .up ∧ x.agreement.isNone ∧ x.exchangeDue s.clock.count = true then s.agree p.val (x.epoch + 1) id else s)

/-- EPOCH_BOUND: DATA stops and bring-up is repeated from agreement (R448). -/
def execEpochBound (p : Fin 12) (s : State) : Host.Outcome State Fault Refusal :=
  let x := s.port p.val
  .next (if x.state = .up ∧ x.boundReached s.clock.count = true then
    (s.bringUp p.val).modPort p.val fun y => { y with dataStopped := true }
  else s)

/-! ### Frames (R442-R447, R449) -/

/-- R444: a frame that fails is discarded, and NAK asks for it again. -/
def Port.nakFrame (p : Port) : Port := { p with nak := true, failed := bump p.failed }

/-- R444: the frame is accepted; an acknowledgement, and a request to send again, ride on it (R443, R445). -/
def Port.acceptFrame (p : Port) (f : DataFrame) (now : Nat) : Port :=
  { p.takeAck f.ack.toNat f.nak with heardAt := now, expected := p.expected + 1, framesReceived := p.framesReceived + 1, nak := false }

/-- R447: the first frame under the next epoch verifies: the old key is retired. -/
def Port.switchRx (p : Port) (key : MaskedKey) : Port :=
  { p with keyRx := some key, nextRx := none, rxMark := !p.rxMark, expected := 0, framesReceived := 0 }

/-- The receive key of the next epoch, once both CONFIRMs have verified (R446, R447). -/
def Port.pendingRx (p : Port) : Option MaskedKey := if p.agreement.isSome then none else p.nextRx

/-- The modules' route of a unit (R449). -/
def State.route (s : State) (dest : Nat) : Option Nat :=
  match s.fabric.plan with
  | some p => if p.span.isSome then Config.spanRoute p.image dest else none
  | none => none

/-- R259, R449: one unit of a frame accepted at a port: under way to its endpoint, or on to another module. Control kinds come as commands of their own; the frame carries no CLIPPED tag (log 60). -/
def State.takeUnit (p : Nat) (s : State) (u : FrameUnit) : State :=
  if u.kind ≠ 1 then s
  else if u.destModule.toNat = s.ret.moduleAddr then
    let v : SoundUnit := ⟨u.destEndpoint, u.token, u.data, false⟩
    ({ s with fabric := { s.fabric with flight := s.fabric.flight ++ [⟨0x0B00 + p, v, false⟩] } } : State).unitArrives v
  else match s.route u.destModule.toNat with
    | some p => { s with straits := { s.straits with forwarded := s.straits.forwarded ++ [(p, u)] } }
    | none => { s with straits := { s.straits with noRoute := bump s.straits.noRoute } }

/-- An accepted frame releases its units. -/
def State.releaseFrame (s : State) (p : Nat) (f : DataFrame) : State := f.units.foldl (State.takeUnit p) (s.modPort p fun x => x.acceptFrame f s.clock.count)

/-- R444, R447: a DATA frame at a port that is UP. -/
def State.frame (s : State) (p : Nat) (f : DataFrame) : State :=
  let s := s.modPort p fun x => { x with corrected := bumpBy f.corrected x.corrected }
  let x := s.port p
  if !f.fecOk then s.modPort p Port.nakFrame
  else if f.mark = x.rxMark then
    if f.counter.toNat ≠ x.expected then s
    else if f.tagOk then s.releaseFrame p f
    else s.modPort p Port.nakFrame
  else match x.pendingRx with
    | some key =>
      if f.counter.toNat ≠ 0 then s
      else if f.tagOk then (s.modPort p fun x => x.switchRx key).releaseFrame p f
      else s.modPort p Port.nakFrame
    | none => s.modPort p fun x => { x with retired := bump x.retired }

/-- DATA_FRAME (R439, R442-R444, R447, R449, R468). -/
def execDataFrame (p : Fin 12) (f : DataFrame) (s : State) : Host.Outcome State Fault Refusal :=
  .next (if (s.port p.val).state = .up then s.frame p.val f else s)

/-- R454: a span module that is no master and whose parent's port is not UP extrapolates. -/
def State.settleSpan (s : State) : State :=
  match s.fabric.plan.bind (·.span) with
  | none => s
  | some sp =>
    match s.parentPort sp with
    | some p => if (s.port p).state = .up then s else { s with straits := { s.straits with spanState := 3 } }
    | none => s

/-- A port in FAULT: its unacknowledged frames are kept (R445). -/
def Port.failed8 (p : Port) : Port := { p.fresh .fault with unacked := p.unacked }

/-- RETRANSMISSION_EXHAUSTED: 8 failed transmissions of one frame (R445). -/
def execRetransmissionExhausted (p : Fin 12) (s : State) : Host.Outcome State Fault Refusal :=
  .next (if (s.port p.val).state = .up ∧ (s.port p.val).exhausted = true then (s.modPort p.val Port.failed8).settleSpan else s)

/-- STRAIT_LINK_LOSS: the lanes drop; the port trains again (R439, R445, R454). -/
def execStraitLinkLoss (p : Fin 12) (s : State) : Host.Outcome State Fault Refusal :=
  .next (if (s.port p.val).state = .disabled then s else (s.modPort p.val fun x => x.fresh .training).settleSpan)

/-! ### The time tree (R296, R452-R454, R588) -/

/-- A finish mark that no departure waits for any longer (OD 0x7030.02). -/
def State.lateMark (s : State) (j : Nat) : Bool :=
  match s.fabric.plan with
  | none => true
  | some p => p.span.isNone || (p.mask &&& ~~~s.fabric.halted) == 0 || (match s.fabric.allFinished with | some k => decide (j ≤ k.1) | none => false)

def State.countLate (s : State) : State := { s with straits := { s.straits with lateMarks := bump s.straits.lateMarks } }

/-- FINISH_MARK: a child's mark is held, with the latest finish of its subtree in span time (R296, R452; log 92). -/
def execFinishMark (p : Fin 12) (m : Mark) (s : State) : Host.Outcome State Fault Refusal :=
  .next (if (s.port p.val).state ≠ .up then s
  else if s.lateMark m.tide.toNat then s.countLate
  else ({ s with fabric := { s.fabric with marks := s.fabric.marks ++ [(p.val, m.tide.toNat, m.latest.toNat)] } } : State).settleMarks.settleTide)

/-- Ports to the children of a running span plan. -/
def State.kids (s : State) : List Nat :=
  match s.fabric.plan.bind (·.span) with
  | none => []
  | some sp => s.childPorts sp

/-- The parent's port is among a neighbour's pair. -/
def State.fromParent (s : State) (p : Nat) : Bool :=
  match (s.fabric.plan.bind (·.span)).bind s.parentPort with
  | some q => sameNeighbour p q
  | none => false

/-- ALL_FINISHED: every module's mark of a tide is held; it goes on down the tree, and the tide finishes (R296, R452). -/
def execAllFinished (p : Fin 12) (m : Mark) (s : State) : Host.Outcome State Fault Refusal :=
  .next (if (s.port p.val).state ≠ .up ∨ s.fromParent p.val = false then s
  else if s.lateMark m.tide.toNat then s.countLate
  else ({ s with
    fabric := { s.fabric with allFinished := some (m.tide.toNat, m.latest.toNat), marks := s.fabric.marks.filter fun k => decide (m.tide.toNat < k.2.1) }
    straits := { s.straits with markOut := s.straits.markOut ++ s.kids.map fun k => (k, true, m.tide.toNat, m.latest.toNat) } } : State).settleTide)

/-- SPAN_FENCE_UNIT: a span fence rises and goes on to the other neighbours (R328, R329, R453, R588). -/
def execSpanFenceUnit (p : Fin 12) (f : BitVec 12) (v : BitVec 64) (s : State) : Host.Outcome State Fault Refusal :=
  .next (if (s.port p.val).state = .up ∧ s.straits.spanFences = true ∧ 3072 ≤ f.toNat then s.writeFence f.toNat v.toNat (some p.val)
  else s)

/-- R454: a two-way exchange: the parent's span time less this module's timebase count. -/
def exchangeOffset (t1 t2 t3 t4 : Int) : Int := ((t2 - t1) + (t3 - t4)) / 2

/-- The exchange updates offset, rate and hops. -/
def Straits.sync (x : Straits) (offset : Int) (count hops : Nat) : Straits :=
  { x with
    prevSync := if x.spanState = 2 ∨ x.prevSync.isSome then some (x.spanOffset, x.lastSync) else none
    spanOffset := offset, lastSync := count, spanState := 2, hops := hops }

/-- What was last heard from the parent (R600). -/
def Straits.heard (x : Straits) (p : Option Nat) (count : Nat) : Straits :=
  match p with
  | some p => { x with ports := modifyAt x.ports p fun q => { q with heardAt := count } }
  | none => x

/-- R454: a port to the parent is UP. -/
def State.parentUp (s : State) (sp : SpanInfo) : Bool := (s.parentPort sp).any fun p => (s.straits.port p).state == .up

/-- SPAN_SYNC_EXCHANGE: a non-master measures its offset to its parent (R454, R468). With no port to the parent UP nothing is
exchanged, and the span time goes on from the last rate (15, Collisions). -/
def execSpanSyncExchange (t1 t2 t3 t4 : Int) (parentHops : Nat) (s : State) : Host.Outcome State Fault Refusal :=
  .next (match s.fabric.plan.bind (·.span) with
  | some sp =>
    if sp.master = s.ret.moduleAddr ∨ s.parentUp sp = false then s
    else { s with straits := (s.straits.sync (exchangeOffset t1 t2 t3 t4) s.clock.count (parentHops + 1)).heard (s.parentPort sp) s.clock.count }
  | none => s)

/-- R450: the running or the staged plan carries a span section. -/
def State.spanHeld (s : State) : Bool :=
  (s.fabric.plan.bind (·.span)).isSome || ((s.fabric.staged.bind (·.info)).bind (·.span)).isSome

/-- The effect of MODULE_ADDRESS_WRITE on its object, where it is accepted. -/
def State.writeModuleAddressWrite (v : BitVec 16) (s : State) : Option State :=
  if s.spanHeld = false ∧ (v.toNat ≤ 0xFFF ∨ v.toNat = 0xFFFF) then some { s with ret := { s.ret with moduleAddr := v.toNat } } else none

/-- MODULE_ADDRESS_WRITE: OD 0x7001.01 (R450, R472). -/
def execModuleAddressWrite (ch : Channel) (v : BitVec 16) (s : State) : Host.Outcome State Fault Refusal :=
  .next (s.odRow ch 0x7001 1 .hOpCu fun s => s.writeModuleAddressWrite v)

end Sys2Proof.Machine
end

