-- ==== Sys2Proof/Machine/TimeRows.lean ====
section
/-! DEFINITION. Device-time steps, TIME_PPS, TIME_REF and PTP as commands (15). -/

namespace Sys2Proof.Machine

/-! ### Steps (R456-R461) -/

/-- The fields of a step command (R457). -/
def stepMode (c : Bytes) : Nat := leField c 0 1
def stepValue (c : Bytes) : Nat := leField c 8 8
def stepApplyAt (c : Bytes) : Nat := leField c 16 8

/-- A command of R457: 24 octets, a listed mode, zeros. -/
def stepFormOk (c : Bytes) : Bool :=
  c.length == 24 && (stepMode c == 1 || stepMode c == 2) && allZero (slice c 1 7)

/-- R457: the 40 octets of the command record. -/
def State.stepRecord (s : State) : Bytes := s.time.command ++ beBytes 16 s.otp.serial.toNat

/-- OD 0x7410.03: 0 APPLIED, 1 PENDING, 2 LAPSED, 3 MISMATCH, 4 BACKWARD, 5 SPAN, 6 RANGE. -/
def TimeOut.endStep (t : TimeOut) (status : Nat) : TimeOut := { t with staged := false, confirmed := false, status := status }

/-- R457, R459: a staging replaces the previous one, and lapses at once when APPLY_AT is past. -/
def State.stageStep (s : State) (c : Bytes) : State :=
  let t : TimeOut := { s.time with command := c, staged := true, confirmed := false, status := 1 }
  { s with time := if stepApplyAt c ≤ s.now then t.endStep 2 else t }

/-- The effect of TIME_STEP_STAGE on its object, where it is accepted. -/
def State.writeTimeStepStage (cmd : Bytes) (s : State) : Option State :=
  if stepFormOk cmd then some (s.stageStep cmd) else none

/-- TIME_STEP_STAGE: OD 0x7410.01 (R457, R459, R472). -/
def execTimeStepStage (ch : Channel) (cmd : Bytes) (s : State) : Host.Outcome State Fault Refusal :=
  .next (s.odRow ch 0x7410 1 .cust fun s => s.writeTimeStepStage cmd)

def minuteNs : Nat := 60 * 1000000000

/-- R458, R459: what a confirmation makes of the staged step. -/
def State.confirmStep (s : State) (d : Digest) : State :=
  let a := stepApplyAt s.time.command
  if sha384 s.stepRecord ≠ d then { s with time := { s.time with status := 3 } }
  else if s.now < a ∧ a ≤ s.now + minuteNs then { s with time := { s.time with confirmed := true, status := 1 } }
  else { s with time := s.time.endStep 2 }

/-- The effect of TIME_STEP_CONFIRM on its object, where it is accepted. -/
def State.writeTimeStepConfirm (d : Digest) (s : State) : Option State :=
  if s.time.staged then some (s.confirmStep d) else none

/-- TIME_STEP_CONFIRM: OD 0x7410.02, by an Auditor (R458, R459, R472). -/
def execTimeStepConfirm (ch : Channel) (d : Digest) (s : State) : Host.Outcome State Fault Refusal :=
  .next (s.odRow ch 0x7410 2 .aud fun s => s.writeTimeStepConfirm d)

/-- R458: device time after the staged step. -/
def State.stepResult (s : State) : Int :=
  if stepMode s.time.command = 1 then (stepValue s.time.command : Int) else (s.now : Int) + signed 64 (stepValue s.time.command)

/-- R460: the code of a refused step; 0 applies. -/
def State.stepRefusal (s : State) : Nat :=
  let r := s.stepResult
  if (s.fabric.plan.bind (·.span)).isSome then 5
  else if s.od.session ≠ 0 ∧ r < (s.now : Int) then 4
  else if r < 0 ∨ (2 ^ 63 : Int) ≤ r then 6
  else 0

/-- A grid instant moved by a step. -/
def moved (delta : Int) (t : Nat) : Nat := ((t : Int) + delta).toNat

/-- R461: the running plan's grid origin and the grid points taken from it move with the step. -/
def Fabric.moveGrid (f : Fabric) (delta : Int) : Fabric :=
  { f with
    origin := moved delta f.origin
    gridNext := moved delta f.gridNext
    tide := f.tide.map fun t => { t with nextGrid := moved delta t.nextGrid }
    lastTide := f.lastTide.map fun l => (l.1, moved delta l.2.1, moved delta l.2.2) }

/-- The 65-octet record of MR13 (13). -/
def stepEvent (before after : Nat) (d : Digest) : Bytes := [1] ++ leBytes 8 before ++ leBytes 8 after ++ digestBytes d

/-- R461: the step applies. -/
def State.applyStep (s : State) : State :=
  let r := s.stepResult.toNat
  let delta := s.stepResult - (s.now : Int)
  let s := s.extendMr 13 (stepEvent s.now r (sha384 s.stepRecord))
  { s with
    clock := { s.clock with device := r }
    fabric := s.fabric.moveGrid delta
    measure := { s.measure with lastStep := r }
    ret := { s.ret with timeSet := true, timeSteps := bump32 s.ret.timeSteps }
    time := { s.time.endStep 0 with status := 0 }
    pins := { s.pins with timeRefRunning := s.pins.timeRefRunning || s.time.refState == 2 } }

/-- R423: a consent token whose expiry device time has passed. -/
def State.tokenOver (s : State) (k : Nat) : Bool :=
  match s.ret.token k with
  | some t => decide (t.expiry ≤ s.now)
  | none => false

/-- A step past a token's expiry ends the token at once (15, Collisions). -/
def State.endTokens (s : State) : State :=
  (List.range 3).foldl (fun s k => if s.tokenOver k then s.endToken k 2 else s) s

/-- TIME_STEP_APPLY: device time has reached APPLY_AT of a confirmed step (R458, R460, R461). -/
def execTimeStepApply (s : State) : Host.Outcome State Fault Refusal :=
  .next (if s.time.staged ∧ s.time.confirmed ∧ stepApplyAt s.time.command ≤ s.now then
    match s.stepRefusal with
    | 0 => s.applyStep.endTokens
    | code => { s with time := s.time.endStep code }
  else s)

/-- TIME_STEP_LAPSE: device time has reached APPLY_AT without an EQUAL confirmation (R459). -/
def execTimeStepLapse (s : State) : Host.Outcome State Fault Refusal :=
  .next (if s.time.staged ∧ s.time.confirmed = false ∧ stepApplyAt s.time.command ≤ s.now then { s with time := s.time.endStep 2 } else s)

/-! ### TIME_PPS and TIME_REF (R462-R466, R471) -/

/-- R466, R554: the time outputs serve: the time state is SET, from step 12 of a start on. -/
def State.timeServed (s : State) : Bool := s.ret.timeSet && s.start.step12 && s.start.halt == .none

/-- R462: less than 500 ms after the previous rise. -/
def TimeOut.tooSoon (t : TimeOut) (count : Nat) : Bool :=
  match t.lastPps with
  | some p => decide (count < p + 500000000)
  | none => false

/-- TIME_PPS_SECOND: a whole second of device time (R462, R466). -/
def execTimePpsSecond (s : State) : Host.Outcome State Fault Refusal :=
  .next (if s.timeServed ∧ s.now % 1000000000 = 0 ∧ s.time.lastPps ≠ some s.clock.count then
    if s.time.tooSoon s.clock.count then { s with time := { s.time with ppsOmitted := bump s.time.ppsOmitted } }
    else { s with pins := { s.pins with timePps := true }, time := { s.time with lastPps := some s.clock.count } }
  else s)

/-- R464: the output goes low and the PLL relocks; code 0x00 switches it off. -/
def State.relock (s : State) (v : Nat) : State :=
  { s with
    ret := { s.ret with timeRef := v }
    time := { s.time with refState := if v = 0 then 0 else 1, lockedAt := none }
    pins := { s.pins with timeRefRunning := false } }

/-- The effect of TIME_REF_WRITE on its object, where it is accepted. -/
def State.writeTimeRefWrite (v : Byte) (s : State) : Option State :=
  if v.toNat < 4 then some (s.relock v.toNat) else none

/-- TIME_REF_WRITE: OD 0x7420.01 (R464, R465, R471, R472). -/
def execTimeRefWrite (ch : Channel) (v : Byte) (s : State) : Host.Outcome State Fault Refusal :=
  .next (s.odRow ch 0x7420 1 .hOpCu fun s => s.writeTimeRefWrite v)

/-- TIME_REF_LOCK: the PLL locks to the new target (R471). -/
def execTimeRefLock (s : State) : Host.Outcome State Fault Refusal :=
  .next (if s.time.refState = 1 then { s with time := { s.time with lockedAt := some s.clock.count } } else s)

/-- Period of a TIME_REF code, ns. -/
def refPeriod : Nat → Nat
  | 1 => 100
  | 2 => 40
  | _ => 10

/-- R464: 32 us after the lock. -/
def State.refHeld (s : State) : Bool :=
  match s.time.lockedAt with
  | some t => s.time.refState == 1 && decide (t + 32000 ≤ s.clock.count)
  | none => false

/-- TIME_REF_RELEASE: a full rising edge on the next device-time multiple of the period (R463, R464, R466, R471). -/
def execTimeRefRelease (s : State) : Host.Outcome State Fault Refusal :=
  .next (if s.refHeld then
    let p := refPeriod s.ret.timeRef
    { s with
      time := { s.time with refState := 2, refPhase := (s.now + p - 1) / p * p }
      pins := { s.pins with timeRefRunning := s.ret.timeSet } }
  else s)

/-! ### PTP (R466-R468) -/

/-- The grandmaster sends: PTP is enabled and the time outputs serve. -/
def State.ptpServed (s : State) : Bool := s.timeServed && s.ret.ptpEnable == 1

/-- A PTP object of the set .01 to .05 of OD 0x7430. -/
def State.ptpItem (s : State) (sub : Nat) : Int := s.ret.ptp.getD (sub - 1) 0

/-- R467: the messages of the grandmaster. -/
def State.ptpSync (s : State) : PtpMessage :=
  { kind := 0x0, seq := s.time.syncSeq, domain := s.ptpItem 1, interval := s.ptpItem 4, twoStep := true }

def State.ptpFollowUp (s : State) : PtpMessage :=
  { kind := 0x8, seq := s.time.syncSeq, domain := s.ptpItem 1, interval := s.ptpItem 4, time := some s.now }

def State.ptpAnnounce (s : State) : PtpMessage :=
  { kind := 0xB, seq := s.time.announceSeq, domain := s.ptpItem 1, interval := 1, time := some s.now
    priorities := some (s.ptpItem 2, s.ptpItem 3), quality := some (13, 0xFE, 0xA0), timescale := true, utcOffset := some (s.ptpItem 5) }

def State.ptpDelayResp (s : State) (seq : Nat) : PtpMessage :=
  { kind := 0x9, seq := seq, domain := s.ptpItem 1, interval := 0, time := some s.now }

/-- SYNC: Sync, then Follow_Up with the same sequence number (R466, R467). -/
def execSync (s : State) : Host.Outcome State Fault Refusal :=
  .next (if s.ptpServed then
    { s with time := { s.time with syncSeq := (s.time.syncSeq + 1) % 65536, ptpSent := [s.ptpSync, s.ptpFollowUp] } }
  else s)

/-- ANNOUNCE (R466, R467). -/
def execAnnounce (s : State) : Host.Outcome State Fault Refusal :=
  .next (if s.ptpServed then
    { s with time := { s.time with announceSeq := (s.time.announceSeq + 1) % 65536, ptpSent := [s.ptpAnnounce] } }
  else s)

/-- DELAY_REQ: to the multicast address or the device's own, answered with Delay_Resp (R466, R467). -/
def execDelayReq (toMulticast toOwnMac : Bool) (seqId : BitVec 16) (s : State) : Host.Outcome State Fault Refusal :=
  .next (if s.ptpServed ∧ (toMulticast || toOwnMac) = true then { s with time := { s.time with ptpSent := [s.ptpDelayResp seqId.toNat] } }
  else s)

/-- FOREIGN_PTP_MESSAGE: a received Announce, Sync or Delay_Resp is ignored (R467, R468). -/
def execForeignPtpMessage (s : State) : Host.Outcome State Fault Refusal := .next s

end Sys2Proof.Machine
end

