-- ==== Sys2Proof/Machine/OdValues.lean ====
section
/-! DEFINITION. What each object of the dictionary reads, with the coarsening of R425 (16 and the object tables of every
chapter). -/

namespace Sys2Proof.Machine

def u8 (v : Nat) : Bytes := leBytes 1 v
def u16 (v : Nat) : Bytes := leBytes 2 v
def u32 (v : Nat) : Bytes := leBytes 4 v
def u64 (v : Nat) : Bytes := leBytes 8 v

/-- A truth value as 0x00 or 0x01. -/
def flag (b : Bool) : Bytes := u8 (if b then 1 else 0)

/-- R425: no coarsening while a token of any scope is in force. -/
def State.precise (s : State) : Bool := s.ret.tokens.any fun t => (liveToken t s.now).isSome

/-- R425: rounded down to a multiple of a step. -/
def stepDown (k v : Nat) : Nat := v / k * k

/-- The precise value under consent, the value of the last update point rounded otherwise. -/
def State.coarsened (s : State) (k now held : Nat) : Nat := if s.precise then now else stepDown k held

/-- The same for a signed value. -/
def State.coarsenedInt (s : State) (k : Int) (now held : Int) : Int := if s.precise then now else held / k * k

/-- The record a die had at the last update point. -/
def State.heldDie (s : State) (n : Nat) : DieCoarse := s.monitors.coarse.getD n {}

/-- R510, R2: identity objects. -/
def State.readIdentity (s : State) (index sub : Nat) : Bytes :=
  match index, sub with
  | 0x1000, 1 => beBytes 16 s.otp.serial.toNat
  | 0x1000, 2 => beBytes 16 Config.oemId.toNat
  | 0x1000, _ => fit 16 (ascii s.otp.grade.model)
  | 0x1001, 1 => u8 s.otp.grade.code
  | 0x1001, 2 => u8 0xB1
  | 0x1001, _ => u8 1
  | 0x1002, 1 => u16 1
  | 0x1002, 2 => u64 ((s.start.running.map (·.version)).getD 0)
  | 0x1002, _ => digestBytes ((s.start.running.map (·.digest)).getD 0)
  | 0x1400, 2 => u8 s.od.session
  | 0x1400, 3 => u8 s.od.owner
  | 0x1400, 4 => u8 s.od.lastCommand
  | 0x1400, _ => u64 s.ret.sessionsOpened
  | 0x1420, 1 => (match s.od.lock with | some (c, t) => u8 (planeCode c) ++ u64 t | none => u8 0 ++ u64 0)
  | 0x1420, 2 => u8 s.ret.lockLease
  | 0x1420, _ => u64 s.od.lockEnds
  | 0x1430, 1 => u8 ((s.causeway.sessions.filter fun x => x.phase == 2).length)
  | 0x1430, k =>
    let x := s.causeway.session (k - 2)
    if x.phase = 2 then u8 1 ++ u8 (roleCode (some x.role)) ++ digestBytes x.certDigest ++ u64 x.opened
    else List.replicate 58 0
  | 0x1F40, 1 => u64 s.ret.violations
  | 0x1F40, 2 =>
    let v := s.ret.lastViolation
    u8 v.plane ++ u8 v.role ++ u16 v.index ++ u8 v.sub ++ u8 v.kind ++ u64 v.time
  | 0x1F40, _ => u64 s.ret.teeRefused
  | 0x1F41, 1 => u64 s.od.ignored
  | 0x1F41, _ => u16 s.od.lastIgnored.1 ++ u8 s.od.lastIgnored.2.1 ++ u64 s.od.lastIgnored.2.2
  | _, _ => []

/-- OD 0x2007.01: bit k = OTP region k is closed; region 6 once its eight slots are. -/
def Otp.closedMask (o : Otp) : Nat := o.closed.toNat + (if o.freeSlot.isNone then 64 else 0)

/-- R106, R565: start, firmware, lifecycle, tamper. -/
def State.readSkerry (s : State) (index sub : Nat) : Bytes :=
  match index, sub with
  | 0x2001, _ => u8 s.start.phase.code
  | 0x2002, 1 => u8 s.start.setResult
  | 0x2002, 2 => u64 s.ret.setsRefused
  | 0x2002, _ => u8 s.ret.failure.code ++ u8 s.ret.failure.step ++ u64 s.ret.failure.time
  | 0x2003, 1 => u8 s.otp.lifecycleCode
  | 0x2003, _ => u8 ((s.faults.lifecycleStaged.map (·.1)).getD 0)
  | 0x2004, k => u8 (s.otp.svnValue (k - 1))
  | 0x2005, 1 => u8 s.ret.tamper.mask.toNat ++ u8 s.ret.tamper.level ++ u64 s.ret.tamper.time
  | 0x2005, _ => (List.range 6).flatMap fun k => u8 (s.otp.tamperLevel k)
  | 0x2007, 1 => u8 s.otp.closedMask
  | 0x2007, 2 => u32 s.start.eccCorrections
  | 0x2007, _ => u8 s.start.pufAttempts
  | 0x2010, _ => u8 s.start.source
  | _, _ => []

/-- R140, R177, R600: keys and engines. -/
def State.readKeys (s : State) (index sub : Nat) : Bytes :=
  match index, sub with
  | 0x2020, 1 => u16 s.ret.remaskPeriod
  | 0x2020, _ => u64 s.keys.remaskPasses
  | 0x2021, 1 => u8 s.keys.root.code
  | 0x2021, _ => flag s.keys.identityFault
  | 0x2022, 1 => fit 2049 s.keys.idevidPub
  | 0x2022, _ => s.ret.idevidCopy
  | 0x2023, 1 => fit 2049 s.keys.aliasPub
  | 0x2023, 2 => s.keys.aliasCert
  | 0x2023, 3 => fit 2049 (s.ret.pendingAlias.getD [])
  | 0x2023, 4 => flag s.ret.pendingAlias.isSome
  | 0x2023, 6 => u8 s.ret.aliasOverlap
  | 0x2023, _ => u64 s.ret.commitTime
  | 0x2024, 1 => u8 s.otp.epochValue
  | 0x2024, 2 => fit 1281 s.keys.bindPub
  | 0x2024, 3 => fit 1281 s.keys.prevBindPub
  | 0x2024, _ => u8 s.ret.bindingOverlap
  | 0x2025, 1 => u8 s.otp.activeSlot
  | 0x2025, _ => u8 s.ret.caOverlap
  | 0x2026, _ => u8 s.keys.lastCommand
  | 0x2030, 1 => u64 s.engines.early
  | 0x2030, 2 => u64 s.engines.alarms
  | 0x2030, _ => u64 s.engines.importRefusals
  | 0x2031, 5 => u64 s.engines.laneWaits
  | 0x2031, k => u64 (s.engines.laneBytes.getD (k - 1) 0)
  | 0x2032, 1 => u16 s.ret.yieldQuantum
  | 0x2032, 2 => u64 s.engines.yields
  | 0x2032, 3 => u64 s.engines.curveRefused
  | 0x2032, 4 => u8 s.engines.curveStep
  | 0x2032, 5 => u64 s.engines.bnLeaseEnds
  | 0x2032, 6 => u64 s.engines.sealedAccess
  | 0x2032, _ => u8 (s.ret.leaseLen.getD 4 0)
  | _, _ => []

/-- The token kept for the plane that reads (R376). -/
def State.tokenOf (s : State) : Channel → Bytes
  | .causeway _ => (s.measure.tokenC.map (·.2)).getD []
  | _ => (s.measure.tokenH.map (·.2)).getD []

/-- R396, R437, R604: measurement, checkpoints, consent, TDI, faults. -/
def State.readEvidence (s : State) (ch : Channel) (index sub : Nat) : Bytes :=
  match index, sub with
  | 0x2040, _ => s.tokenOf ch
  | 0x2042, k => digestBytes (s.mr (k - 1))
  | 0x2043, 1 => s.measure.log
  | 0x2043, _ => flag s.measure.complete
  | 0x2044, 1 => u32 s.ret.ckptCount
  | 0x2044, _ => u8 s.ret.ckptInterval
  | 0x2045, 1 => u64 s.measure.sessionStart ++ u64 (if s.start.step12 then s.ret.receiptsMade else 0)
  | 0x2045, 2 => (match s.ret.lastCut with
    | some (t, n, h, c) => u64 t ++ u64 n ++ digestBytes h ++ u64 c
    | none => List.replicate 72 0)
  | 0x2045, _ => digestBytes s.ret.liveHead
  | 0x2046, 1 => u64 s.measure.receiptHolds
  | 0x2046, 2 => u64 s.measure.ckptHolds
  | 0x2046, _ => u64 s.measure.ringFaults
  | 0x2050, 1 => digestBytes s.ret.tenantKey
  | 0x2050, 3 => u8 s.hosting.tokenResult
  | 0x2050, 4 => (List.range 3).flatMap fun k =>
      match s.ret.token k with
      | some t => u64 t.seq ++ u64 t.expiry
      | none => List.replicate 16 0
  | 0x2050, _ => u64 s.ret.tokenSeq
  | 0x2060, 1 => u8 s.hosting.tdi.code
  | 0x2060, 2 => u16 s.hosting.secure
  | 0x2060, _ => u64 s.hosting.ideFailures
  | 0x2070, 1 => u64 s.faults.extended
  | 0x2070, 2 => u64 s.faults.notQueued
  | 0x2070, _ => (s.ret.lastFault.map FaultRec.bytes).getD []
  | _, _ => []

/-- OD 0x3000.01. -/
def PowerState.code : PowerState → Nat
  | .off => 0
  | .standby => 1
  | .start => 2
  | .ready => 3
  | .run => 4
  | .limit => 5

/-- OD 0x3030. -/
def GovState.code : GovState → Nat
  | .running => 0
  | .silent => 1
  | .restarting => 2
  | .failed => 3

/-- OD 0x3021: which request binds the setpoint. -/
def Die.binding (d : Die) : Nat :=
  let m := min d.slack (min d.thermal d.power)
  if clampMv m ≠ m then 3 else if d.slack = m then 0 else if d.thermal = m then 1 else 2

/-- R549: a power over its window, by place: 0 module, 1 to 12 dies, 13 hub. -/
def State.powerOf (s : State) (k : Nat) : Nat :=
  if s.precise then s.power.mean1.getD k 0 else stepDown 16 (s.power.mean100.getD k 0)

/-- R552, R600: power, governors. -/
def State.readPower (s : State) (index sub : Nat) : Bytes :=
  let n := sub - 1
  let d := s.fabric.die n
  let h := s.heldDie n
  match index, sub with
  | 0x3000, _ => u8 s.start.power.code
  | 0x3001, _ => u16 s.ret.localCap
  | 0x3010, _ => u32 (s.powerOf 0)
  | 0x3011, _ => u32 (s.powerOf sub)
  | 0x3020, 1 => u16 s.ret.headroom
  | 0x3020, _ => u16 s.ret.idleSetpoint
  | 0x3021, _ => u16 (s.coarsened 10 d.setpoint h.setpoint) ++ u16 (s.coarsened 10 d.slack h.slack) ++
      u16 (s.coarsened 10 d.thermal h.thermal) ++ u16 (s.coarsened 10 d.power h.power) ++ u8 d.binding
  | 0x3030, _ => u8 (s.governor n).state.code
  | 0x3031, _ => u64 (s.ret.firings.getD n 0)
  | 0x3040, _ => u64 d.foldbacks
  | 0x3041, _ => u64 (s.ret.trips.getD n 0)
  | 0x3042, _ => u64 s.power.limitEntries
  | 0x3050, _ => u8 s.ret.thermalTarget
  | 0x3060, 1 => u8 (s.ret.leaseLen.getD 0 0)
  | 0x3060, _ => u64 (s.faults.leaseEnds.getD 0 0)
  | _, _ => []

/-- Sensor readings of a die, or of the hub. -/
def State.sensorsOf (s : State) (n : Nat) : List Int := if n = 12 then s.monitors.hubSensors else (s.fabric.die n).sensors

/-- R71, R72: the monitors. -/
def State.readMonitors (s : State) (index sub : Nat) : Bytes :=
  let n := sub - 1
  let d := s.fabric.die n
  let h := s.heldDie n
  match index, sub with
  | 0x3410, _ => u16 (s.coarsened 10 d.rate h.rate)
  | 0x3411, _ => u16 (s.coarsened 10 d.floor h.floor)
  | 0x3412, _ => u16 (s.coarsened 10 s.monitors.moduleFloor s.monitors.coarseFloor)
  | 0x3413, _ => u16 d.validMask.toNat
  | 0x3420, _ =>
    let now := if n = 12 then s.monitors.hubTemp else d.temperature
    u32 (twos 32 (s.coarsenedInt 1000 now (s.monitors.coarseTemps.getD n 0)))
  | 0x3430, _ =>
    let l := if s.precise then s.sensorsOf n else (s.monitors.coarseSensors.getD n []).map fun v => v / 1000 * 1000
    fit 128 (l.flatMap fun v => u32 (twos 32 v))
  | 0x3431, _ => u32 (if n = 12 then s.monitors.hubBad.toNat else d.sensorsBad.toNat)
  | 0x3440, _ => u16 (s.coarsened 10 d.vfabMv h.vfabMv)
  | 0x3441, _ => u16 (s.coarsened 10 d.vioMv h.vioMv)
  | 0x3442, _ => u16 (s.coarsened 10 d.vhbmMv h.vhbmMv)
  | 0x3443, 1 => u16 (s.coarsened 10 s.monitors.vhubMv s.monitors.coarseVhub)
  | 0x3443, _ => u16 (s.coarsened 10 s.monitors.stbyMv s.monitors.coarseStby)
  | 0x3450, _ => u16 (s.otp.processIndex.getD n 0)
  | 0x3460, _ => u64 (s.coarsened 65536 d.ballast h.ballast)
  | 0x4080, _ => u8 s.monitors.ballast
  | _, _ => []

/-- OD 0x40B4. -/
def PlanFaultRec.bytes (r : PlanFaultRec) : Bytes := u8 r.logical ++ u32 r.step ++ u8 r.code ++ u64 r.time

/-- The mask of a physical core's arrays (R49). -/
def Otp.maskBits (o : Otp) (die p : Nat) : Nat := maskOf 4 fun k => (o.slotsOf die p).contains k

/-- R49, R220, R241, R270: dies and cores. -/
def State.readCores (s : State) (index sub : Nat) : Bytes :=
  let n := sub - 1
  let d := s.fabric.die n
  let h := s.heldDie n
  if 0x4010 ≤ index ∧ index ≤ 0x401B then u8 (s.ret.physOf (100 * (index - 0x4010) + n))
  else if 0x4030 ≤ index ∧ index ≤ 0x403B then u8 (s.otp.maskBits (index - 0x4030) n)
  else if 0x4050 ≤ index ∧ index ≤ 0x405B then u8 (s.ret.stateOf (index - 0x4050) n)
  else match index with
  | 0x4001 => u8 (s.ret.spares n).length
  | 0x4002 => u32 s.ret.generation
  | 0x4090 => u64 (s.coarsened 65536 d.frozen h.frozen)
  | 0x4091 => u64 (s.coarsened 65536 d.frontWait h.frontWait)
  | 0x4092 => u64 d.opaccOver
  | 0x4093 => u64 d.arrayFaults
  | 0x4094 => u64 d.saturations
  | 0x40A0 => if s.precise then (List.range 100).flatMap fun i => u64 (SMap.get 0 d.frozenBy i) else List.replicate 800 0
  | 0x40B0 => u64 d.windowRefused
  | 0x40B1 => u64 d.heldUnits
  | 0x40B2 => u64 d.coreFaults
  | 0x40B3 => u64 (s.coarsened 65536 d.noIssue h.noIssue)
  | 0x40B4 => d.lastPlanFault.bytes
  | _ => []

/-- OD 0x4101.01. -/
def stagedCode : Option Staged → Nat
  | none => 0
  | some p => match p.state with
    | .loading => 1
    | .checked => 2
    | .switchPending => 3

/-- Streams of the running plan under level tide. -/
def Fabric.levelMask (f : Fabric) : Nat := (streamMask (f.streamsOf (·.level))).toNat

/-- R302: plans and tides. -/
def State.readPlan (s : State) (index sub : Nat) : Bytes :=
  let f := s.fabric
  match index, sub with
  | 0x4100, _ => u64 f.spanSwitch
  | 0x4101, 1 => u8 (stagedCode f.staged)
  | 0x4101, 2 => u8 f.refusal
  | 0x4101, _ => u64 f.refused
  | 0x4102, 1 => digestBytes ((f.plan.map (·.digest)).getD 0)
  | 0x4102, _ => digestBytes (((f.staged.bind (·.info)).map (·.digest)).getD 0)
  | 0x4103, 1 => u8 f.pace
  | 0x4103, 2 => u16 (s.coarsened 10 f.planFloor s.monitors.coarsePlanFloor)
  | 0x4103, _ => u16 ((f.plan.map fun p => p.cert.minFloor).getD 0)
  | 0x4104, _ => u16 s.ret.margin
  | 0x4105, 1 => u64 (f.tideCount - 1)
  | 0x4105, 2 => u64 f.lateTides
  | 0x4105, 3 => u64 f.unpacedTides
  | 0x4105, 4 => u64 (f.skippedAt s.gridNow)
  | 0x4105, 5 => u64 f.nullRows
  | 0x4105, 6 => u64 f.paddingRows
  | 0x4105, _ => u32 (s.coarsened 1000 f.lastDuration f.lastDuration)
  | 0x4106, 1 => u64 f.halted.toNat
  | 0x4106, _ => u64 f.levelMask
  | 0x4107, _ => digestBytes f.fallback
  | 0x4108, 1 => u8 s.ret.spanWait
  | 0x4108, _ => u64 f.notCarried
  | _, _ => []

/-- OD 0x5000.03. -/
def RegionState.code : RegionState → Nat
  | .free => 0
  | .allocated => 1
  | .scrubbing => 2
  | .suspended => 3
  | .dark => 4

/-- R437, R600, R604: regions, models. -/
def State.readMemory (s : State) (index sub : Nat) : Bytes :=
  match index, sub with
  | 0x5000, 2 => u16 s.hosting.regionSel
  | 0x5000, 3 =>
    let r := s.ret.region s.hosting.regionSel
    u8 r.stack ++ u32 r.base ++ u32 r.size ++ u8 r.state.code ++ u32 r.progress
  | 0x5000, _ => u8 s.hosting.regionResult
  | 0x5010, _ => u64 s.fabric.scrubAccess
  | 0x5020, 1 => u8 (s.ret.leaseLen.getD 2 0)
  | 0x5020, _ => u64 (s.faults.leaseEnds.getD 2 0)
  | 0x5030, k => u64 (s.ret.poison.getD (k - 1) 0)
  | 0x5100, 3 => u8 s.hosting.loadResult
  | 0x5100, _ => s.hosting.models.flatMap fun m => digestBytes m.1
  | _, _ => []

/-- R306: the record of a ring's configuration. -/
def Ring.bytes (q : Ring) (r : Nat) : Bytes :=
  u16 r ++ u8 q.log2Depth ++ u8 q.stream ++ u16 q.vector.toNat ++ flag q.enabled ++ u64 q.sqBase.toNat ++ u64 q.cqBase.toNat

/-- The ring a plane has selected for reading. -/
def State.selectedRing (s : State) (ch : Channel) : Nat := if planeCode ch = 1 then s.host.selected.1 else s.host.selected.2

/-- Parked submissions (OD 0x5440.03). -/
def HostPath.parkedCount (h : HostPath) : Nat :=
  (h.subs.filter fun e => match e.2 with | some x => x.parked | none => false).length

/-- R31, R32, R337, R600: rings. -/
def State.readRings (s : State) (ch : Channel) (index sub : Nat) : Bytes :=
  let h := s.host
  match index, sub with
  | 0x5410, 1 => u8 h.mode
  | 0x5410, 2 => u16 h.replayRing
  | 0x5410, 3 => u64 h.replayRefused
  | 0x5410, _ => u64 s.ret.nextSeq
  | 0x5420, 2 => u16 (s.selectedRing ch)
  | 0x5420, _ => (h.ring (s.selectedRing ch)).bytes (s.selectedRing ch) ++ u8 (h.ringState (s.selectedRing ch))
  | 0x5430, _ => u16 h.holdoff
  | 0x5440, 1 => u64 h.tagBound
  | 0x5440, 2 => u32 (s.coarsened 1024 h.subs.length s.monitors.coarseTags)
  | 0x5440, 3 => u32 h.parkedCount
  | 0x5440, 4 => u64 h.cqHeld
  | 0x5440, _ => u64 h.forwardHolds
  | 0x5441, 1 => u64 h.malformed
  | 0x5441, 2 => u16 h.lastMalformed.1 ++ u8 h.lastMalformed.2.1 ++ u64 h.lastMalformed.2.2
  | 0x5441, _ => u64 h.ignored
  | 0x5442, 1 => u64 h.inputFaults
  | 0x5442, 2 => u64 h.outputFaults
  | 0x5442, _ => u64 h.cqFaults
  | 0x5443, 1 => u16 h.pages.length
  | 0x5443, 2 => u64 h.pageWaits
  | 0x5443, _ => u16 h.priTimeout
  | 0x5450, 1 => u8 (s.ret.leaseLen.getD 1 0)
  | 0x5450, _ => u64 (s.faults.leaseEnds.getD 1 0)
  | _, _ => []

/-- R365: the Shoal. -/
def State.readShoal (s : State) (index sub : Nat) : Bytes :=
  let n := sub - 1
  let h := s.shoal
  let c := s.heldDie n
  match index, sub with
  | 0x6000, _ => u32 (h.cluster n).neurons
  | 0x6001, _ => u8 h.loadResult
  | 0x6002, 2 => digestBytes h.snapDigest
  | 0x6002, _ => u8 h.snapResult
  | 0x6010, _ => digestBytes h.startState
  | 0x6020, _ => u64 (s.coarsened 65536 (h.applied.getD n 0) c.applied)
  | 0x6021, _ => u64 (s.coarsened 65536 (h.spikes.getD n 0) c.spikes)
  | 0x6022, _ => u64 (h.depth2.getD n 0)
  | 0x6023, _ => u64 (h.invalid.getD n 0)
  | 0x6024, _ => u64 (h.saturated.getD n 0)
  | 0x6025, _ => u64 (s.coarsened 65536 (h.inboxFull.getD n 0) c.inboxFull)
  | 0x6026, _ => u64 h.relayHolds
  | 0x6030, _ => u64 s.host.shoalMark
  | _, _ => []

/-- OD 0x7011. -/
def PortState.code : PortState → Nat
  | .disabled => 0
  | .training => 1
  | .agreeing => 2
  | .up => 3
  | .refused => 4
  | .fault => 5

/-- R472, R600: Strait ports. -/
def State.readStraits (s : State) (index sub : Nat) : Bytes :=
  let p := s.straits.ports.getD (sub - 1) {}
  match index, sub with
  | 0x7001, _ => u16 s.ret.moduleAddr
  | 0x7002, _ => u8 s.ret.peerPolicy
  | 0x7010, _ => u8 (s.ret.portEnable.getD (sub - 1) 0)
  | 0x7011, _ => u8 p.state.code
  | 0x7012, _ => (match p.partner with
    | some (a, serial, port) => u16 a ++ beBytes 16 serial.toNat ++ u8 port
    | none => List.replicate 19 0)
  | 0x7013, _ => u32 p.epoch ++ u64 p.txCounter ++ u64 p.epochStart
  | 0x7020, _ => u64 p.corrected
  | 0x7021, _ => u64 p.failed
  | 0x7023, _ => u64 p.retired
  | 0x7030, 1 => u64 s.straits.noRoute
  | 0x7030, _ => u64 s.straits.lateMarks
  | 0x7050, 1 => u8 (s.ret.leaseLen.getD 3 0)
  | 0x7050, _ => u64 (s.faults.leaseEnds.getD 3 0)
  | _, _ => []

/-- R472: time. -/
def State.readTime (s : State) (index sub : Nat) : Bytes :=
  match index, sub with
  | 0x7400, 1 => u64 s.clock.device
  | 0x7400, _ => u64 s.clock.count
  | 0x7401, 1 => flag s.ret.timeSet
  | 0x7401, _ => u32 s.ret.timeSteps
  | 0x7410, 1 => fit 24 s.time.command
  | 0x7410, _ => u8 s.time.status
  | 0x7420, 1 => u8 s.ret.timeRef
  | 0x7420, _ => u8 s.time.refState
  | 0x7421, _ => u64 s.time.ppsOmitted
  | 0x7430, 5 => u16 (twos 16 (s.ret.ptp.getD 4 0))
  | 0x7430, 6 => u8 s.ret.ptpEnable
  | 0x7430, k => u8 (twos 8 (s.ret.ptp.getD (k - 1) 0))
  | 0x7440, 1 => u8 s.straits.spanState
  | 0x7440, 2 => u8 s.straits.hops
  | 0x7440, _ => u64 (twos 64 (if s.straits.spanState = 0 then 0 else (s.gridNow : Int) - s.now))
  | _, _ => []

/-- The MAC address: 0x02, then five octets of the SHA-384 of the serial (17). -/
def Otp.mac (o : Otp) : Bytes := 2 :: (digestBytes (sha384 (beBytes 16 o.serial.toNat))).take 5

/-- OD 0x7810.01: cap, source and end; under the local cap the end reads zero (log 65). -/
def State.capRecord (s : State) : Bytes :=
  match s.causeway.budgets.find? fun b => b.cap == s.capInEffect && decide (b.cap < s.ret.localCap) with
  | some b => u16 b.cap ++ u8 1 ++ u64 (s.now + (b.ends - s.clock.count))
  | none => u16 s.ret.localCap ++ u8 0 ++ u64 0

/-- R529: the Causeway. -/
def State.readCauseway (s : State) (index sub : Nat) : Bytes :=
  match index, sub with
  | 0x7800, k => u8 (s.ret.plca.getD (k - 1) 0)
  | 0x7801, _ => s.otp.mac
  | 0x7802, _ => u16 s.ret.idleLimit
  | 0x7810, 1 => s.capRecord
  | 0x7810, _ => u64 s.causeway.lapses
  | 0x7820, _ => digestBytes s.causeway.grant.1 ++ u64 s.causeway.grant.2
  | 0x7830, _ => (match s.ret.stagedCa with | some (a, _) => beBytes 96 a.toNat | none => List.replicate 96 0)
  | 0x7840, 1 => u64 s.causeway.refused
  | 0x7840, 2 => u8 s.causeway.lastRefusal
  | 0x7840, _ => u64 s.causeway.discarded
  | _, _ => []

/-- What an object reads: sub-index 0 is R474's; a vendor diagnostic object reads a free value (R484, log 69). -/
def State.odValue (s : State) (ch : Channel) (index sub : Nat) : Bytes :=
  if vendorIndex index then Config.vendorObject s.draws index sub
  else if sub = 0 then u8 (odHighest index)
  else if index < 0x2000 then s.readIdentity index sub
  else if index < 0x2020 then s.readSkerry index sub
  else if index < 0x2040 then s.readKeys index sub
  else if index < 0x3000 then s.readEvidence ch index sub
  else if index < 0x3400 then s.readPower index sub
  else if index < 0x4000 ∨ index = 0x4080 then s.readMonitors index sub
  else if index < 0x4100 then s.readCores index sub
  else if index < 0x5000 then s.readPlan index sub
  else if index < 0x5400 then s.readMemory index sub
  else if index < 0x6000 then s.readRings ch index sub
  else if index < 0x7000 then s.readShoal index sub
  else if index < 0x7400 then s.readStraits index sub
  else if index < 0x7800 then s.readTime index sub
  else s.readCauseway index sub

end Sys2Proof.Machine
end

