-- ==== Sys2Proof/Machine/SessionRows.lean ====
section
/-! DEFINITION. Sessions of the object dictionary: open and close (16, R502-R507; R19, R21, R29, R243, R282, R382). -/

namespace Sys2Proof.Machine

/-- OD 0x1400.04 takes a code. -/
def State.sessionCode (s : State) (code : Nat) : State := { s with od := { s.od with lastCommand := code } }

/-- R502: why a session may not open; 0 opens. -/
def State.openCode (s : State) : Nat :=
  if s.start.power ≠ .ready then 1
  else if s.od.session ≠ 0 then 2
  else if (s.ret.stores.take 3).any fun r => r.state.pending then 3
  else 0

/-- R382: H_0 of a session that starts now. -/
def State.genesisNow (s : State) : Digest :=
  sha384 (ascii "U1200-CHAIN" ++ beBytes 16 s.otp.serial.toNat ++ leBytes 8 s.now ++ digestBytes s.ret.liveHead)

/-- R243, R282: Lagoons invalid, the tide count at zero. -/
def Fabric.openSession (f : Fabric) : Fabric := { f with cores := [], tideCount := 0 }

/-- R21: the ingest mode and the replay ring are latched; nothing has been consumed or passed yet. -/
def HostPath.openSession (h : HostPath) : HostPath :=
  { h with modeLatched := h.mode, lastLogged := none, watermark := none }

/-- R282, R382, R384: the receipt count at zero, the chain at its genesis, no cut made. -/
def Measure.openSession (m : Measure) (genesis : Digest) (now count : Nat) : Measure :=
  { m with genesis := genesis, sessionStart := now, sinceCut := 0, firstSince := 0, flagsOr := 0, lastCutAt := count, ckptNo := 0,
           lastHead := 0 }

/-- R503: steps 1 to 5, then OPEN with the channel's plane as the owner. -/
def State.openTheSession (s : State) (plane : Nat) : State :=
  let g := s.genesisNow
  let s := { s with
    fabric := s.fabric.openSession
    host := s.host.openSession
    shoal := { s.shoal with planAdmitted := false }
    measure := s.measure.openSession g s.now s.clock.count
    ret := { s.ret with receiptsMade := 0, receiptsWritten := 0, headWritten := g, sessionsOpened := bump s.ret.sessionsOpened } }
  let s := { s with shoal := { s.shoal with startState := s.startStateDigest } }
  { s with od := { s.od with session := 1, owner := plane, lastCommand := 0, drained := false } }

/-- R502, R503: 0xA5 to OD 0x1400.01. -/
def State.writeSessionOpen (s : State) (ch : Channel) : Option State :=
  match s.openCode with
  | 0 => some (s.openTheSession (planeCode ch))
  | code => some (s.sessionCode code)

/-- The owner plane, or a Custodian (R505, R507). -/
def State.mayClose (s : State) (ch : Channel) : Bool := planeCode ch == s.od.owner || s.roleOf ch == some .custodian

/-- R505: CLOSING; what has nothing left to drain goes on at once. -/
def State.closeSession (s : State) : State :=
  (({ s with od := { s.od with session := 2, lastCommand := 0, drained := false } } : State).settleClose).settleClosed

/-- R505, R507: 0x5A to OD 0x1400.01; without a session the code 0x04; a session already CLOSING takes no second one. -/
def State.writeSessionClose (s : State) (ch : Channel) : Option State :=
  if s.od.session = 0 then some (s.sessionCode 4)
  else if s.od.session = 1 ∧ s.mayClose ch = true then some s.closeSession
  else none

/-- SESSION_OPEN: OD 0x1400.01 (R502, R503, R29, R19). -/
def execSessionOpen (ch : Channel) (s : State) : Host.Outcome State Fault Refusal :=
  .next (s.odRow ch 0x1400 1 .hCu fun s => s.writeSessionOpen ch)

/-- SESSION_CLOSE: OD 0x1400.01 (R505, R507, R33, R426). -/
def execSessionClose (ch : Channel) (s : State) : Host.Outcome State Fault Refusal :=
  .next (s.odRow ch 0x1400 1 .hCu fun s => s.writeSessionClose ch)

end Sys2Proof.Machine
end

