-- ==== Sys2Proof/Machine/OdWrites.lean ====
section
/-! DEFINITION. What a permitted write does to each object: the effect of the object's own row where it has one, a range check
and a new value otherwise; `none` is R485. -/

namespace Sys2Proof.Machine

/-- A value of exactly `n` octets, as a number. -/
def ofLen (n : Nat) (b : Bytes) (f : Nat → Option State) : Option State := if b.length = n then f (leNat b) else none

/-- A number within a range (R139, R302, R337, R396, R472, R485). -/
def ranged (lo hi v : Nat) (s : State) : Option State := if lo ≤ v ∧ v ≤ hi then some s else none

def State.setRet (s : State) (r : Retained) : State := { s with ret := r }

/-- An address and a length, U64 each. -/
def addrLen (b : Bytes) (f : BitVec 64 → BitVec 64 → Option State) : Option State :=
  if b.length = 16 then f (BitVec.ofNat 64 (leField b 0 8)) (BitVec.ofNat 64 (leField b 8 8)) else none

/-- R600: a lease length, 1 to 100 ms. -/
def State.writeLease (s : State) (k : Nat) (v : Bytes) : Option State :=
  ofLen 1 v fun x => ranged 1 100 x (s.setRet { s.ret with leaseLen := modifyAt s.ret.leaseLen k fun _ => x })

/-- R601: a revoke object takes the instance number; one out of range follows R485. -/
def State.writeRevoke (s : State) (n : Nat) (v : Bytes) (l : Nat → Lease) : Option State :=
  ofLen 1 v fun x => if x < n then some (if s.leaseHeld (l x) then s.endLease (l x) 2 else s) else none

/-- R495, R600: 0xA5 revokes a lease of which there is one. -/
def State.writeRevokeOne (s : State) (v : Bytes) (l : Lease) : Option State :=
  ofLen 1 v fun x => if x = 0xA5 then some (if s.leaseHeld l then s.endLease l 2 else s) else none

/-- R502-R507: OD 0x1400.01. -/
def State.writeSession (s : State) (ch : Channel) (v : Bytes) : Option State :=
  ofLen 1 v fun x => if x = 0xA5 then s.writeSessionOpen ch else if x = 0x5A then s.writeSessionClose ch else none

/-- Planes, start, lifecycle (R106, R510, R565). -/
def State.writeSkerry (s : State) (ch : Channel) (index sub : Nat) (v : Bytes) : Option State :=
  match index, sub with
  | 0x1400, _ => s.writeSession ch v
  | 0x1420, 2 => ofLen 1 v fun x => ranged 1 100 x (s.setRet { s.ret with lockLease := x })
  | 0x1420, _ => s.writeRevokeOne v .odLock
  | 0x2003, 2 => ofLen 1 v fun x => s.writeLifecycleStage (BitVec.ofNat 8 x)
  | 0x2003, _ => ofLen 1 v fun x => s.drawn.writeLifecycleConfirm (BitVec.ofNat 8 x) (Config.fuseVerdict s.draws).2
  | 0x2004, _ => ofLen 1 v fun x => s.writeSvnCommit (BitVec.ofNat 8 x)
  | 0x2006, _ => ofLen 1 v fun x => s.writeWarmResetRequest (BitVec.ofNat 8 x) s.silicon
  | 0x2010, _ =>
    if v.length = 12 then
      s.drawn.writeHostDelivery (BitVec.ofNat 64 (leField v 0 8)) (BitVec.ofNat 32 (leField v 8 4)) (Config.hostFetch s.draws)
    else none
  | _, _ => none

/-- Keys and engines (R140, R138, R177, R600). -/
def State.writeKeys (s : State) (index sub : Nat) (v : Bytes) : Option State :=
  match index, sub with
  | 0x2020, _ => ofLen 2 v fun x => ranged 1 1000 x (s.setRet { s.ret with remaskPeriod := x })
  | 0x2022, _ => s.writeIdevidCertCopyWrite v
  | 0x2023, 5 => ofLen 1 v fun x => s.writeAliasCommit (BitVec.ofNat 8 x)
  | 0x2023, _ => ofLen 1 v fun x => ranged 0 7 x (s.setRet { s.ret with aliasOverlap := x })
  | 0x2024, 4 => ofLen 1 v fun x => ranged 0 90 x (s.setRet { s.ret with bindingOverlap := x })
  | 0x2024, _ => ofLen 1 v fun x =>
      s.drawn.writeBindingAdvance (BitVec.ofNat 8 x) (Config.fuseVerdict s.draws).1 (Config.fuseVerdict s.draws).2
  | 0x2025, _ => ofLen 1 v fun x => ranged 0 30 x (s.setRet { s.ret with caOverlap := x })
  | 0x2032, 1 => ofLen 2 v fun x => ranged 64 4096 x (s.setRet { s.ret with yieldQuantum := x })
  | 0x2032, 7 => s.writeLease 4 v
  | 0x2032, _ => s.writeRevoke 2 v fun x => .bignum (if x = 0 then .long else .short)
  | _, _ => none

/-- The token a submission spells, with its octets (R419). -/
def tokenFrom (v : Bytes) : ConsentToken := { Config.parseToken v with raw := v }

/-- Evidence and consent (R396, R437). -/
def State.writeEvidence (s : State) (ch : Channel) (index sub : Nat) (v : Bytes) : Option State :=
  match index, sub with
  | 0x2040, _ => s.writeEvidenceRequest ch v
  | 0x2041, _ => s.writeTenantExtend (BitVec.ofNat 8 (leField v 0 1)) (v.drop 1)
  | 0x2044, 1 => ofLen 4 v fun x => ranged 1 65536 x (s.setRet { s.ret with ckptCount := x })
  | 0x2044, 2 => ofLen 1 v fun x => ranged 1 100 x (s.setRet { s.ret with ckptInterval := x })
  | 0x2044, _ => ofLen 1 v fun x => s.writeCheckpointRequest (BitVec.ofNat 8 x)
  | 0x2050, 1 => if v.length = 48 then s.writeConsentKeyWrite (digestOf v) else none
  | 0x2050, 2 => s.writeConsentTokenSubmit ch (tokenFrom v)
  | 0x2050, _ => ofLen 1 v fun x => s.writeConsentWithdraw (BitVec.ofNat 8 x)
  | _, _ => none

/-- Power, ballast and plans (R71, R302, R551, R600). -/
def State.writePower (s : State) (index sub : Nat) (v : Bytes) : Option State :=
  match index, sub with
  | 0x3001, _ => ofLen 2 v fun x => ranged 900 2600 x (s.setRet { s.ret with localCap := x })
  | 0x3020, 1 => ofLen 2 v fun x => ranged 0 100 x (s.setRet { s.ret with headroom := x })
  | 0x3020, _ => ofLen 2 v fun x => ranged 600 850 x (s.setRet { s.ret with idleSetpoint := x })
  | 0x3050, _ => ofLen 1 v fun x => ranged 60 85 x (s.setRet { s.ret with thermalTarget := x })
  | 0x3060, 1 => s.writeLease 0 v
  | 0x3060, _ => s.writeRevoke 13 v fun x => .regulator (Fin.ofNat 13 x)
  | 0x4080, _ => ofLen 1 v fun x => s.writeBallastThresholdWrite (BitVec.ofNat 8 x)
  | 0x4100, 1 => addrLen v fun a l => s.writePlanDelivery a l
  | 0x4100, 2 => ofLen 1 v fun x => s.writePlanSwitch (BitVec.ofNat 8 x)
  | 0x4100, _ => ofLen 8 v fun x => some { s with fabric := { s.fabric with spanSwitch := x } }
  | 0x4104, _ => ofLen 2 v fun x => ranged 0 500 x (s.setRet { s.ret with margin := x })
  | 0x4108, _ => ofLen 1 v fun x => ranged 1 100 x (s.setRet { s.ret with spanWait := x })
  | _, _ => none

/-- A region number. -/
def regionNo (v : Bytes) (f : BitVec 16 → Option State) : Option State := ofLen 2 v fun x => f (BitVec.ofNat 16 x)

/-- R306: the record of OD 0x5420.01. -/
def ringCfgOf (v : Bytes) : RingCfg :=
  { ring := BitVec.ofNat 16 (leField v 0 2), log2Depth := BitVec.ofNat 8 (leField v 2 1), stream := BitVec.ofNat 8 (leField v 3 1),
    vector := BitVec.ofNat 16 (leField v 4 2), enable := BitVec.ofNat 8 (leField v 6 1), sqBase := BitVec.ofNat 64 (leField v 7 8),
    cqBase := BitVec.ofNat 64 (leField v 15 8) }

/-- OD 0x5420.02: the ring a plane reads. -/
def State.selectRing (s : State) (ch : Channel) (x : Nat) : State :=
  { s with host := { s.host with
      selected := if planeCode ch = 1 then (x, s.host.selected.2) else (s.host.selected.1, x) } }

/-- Regions, models, rings and the Shoal (R32, R337, R365, R437, R600). -/
def State.writeMemory (s : State) (ch : Channel) (index sub : Nat) (v : Bytes) : Option State :=
  match index, sub with
  | 0x5000, 1 =>
    if v.length = 7 then
      s.writeRegionAllocate (BitVec.ofNat 16 (leField v 0 2)) (BitVec.ofNat 8 (leField v 2 1)) (BitVec.ofNat 32 (leField v 3 4))
    else none
  | 0x5000, 2 => ofLen 2 v fun x => ranged 0 1023 x { s with hosting := { s.hosting with regionSel := x } }
  | 0x5000, _ => regionNo v fun x => s.writeRegionFree x
  | 0x5010, 1 => regionNo v fun x => s.writeScrubSuspend x
  | 0x5010, _ => regionNo v fun x => s.writeScrubResume x
  | 0x5020, 1 => s.writeLease 2 v
  | 0x5020, _ => s.writeRevoke 12 v fun x => .scrub (Fin.ofNat 12 x)
  | 0x5100, 1 => addrLen v fun a l => s.writeClearModelLoad a l
  | 0x5100, _ => addrLen v fun a l => s.drawn.writeBoundBundleLoad a l (Config.hostHead s.draws)
  | 0x5410, 1 => ofLen 1 v fun x => s.writeIngestModeWrite (BitVec.ofNat 8 x)
  | 0x5410, _ => ofLen 2 v fun x => some { s with host := { s.host with replayRing := x } }
  | 0x5420, 1 => if v.length = 23 then s.writeRingConfigWrite (ringCfgOf v) else none
  | 0x5420, _ => ofLen 2 v fun x => some (s.selectRing ch x)
  | 0x5430, _ => ofLen 2 v fun x => ranged 0 1000 x { s with host := { s.host with holdoff := x } }
  | 0x5443, _ => ofLen 2 v fun x => ranged 1 1000 x { s with host := { s.host with priTimeout := x } }
  | 0x5450, 1 => s.writeLease 1 v
  | 0x5450, _ => s.writeRevokeOne v .spanFences
  | 0x6001, _ => addrLen v fun a l => s.writeShoalImageLoad a l
  | 0x6002, _ => addrLen v fun a l => s.writeShoalSnapshot a l
  | _, _ => none

/-- The start has released the dies, so ports train (R97). -/
def State.portsRun (s : State) : Bool := s.start.phase == .training || s.start.phase == .readyOrLater

/-- OD 0x7010: bit 0 enables a port, bit 1 makes it optical; a port newly enabled trains, one disabled leaves the Straits (R439). -/
def State.enablePort (s : State) (n x : Nat) : State :=
  let was := bit (s.ret.portEnable.getD n 0) 0
  let s := s.setRet { s.ret with portEnable := modifyAt s.ret.portEnable n fun _ => x }
  if bit x 0 = was then s
  else { s with straits := { s.straits with
    ports := modifyAt s.straits.ports n (trainPort (s.portsRun && (s.fabric.die n).online) x) } }

/-- R472: PTP objects .01 to .05 and the enable. -/
def State.writePtp (s : State) (sub : Nat) (v : Bytes) : Option State :=
  let put (k : Nat) (x : Int) : State := s.setRet { s.ret with ptp := modifyAt s.ret.ptp k fun _ => x }
  match sub with
  | 1 => ofLen 1 v fun x => ranged 0 127 x (put 0 x)
  | 2 => ofLen 1 v fun x => some (put 1 x)
  | 3 => ofLen 1 v fun x => some (put 2 x)
  | 4 => ofLen 1 v fun x => if -3 ≤ signed 8 x ∧ signed 8 x ≤ 1 then some (put 3 (signed 8 x)) else none
  | 5 => ofLen 2 v fun x => some (put 4 (signed 16 x))
  | _ => ofLen 1 v fun x => ranged 0 1 x (s.setRet { s.ret with ptpEnable := x })

/-- R512: PLCA settings. -/
def State.writePlca (s : State) (sub : Nat) (v : Bytes) : Option State :=
  let put (x : Nat) : State := s.setRet { s.ret with plca := modifyAt s.ret.plca (sub - 1) fun _ => x }
  ofLen 1 v fun x =>
    match sub with
    | 1 => if x ≤ 7 ∨ x = 0xFF then some (put x) else none
    | 2 => ranged 1 8 x (put x)
    | 4 => ranged 0 4 x (put x)
    | _ => ranged 1 255 x (put x)

/-- Straits, time and the Causeway (R472, R529, R600). -/
def State.writeLinks (s : State) (ch : Channel) (index sub : Nat) (v : Bytes) : Option State :=
  match index with
  | 0x7001 => ofLen 2 v fun x => s.writeModuleAddressWrite (BitVec.ofNat 16 x)
  | 0x7002 => ofLen 1 v fun x => ranged 0 1 x (s.setRet { s.ret with peerPolicy := x })
  | 0x7010 => ofLen 1 v fun x => ranged 0 3 x (s.enablePort (sub - 1) x)
  | 0x7050 => if sub = 1 then s.writeLease 3 v else s.writeRevoke 12 v fun x => .strait (Fin.ofNat 12 x)
  | 0x7410 =>
    if sub = 1 then (if v.length = 24 then s.writeTimeStepStage v else none)
    else if v.length = 48 then s.writeTimeStepConfirm (digestOf v) else none
  | 0x7420 => ofLen 1 v fun x => s.writeTimeRefWrite (BitVec.ofNat 8 x)
  | 0x7430 => s.writePtp sub v
  | 0x7800 => s.writePlca sub v
  | 0x7802 => ofLen 2 v fun x => ranged 1 3600 x (s.setRet { s.ret with idleLimit := x })
  | 0x7820 =>
    if v.length = 56 then s.writeCosignGrantWrite (digestOf (slice v 0 48)) (BitVec.ofNat 64 (leField v 48 8)) else none
  | 0x7830 => if v.length = 96 then s.writeCaStage ch v else none
  | _ => none

/-- A write to an object that the channel may write. -/
def State.writeObject (s : State) (ch : Channel) (index sub : Nat) (v : Bytes) : Option State :=
  if index < 0x2020 then s.writeSkerry ch index sub v
  else if index < 0x2040 then s.writeKeys index sub v
  else if index < 0x3000 then s.writeEvidence ch index sub v
  else if index < 0x5000 then s.writePower index sub v
  else if index < 0x7000 then s.writeMemory ch index sub v
  else s.writeLinks ch index sub v

end Sys2Proof.Machine
end

