-- ==== Sys2Proof/Machine/OdRows.lean ====
section
/-! DEFINITION. Transfer units and register writes: the OD's transfer protocol on its three carriers (16, R474-R501, R509). -/

namespace Sys2Proof.Machine

/-! ### The transfer unit (16, "The transfer unit"; R487, R508) -/

/-- OP codes. -/
def opReadShort : Nat := 1
def opWriteShort : Nat := 2
def opReadLong : Nat := 3
def opWriteLong : Nat := 4
def opContinue : Nat := 5
def opAbort : Nat := 6

/-- R508: the segment limit of a channel. -/
def segLimit : Channel → Nat
  | .causeway _ => 1280
  | _ => 3840

/-- LAST of FLAGS. -/
def isLast (h : TuHeader) : Bool := h.flags.getLsbD 0

/-- Data that a request carries: what came with it, or the whole data window of the mailbox (R487). -/
def carried (ch : Channel) (data : Bytes) : Nat :=
  match ch with
  | .bar0 _ => max data.length 3840
  | _ => data.length

/-- R487. -/
def tuMalformed (ch : Channel) (op : Nat) (h : TuHeader) (data : Bytes) : Bool :=
  op == 0 || decide (6 < op) || h.zero != 0 || decide (1 < h.flags.toNat) || decide (segLimit ch < h.segLen.toNat) ||
    decide (carried ch data < h.segLen.toNat) ||
    (decide (op ≤ 2) && (decide (8 < h.total.toNat) || h.offset != 0 || !isLast h)) ||
    (op == opWriteShort && h.segLen.toNat != h.total.toNat)

/-- The data of a segment: SEG_LEN octets. -/
def segment (h : TuHeader) (data : Bytes) : Bytes := fit h.segLen.toNat data

/-- The 32 octets of a request header. -/
def headerBytes (op : Nat) (h : TuHeader) : Bytes :=
  leBytes 1 op ++ leBytes 1 h.sub.toNat ++ leBytes 2 h.index.toNat ++ leBytes 4 h.xid.toNat ++ leBytes 4 h.total.toNat ++
    leBytes 4 h.offset.toNat ++ leBytes 2 h.segLen.toNat ++ leBytes 1 h.flags.toNat ++ leBytes 13 h.zero.toNat

/-- The octets of a response: its header and its data. -/
def TuResponse.bytes (r : TuResponse) : Bytes :=
  leBytes 1 r.op ++ leBytes 1 r.sub ++ leBytes 2 r.index ++ leBytes 4 r.xid ++ leBytes 4 r.total ++ leBytes 4 r.offset ++
    leBytes 2 r.data.length ++ leBytes 1 (if r.last then 1 else 0) ++ leBytes 1 r.result ++ List.replicate 12 0 ++ r.data

/-- A response to a request (16). -/
def reply (op : Nat) (h : TuHeader) (total offset : Nat) (last : Bool) (result : Nat) (data : Bytes) : TuResponse :=
  { op := op + 128, sub := h.sub.toNat, index := h.index.toNat, xid := h.xid.toNat, total := total, offset := offset, last := last,
    result := result, data := data }

/-- A response that returns no data. -/
def plainReply (op : Nat) (h : TuHeader) (total result : Nat) : TuResponse := reply op h total 0 true result []

/-! ### Channels -/

def Od.setChannel (o : Od) (ch : Channel) (f : ChannelState → ChannelState) : Od :=
  { o with channels := modifyAt o.channels (channelIndex ch) f }

def State.setOpen (s : State) (ch : Channel) (t : Option OpenTransfer) : State :=
  { s with od := s.od.setChannel ch fun c => { c with opened := t } }

/-- The open transfer of a channel. -/
def State.openOn (s : State) (ch : Channel) : Option OpenTransfer := (s.od.channel ch).opened

/-- R490-R493: the open transfer ends; a write's lock is free. -/
def State.endTransferOn (s : State) (ch : Channel) : State := { s with od := s.od.closeTransfer (channelIndex ch) }

/-! ### Reads (R474, R475, R478, R488, R489) -/

/-- What a read finds: the value for a reader with the right; zero octets, silently, otherwise (R101, R478). -/
def State.readFor (s : State) (ch : Channel) (index sub : Nat) : Option Bytes :=
  if s.notYet index sub then none
  else if s.hasRead ch index sub then some (s.odValue ch index sub)
  else none

/-- R478, R479, R481: the count of a read without right. -/
def State.noteRead (s : State) (ch : Channel) (index sub : Nat) : State :=
  if s.notYet index sub then s else s.violate ch index sub 1

/-- A read of a vendor diagnostic object takes a free value. -/
def State.drawRead (s : State) (index : Nat) : State := if vendorIndex index then s.drawn else s

/-- READ-SHORT (R478, R480, R488, R492). -/
def State.tuReadShort (s : State) (ch : Channel) (h : TuHeader) : State × TuResponse :=
  match s.readFor ch h.index.toNat h.sub.toNat with
  | none => (s.noteRead ch h.index.toNat h.sub.toNat, reply 1 h 8 0 true resOk (List.replicate 8 0))
  | some v =>
    if (s.openOn ch).isSome then (s, plainReply 1 h 0 resOpen)
    else if 8 < v.length then (s, plainReply 1 h 0 resTooLong)
    else (s.drawRead h.index.toNat, reply 1 h v.length 0 true resOk (v.take h.total.toNat))

/-- The first segment of a long read; what remains stays open as one copy (R475, R489). -/
def State.startRead (s : State) (ch : Channel) (h : TuHeader) (total : Nat) (data : Bytes) (silent : Bool) : State × TuResponse :=
  let n := segLimit ch
  let r := reply 3 h total 0 (decide (data.length ≤ n)) resOk (data.take n)
  if data.length ≤ n then (s, r)
  else (s.setOpen ch (some ⟨false, h.sub.toNat, h.index.toNat, h.xid.toNat, total, data, n, s.clock.count, silent⟩), r)

/-- READ-LONG (R478, R480, R489, R492). -/
def State.tuReadLong (s : State) (ch : Channel) (h : TuHeader) : State × TuResponse :=
  match s.readFor ch h.index.toNat h.sub.toNat with
  | none =>
    let zeros := List.replicate h.total.toNat (0 : Byte)
    let s := s.noteRead ch h.index.toNat h.sub.toNat
    if (s.openOn ch).isSome then
      (s, reply 3 h h.total.toNat 0 (decide (zeros.length ≤ segLimit ch)) resOk (zeros.take (segLimit ch)))
    else s.startRead ch h h.total.toNat zeros true
  | some v =>
    if (s.openOn ch).isSome then (s, plainReply 3 h 0 resOpen)
    else if h.offset ≠ 0 then (s, plainReply 3 h 0 resSequence)
    else (s.drawRead h.index.toNat).startRead ch h v.length (v.take h.total.toNat) false

/-! ### Writes (R478, R484, R485, R491, R494, R520) -/

/-- The revocation of the write lock does not wait for it (R495; log 17). -/
def lockExempt (index sub : Nat) : Bool := index == 0x1420 && sub == 4

/-- R494. -/
def State.lockedFor (s : State) (ch : Channel) (index sub : Nat) : Bool := s.lockedOut ch && !lockExempt index sub

/-- A whole value with the right: applied, or ignored under R485. -/
def State.applyValue (s : State) (ch : Channel) (index sub : Nat) (v : Bytes) : State × Nat :=
  s.applyWrite index sub fun s => s.writeObject ch index sub v

/-- R478, R479, R481: the count of a write without right. -/
def State.noteWrite (s : State) (ch : Channel) (index sub : Nat) : State :=
  if s.notYet index sub then s else s.violate ch index sub 2

/-- The channel may write the object now (R101, R478, R483, R484). -/
def State.writeRight (s : State) (ch : Channel) (index sub : Nat) : Bool := !s.notYet index sub && s.hasWrite ch index sub

/-- WRITE-SHORT (R478, R480, R485, R492, R494). -/
def State.tuWriteShort (s : State) (ch : Channel) (h : TuHeader) (data : Bytes) : State × TuResponse :=
  let i := h.index.toNat
  let k := h.sub.toNat
  let n := h.segLen.toNat
  if !s.writeRight ch i k then (s.noteWrite ch i k, plainReply 2 h n resOk)
  else if (s.openOn ch).isSome then (s, plainReply 2 h n resOpen)
  else if s.lockedFor ch i k then (s, plainReply 2 h n resLocked)
  else
    let r := s.applyValue ch i k (segment h data)
    (r.1, plainReply 2 h n r.2)

/-- The end of a long write whose value is whole: the right is checked again, the value applied, the lock freed (R491, R520). -/
def State.finishWrite (s : State) (ch : Channel) (op : Nat) (h : TuHeader) (v : Bytes) : State × TuResponse :=
  let i := h.index.toNat
  let k := h.sub.toNat
  let s := s.endTransferOn ch
  if !s.writeRight ch i k then (s.noteWrite ch i k, plainReply op h v.length resOk)
  else
    let r := s.applyValue ch i k v
    (r.1, plainReply op h v.length r.2)

/-- A long write opens: with the right it takes the lock until it ends (16, "The OD write lock"). -/
def State.startWrite (s : State) (ch : Channel) (h : TuHeader) (v : Bytes) (silent : Bool) : State :=
  let s := s.setOpen ch (some ⟨true, h.sub.toNat, h.index.toNat, h.xid.toNat, h.total.toNat, v, 0, s.clock.count, silent⟩)
  if silent then s else { s with od := { s.od with lock := some (ch, s.now) } }

/-- WRITE-LONG without the right: it looks like a permitted one (R478, R480). -/
def State.silentWrite (s : State) (ch : Channel) (h : TuHeader) (v : Bytes) : State × TuResponse :=
  let s := s.noteWrite ch h.index.toNat h.sub.toNat
  let s := if isLast h || (s.openOn ch).isSome then s else s.startWrite ch h v true
  (s, plainReply 4 h v.length resOk)

/-- WRITE-LONG (R478, R480, R491, R492, R494). -/
def State.tuWriteLong (s : State) (ch : Channel) (h : TuHeader) (data : Bytes) : State × TuResponse :=
  let i := h.index.toNat
  let k := h.sub.toNat
  let v := segment h data
  if !s.writeRight ch i k then s.silentWrite ch h v
  else if (s.openOn ch).isSome then (s, plainReply 4 h v.length resOpen)
  else if s.lockedFor ch i k then (s, plainReply 4 h v.length resLocked)
  else if h.offset ≠ 0 ∨ h.total.toNat < v.length ∨ (isLast h = true ∧ v.length < h.total.toNat) then (s, plainReply 4 h v.length resSequence)
  else if isLast h then s.finishWrite ch 4 h v
  else (s.startWrite ch h v false, plainReply 4 h v.length resOk)

/-! ### CONTINUE and ABORT (R490-R493) -/

/-- The request names the open transfer. -/
def OpenTransfer.named (t : OpenTransfer) (h : TuHeader) : Bool :=
  t.xid == h.xid.toNat && t.index == h.index.toNat && t.sub == h.sub.toNat

/-- R480: SEQUENCE for an object the channel may access, OK for any other. -/
def State.sequenceFor (s : State) (ch : Channel) (h : TuHeader) : Nat :=
  if s.hasRead ch h.index.toNat h.sub.toNat || s.hasWrite ch h.index.toNat h.sub.toNat then resSequence else resOk

/-- R490: any other CONTINUE ends the transfer; without the right the answer stays silent (R480). -/
def State.breakTransfer (s : State) (ch : Channel) (h : TuHeader) (t : OpenTransfer) : State × TuResponse :=
  (s.endTransferOn ch,
   plainReply 5 h t.data.length (if t.named h then (if t.silent then resOk else resSequence) else s.sequenceFor ch h))

/-- R489, R490: the next segment of a long read. -/
def State.continueRead (s : State) (ch : Channel) (h : TuHeader) (t : OpenTransfer) : State × TuResponse :=
  let n := segLimit ch
  let next := t.next + n
  let r := reply 5 h t.total t.next (decide (t.data.length ≤ next)) resOk (slice t.data t.next n)
  if t.data.length ≤ next then (s.setOpen ch none, r)
  else (s.setOpen ch (some { t with next := next, lastTu := s.clock.count }), r)

/-- R490, R491: the next segment of a long write. -/
def State.continueWrite (s : State) (ch : Channel) (h : TuHeader) (t : OpenTransfer) (data : Bytes) : State × TuResponse :=
  let v := t.data ++ segment h data
  if t.total < v.length ∨ (isLast h = true ∧ v.length < t.total) then s.breakTransfer ch h t
  else if isLast h then
    if t.silent then (s.endTransferOn ch, plainReply 5 h v.length resOk) else s.finishWrite ch 5 h v
  else (s.setOpen ch (some { t with data := v, lastTu := s.clock.count }), plainReply 5 h v.length resOk)

/-- CONTINUE (R490-R493). -/
def State.tuContinue (s : State) (ch : Channel) (h : TuHeader) (data : Bytes) : State × TuResponse :=
  match s.openOn ch with
  | none => (s, plainReply 5 h 0 (s.sequenceFor ch h))
  | some t =>
    if t.named h = false ∨ h.offset.toNat ≠ (if t.write then t.data.length else t.next) then s.breakTransfer ch h t
    else if t.write then s.continueWrite ch h t data
    else s.continueRead ch h t

/-- ABORT with the open XID ends the transfer; any other finds none to end (R492, R493). -/
def State.tuAbort (s : State) (ch : Channel) (h : TuHeader) : State × TuResponse :=
  match s.openOn ch with
  | none => (s, plainReply 6 h 0 (s.sequenceFor ch h))
  | some t =>
    if t.xid = h.xid.toNat then (s.endTransferOn ch, plainReply 6 h 0 resOk) else (s, plainReply 6 h 0 (s.sequenceFor ch h))

/-! ### A whole unit -/

/-- R493: the unit is the next one with the XID of a transfer that ended idle. -/
def State.expired (s : State) (ch : Channel) (h : TuHeader) : Bool := (s.od.channel ch).expiredXid == some h.xid.toNat

/-- What a unit does and answers; a malformed one changes nothing (R487). -/
def State.tuServe (s : State) (ch : Channel) (op : Nat) (h : TuHeader) (data : Bytes) : State × TuResponse :=
  if tuMalformed ch op h data then (s, plainReply op h 0 resMalformed)
  else if s.expired ch h then
    ({ s with od := s.od.setChannel ch fun c => { c with expiredXid := none } }, plainReply op h 0 (s.sequenceFor ch h))
  else if op = opReadShort then s.tuReadShort ch h
  else if op = opWriteShort then s.tuWriteShort ch h data
  else if op = opReadLong then s.tuReadLong ch h
  else if op = opWriteLong then s.tuWriteLong ch h data
  else if op = opContinue then s.tuContinue ch h data
  else s.tuAbort ch h

/-- The channel holds its last response; a reset that the unit caused takes the channel with it. -/
def State.putResponse (s : State) (ch : Channel) (r : TuResponse) : State :=
  { s with od := s.od.setChannel ch fun c => { c with response := some r } }

/-- R497: the mailbox holds the request, then the data returned; MB_DONE takes the doorbell value and MB_VECTOR is raised. -/
def State.mailboxDone (s : State) (op : Nat) (h : TuHeader) (data : Bytes) (r : TuResponse) : State :=
  let w := SMap.setMany (0 : Byte) s.od.window 0 data
  ({ s with od := { s.od with
      header := headerBytes op h
      window := SMap.setMany (0 : Byte) w 0 r.data
      doorbell := h.seq, done := h.seq } } : State).raiseVector s.od.mbVector.toNat

/-- What the carrier of a channel does with a response: the mailbox (R497), the SPDM session (R406) or a Causeway OD frame. -/
def State.carry (s : State) (ch : Channel) (op : Nat) (h : TuHeader) (data : Bytes) (r : TuResponse) : State :=
  if s.channelUp ch then
    let s := s.putResponse ch r
    match ch with
    | .bar0 _ => s.mailboxDone op h data r
    | .spdm _ => s.respond 0x7E r.bytes
    | .causeway _ => s.sendFrame 0x20 r.bytes
  else s

/-- A request reaches the device: its channel answers; a doorbell that is zero or already answered submits nothing, and one that is
written while MB_DONE differs from the last doorbell value is ignored (R497, R498). -/
def State.tuReaches (s : State) (ch : Channel) (h : TuHeader) : Bool :=
  s.channelUp ch && match ch with
    | .bar0 _ => s.od.doorbell == s.od.done && h.seq != 0 && h.seq != s.od.done
    | _ => true

/-- R401: what a host access outside the TEE stream reads in CONFIG_LOCKED and RUN: zero octets. -/
def zeroReply : TuResponse :=
  { op := 0, sub := 0, index := 0, xid := 0, total := 0, offset := 0, last := false, result := 0, data := [] }

/-- A transfer unit of a channel (R478-R501). -/
def State.tu (s : State) (ch : Channel) (op : Nat) (h : TuHeader) (data : Bytes) : State :=
  if s.channelUp ch && s.teeBlocked ch then s.countTee.putResponse ch zeroReply
  else if s.tuReaches ch h then
    let r := (s.touch ch).tuServe ch op h data
    r.1.carry ch op h data r.2
  else s

/-- The object that a unit, if it is one that completes a permitted write, writes (R491, R520). -/
def State.tuWrites (s : State) (ch : Channel) (op : Nat) (h : TuHeader) (data : Bytes) : Option (Nat × Nat) :=
  let i := h.index.toNat
  let k := h.sub.toNat
  if s.teeBlocked ch || !s.tuReaches ch h || tuMalformed ch op h data || s.expired ch h || !s.writeRight ch i k then none
  else if op = opWriteShort ∨ op = opWriteLong then
    if (s.openOn ch).isSome || s.lockedFor ch i k then none
    else if op = opWriteShort then some (i, k)
    else if h.offset = 0 ∧ isLast h = true ∧ h.segLen.toNat = h.total.toNat then some (i, k)
    else none
  else if op = opContinue then
    match s.openOn ch with
    | some t =>
      if t.write && !t.silent && t.named h && h.offset.toNat == t.data.length && isLast h && t.data.length + h.segLen.toNat == t.total
      then some (i, k) else none
    | none => none
  else none

/-- R484: what a write to a vendor diagnostic object does is in service documentation only. -/
def State.tuOutcome (s : State) (ch : Channel) (op : Nat) (h : TuHeader) (data : Bytes) : Host.Outcome State Fault Refusal :=
  match s.tuWrites ch op h data with
  | some (i, k) => if vendorIndex i then .refused (.vendorDiagnostic i k) else .next (s.tu ch op h data)
  | none => .next (s.tu ch op h data)

/-! ### The rows -/

/-- READ_SHORT (R478, R488). -/
def execReadShort (ch : Channel) (h : TuHeader) (s : State) : Host.Outcome State Fault Refusal := .next (s.tu ch opReadShort h [])

/-- WRITE_SHORT (R478, R485, R494). -/
def execWriteShort (ch : Channel) (h : TuHeader) (data : Bytes) (s : State) : Host.Outcome State Fault Refusal :=
  s.tuOutcome ch opWriteShort h data

/-- READ_LONG (R475, R489). -/
def execReadLong (ch : Channel) (h : TuHeader) (s : State) : Host.Outcome State Fault Refusal := .next (s.tu ch opReadLong h [])

/-- WRITE_LONG (R491, R494). -/
def execWriteLong (ch : Channel) (h : TuHeader) (data : Bytes) (s : State) : Host.Outcome State Fault Refusal :=
  s.tuOutcome ch opWriteLong h data

/-- CONTINUE (R490, R491, R520). -/
def execContinueTu (ch : Channel) (h : TuHeader) (data : Bytes) (s : State) : Host.Outcome State Fault Refusal :=
  s.tuOutcome ch opContinue h data

/-- ABORT (R492). -/
def execAbortTu (ch : Channel) (h : TuHeader) (s : State) : Host.Outcome State Fault Refusal := .next (s.tu ch opAbort h [])

/-- R493: the open transfer has had no unit for OD 0x1420.02 ms. -/
def State.transferIdle (s : State) (ch : Channel) : Bool :=
  match s.openOn ch with
  | some t => decide (t.lastTu + s.ret.lockLease * 1000000 ≤ s.clock.count)
  | none => false

/-- OD_TRANSFER_IDLE: the transfer ends as by ABORT; a long write's lock is released, and the next unit with its XID answers
SEQUENCE (R493, R495). -/
def execOdTransferIdle (ch : Channel) (s : State) : Host.Outcome State Fault Refusal :=
  .next (if s.transferIdle ch then
    let xid := (s.openOn ch).map (·.xid)
    let s := s.endTransferOn ch
    { s with od := s.od.setChannel ch fun c => { c with expiredXid := xid } }
  else s)

/-- VENDOR_DEFINED_REQUEST: one unit over a secured session for the host plane (R406). -/
def execVendorDefinedRequest (i : Fin 4) (op : Byte) (h : TuHeader) (data : Bytes) (s : State) : Host.Outcome State Fault Refusal :=
  .next (s.secured i.val fun s => s.tu (.spdm i) op.toNat h data)

/-! ### Registers (R303, R327, R389, R497) -/

/-- R389: a field that is written while its ring is disabled. -/
def State.setRingField (s : State) (r : EvRing) (f : EvRingState → EvRingState) : State :=
  if (s.measure.ring r).enabled then s else s.setRing r (f (s.measure.ring r))

/-- R389: BASE, 4 KiB aligned. -/
def State.setRingBase (s : State) (r : EvRing) (v : BitVec 64) : State :=
  if v.toNat % 4096 = 0 then s.setRingField r fun x => { x with base := v } else s

/-- R389: LOG2_DEPTH in its range. -/
def State.setRingDepth (s : State) (r : EvRing) (v : Nat) : State :=
  if depthOk r v then s.setRingField r fun x => { x with log2Depth := v } else s

/-- R327: an entry of the MSI-X table; one unmasked sends what is pending. -/
def HostPath.setVector (h : HostPath) (dma : Bool) (v : Nat) (addr : BitVec 64) (data : BitVec 32) (masked : Bool) : HostPath :=
  ({ h with msix := SMap.set (0, 0, true) h.msix v (addr, data, masked) } : HostPath).sendPending dma v

/-- R303, R401: PCIe enables and power state; a change while the TDI is locked or runs moves it to ERROR (log 68). The function mask is
no locked configuration; vectors that nothing holds back any more are sent (R327). -/
def State.setPcie (s : State) (ats pri msix mask master d3hot : Bool) : State :=
  let h := s.host
  let changed := h.ats != ats || h.pri != pri || h.msixOn != msix || h.busMaster != master || h.d3hot != d3hot
  let s := { s with
    host := { h with ats := ats, pri := pri, msixOn := msix, msixMask := mask, busMaster := master, d3hot := d3hot } }
  if changed && (s.hosting.tdi == .locked || s.hosting.tdi == .run) then
    { s with hosting := { s.hosting with tdi := .error, startNonce := none } }
  else s.sendVectors

/-- A register write. -/
def State.writeRegister (s : State) : WriteTarget → State
  | .od _ _ _ _ => s
  | .mbVector tee v => s.mmio tee fun s => { s with od := { s.od with mbVector := v } }
  | .mbHeader tee off b => s.mmio tee fun s =>
      { s with od := { s.od with header := (s.od.header.take off ++ b ++ s.od.header.drop (off + b.length)).take 32 } }
  | .mbData tee off b => s.mmio tee fun s =>
      { s with od := { s.od with window := SMap.setMany (0 : Byte) s.od.window off (b.take (3840 - off)) } }
  | .ringBase tee r v => s.mmio tee fun s => s.setRingBase r v
  | .ringLog2Depth tee r v => s.mmio tee fun s => s.setRingDepth r v.toNat
  | .ringVector tee r v => s.mmio tee fun s => s.setRingField r fun x => { x with vector := v }
  | .msixTable tee vec addr data masked => s.mmio tee fun s => { s with host := s.host.setVector s.dmaOk vec.val addr data masked }
  | .mmioOther tee => s.mmio tee id
  | .pcieConfig ats pri msix mask master d3hot => if s.pins.pcieUp then s.setPcie ats pri msix mask master d3hot else s

/-- A whole write of an object by its channel, as one transfer. -/
def State.odObjectWrite (s : State) (ch : Channel) (index sub : Nat) (v : Bytes) : State :=
  let s := s.touch ch
  if !s.channelUp ch then s
  else if s.teeBlocked ch then s.countTee
  else if !s.writeRight ch index sub then s.noteWrite ch index sub
  else if (s.openOn ch).isSome || s.lockedFor ch index sub then s
  else (s.applyValue ch index sub v).1

/-- A permitted write of a vendor diagnostic object. -/
def State.vendorWrite (s : State) (ch : Channel) (index sub : Nat) : Bool :=
  vendorIndex index && s.channelUp ch && !s.teeBlocked ch && s.writeRight ch index sub && (s.openOn ch).isNone && !s.lockedFor ch index sub

/-- OBJECT_WRITE: an object or a register without a row of its own (R32, R389, R472, R476, R484). -/
def execObjectWrite (w : WriteTarget) (s : State) : Host.Outcome State Fault Refusal :=
  match w with
  | .od ch index sub v =>
    if s.vendorWrite ch index.toNat sub.toNat then .refused (.vendorDiagnostic index.toNat sub.toNat)
    else .next (s.odObjectWrite ch index.toNat sub.toNat v)
  | w => .next (s.writeRegister w)

end Sys2Proof.Machine
end

