-- ==== Sys2Proof/Machine/TapRows.lean ====
section
/-! DEFINITION. The test access port (R563, R613, R614). -/

namespace Sys2Proof.Machine

/-- R554, R563: boundary scan answers from START onward. -/
def State.tapUp (s : State) : Bool :=
  match s.start.power with
  | .start | .ready | .run | .limit => true
  | _ => false

/-- R563, R614: internal debug reach is given. -/
def State.tapDebug (s : State) : Bool := s.up && s.start.condition.debugClass

/-- The sideband levels that boundary scan captures (21, "The sideband signals"). -/
def Pins.capture (p : Pins) : BitVec 12 :=
  Config.boundaryCapture [p.modResetN, p.rotStatus.getLsbD 1, p.rotStatus.getLsbD 0, p.presentLow, p.timePps, p.timeRefRunning]

/-- A TAP instruction takes effect where the port answers. -/
def State.tapInstr (s : State) (f : Tap → Tap) : State := if s.tapUp then { s with tap := f s.tap } else s

/-- BYPASS: the one-bit bypass register, captured as zero. -/
def execBypass (s : State) : Host.Outcome State Fault Refusal :=
  .next (s.tapInstr fun t => { t with instr := .bypass, data := 0, driving := false, highZ := false, debugReach := false })

/-- IDCODE. -/
def execIdcode (s : State) : Host.Outcome State Fault Refusal :=
  .next (s.tapInstr fun t =>
    { t with instr := .idcode, data := Config.idcode, driving := false, highZ := false, debugReach := false })

/-- SAMPLE/PRELOAD: the levels are captured and the boundary register is loaded; the outputs stay with the device. -/
def execSamplePreload (shiftIn : BitVec 12) (s : State) : Host.Outcome State Fault Refusal :=
  .next (s.tapInstr fun t =>
    { t with instr := .samplePreload, data := s.pins.capture.zeroExtend 32, boundary := shiftIn, driving := false, highZ := false,
             debugReach := false })

/-- EXTEST: the boundary register drives the outputs. -/
def execExtest (s : State) : Host.Outcome State Fault Refusal :=
  .next (s.tapInstr fun t =>
    { t with instr := .extest, data := s.pins.capture.zeroExtend 32, driving := true, highZ := false, debugReach := false })

/-- CLAMP: the boundary register drives the outputs with the bypass register selected. -/
def execClamp (s : State) : Host.Outcome State Fault Refusal :=
  .next (s.tapInstr fun t => { t with instr := .clamp, data := 0, driving := true, highZ := false, debugReach := false })

/-- HIGHZ: the outputs go to high impedance with the bypass register selected. -/
def execHighz (s : State) : Host.Outcome State Fault Refusal :=
  .next (s.tapInstr fun t => { t with instr := .highz, data := 0, driving := false, highZ := true, debugReach := false })

/-- TAP_PRIVATE_INSTRUCTION: internal debug reach under CONSENTED-DEBUG or VENDOR-DEBUG; otherwise a one-bit register that
reads zero (R563, R614). What an internal register reads is free (log 66). -/
def execTapPrivateInstruction (code : Byte) (s : State) : Host.Outcome State Fault Refusal :=
  .next ((s.tapInstr fun t =>
    { t with instr := .privateInstr code, data := if s.tapDebug then Config.debugRegister s.draws code else 0,
             driving := false, highZ := false, debugReach := s.tapDebug }).drawn)

end Sys2Proof.Machine
end

