-- ==== Sys2Proof/Machine/Dispatch.lean ====
section
/-! DEFINITION. One arm per command: the meaning of each row of the opcode table. -/

namespace Sys2Proof.Machine

/-- A command's effect on everything but the queue. -/
def exec (i : Instr) (s : State) : Host.Outcome State Fault Refusal :=
  match i with
  | .coldStart c => Sys2Proof.Machine.execColdStart c s
  | .entropyContinuousFail => Sys2Proof.Machine.execEntropyContinuousFail s
  | .drbgReseed => Sys2Proof.Machine.execDrbgReseed s
  | .mainValid => Sys2Proof.Machine.execMainValid s
  | .mainLoss c => Sys2Proof.Machine.execMainLoss c s
  | .stbyLoss => Sys2Proof.Machine.execStbyLoss s
  | .vhubRamp => Sys2Proof.Machine.execVhubRamp s
  | .modResetAssert lowNs recognised c => Sys2Proof.Machine.execModResetAssert lowNs recognised c s
  | .modResetRelease => Sys2Proof.Machine.execModResetRelease s
  | .warmResetRequest ch v c => Sys2Proof.Machine.execWarmResetRequest ch v c s
  | .tamperFire src => Sys2Proof.Machine.execTamperFire src s
  | .hostDelivery ch addr len img => Sys2Proof.Machine.execHostDelivery ch addr len img s
  | .itemVerified data govFail vfabFail => Sys2Proof.Machine.execItemVerified data govFail vfabFail s
  | .svnCommit ch n => Sys2Proof.Machine.execSvnCommit ch n s
  | .updateCheckDone items => Sys2Proof.Machine.execUpdateCheckDone items s
  | .aliasCommit ch v => Sys2Proof.Machine.execAliasCommit ch v s
  | .idevidCertCopyWrite ch cert => Sys2Proof.Machine.execIdevidCertCopyWrite ch cert s
  | .remaskPass => Sys2Proof.Machine.execRemaskPass s
  | .bindingAdvance ch v selfTestOk blowOk => Sys2Proof.Machine.execBindingAdvance ch v selfTestOk blowOk s
  | .bindingOverlapEnd => Sys2Proof.Machine.execBindingOverlapEnd s
  | .caStage ch anchor => Sys2Proof.Machine.execCaStage ch anchor s
  | .caStageLapse => Sys2Proof.Machine.execCaStageLapse s
  | .caOverlapEnd => Sys2Proof.Machine.execCaOverlapEnd s
  | .digestStart j d => Sys2Proof.Machine.execDigestStart j d s
  | .digestResult j => Sys2Proof.Machine.execDigestResult j s
  | .compare j aux => Sys2Proof.Machine.execCompare j aux s
  | .extend j mr aux => Sys2Proof.Machine.execExtend j mr aux s
  | .exportCtx j => Sys2Proof.Machine.execExportCtx j s
  | .importCtx j blob => Sys2Proof.Machine.execImportCtx j blob s
  | .digestAbort j => Sys2Proof.Machine.execDigestAbort j s
  | .digestJobDone j bytes => Sys2Proof.Machine.execDigestJobDone j bytes s
  | .digestAlarm busError => Sys2Proof.Machine.execDigestAlarm busError s
  | .inlineLaneGrant ferry => Sys2Proof.Machine.execInlineLaneGrant ferry s
  | .wmac c f a b dst => Sys2Proof.Machine.execWmac c f a b dst s
  | .lmac c f a b dst => Sys2Proof.Machine.execLmac c f a b dst s
  | .keyload c dst => Sys2Proof.Machine.execKeyload c dst s
  | .bnEnd c => Sys2Proof.Machine.execBnEnd c s
  | .bnYield => Sys2Proof.Machine.execBnYield s
  | .bnSealedAccess c word => Sys2Proof.Machine.execBnSealedAccess c word s
  | .bnAlarm => Sys2Proof.Machine.execBnAlarm s
  | .leaseLapse l => Sys2Proof.Machine.execLeaseLapse l s
  | .leaseRevoke by_ l => Sys2Proof.Machine.execLeaseRevoke by_ l s
  | .paceMonitorWindow die readings => Sys2Proof.Machine.execPaceMonitorWindow die readings s
  | .beatFloorUpdate => Sys2Proof.Machine.execBeatFloorUpdate s
  | .temperatureSample die readings => Sys2Proof.Machine.execTemperatureSample die readings s
  | .voltageSample m mv => Sys2Proof.Machine.execVoltageSample m mv s
  | .ballastThresholdReached core array => Sys2Proof.Machine.execBallastThresholdReached core array s
  | .ballastThresholdWrite ch v => Sys2Proof.Machine.execBallastThresholdWrite ch v s
  | .nop core => Sys2Proof.Machine.execNop core s
  | .loadw core => Sys2Proof.Machine.execLoadw core s
  | .frontStart core waitBeats => Sys2Proof.Machine.execFrontStart core waitBeats s
  | .stream core => Sys2Proof.Machine.execStream core s
  | .opacc core => Sys2Proof.Machine.execOpacc core s
  | .drain core => Sys2Proof.Machine.execDrain core s
  | .arrayOperationStart core gapBeats => Sys2Proof.Machine.execArrayOperationStart core gapBeats s
  | .arrayFreeze core draining => Sys2Proof.Machine.execArrayFreeze core draining s
  | .vld core => Sys2Proof.Machine.execVld core s
  | .vld48 core => Sys2Proof.Machine.execVld48 core s
  | .vst core => Sys2Proof.Machine.execVst core s
  | .vst48 core => Sys2Proof.Machine.execVst48 core s
  | .vadd core => Sys2Proof.Machine.execVadd core s
  | .vsub core => Sys2Proof.Machine.execVsub core s
  | .vmul core => Sys2Proof.Machine.execVmul core s
  | .vmax core => Sys2Proof.Machine.execVmax core s
  | .vmin core => Sys2Proof.Machine.execVmin core s
  | .vreq core => Sys2Proof.Machine.execVreq core s
  | .vlut core => Sys2Proof.Machine.execVlut core s
  | .vsum core => Sys2Proof.Machine.execVsum core s
  | .vsmax core => Sys2Proof.Machine.execVsmax core s
  | .send core => Sys2Proof.Machine.execSend core s
  | .recv core => Sys2Proof.Machine.execRecv core s
  | .waitslot core => Sys2Proof.Machine.execWaitslot core s
  | .fence core => Sys2Proof.Machine.execFence core s
  | .endStep core => Sys2Proof.Machine.execEndStep core s
  | .soundUnitArrive u => Sys2Proof.Machine.execSoundUnitArrive u s
  | .noProgressFault core => Sys2Proof.Machine.execNoProgressFault core s
  | .planDelivery ch addr len => Sys2Proof.Machine.execPlanDelivery ch addr len s
  | .planCheck file => Sys2Proof.Machine.execPlanCheck file s
  | .planSwitch ch v => Sys2Proof.Machine.execPlanSwitch ch v s
  | .planDiscard ch v => Sys2Proof.Machine.execPlanDiscard ch v s
  | .planAdmission poisoned => Sys2Proof.Machine.execPlanAdmission poisoned s
  | .spanAdmission report => Sys2Proof.Machine.execSpanAdmission report s
  | .tideDeparture => Sys2Proof.Machine.execTideDeparture s
  | .tideFinish => Sys2Proof.Machine.execTideFinish s
  | .spanWaitExpiry missing => Sys2Proof.Machine.execSpanWaitExpiry missing s
  | .sqTailWrite tee ring v => Sys2Proof.Machine.execSqTailWrite tee ring v s
  | .cqHeadWrite tee ring v => Sys2Proof.Machine.execCqHeadWrite tee ring v s
  | .ringConfigWrite ch cfg => Sys2Proof.Machine.execRingConfigWrite ch cfg s
  | .ingestModeWrite ch v => Sys2Proof.Machine.execIngestModeWrite ch v s
  | .score ring entry translated => Sys2Proof.Machine.execScore ring entry translated s
  | .events ring entry translated => Sys2Proof.Machine.execEvents ring entry translated s
  | .resubmit ring entry => Sys2Proof.Machine.execResubmit ring entry s
  | .fenceWaitRelease ring => Sys2Proof.Machine.execFenceWaitRelease ring s
  | .recordFetchDone tag record => Sys2Proof.Machine.execRecordFetchDone tag record s
  | .pageRequestResponse o success => Sys2Proof.Machine.execPageRequestResponse o success s
  | .priTimeout o => Sys2Proof.Machine.execPriTimeout o s
  | .atsInvalidation iova len => Sys2Proof.Machine.execAtsInvalidation iova len s
  | .completionPost tag tr => Sys2Proof.Machine.execCompletionPost tag tr s
  | .msixHoldoffExpiry vec => Sys2Proof.Machine.execMsixHoldoffExpiry vec s
  | .fenceObjectWrite tee f v => Sys2Proof.Machine.execFenceObjectWrite tee f v s
  | .shoalEventApply n => Sys2Proof.Machine.execShoalEventApply n s
  | .shoalSample tag => Sys2Proof.Machine.execShoalSample tag s
  | .shoalSleep n => Sys2Proof.Machine.execShoalSleep n s
  | .shoalImageLoad ch addr len => Sys2Proof.Machine.execShoalImageLoad ch addr len s
  | .shoalImageLoaded img => Sys2Proof.Machine.execShoalImageLoaded img s
  | .shoalSnapshot ch addr len => Sys2Proof.Machine.execShoalSnapshot ch addr len s
  | .snapshotCapture => Sys2Proof.Machine.execSnapshotCapture s
  | .evidenceRequest ch nonce => Sys2Proof.Machine.execEvidenceRequest ch nonce s
  | .tenantExtend ch mr data => Sys2Proof.Machine.execTenantExtend ch mr data s
  | .checkpointInterval => Sys2Proof.Machine.execCheckpointInterval s
  | .checkpointRequest ch v => Sys2Proof.Machine.execCheckpointRequest ch v s
  | .checkpointSigned translated => Sys2Proof.Machine.execCheckpointSigned translated s
  | .ringControlEnable tee r v translated => Sys2Proof.Machine.execRingControlEnable tee r v translated s
  | .ringControlHead tee r v translated => Sys2Proof.Machine.execRingControlHead tee r v translated s
  | .getVersion => Sys2Proof.Machine.execGetVersion s
  | .getCapabilities => Sys2Proof.Machine.execGetCapabilities s
  | .negotiateAlgorithms offersP384Sha384 => Sys2Proof.Machine.execNegotiateAlgorithms offersP384Sha384 s
  | .getDigests => Sys2Proof.Machine.execGetDigests s
  | .getCertificate slot offset len => Sys2Proof.Machine.execGetCertificate slot offset len s
  | .challenge slot nonce => Sys2Proof.Machine.execChallenge slot nonce s
  | .getMeasurements index nonce => Sys2Proof.Machine.execGetMeasurements index nonce s
  | .chunkGet seq => Sys2Proof.Machine.execChunkGet seq s
  | .keyExchange exchangeData => Sys2Proof.Machine.execKeyExchange exchangeData s
  | .finish idx verifyOk heartbeatS => Sys2Proof.Machine.execFinish idx verifyOk heartbeatS s
  | .endSession idx => Sys2Proof.Machine.execEndSession idx s
  | .heartbeat idx => Sys2Proof.Machine.execHeartbeat idx s
  | .keyUpdate idx => Sys2Proof.Machine.execKeyUpdate idx s
  | .vendorDefinedRequest idx op h data => Sys2Proof.Machine.execVendorDefinedRequest idx op h data s
  | .query idx => Sys2Proof.Machine.execQuery idx s
  | .keyProg idx id key => Sys2Proof.Machine.execKeyProg idx id key s
  | .kSetGo idx id => Sys2Proof.Machine.execKSetGo idx id s
  | .kSetStop idx id => Sys2Proof.Machine.execKSetStop idx id s
  | .getTdispVersion idx => Sys2Proof.Machine.execGetTdispVersion idx s
  | .getTdispCapabilities idx => Sys2Proof.Machine.execGetTdispCapabilities idx s
  | .lockInterfaceRequest idx => Sys2Proof.Machine.execLockInterfaceRequest idx s
  | .getDeviceInterfaceReport idx => Sys2Proof.Machine.execGetDeviceInterfaceReport idx s
  | .getDeviceInterfaceState idx => Sys2Proof.Machine.execGetDeviceInterfaceState idx s
  | .startInterfaceRequest idx nonce => Sys2Proof.Machine.execStartInterfaceRequest idx nonce s
  | .stopInterfaceRequest idx => Sys2Proof.Machine.execStopInterfaceRequest idx s
  | .ideIntegrityFail stream => Sys2Proof.Machine.execIdeIntegrityFail stream s
  | .clearModelLoad ch addr len => Sys2Proof.Machine.execClearModelLoad ch addr len s
  | .boundBundleLoad ch addr len head => Sys2Proof.Machine.execBoundBundleLoad ch addr len head s
  | .modelLoadComplete slot r => Sys2Proof.Machine.execModelLoadComplete slot r s
  | .consentKeyWrite ch d => Sys2Proof.Machine.execConsentKeyWrite ch d s
  | .consentTokenSubmit ch t => Sys2Proof.Machine.execConsentTokenSubmit ch t s
  | .consentTokenExpiry sc => Sys2Proof.Machine.execConsentTokenExpiry sc s
  | .consentWithdraw ch v => Sys2Proof.Machine.execConsentWithdraw ch v s
  | .regionAllocate ch region stack size => Sys2Proof.Machine.execRegionAllocate ch region stack size s
  | .regionFree ch region => Sys2Proof.Machine.execRegionFree ch region s
  | .scrubSuspend ch region => Sys2Proof.Machine.execScrubSuspend ch region s
  | .scrubResume ch region => Sys2Proof.Machine.execScrubResume ch region s
  | .scrubComplete t => Sys2Proof.Machine.execScrubComplete t s
  | .scrubReadbackFail t mib => Sys2Proof.Machine.execScrubReadbackFail t mib s
  | .trainingDone p => Sys2Proof.Machine.execTrainingDone p s
  | .hello p m => Sys2Proof.Machine.execHello p m s
  | .encap p ct => Sys2Proof.Machine.execEncap p ct s
  | .confirm p ecdsaOk mldsaOk => Sys2Proof.Machine.execConfirm p ecdsaOk mldsaOk s
  | .refusedRetry p => Sys2Proof.Machine.execRefusedRetry p s
  | .dataFrame p f => Sys2Proof.Machine.execDataFrame p f s
  | .retransmissionExhausted p => Sys2Proof.Machine.execRetransmissionExhausted p s
  | .straitLinkLoss p => Sys2Proof.Machine.execStraitLinkLoss p s
  | .epochExchangeStart p => Sys2Proof.Machine.execEpochExchangeStart p s
  | .epochBound p => Sys2Proof.Machine.execEpochBound p s
  | .finishMark p m => Sys2Proof.Machine.execFinishMark p m s
  | .allFinished p m => Sys2Proof.Machine.execAllFinished p m s
  | .spanFenceUnit p f v => Sys2Proof.Machine.execSpanFenceUnit p f v s
  | .spanSyncExchange t1 t2 t3 t4 parentHops => Sys2Proof.Machine.execSpanSyncExchange t1 t2 t3 t4 parentHops s
  | .moduleAddressWrite ch v => Sys2Proof.Machine.execModuleAddressWrite ch v s
  | .timeStepStage ch cmd => Sys2Proof.Machine.execTimeStepStage ch cmd s
  | .timeStepConfirm ch d => Sys2Proof.Machine.execTimeStepConfirm ch d s
  | .timeStepApply => Sys2Proof.Machine.execTimeStepApply s
  | .timeStepLapse => Sys2Proof.Machine.execTimeStepLapse s
  | .timePpsSecond => Sys2Proof.Machine.execTimePpsSecond s
  | .timeRefWrite ch v => Sys2Proof.Machine.execTimeRefWrite ch v s
  | .timeRefLock => Sys2Proof.Machine.execTimeRefLock s
  | .timeRefRelease => Sys2Proof.Machine.execTimeRefRelease s
  | .sync => Sys2Proof.Machine.execSync s
  | .announce => Sys2Proof.Machine.execAnnounce s
  | .delayReq toMulticast toOwnMac seqId => Sys2Proof.Machine.execDelayReq toMulticast toOwnMac seqId s
  | .foreignPtpMessage => Sys2Proof.Machine.execForeignPtpMessage s
  | .readShort ch h => Sys2Proof.Machine.execReadShort ch h s
  | .writeShort ch h data => Sys2Proof.Machine.execWriteShort ch h data s
  | .objectWrite w => Sys2Proof.Machine.execObjectWrite w s
  | .readLong ch h => Sys2Proof.Machine.execReadLong ch h s
  | .writeLong ch h data => Sys2Proof.Machine.execWriteLong ch h data s
  | .continueTu ch h data => Sys2Proof.Machine.execContinueTu ch h data s
  | .abortTu ch h => Sys2Proof.Machine.execAbortTu ch h s
  | .odTransferIdle ch => Sys2Proof.Machine.execOdTransferIdle ch s
  | .sessionOpen ch => Sys2Proof.Machine.execSessionOpen ch s
  | .sessionClose ch => Sys2Proof.Machine.execSessionClose ch s
  | .identReq dest => Sys2Proof.Machine.execIdentReq s dest
  | .cHello m => Sys2Proof.Machine.execCHello m s
  | .cFinish f sigOk sigR sigS => Sys2Proof.Machine.execCFinish f sigOk sigR sigS s
  | .causewayClose f => Sys2Proof.Machine.execCausewayClose f s
  | .causewaySessionIdle idx => Sys2Proof.Machine.execCausewaySessionIdle idx s
  | .causewayFrameLimit idx => Sys2Proof.Machine.execCausewayFrameLimit idx s
  | .fwBegin f len => Sys2Proof.Machine.execFwBegin f len s
  | .fwData f offset data ecdsaOk mldsaOk => Sys2Proof.Machine.execFwData f offset data ecdsaOk mldsaOk s
  | .fwEnd f => Sys2Proof.Machine.execFwEnd f s
  | .fwTransferStall => Sys2Proof.Machine.execFwTransferStall s
  | .budget f cap validityMs ident => Sys2Proof.Machine.execBudget f cap validityMs ident s
  | .budgetLapse => Sys2Proof.Machine.execBudgetLapse s
  | .cosignGrantWrite ch d expiry => Sys2Proof.Machine.execCosignGrantWrite ch d expiry s
  | .vfabSetpointStep die powerW => Sys2Proof.Machine.execVfabSetpointStep die powerW s
  | .thermalLoopStep die => Sys2Proof.Machine.execThermalLoopStep die s
  | .powerCapStep moduleW hubW dieW => Sys2Proof.Machine.execPowerCapStep moduleW hubW dieW s
  | .watchdogFire g imageEqual => Sys2Proof.Machine.execWatchdogFire g imageEqual s
  | .governorRestart g => Sys2Proof.Machine.execGovernorRestart g s
  | .dieThermalTrip die => Sys2Proof.Machine.execDieThermalTrip die s
  | .hubThermalTrip => Sys2Proof.Machine.execHubThermalTrip s
  | .vfabCurrentLimit die => Sys2Proof.Machine.execVfabCurrentLimit die s
  | .vfabOvercurrentOff die => Sys2Proof.Machine.execVfabOvercurrentOff die s
  | .dieOffline die => Sys2Proof.Machine.execDieOffline die s
  | .coreFault core => Sys2Proof.Machine.execCoreFault core s
  | .coreSwap die => Sys2Proof.Machine.execCoreSwap die s
  | .hbmUncorrectableRead stack line => Sys2Proof.Machine.execHbmUncorrectableRead stack line s
  | .faultRecordExtend cleared => Sys2Proof.Machine.execFaultRecordExtend cleared s
  | .lifecycleStage ch v => Sys2Proof.Machine.execLifecycleStage ch v s
  | .lifecycleConfirm ch v blowOk => Sys2Proof.Machine.execLifecycleConfirm ch v blowOk s
  | .bypass => Sys2Proof.Machine.execBypass s
  | .idcode => Sys2Proof.Machine.execIdcode s
  | .samplePreload shiftIn => Sys2Proof.Machine.execSamplePreload shiftIn s
  | .extest => Sys2Proof.Machine.execExtest s
  | .clamp => Sys2Proof.Machine.execClamp s
  | .highz => Sys2Proof.Machine.execHighz s
  | .tapPrivateInstruction code => Sys2Proof.Machine.execTapPrivateInstruction code s
  | .hbmTrainingComplete hbmFail => Sys2Proof.Machine.execHbmTrainingComplete hbmFail s
  | .pcieLinkUp => Sys2Proof.Machine.execPcieLinkUp s
  | .snapshotComplete translated => Sys2Proof.Machine.execSnapshotComplete translated s
  | .spdmHeartbeatTimeout idx => Sys2Proof.Machine.execSpdmHeartbeatTimeout idx s
  | .idevidCertificateReturn cert => Sys2Proof.Machine.execIdevidCertificateReturn cert s
  | .lockedConfigurationChange => Sys2Proof.Machine.execLockedConfigurationChange s
  | .msixVectorUnmask a => Sys2Proof.Machine.execMsixVectorUnmask a s
  | .provisioning tamperPolicy vendorDebug anchor => Sys2Proof.Machine.execProvisioning tamperPolicy vendorDebug anchor s

end Sys2Proof.Machine
end

