-- ==== Sys2Proof/Machine/Tick.lean ====
section
/-! DEFINITION. What an idle step does: one nanosecond of device time passes (DESIGN CHOICE, log 4). -/

namespace Sys2Proof.Machine

/-- Values of a die's objects at an update point (R425; steps and rounding are applied when they are read). -/
def DieCoarse.sample (d : Die) (applied spikes full : Nat) : DieCoarse :=
  { rate := d.rate, floor := d.floor, vfabMv := d.vfabMv, vioMv := d.vioMv, vhbmMv := d.vhbmMv, ballast := d.ballast,
    frozen := d.frozen, frontWait := d.frontWait, noIssue := d.noIssue, setpoint := d.setpoint,
    slack := d.slack, thermal := d.thermal, power := d.power, applied := applied, spikes := spikes, inboxFull := full }

/-- Means of a window's sums; a window with no measurement keeps the means before it. -/
def meansOf (sums : List Nat) (n : Nat) (before : List Nat) : List Nat := if n = 0 then before else sums.map fun x => x / n

/-- R549: a 1 ms window ends. -/
def Power.close1 (p : Power) : Power :=
  { p with mean1 := meansOf p.sum1 p.count1 p.mean1, sum1 := List.replicate 14 0, count1 := 0 }

/-- R549: a 100 ms window ends. -/
def Power.close100 (p : Power) : Power :=
  { p with mean100 := meansOf p.sum100 p.count100 p.mean100, sum100 := List.replicate 14 0, count100 := 0 }

/-- The 100 ms update point of coarsened objects. -/
def State.update100ms (s : State) : State :=
  let dies := (List.range 12).map fun n =>
    DieCoarse.sample (s.fabric.die n) (s.shoal.applied.getD n 0) (s.shoal.spikes.getD n 0) (s.shoal.inboxFull.getD n 0)
  { s with
    monitors := { s.monitors with
      coarse := dies, coarseFloor := s.monitors.moduleFloor, coarsePlanFloor := s.fabric.planFloor,
      coarseVhub := s.monitors.vhubMv, coarseStby := s.monitors.stbyMv, coarseTags := s.host.subs.length }
    power := s.power.close100 }

/-- The 1 s update point of the temperatures. -/
def State.update1s (s : State) : State :=
  { s with monitors := { s.monitors with
      coarseTemps := (List.range 12).map (fun n => (s.fabric.die n).temperature) ++ [s.monitors.hubTemp]
      coarseSensors := (List.range 12).map (fun n => (s.fabric.die n).sensors) ++ [s.monitors.hubSensors] } }

/-- R462: TIME_PPS falls 10 ms after its rise. -/
def State.ppsFall (s : State) : State :=
  if s.time.lastPps = some (s.clock.count - 10000000) ∧ 10000000 ≤ s.clock.count then
    { s with pins := { s.pins with timePps := false } }
  else s

/-- R427: a stack's engine scrubs one region after another; 400 GB/s are 382 MiB in 1 ms (14, Limits; log 110). -/
def Retained.scrubOn (r : Retained) (served : Nat → Bool) : Retained :=
  (List.range 12).foldl (fun r n =>
    match r.regions.find? fun e => e.2.state == .scrubbing && e.2.stack == n with
    | some e =>
      if served n && !r.stackScrub.getLsbD n then
        { r with regions := SMap.set {} r.regions e.1 { e.2 with progress := min e.2.size (e.2.progress + 382) } }
      else r
    | none => r) r

/-- The engines of the online dies scrub, from READY on (R430). -/
def State.scrubOn (s : State) : State :=
  if s.up && s.ret.regions.any fun e => e.2.state == .scrubbing then
    { s with ret := s.ret.scrubOn fun n => (s.fabric.die n).online }
  else s

/-- The windows and update points that end at this count. -/
def State.endWindows (s : State) : State :=
  let s := if s.clock.count % 1000000 = 0 then ({ s with power := s.power.close1 } : State).scrubOn else s
  let s := if s.clock.count % 100000000 = 0 then s.update100ms else s
  if s.clock.count % 1000000000 = 0 then s.update1s else s

/-- One nanosecond of the timebase; device time moves with it (15). Nothing runs while STBY is absent. -/
def State.tick (s : State) : State :=
  if s.pins.stby then (({ s with clock := ⟨s.clock.count + 1, s.clock.device + 1⟩ } : State).ppsFall.sendFrames).endWindows else s

end Sys2Proof.Machine
end

