-- ==== Sys2Proof/Safety.lean ====
section
/-! DEFINITION. The terms statements are made in: when a write reaches its object, what a fresh start leaves, the form every step
keeps, and what may never go back. -/

namespace Sys2Proof.Machine

/-- A permitted whole write on a channel reaches its object (R401, R101, R478, R492, R494). -/
abbrev State.accepts (s : State) (ch : Channel) (index sub : Nat) (r : Rights) : Prop :=
  (s.touch ch).writeReaches ch index sub r = true

/-- A write that reached its object had this effect, or was ignored (R485) because the object does not accept it. -/
def State.writtenBy (s : State) (ch : Channel) (index sub : Nat) (f : State → Option State) : State :=
  match f (s.touch ch) with
  | some t => t
  | none => (s.touch ch).ignoreWrite index sub

/-- Nothing in the silicon stops a start (R75, R78, R81, R98, R102). -/
abbrev cleanStart (c : StartConds) : Prop :=
  c.eccUncorrectable = false ∧ c.pufFailures < 3 ∧ c.entropyFailures < 3 ∧ c.retentionFault = false ∧ c.tamperActive = 0

/-- The fuses pass the integrity check, and a device secret is wrapped and not revoked (R75, R79, R82). -/
abbrev Otp.serviceable (o : Otp) : Prop :=
  o.integrityOk false = true ∧ o.drsRevoked = false ∧ o.closed.getLsbD 2 = true

/-- Every VOLATILE object at its default, but for what the boot stage itself sets and for the two engines (16, "Persistence"). -/
def State.volatileClear (t : State) : Prop :=
  t.keys = {} ∧ t.monitors = {} ∧ t.fabric = { hbm := t.fabric.hbm } ∧ t.host = {} ∧ t.shoal = {} ∧
    t.hosting = {} ∧ t.straits = {} ∧ t.time = {} ∧ t.od = {} ∧ t.causeway = {} ∧ t.power = {} ∧ t.faults = {}

/-- The boot stage has ended step 6 of R104: STANDBY, a DRBG, MR0 with the ROM and the patch digest, the rest at default. -/
def State.atStandby (t : State) : Prop :=
  t.start.power = .standby ∧ t.start.phase = .standby ∧ t.start.halt = .none ∧ t.start.drbgUp = true ∧
    t.start.runtime = false ∧ t.start.load = none ∧ t.start.condition = .sealed ∧
    t.mr 0 = extendValue (extendValue 0 (digestBytes Config.romDigest)) (digestBytes (t.otp.regionDigest.getD 1 0)) ∧
    (∀ k, 1 ≤ k → t.mr k = 0) ∧ t.engines = {} ∧ t.volatileClear ∧
    t.pins.vhub = false ∧ t.pins.pcieUp = false ∧ t.pins.rotStatus = 0 ∧ t.pins.presentLow = true

/-- The device stands in TAMPER-HALT with no key and no session (R79, R99, R561). -/
def State.atTamperHalt (t : State) : Prop :=
  t.start.power = .standby ∧ t.start.phase = .tamperHalt ∧ t.start.halt = .tamper ∧ t.pins.rotStatus = 3 ∧
    t.pins.vhub = false ∧ t.volatileClear

/-- What a warm reset keeps over the restart: fuses, timebase, the platform's pins, host memory (R102, R593). -/
def State.keptOver (s t : State) : Prop :=
  t.otp = s.otp ∧ t.clock = s.clock ∧ t.pins.stby = s.pins.stby ∧ t.fabric.hbm = s.fabric.hbm ∧ t.hostMem = s.hostMem ∧
    t.pending = s.pending

/-- Every list of the state that stands for a fixed number of like things has that number. -/
def State.shapes (s : State) : Prop :=
  s.measure.mrs.length = 32 ∧ s.fabric.dies.length = 12 ∧ s.power.governors.length = 13 ∧ s.straits.ports.length = 12 ∧
    s.od.channels.length = 13 ∧ s.causeway.sessions.length = 8 ∧ s.hosting.sessions.length = 4 ∧ s.hosting.loads.length = 4 ∧ s.hosting.streamIds.length = 9 ∧
    s.engines.jobs.length = 8 ∧ s.engines.laneBusy.length = 4 ∧ s.engines.laneQueue.length = 4 ∧ s.shoal.clusters.length = 12 ∧
    s.otp.svn.length = 4 ∧ s.otp.caSlots.length = 8 ∧ s.ret.stores.length = 4 ∧ s.ret.tokens.length = 3 ∧ s.ret.portEnable.length = 12 ∧
    ∀ k, (s.fabric.core k).arrays.length = 4

/-- Every map of the state, and host memory, is in its canonical form: keys strictly rising, no entry at its default. -/
def State.mapsWf (s : State) : Prop :=
  Memory.wf s.hostMem = true ∧ SMap.wf none s.keys.store = true ∧ SMap.wf 0 s.engines.long.words = true ∧
    SMap.wf 0 s.engines.short.words = true ∧ SMap.wf {} s.fabric.cores = true ∧ SMap.wf {} s.host.rings = true ∧
    SMap.wf 0 s.host.fences = true ∧ SMap.wf none s.host.subs = true ∧ SMap.wf {} s.hosting.ide = true ∧ SMap.wf (0, 0, true) s.host.msix = true ∧
    SMap.wf 0 s.host.msixSent = true ∧ SMap.wf {} s.ret.regions = true ∧ (∀ n, SMap.wf 0 (s.shoal.cluster n).records = true) ∧
    ∀ k, SMap.wf {} (s.fabric.core k).lagoon = true

/-- The form that every step keeps. -/
def State.Inv (s : State) : Prop := s.shapes ∧ s.mapsWf

/-- What test and factory fuse for good. -/
def State.identityFuses (s : State) : BitVec 128 × Grade × List Nat × SMap (BitVec 4) × Digest × Digest :=
  (s.otp.serial, s.otp.grade, s.otp.processIndex, s.otp.arrayMask, s.otp.anchorPrimary, s.otp.anchorSecondary)

/-- Every fuse blown on the rails of one thermometer is blown on those of another. -/
def Thermo.within (t u : Thermo) : Prop := t.a &&& u.a = t.a ∧ t.b &&& u.b = t.b

/-- No step of the four kinds of thermometers is undone. -/
def Otp.grownTo (o p : Otp) : Prop :=
  o.lifecycle.within p.lifecycle ∧ o.revoked.within p.revoked ∧ o.epoch.within p.epoch ∧
    ∀ k, (o.svn.getD k {}).within (p.svn.getD k {})

/-! ### Cores -/

/-- The sequencer of a core stands before a step that issues now (R248, R251, R253). -/
abbrev State.issuesStep (s : State) (core : Nat) (st : CoreStep) : Prop :=
  s.issues core = true ∧ s.stepAt core = some st ∧ (s.fabric.core core).mayIssue st = true ∧
    (s.fabric.core core).slotFault st = false

/-- The same for a core with no operation outstanding. -/
abbrev State.issuesAlone (s : State) (core : Nat) (st : CoreStep) : Prop :=
  s.issuesStep core st ∧ (s.fabric.core core).ops = []

/-- Only one core, and counters of its die, have changed. -/
def State.onlyCore (s t : State) (core : Nat) : Prop :=
  (∀ k, k ≠ core → t.fabric.core k = s.fabric.core k) ∧
    t = { s with fabric := { s.fabric with cores := t.fabric.cores, dies := t.fabric.dies, flight := t.fabric.flight } }

/-- A core after one step that completed at once: the sequencer has moved on, nothing is outstanding, and its arrays, slots and
windows stand. -/
def Core.steppedTo (c d : Core) : Prop :=
  d.seq = c.seq + 1 ∧ d.ops = [] ∧ d.issuing = c.issuing ∧ d.arrays = c.arrays ∧ d.slots = c.slots ∧ d.recvBuf = c.recvBuf

/-- A vector register takes given lanes and a given tag; every other register and the Lagoon stand. -/
def Core.tookLanes (c d : Core) (vd : Nat) (lane : Nat → Int) (tag : Bool) : Prop :=
  (∀ i, i < 128 → (d.vreg vd).lanes.getD i 0 = lane i) ∧ (d.vreg vd).tag = tag ∧
    (∀ k, k ≠ vd → d.vreg k = c.vreg k) ∧ d.lagoon = c.lagoon

/-- No line of a range lies in a window of the core (R247). -/
def Core.clearOf (c : Core) (line n : Nat) : Prop := ∀ k, line ≤ k → k < line + n → c.inWindow k = false

/-- Lines outside a range read as before. -/
def Core.sameOutside (c d : Core) (line n : Nat) : Prop := ∀ k, (k < line ∨ line + n ≤ k) → d.line k = c.line k

/-! ### The Shoal engine -/

/-- The two states differ only in the Shoal engine and in the submissions it serves. -/
def State.onlyShoal (s t : State) : Prop := t = { s with host := t.host, shoal := t.shoal }

/-- Every record of every cluster stands, but for one. -/
def State.recordsBut (s t : State) (n i : Nat) : Prop :=
  ∀ m j, m ≠ n ∨ j ≠ i → (t.shoal.cluster m).record j = (s.shoal.cluster m).record j

/-- Every record of every cluster stands. -/
def State.sameRecords (s t : State) : Prop := ∀ m j, (t.shoal.cluster m).record j = (s.shoal.cluster m).record j

/-- The event that a cluster takes next (R352, R355, R356): its lowest, with no lower one to come, with room for its spikes. -/
abbrev State.appliesNext (s : State) (n : Nat) (e : ShoalEvent) : Prop :=
  s.shoal.next n = some e ∧ e.target = n ∧ s.mayApply e = true ∧ s.shoal.emitHeld e = false

/-- Channel `k` of a record leaked to an event's time (R346, R347). -/
def Cluster.leakedTo (c : Cluster) (w t k : Nat) : Int := c.leak (tcselOf w k) (deltaOf w t) (channelOf w k)

/-! ### The host path -/

/-- A host access through a BAR reaches the device (R401): the link is up in D0, and inside the TEE stream where the TDI needs it. -/
abbrev State.hostReaches (s : State) (tee : Bool) : Prop :=
  s.pins.pcieUp = true ∧ s.host.d3hot = false ∧ s.teeBlocked (.bar0 tee) = false

/-- A doorbell value that its ring takes (R305). -/
abbrev State.doorbellOk (s : State) (r v : Nat) : Prop := s.host.disabled r = false ∧ v < (s.host.ring r).depth

/-- A well-formed LIVE entry, read from the ring whose turn it is and held by no fence (R308-R311). -/
abbrev State.readsEntry (s : State) (r : Nat) (w : BitVec 512) : Prop :=
  s.readsRing r = true ∧ s.logged = false ∧
    malformedCase false (((s.fabric.entry (s.host.ring r).stream).map (·.inputMax)).getD 0) w.toNat = none ∧
    ((sqEntryOf w.toNat).fenceWait = false ∨
      (sqEntryOf w.toNat).fenceValue ≤ SMap.get 0 s.host.fences (sqEntryOf w.toNat).fenceId)

/-- Every submission but one stands. -/
def State.otherSubs (s t : State) (tag : Nat) : Prop := ∀ k, k ≠ tag → t.host.sub k = s.host.sub k

/-- What forwarding leaves of a submission: everything but how many of its events are out and, for EVENTS, its completion (R316, R322). -/
def Submission.standing (x : Submission) : Submission :=
  if x.kind = 2 then { x with forwarded := 0, phase := .staged, status := none, flags := 0 } else { x with forwarded := 0 }

/-- Every submission but one stands while events go on being forwarded. -/
def State.othersKept (s t : State) (tag : Nat) : Prop :=
  ∀ k, k ≠ tag → (t.host.sub k).map Submission.standing = (s.host.sub k).map Submission.standing

/-- The octets at an address of host memory, as the device has written them. -/
def State.hostHolds (s : State) (addr : Nat) (b : Bytes) : Prop := ∀ i, i < b.length → readByte s.hostMem (addr + i) = b[i]?

/-! ### The responder -/

/-- A request answered with a code and a body, and nothing changed outside the responder. -/
def State.answeredBy (s t : State) (code : Nat) (body : Bytes) : Prop :=
  t.hosting.response = some (code, body) ∧ t = { s with hosting := t.hosting, draws := t.draws }

/-- Nothing outside the responder has changed but what moving a key through the WKR changes (R80, R117). -/
def State.keyedOnly (s t : State) : Prop :=
  t = { s with
    hosting := t.hosting, draws := t.draws, keys := { s.keys with wkr := t.keys.wkr }
    start := { s.start with drbgRequests := t.start.drbgRequests } }

/-- Nothing outside the responder has changed but what a signature changes: the DRBG, the debug IDevID certificate, and the big-number
engine where an alarm struck it (R172, R558). -/
def State.signedOnly (s t : State) : Prop :=
  t = { s with
    hosting := t.hosting, draws := t.draws, keys := { s.keys with wkr := t.keys.wkr, debugIdevidCert := t.keys.debugIdevidCert }
    start := { s.start with drbgRequests := t.start.drbgRequests }, engines := t.engines } ∧
    (t.engines = s.engines ∨ t.engines = s.engines.bnAlarm)

/-- A signed answer (R172, R378): the content and the signature of the key that signs evidence, the first of two attempts that verifies;
ERROR, Unspecified, where neither does. -/
def State.answeredSigned (s t : State) (code : Nat) (content : Bytes) : Prop :=
  let k := s.evidenceKey.ec
  s.signedOnly t ∧ ∃ m d, (∀ n, (ecdsaSign k m n).length = 96) ∧
    t.hosting.response =
      if ecdsaVerify (ecPublic k) m (ecdsaSign k m d) then some (code, content ++ ecdsaSign k m d)
      else if ecdsaVerify (ecPublic k) m (ecdsaSign k m (d + 3)) then some (code, content ++ ecdsaSign k m (d + 3))
      else some (0x7F, [5])

/-- A secured session is established and served (R405). -/
abbrev State.inSession (s : State) (i : Nat) : Prop := s.securedServed = true ∧ (s.spdmSession i).phase = 2

/-- The other secured sessions stand. -/
def State.otherSessions (s t : State) (i : Nat) : Prop := ∀ k, k ≠ i → t.spdmSession k = s.spdmSession k

/-! ### Straits -/

/-- Only one Strait port has changed, and what draws, keys that pass through the WKR and a signature change (R80, R117, R172). -/
def State.onlyPort (s t : State) (p : Nat) : Prop :=
  (∀ q, q ≠ p → t.port q = s.port q) ∧
    t = { s with
      straits := { s.straits with ports := t.straits.ports }, draws := t.draws, keys := { s.keys with wkr := t.keys.wkr }
      start := { s.start with drbgRequests := t.start.drbgRequests }, engines := t.engines } ∧
    (t.engines = s.engines ∨ t.engines = s.engines.bnAlarm)

/-! ### Dies and the test access port -/

/-- A die has gone offline in a session (R576, R577): its supplies are off, its port is DISABLED, its Shoal records are lost, its
streams are HALTED; the other dies stand. -/
def State.dieGone (s t : State) (n : Nat) : Prop :=
  (t.fabric.die n).online = false ∧ (t.fabric.die n).vfabOn = false ∧ (t.fabric.die n).vhbmOn = false ∧
    (∀ k, k ≠ n → t.fabric.die k = s.fabric.die k) ∧ (t.port n).state = .disabled ∧ (t.shoal.cluster n).records = [] ∧
    (∀ st ∈ s.fabric.streamsOfDie n, st < 64 → inMask t.fabric.halted st = true) ∧ t.otp = s.otp ∧ t.hostMem = s.hostMem

/-- Only the test access port, and the draws of free values, have changed. -/
def State.onlyTap (s t : State) : Prop := t = { s with tap := t.tap, draws := t.draws }

/-! ### The object dictionary and the Causeway -/

/-- A well-formed transfer unit reaches its channel, which does not owe a SEQUENCE for an expired transfer (R487, R493, R497). -/
abbrev State.asks (s : State) (ch : Channel) (op : Nat) (h : TuHeader) (data : Bytes) : Prop :=
  s.channelUp ch = true ∧ s.teeBlocked ch = false ∧ s.tuReaches ch h = true ∧ tuMalformed ch op h data = false ∧
    s.expired ch h = false

/-- The last response of a channel. -/
def State.replied (t : State) (ch : Channel) (r : TuResponse) : Prop := (t.od.channel ch).response = some r

/-- The unit reads an object that its channel may read now. -/
abbrev State.readsObject (s : State) (ch : Channel) (h : TuHeader) : Prop :=
  s.notYet h.index.toNat h.sub.toNat = false ∧ s.hasRead ch h.index.toNat h.sub.toNat = true

/-- The unit starts a write of an object that its channel may write now, with no transfer open and no other channel's lock. -/
abbrev State.writesObject (s : State) (ch : Channel) (h : TuHeader) : Prop :=
  s.writeRight ch h.index.toNat h.sub.toNat = true ∧ s.openOn ch = none ∧ s.lockedFor ch h.index.toNat h.sub.toNat = false

/-- A Causeway session has ended: its number is free, its keys are gone, its transfer is closed; the others stand. -/
def State.causewayEnded (s t : State) (i : Nat) : Prop :=
  t.causeway.session i = {} ∧ (∀ j, j ≠ i → t.causeway.session j = s.causeway.session j) ∧
    (t.od.channels.getD (5 + i) {}).opened = none ∧ t.otp = s.otp ∧ t.measure = s.measure ∧ t.ret = s.ret

end Sys2Proof.Machine
end

