-- ==== Sys2Proof/Certificates/Slice0/Obligations.lean ====
section
/-! DEFINITION. The statements for the provers. Each cites in its docstring the rules it rests on. -/

open Sys2Proof Sys2Proof.Machine

/-! ### The start, the supplies, tamper, firmware sets -/

/-- A cold start from OFF (R73, R80, R104, R559, R607): the boot stage ends in STANDBY, every RETAINED object at its default
(so no token is in force, R559) and every stack to be scrubbed (R431), the time bases at zero, the fuses untouched. -/
def Obligations.ColdStartReachesStandby : Prop :=
  ∀ (s : State) (c : StartConds), s.start.power = .off → cleanStart c → s.otp.serviceable →
    ∃ t, exec (.coldStart c) s = .next t ∧ t.atStandby ∧ t.otp = s.otp ∧ t.ret = Retained.cold ∧ t.clock = {} ∧
      t.pins.stby = true ∧ t.hostMem = s.hostMem ∧ t.pending = s.pending ∧ t.start.eccCorrections = c.eccCorrected

/-- The three outside causes of a warm reset (R106, R593, R608, R615): the device restarts from ROM to STANDBY; fuses, timebase,
RETAINED objects (with an open session's regions to be scrubbed) and host memory stand. A TAMPER-HALT is left once every source has been
inactive for 1 s (R99). -/
def Obligations.WarmResetsRestart : Prop :=
  ∀ (s : State) (c : StartConds), s.resettable = true → (s.start.halt = .tamper → c.tamperRecent = 0) → cleanStart c → s.otp.serviceable →
    (∃ t, exec (.mainLoss c) s = .next t ∧ t.atStandby ∧ s.keptOver t ∧ t.ret = s.ret.afterReset (s.od.session != 0) ∧
      t.pins.mainValid = false) ∧
    (∀ (lowNs : Nat) (rec : Bool), (10000 ≤ lowNs ∨ 1000 ≤ lowNs ∧ rec = true) →
      ∃ t, exec (.modResetAssert lowNs rec c) s = .next t ∧ t.atStandby ∧ s.keptOver t ∧
        t.ret = s.ret.afterReset (s.od.session != 0) ∧ t.pins.modResetN = false) ∧
    (∀ (lowNs : Nat) (rec : Bool), lowNs < 1000 ∨ (lowNs < 10000 ∧ rec = false) →
      exec (.modResetAssert lowNs rec c) s = .next s) ∧
    (∀ (ch : Channel), s.accepts ch 0x2006 1 .hOpCu →
      (∃ t, exec (.warmResetRequest ch 0xA5 c) s = .next t ∧ t.atStandby ∧ s.keptOver t ∧
        t.ret = s.ret.afterReset (s.od.session != 0)) ∧
      ∀ v, v ≠ 0xA5 → exec (.warmResetRequest ch v c) s = .next ((s.touch ch).ignoreWrite 0x2006 1))

/-- Tamper (R98-R100, R135, R561, R562), a continuous entropy failure (R81) and the loss of STBY (R617): no key, no session and
no supply of MAIN is left, and the zeroise line is an engine alarm: every job channel reads ERROR with ERR_ALARM, both big-number
contexts are cleared (R154, R166). Level T2 (a source at T2 in a closed region 4) blows the revocation step and all lifecycle steps;
any other level blows nothing. DEBUG and VENDOR tokens are withdrawn, a PROFILE token stays. A FUSE-HALT stands (the model's choice, log
98).
T2 takes the revocation step and the three lifecycle steps: the device reads KILLED and its secret revoked ever after
(R100, R562, R79). -/
def Obligations.TamperClearsAndHalts : Prop :=
  (∀ s : State,
     (s.start.drbgUp = true → s.start.halt ≠ .fuse →
       ∃ t, exec .entropyContinuousFail s = .next t ∧ t.atTamperHalt ∧ t.otp = s.otp ∧
         t.ret.tamper = ⟨0, 1, s.now⟩ ∧ t.ret.pendingZeroise = some s.now) ∧
     (∀ src, s.pins.stby = true → s.start.power ≠ .off → s.start.halt ≠ .fuse →
       ∃ t, exec (.tamperFire src) s = .next t ∧ t.atTamperHalt ∧
         t.otp = (if s.otp.closed.getLsbD 4 = true ∧ s.otp.tamperT2.getLsbD (tamperIndex src) = true
                  then s.otp.takeLifecycle 3 else s.otp) ∧
         t.ret.tamper.mask = BitVec.ofNat 8 (2 ^ tamperIndex src) ∧ t.ret.tamper.time = s.now ∧
         t.ret.tokens = [s.ret.tokens.getD 0 none, none, none] ∧ t.ret.pendingZeroise = some s.now ∧ t.clock = s.clock ∧
         (∀ j, j < 8 → (t.engines.job j).state = .error ∧ (t.engines.job j).err = 6 ∧ (t.engines.job j).ctx = none) ∧
         t.engines.alarms = bump s.engines.alarms ∧ t.engines.long = { err := 6 } ∧ t.engines.short = { err := 6 }) ∧
     (∀ src, s.start.halt = .fuse → exec (.tamperFire src) s = .next s) ∧
     (∃ t, exec .stbyLoss s = .next t ∧ t.start.power = .off ∧ t.engines = {} ∧ t.volatileClear ∧ t.pins.stby = false ∧
       t.pins.presentLow = false ∧ t.pins.vhub = false ∧ t.otp = s.otp)) ∧
  (∀ o : Otp, (o.takeLifecycle 3).drsRevoked = true ∧ (o.takeLifecycle 3).lifecycleCode = 3 ∧
     o.grownTo (o.takeLifecycle 3) ∧ o.takeLifecycle 3 = { o with revoked := (o.takeLifecycle 3).revoked,
                                                                  lifecycle := (o.takeLifecycle 3).lifecycle })

/-- Supplies and resets that change one thing (R80, R104, R530, R609, R615): the whole next state is written out.
READY (R95, R96, R104): HBM training ends the start; a die whose training failed is offline and its port disabled, every other
die keeps its state, and the failure is recorded; ROT_STATUS reads RUNNING. -/
def Obligations.TheStartAdvances : Prop :=
  (∀ s : State,
     (s.start.drbgUp = true → s.reseedDue = true → exec .drbgReseed s = .next { s with start := { s.start with
         drbgRequests := 0, drbgSeededAt := s.clock.count, drbgReseeds := bump s.start.drbgReseeds } }) ∧
     (s.start.drbgRequests < 2 ^ 20 → s.clock.count < s.start.drbgSeededAt + 1000000000 → exec .drbgReseed s = .next s) ∧
     exec .mainValid s = .next { s with pins := { s.pins with mainValid := true } } ∧
     exec .modResetRelease s = .next { s with pins := { s.pins with modResetN := true } } ∧
     (s.start.power = .standby → s.start.phase = .standby → s.start.halt = .none → s.pins.mainValid = true →
       s.pins.modResetN = true →
       exec .vhubRamp s = .next { s with
         start := { s.start with power := .start, phase := .awaitSet }, pins := { s.pins with vhub := true } }) ∧
     (s.pins.modResetN = false → exec .vhubRamp s = .next s) ∧
     (s.pins.vhub = true → exec .pcieLinkUp s = .next { s with pins := { s.pins with pcieUp := true } })) ∧
  (∀ (s : State) (fail : BitVec 12), s.start.phase = .training →
     ∃ t, exec (.hbmTrainingComplete fail) s = .next t ∧ t.start.power = .ready ∧ t.start.phase = .readyOrLater ∧
       t.pins.rotStatus = 1 ∧ t.otp = s.otp ∧ t.measure = s.measure ∧ t.keys = s.keys ∧
       (∀ n, n < 12 → n < s.fabric.dies.length →
         (fail.getLsbD n = true → (t.fabric.die n).online = false ∧ (t.fabric.die n).vfabOn = false ∧ (t.fabric.die n).rate = 0 ∧
           (t.fabric.die n).floor = 0) ∧
         (fail.getLsbD n = false → t.fabric.die n = s.fabric.die n)) ∧
       (fail = 0 → t.faults = s.faults))

/-- A set delivered by the host in START (R83, R84, R93): an accepted manifest starts the load, and refuses a Causeway delivery whose
manifest had not come (R94); a refused one leaves the boot stage waiting with its code and one more refusal counted. While a load is in
progress, MOD_RESET_N is low (R610) or the TDI bars DMA (R402; the code is the model's, log 64) the answer is 0x09 and the load stands.
No accepted manifest carries an item below its counter (R84), and none fails one of the two signatures (R83). -/
def Obligations.HostDeliveryLoads : Prop :=
  (∀ (s : State) (ch : Channel) (addr : BitVec 64) (len : BitVec 32) (img : SetImage),
     s.accepts ch 0x2010 1 .host → s.start.phase = .awaitSet → s.up = false →
     ∃ t, exec (.hostDelivery ch addr len img) s = .next t ∧ t.start.delivery = (addr, len) ∧ t.otp = s.otp ∧
       t.measure = s.measure ∧
       (s.dmaBarred = false → s.loading = false → s.pins.modResetN = true → setCheck s.otp img len.toNat = 0 →
         t.start.load = some ⟨true, manifestOf img.manifest, 0, s.host.f0Requests + 1⟩ ∧ t.start.phase = .loading ∧ t.start.source = 1 ∧
           (s.fwRunning = false → t.ret = s.ret ∧ t.start.setResult = s.start.setResult) ∧
           (s.fwRunning = true → t.causeway.fw = none ∧ t.start.setResult = 0x09 ∧ t.ret.setsRefused = bump s.ret.setsRefused)) ∧
       (s.dmaBarred = false → s.loading = false → s.pins.modResetN = true → setCheck s.otp img len.toNat ≠ 0 →
         t.start.load = none ∧ t.start.phase = .awaitSet ∧ t.start.setResult = setCheck s.otp img len.toNat ∧
           t.ret.setsRefused = bump s.ret.setsRefused) ∧
       (s.dmaBarred = true ∨ s.loading = true ∨ s.pins.modResetN = false →
         t.start.load = s.start.load ∧ t.start.setResult = 0x09 ∧ t.ret.setsRefused = bump s.ret.setsRefused)) ∧
  (∀ (o : Otp) (img : SetImage) (len : Nat), setCheck o img len = 0 →
     img.ecdsaOk = true ∧ img.mldsaOk = true ∧ img.fetchFault = false ∧
     (∀ i ∈ (manifestOf img.manifest).items, o.svnValue (svnCounterOf i.type) ≤ i.svn) ∧
     (sha384 img.keyBlock = o.anchorPrimary ∨ sha384 img.keyBlock = o.anchorSecondary))

/-- A streamed item (R85, R88): EQUAL extends its register and releases its target; anything else releases nothing, and before
the runtime runs the set is discarded with code 0x06 (R86). The last item is not covered here.
An update delivered in READY, RUN or LIMIT (R123, R124): with every digest equal the prospective Alias becomes pending and MR15
takes record 0x02; otherwise nothing changes but the result. A host set whose DMA is not allowed, or that F0 has a plan to fetch
before, waits (R315, R402). -/
def Obligations.ItemsAreVerified : Prop :=
  (∀ (s : State) (data : Bytes) (gov vfab : BitVec 12) (l : SetLoad) (i : SetItem),
     s.start.load = some l → l.manifest.items[l.done]? = some i → l.done < 5 → s.itemArrived l i data = true →
     (sha384 data = i.digest →
       ∃ t, exec (.itemVerified data gov vfab) s = .next t ∧ t.start.released = s.start.released ++ [i.type] ∧
         t.mr i.type = (if i.type < s.measure.mrs.length then extendValue (s.mr i.type) (digestBytes i.digest) else 0) ∧
         (∀ k, k ≠ i.type → t.mr k = s.mr k) ∧ t.start.load = some { l with done := l.done + 1 } ∧
         t.start.runtime = (s.start.runtime || i.type == 1) ∧ t.otp = s.otp ∧ t.keys = s.keys ∧ t.ret = s.ret) ∧
     (sha384 data ≠ i.digest → s.start.runtime = false →
       ∃ t, exec (.itemVerified data gov vfab) s = .next t ∧ t.start.load = none ∧ t.start.setResult = 6 ∧
         t.start.phase = .awaitSet ∧ t.measure = s.measure ∧ t.start.released = s.start.released ∧
         t.ret.setsRefused = bump s.ret.setsRefused)) ∧
  (∀ (s : State) (items : List Bytes) (l : SetLoad), s.start.update = some l → s.up = true →
     (l.fromHost = true → (s.dmaOk = false ∨ s.planBefore l.order = true) → exec (.updateCheckDone items) s = .next s) ∧
     ((l.fromHost = true → s.dmaOk = true ∧ s.planBefore l.order = false) → ((l.manifest.items.zip items).all fun p => s.itemArrived l p.1 p.2) = true →
     (items.map sha384 = l.manifest.items.map (·.digest) →
       ∃ t, exec (.updateCheckDone items) s = .next t ∧ t.start.update = none ∧ t.start.setResult = 0 ∧
         t.ret.pendingAlias = some (s.prospectiveAlias l.manifest.items) ∧ t.keys = s.keys ∧ t.otp = s.otp ∧
         (∀ k, k ≠ 15 → t.mr k = s.mr k) ∧
         (s.ret.pendingAlias = none → 15 < s.measure.mrs.length → t.mr 15 =
           extendValue (s.mr 15) (keyRecord 2 0 (sha384 (s.prospectiveAlias l.manifest.items)) s.now))) ∧
     (items.map sha384 ≠ l.manifest.items.map (·.digest) →
       ∃ t, exec (.updateCheckDone items) s = .next t ∧ t.start.update = none ∧ t.start.setResult = 0x06 ∧
         t.ret = s.ret ∧ t.measure = s.measure ∧ t.keys = s.keys ∧ t.otp = s.otp)))

/-- SVN counters (R90-R92): a Custodian's write in READY, RUN or LIMIT raises the counter to the lowest SVN of the running
set's items of that counter; a write that would not raise it, or in any other power state, blows nothing and reads 0x05.
The provisioning station (R557) and the factory's first start (R82, steps 5 and 6). -/
def Obligations.FusesAreBlown : Prop :=
  (∀ (s : State) (ch : Channel) (n : Byte), s.accepts ch 0x2004 5 .cust → n.toNat ≤ 3 →
     ∃ t, exec (.svnCommit ch n) s = .next t ∧ s.otp.grownTo t.otp ∧ t.keys = s.keys ∧ t.measure = s.measure ∧
       (s.up = true → s.otp.svnValue n.toNat < s.svnTarget n.toNat → n.toNat < s.otp.svn.length →
         (s.otp.svn.getD n.toNat {}).sound = true →
         t.otp.svnValue n.toNat = s.svnTarget n.toNat ∧ (∀ k, k ≠ n.toNat → t.otp.svnValue k = s.otp.svnValue k)) ∧
       (s.up = false ∨ s.svnTarget n.toNat ≤ s.otp.svnValue n.toNat → t.otp = s.otp ∧ t.start.setResult = 0x05)) ∧
  ((∀ (s : State) (pol : BitVec 6) (vd : Bool) (anchor : Bytes), s.up = true → s.otp.lifecycleCode = 0 →
     s.otp.closed.getLsbD 4 = false → s.otp.caSlots.head? = some none →
     ∃ t, exec (.provisioning pol vd anchor) s = .next t ∧ t.otp.closed.getLsbD 4 = true ∧ t.otp.tamperT2 = pol ∧
       t.otp.vendorDebug = vd ∧ t.otp.lifecycleCode ≥ 1 ∧
       t.otp.caSlots.head? = some (some (CaSlot.ofAnchor (BitVec.ofNat 768 (beNat anchor))))) ∧
   (∀ (s : State) (cert : Bytes), s.start.factory = true →
     ∃ t, exec (.idevidCertificateReturn cert) s = .next t ∧ t.otp.closed = s.otp.closed ||| 0b001100 ∧
       t.otp.idevidCertDigest = sha384 cert ∧
       t.otp.idevidKeyDigest = sha384 s.otp.idevidPub ∧
       t = { s with otp := t.otp, start := { s.start with factory := false } }))

/-! ### Keys -/

/-- A re-mask pass (R117, R121, R122; the counter of OD 0x2020.02), once per period and not before: every key of the store and the WKR is the same key under new
shares, and nothing else of the keys changes.
Alias commit, IDevID copy and CA staging (R116, R125, R132): what each permitted write leaves. -/
def Obligations.KeysAnswerWrites : Prop :=
  (∀ s : State, (s.clock.count < s.keys.remaskedAt + s.ret.remaskPeriod * 100000 → exec .remaskPass s = .next s) ∧
     (s.start.drbgUp = true → s.remaskDue = true →
     ∃ t, exec .remaskPass s = .next t ∧ (∀ n, t.keyOf n = s.keyOf n) ∧
       (t.keys.wkr.map fun w => w.1 ^^^ w.2) = (s.keys.wkr.map fun w => w.1 ^^^ w.2) ∧
       t = { s with
                    keys := { s.keys with
                      store := t.keys.store, wkr := t.keys.wkr, remaskedAt := s.clock.count, remaskPasses := bump s.keys.remaskPasses }
                    start := { s.start with drbgRequests := s.start.drbgRequests + 1 }
                    draws := s.draws + 1 })) ∧
  (∀ (s : State) (ch : Channel),
     (s.accepts ch 0x2023 5 .hOpCu → s.up = true → s.ret.pendingAlias.isSome = true → s.aliasExists = true →
       s.measure.signing = none → s.measure.checkpoints.length < 16 →
       ∃ t c, exec (.aliasCommit ch 0xA5) s = .next t ∧ t.keys.committing = true ∧ t.keys.lastCommand = 0 ∧
         t.measure.signing = some c ∧ c.cause = 4 ∧ c.time = s.now ∧ c.count = s.measure.sinceCut ∧ t.otp = s.otp ∧
         t.start = s.start ∧ t.measure.mrs = s.measure.mrs) ∧
     (s.accepts ch 0x2023 5 .hOpCu → s.ret.pendingAlias = none →
       exec (.aliasCommit ch 0xA5) s = .next ((s.touch ch).keyCommand 5)) ∧
     (∀ cert, s.accepts ch 0x2022 2 .hOpCu →
       (cert.length ≤ 16384 → sha384 cert = s.otp.idevidCertDigest →
         ∃ t, exec (.idevidCertCopyWrite ch cert) s = .next t ∧ t.ret = { s.ret with idevidCopy := cert } ∧ t.od = s.od ∧
           t.otp = s.otp) ∧
       (sha384 cert ≠ s.otp.idevidCertDigest →
         exec (.idevidCertCopyWrite ch cert) s = .next ((s.touch ch).ignoreWrite 0x2022 2))) ∧
     (∀ anchor, s.accepts ch 0x7830 1 .cust → anchor.length = 96 → s.otp.freeSlot.isSome = true → s.underCurrentCa ch = true →
       ∃ t, exec (.caStage ch anchor) s = .next t ∧
         t.ret.stagedCa = some (BitVec.ofNat 768 (beNat anchor), s.clock.count) ∧ t.keys.lastCommand = 0 ∧ t.otp = s.otp ∧
         t.causeway.budgets = s.causeway.budgets) ∧
     (∀ anchor, s.accepts ch 0x7830 1 .cust → anchor.length = 96 → s.otp.freeSlot = none →
       exec (.caStage ch anchor) s = .next ((s.touch ch).keyCommand 4)))

/-- The binding epoch (R129-R131): an advance blows exactly the next step, puts the next epoch's keys into the store, keeps the
old pair for the overlap and is recorded; an early stop blows nothing and says why. Over a sound thermometer.
The three overlaps end (R131-R134): the previous Binding key is gone; the staged CA is gone and OD 0x2026.01 reads 0x06; the
sessions of the slot in overlap are gone, those of the active slot stay. -/
def Obligations.BindingAdvancesAndOverlapsEnd : Prop :=
  (∀ (s : State) (ch : Channel), s.accepts ch 0x2024 5 .cust → s.otp.epoch.sound = true →
     (s.up = true → s.otp.epochValue < 64 → s.ret.bindingOverlap ≠ 0 →
       ∃ t, exec (.bindingAdvance ch 0xA5 true true) s = .next t ∧ t.otp.epochValue = s.otp.epochValue + 1 ∧
         t.otp = { s.otp with epoch := t.otp.epoch } ∧ t.keys.prevBindPub = s.keys.bindPub ∧
         t.keys.bindPub = bindingPub (bindSeeds (s.keyOf .root) s.otp.serial (s.otp.epochValue + 1)).1
           (bindSeeds (s.keyOf .root) s.otp.serial (s.otp.epochValue + 1)).2 ∧
         t.ret = { s.ret with bindingAdvancedAt := some s.clock.count } ∧ t.keys.lastCommand = 0 ∧
         (∀ k, k ≠ 15 → t.mr k = s.mr k) ∧
         (15 < s.measure.mrs.length →
           t.mr 15 = extendValue (s.mr 15) (keyRecord 5 1 (sha384 t.keys.bindPub) s.now))) ∧
     (∀ a b, (s.up = false ∨ 64 ≤ s.otp.epochValue ∨ a = false ∨ b = false) →
       ∃ code, code ≠ 0 ∧ exec (.bindingAdvance ch 0xA5 a b) s = .next ((s.touch ch).keyCommand code))) ∧
  (∀ s : State,
     (s.ret.bindingAdvancedAt.isSome = true → s.bindingOverlapRuns = false → SMap.wf none s.keys.store = true →
       ∃ t, exec .bindingOverlapEnd s = .next t ∧ t.ret = { s.ret with bindingAdvancedAt := none } ∧ t.keys.prevBindPub = [] ∧
         t.keyOf .prevBindEc = [] ∧ t.keyOf .prevBindKem = [] ∧ t.keys.bindPub = s.keys.bindPub ∧ t.otp = s.otp) ∧
     (∀ a at_, s.ret.stagedCa = some (a, at_) → at_ + 24 * 3600 * 1000000000 ≤ s.clock.count →
       ∃ t, exec .caStageLapse s = .next t ∧ t.ret = { s.ret with stagedCa := none } ∧ t.keys = { s.keys with lastCommand := 6 } ∧
         t.otp = s.otp ∧ t.causeway = s.causeway) ∧
     (s.ret.caClosedAt.isSome = true → s.caOverlapRuns = false → s.causeway.fw = none →
       ∃ t, exec .caOverlapEnd s = .next t ∧ t.ret = { s.ret with caClosedAt := none } ∧ t.otp = s.otp ∧
         ∀ i, i < 8 → (s.otp.activeSlot ≤ (s.causeway.session i).anchorSlot → t.causeway.session i = s.causeway.session i) ∧
           ((s.causeway.session i).phase ≠ 0 → (s.causeway.session i).anchorSlot < s.otp.activeSlot →
             (t.causeway.session i).phase = 0 ∧ (t.causeway.session i).keyIn = none ∧ (t.causeway.session i).keyOut = none)))

/-! ### The digest engine -/

/-- A job (R141-R145): START absorbs exactly LENGTH octets; a RESULT read meanwhile returns zeros and sets EARLY; the result is the
algorithm's digest of the octets absorbed, or its HMAC under the named key; a stream of any other length ends the job with ERR_LENGTH
and no result. Keyed SHA3 is ERR_ALG, an empty key entry ERR_KEY. ABORT clears the channel. -/
def Obligations.DigestJobRuns : Prop :=
  ∀ (s : State) (j : Fin 8), s.engines.jobs.length = 8 →
    (∀ d : JobDesc, (s.engines.job j.val).state ≠ .absorbing →
      ∃ t, exec (.digestStart j d) s = .next t ∧ t = { s with engines := { s.engines with jobs := t.engines.jobs } } ∧
        (∀ k, k ≠ j.val → t.engines.job k = s.engines.job k) ∧
        (∀ a, HashAlg.ofCode d.alg.toNat = some a → d.keyed = false →
          t.engines.job j.val = { desc := some d, state := .absorbing, ctx := some (HashCtx.init a) }) ∧
        (∀ a k, HashAlg.ofCode d.alg.toNat = some a → d.keyed = true → a.isSha3 = false → s.jobKey d = some k →
          t.engines.job j.val =
            { desc := some d, state := .absorbing, ctx := some (HashCtx.initKeyed a k), hmacSlot := true }) ∧
        (∀ a, HashAlg.ofCode d.alg.toNat = some a → d.keyed = true → a.isSha3 = true →
          (t.engines.job j.val).state = .error ∧ (t.engines.job j.val).err = 2) ∧
        (∀ a, HashAlg.ofCode d.alg.toNat = some a → d.keyed = true → a.isSha3 = false → s.jobKey d = none →
          (t.engines.job j.val).state = .error ∧ (t.engines.job j.val).err = 3)) ∧
    ((s.engines.job j.val).state = .absorbing →
      ∃ t, exec (.digestResult j) s = .next t ∧ (t.engines.job j.val).early = true ∧
        (t.engines.job j.val).resultOut = List.replicate 48 0 ∧ (t.engines.job j.val).state = .absorbing ∧
        t.engines.early = bump s.engines.early ∧ t.measure = s.measure ∧ t.keys = s.keys) ∧
    (∀ d : JobDesc, (s.engines.job j.val).state = .done → (s.engines.job j.val).desc = some d → d.toWkr = false →
      ∃ t, exec (.digestResult j) s = .next t ∧ (t.engines.job j.val).resultOut = (s.engines.job j.val).result ∧
        (t.engines.job j.val).state = .done ∧ t.measure = s.measure ∧ t.keys = s.keys) ∧
    (∀ (d : JobDesc) (c : HashCtx) (m : Bytes), (s.engines.job j.val).state = .absorbing →
      (s.engines.job j.val).desc = some d → (s.engines.job j.val).ctx = some c →
      (m.length = d.length.toNat → d.toWkr = false → (s.engines.job j.val).held = [] →
        ∃ t, exec (.digestJobDone j m) s = .next t ∧ (t.engines.job j.val).state = .done ∧
          t.measure = s.measure ∧ t.keys = s.keys ∧ (∀ k, k ≠ j.val → t.engines.job k = s.engines.job k) ∧
          (∀ a, c = HashCtx.init a → (t.engines.job j.val).result = hash a m) ∧
          (∀ a k, c = HashCtx.initKeyed a k → a.isSha3 = false → (t.engines.job j.val).result = hmac a k m)) ∧
      (m.length ≠ d.length.toNat →
        ∃ t, exec (.digestJobDone j m) s = .next t ∧ (t.engines.job j.val).state = .error ∧
          (t.engines.job j.val).err = 4 ∧ (t.engines.job j.val).result = [] ∧ t.keys = s.keys)) ∧
    ∃ t, exec (.digestAbort j) s = .next t ∧ t.engines.job j.val = {} ∧
      (∀ k, k ≠ j.val → t.engines.job k = s.engines.job k) ∧
      t = { s with engines := { s.engines with jobs := t.engines.jobs } }

/-- COMPARE, EXTEND and EXPORT on a finished job (R147-R152), and how they wait on one that absorbs (R143).
IMPORT, alarms and inline lanes (R153-R155): a refused import leaves the channel IDLE and is counted; an import into a channel in
use is ERR_BUSY; an alarm leaves every channel in ERROR with no key and no context; a lane takes the next record of its Ferry and
starts it. -/
def Obligations.JobOperationsAct : Prop :=
  (∀ (s : State) (j : Fin 8), s.engines.jobs.length = 8 →
     ((s.engines.job j.val).state = .done →
       (∀ aux : Bytes, aux.length = (s.engines.job j.val).result.length →
         ∃ t, exec (.compare j aux) s = .next t ∧ (t.engines.job j.val).cmp = ((s.engines.job j.val).result == aux) ∧
           t.measure = s.measure ∧ t.keys = s.keys) ∧
       (∀ (mr : Fin 32) (aux : Bytes), s.measure.mrs.length = 32 → 1 ≤ aux.length → aux.length ≤ 256 →
         recordFits mr.val aux = true →
         ∃ t, exec (.extend j mr aux) s = .next t ∧ t.mr mr.val = sha384 (digestBytes (s.mr mr.val) ++ aux) ∧
           (∀ k, k ≠ mr.val → t.mr k = s.mr k) ∧ t.engines = s.engines) ∧
       (∀ (mr : Fin 32) (aux : Bytes), 1 ≤ aux.length → aux.length ≤ 256 → recordFits mr.val aux = false →
         ∃ t, exec (.extend j mr aux) s = .next t ∧ t.measure = s.measure ∧ (t.engines.job j.val).err = 9) ∧
       (∀ (mr : Fin 32) (aux : Bytes), 256 < aux.length →
         ∃ t, exec (.extend j mr aux) s = .next t ∧ t.measure = s.measure ∧ (t.engines.job j.val).err = 9) ∧
       (∀ c k, (s.engines.job j.val).ctx = some c → s.keys.wrapSlot = some k →
         ∃ t, exec (.exportCtx j) s = .next t ∧ (t.engines.job j.val).exportOut.length = 328 ∧ t.measure = s.measure ∧
           t.keys = s.keys)) ∧
     ((s.engines.job j.val).state = .absorbing →
       (∀ aux, exec (.compare j aux) s = .next (s.modJob j.val fun c => { c with held := c.held ++ [.compare aux] })) ∧
       (∀ mr aux, exec (.extend j mr aux) s = .next (s.modJob j.val fun c => { c with held := c.held ++ [.extend mr aux] })) ∧
       exec (.exportCtx j) s = .next (s.modJob j.val fun c => { c with held := c.held ++ [.exportCtx] }))) ∧
  (∀ (s : State) (j : Fin 8), s.engines.jobs.length = 8 →
     (∀ blob, (s.engines.job j.val).state ≠ .idle →
       exec (.importCtx j blob) s = .next (s.modJob j.val fun c => { c with err := 8 })) ∧
     (∀ blob, (s.engines.job j.val).state = .idle →
       match (s.keys.wrapSlot.bind fun k => kwUnwrap k.key blob).bind importPlain with
       | none => ∃ t, exec (.importCtx j blob) s = .next t ∧ (t.engines.job j.val).state = .idle ∧ (t.engines.job j.val).err = 7 ∧
           t.engines.importRefusals = bump s.engines.importRefusals ∧ t.measure = s.measure
       | some (c, rem) => ∃ t, exec (.importCtx j blob) s = .next t ∧ t.engines.job j.val = restoredJob c rem ∧
           t = { s with engines := { s.engines with jobs := t.engines.jobs } }) ∧
     (∀ busError, s.start.load = none → ∃ t, exec (.digestAlarm busError) s = .next t ∧ t.engines.alarms = bump s.engines.alarms ∧
       (∀ k, k < 8 → (t.engines.job k).state = .error ∧ (t.engines.job k).err = (if busError then 5 else 6) ∧
         (t.engines.job k).ctx = none ∧ (t.engines.job k).hmacSlot = false)) ∧
     (∀ (f : Fin 16) tag q, s.engines.laneBusy.length = 4 → s.engines.laneBusy.getD (f.val % 4) none = none →
       s.engines.laneQueue.getD (f.val % 4) [] = (f.val, tag) :: q →
       ∃ t, exec (.inlineLaneGrant f) s = .next t ∧ t.engines.laneBusy.getD (f.val % 4) none = some tag ∧
         t.engines.jobs = s.engines.jobs))

/-! ### The big-number engine -/

/-- WMAC, LMAC, KEYLOAD and END on a context that runs with nothing queued ahead and does not stand at a yield (R159-R161, R164): the accumulator is exact modulo
2^384, or per 32-bit lane modulo 2^96; CARRY is sticky and set by a carry or borrow out of the top; OUT writes the low 128 bits
before SHR shifts.
Yield, sealed words and alarm (R161-R163, R166): at a yield SHORT runs, and LONG's accumulator and words stand until it resumes; a
processor's access to a sealed word only counts; an alarm leaves nothing of either context. -/
def Obligations.BigNumbersAreExact : Prop :=
  (∀ (s : State) (c : BnCtx) (f : BnFlags) (a b dst : BitVec 12), s.engines.bnRunning = some c → (s.engines.ctx c).queue = [] →
     (s.engines.ctx c).job = true → (c = .long → s.engines.yieldDue = false) → SMap.wf 0 (s.engines.ctx c).words = true → a.toNat < 0x900 → b.toNat < 0x900 → dst.toNat < 0x900 →
     (∃ t, exec (.wmac c f a b dst) s = .next t ∧
       (let x := s.engines.ctx c
        let start := if f.clr then 0 else x.acc.toNat
        let p := (x.word a).toNat * (x.word b).toNat
        let raw : Int := if f.sub then (start : Int) - p else start + p
        let acc := (raw % 2 ^ 384).toNat
        (t.engines.ctx c).acc.toNat = (if f.shr then acc / 2 ^ 128 else acc) ∧
        (t.engines.ctx c).carry = (x.carry || decide (raw < 0) || decide (2 ^ 384 ≤ raw)) ∧
        (f.out = true → ((t.engines.ctx c).word dst).toNat = acc % 2 ^ 128) ∧
        (f.out = false → (t.engines.ctx c).words = x.words)) ∧
       t.engines.bnRunning = some c ∧ t = { s with engines := t.engines }) ∧
     (f.shr = false → ∃ t, exec (.lmac c f a b dst) s = .next t ∧
       ∀ k, k < 4 →
         (let x := s.engines.ctx c
          let start := if f.clr then 0 else field x.acc.toNat (96 * k) 96
          let p := field (x.word a).toNat (32 * k) 32 * field (x.word b).toNat (32 * k) 32
          let raw : Int := if f.sub then (start : Int) - p else start + p
          field (t.engines.ctx c).acc.toNat (96 * k) 96 = (raw % 2 ^ 96).toNat)) ∧
     (∀ k, (s.engines.ctx c).keyPort = some k → 0x800 ≤ dst.toNat → dst.toNat + 3 ≤ 0x8FF →
       ∃ t, exec (.keyload c dst) s = .next t ∧
         ∀ i, i < 4 → ((t.engines.ctx c).word (dst + BitVec.ofNat 12 i)).toNat = field (k.share0 ^^^ k.share1).toNat (128 * i) 128) ∧
     (s.engines.long.queue = [] → s.engines.short.queue = [] → s.engines.longYielded = false →
       ∃ t, exec (.bnEnd c) s = .next t ∧ t.engines.bnRunning = none ∧ (t.engines.ctx c).job = false ∧
         (t.engines.ctx c).acc = (s.engines.ctx c).acc ∧ (t.engines.ctx c).words = (s.engines.ctx c).words)) ∧
  (∀ s : State,
     (s.engines.bnRunning = some .long → s.engines.longQuantum ≤ s.engines.longDone → s.engines.short.queue ≠ [] →
       s.engines.long.queue = [] → s.engines.long.job = true →
       ∃ t, exec .bnYield s = .next t ∧ t.engines.yields = bump s.engines.yields ∧ t.engines.long.acc = s.engines.long.acc ∧
         t.engines.long.words = s.engines.long.words ∧ t.engines.long.job = true ∧
         (t.engines.longYielded = true ↔ t.engines.short.job = true) ∧ t = { s with engines := t.engines }) ∧
     (∀ (c : BnCtx) (w : BitVec 12), 0x800 ≤ w.toNat → exec (.bnSealedAccess c w) s =
       .next { s with engines := { s.engines with sealedAccess := bump s.engines.sealedAccess } }) ∧
     (∃ t, exec .bnAlarm s = .next t ∧ t.engines.long = { err := 6 } ∧ t.engines.short = { err := 6 } ∧
       t.engines.bnRunning = none ∧ t.engines.jobs = s.engines.jobs ∧ t = { s with engines := t.engines }))

/-! ### Leases and monitors -/

/-- A lease that is held ends by a lapse, once its timer has run out, or by revocation (R584-R589, R600): its counter, its record with row, instance and cause, and
the action of its row. -/
def Obligations.LeasesEnd : Prop :=
  ∀ s : State,
    (∀ i : Fin 13, s.leaseHeld (.regulator i) = true → s.leaseOver (.regulator i) = true →
      exec (.leaseLapse (.regulator i)) s =
        .next { s with
          faults := Faults.record { s.faults with leaseEnds := bumpAt s.faults.leaseEnds 0 }
            { code := 7, unit := 1, a := i.val, b := 1, time := s.now } }) ∧
    (∀ i : Fin 12, s.leaseHeld (.scrub i) = true →
      exec (.leaseRevoke none (.scrub i)) s =
        .next { s with
          faults := Faults.record { s.faults with leaseEnds := bumpAt s.faults.leaseEnds 2 }
            { code := 7, unit := 4, a := i.val, b := 2, time := s.now } }) ∧
    (∀ c, s.leaseHeld (.bignum c) = true → s.leaseSuspended (.bignum c) = false → s.leaseOver (.bignum c) = true →
      ∃ t, exec (.leaseLapse (.bignum c)) s = .next t ∧ (t.engines.ctx c).acc = 0 ∧ (t.engines.ctx c).err = 0x0E ∧
        (t.engines.ctx c).words = [] ∧ t.engines.bnLeaseEnds = bump s.engines.bnLeaseEnds ∧ t.measure = s.measure) ∧
    (∀ ch k, s.od.lock = some (ch, k) → s.leaseOver .odLock = true →
      ∃ t, exec (.leaseLapse .odLock) s = .next t ∧ t.od.lock = none ∧ t.od.lockEnds = bump s.od.lockEnds ∧
        ((t.od.channel ch).opened = none) ∧ t = { s with od := t.od }) ∧
    (s.leaseHeld .spanFences = true → s.leaseOver .spanFences = true →
      exec (.leaseLapse .spanFences) s =
        .next { s with
          straits := { s.straits with spanFences := false }
          faults := Faults.record { s.faults with leaseEnds := bumpAt s.faults.leaseEnds 1 }
            { code := 7, unit := 3, a := 0, b := 1, time := s.now } }) ∧
    (∀ i : Fin 12, s.leaseHeld (.strait i) = true → s.leaseOver (.strait i) = true →
      exec (.leaseLapse (.strait i)) s =
        .next { s with
          straits := { s.straits with ports := modifyAt s.straits.ports i.val fun p =>
            { p with agreement := none, nextTx := none, nextRx := none } }
          faults := Faults.record { s.faults with leaseEnds := bumpAt s.faults.leaseEnds 3 }
            { code := 7, unit := 5, a := i.val, b := 1, time := s.now } }) ∧
    (∀ (ch : Channel) (i : Fin 13), s.accepts ch 0x3060 3 .cust → s.leaseHeld (.regulator i) = true →
      exec (.leaseRevoke (some ch) (.regulator i)) s =
        .next { s.touch ch with
          faults := Faults.record { s.faults with leaseEnds := bumpAt s.faults.leaseEnds 0 }
            { code := 7, unit := 1, a := i.val, b := 2, time := s.now } }) ∧
    (∀ l, s.leaseOver l = false → exec (.leaseLapse l) s = .next s) ∧
    (∀ l, s.leaseHeld l = false → exec (.leaseLapse l) s = .next s ∧ exec (.leaseRevoke none l) s = .next s)

/-- Pace, floors, temperatures and voltages (R54-R61), for every die, the hub and every monitor: a rate is the lowest valid reading; a
die's floor is the lowest rate of the last 10 ms once at least 12 monitors have been valid for a full 10 ms, and 0 before; a die that is
offline or without VFAB reads 0 for both; the module floor is the lowest floor of the dies online and powered (0 with none: the model's
choice, log 97); a temperature is the highest valid reading, or 150 °C with too few sensors valid; a voltage reads as sampled.
Ballast (R63, R64, R66): at the threshold in force an array quiesces and the beats count on its die; threshold zero never; a write
takes force only at the next departure. -/
def Obligations.MonitorsAndBallast : Prop :=
  (∀ s : State,
     (∀ (die : Fin 12) (r : List Nat), s.fabric.dies.length = 12 →
       ∃ t, exec (.paceMonitorWindow die r) s = .next t ∧ t = { s with fabric := { s.fabric with dies := t.fabric.dies } } ∧
         (∀ k, k ≠ die.val → t.fabric.die k = s.fabric.die k) ∧
         ((s.fabric.die die.val).online = true → (s.fabric.die die.val).vfabOn = true →
           (∀ x ∈ r, paceValid r x = true →
             (t.fabric.die die.val).rate ≤ x ∧ (t.fabric.die die.val).rate ∈ r ∧ paceValid r (t.fabric.die die.val).rate = true) ∧
           ((∀ x ∈ r, paceValid r x = false) → (t.fabric.die die.val).rate = 0)) ∧
         ((s.fabric.die die.val).online = false ∨ (s.fabric.die die.val).vfabOn = false →
           (t.fabric.die die.val).rate = 0 ∧ (t.fabric.die die.val).floor = 0)) ∧
     (∃ t, exec .beatFloorUpdate s = .next t ∧
       (∀ n, n < s.fabric.dies.length →
         (let d := s.fabric.die n
          let e := t.fabric.die n
          let l := (d.rates.filter fun w => decide (s.clock.count < w.1 + 10000000)).map (·.2)
          (d.online = true → d.vfabOn = true →
            ((∃ at_, d.validSince = some at_ ∧ at_ + 10000000 ≤ s.clock.count) → l ≠ [] → e.floor ∈ l ∧ ∀ x ∈ l, e.floor ≤ x) ∧
            (d.validSince = none ∨ (∃ at_, d.validSince = some at_ ∧ s.clock.count < at_ + 10000000) → e.floor = 0)) ∧
          (d.online = false ∨ d.vfabOn = false → e.rate = 0 ∧ e.floor = 0))) ∧
       (∀ d ∈ t.fabric.dies, d.online = true → d.vfabOn = true →
         t.monitors.moduleFloor ≤ d.floor ∧ ∃ e ∈ t.fabric.dies, e.online = true ∧ e.vfabOn = true ∧ t.monitors.moduleFloor = e.floor) ∧
       ((∀ d ∈ t.fabric.dies, d.online = false ∨ d.vfabOn = false) → t.monitors.moduleFloor = 0) ∧
       t = { s with
                    fabric := { s.fabric with dies := t.fabric.dies }
                    monitors := { s.monitors with moduleFloor := t.monitors.moduleFloor } }) ∧
     (∀ (die : Fin 12) (r : List Int), s.fabric.dies.length = 12 →
       ∃ t, exec (.temperatureSample ⟨die.val, by omega⟩ r) s = .next t ∧
         (4 ≤ (r.filter (sensorValid r)).length →
           (t.fabric.die die.val).temperature ∈ r ∧ ∀ x ∈ r, sensorValid r x = true → x ≤ (t.fabric.die die.val).temperature) ∧
         ((r.filter (sensorValid r)).length < 4 → (t.fabric.die die.val).temperature = 150000) ∧
         t = { s with fabric := { s.fabric with dies := t.fabric.dies } }) ∧
     (∀ r : List Int,
       ∃ t, exec (.temperatureSample 12 r) s = .next t ∧
         (2 ≤ (r.filter (sensorValid r)).length →
           t.monitors.hubTemp ∈ r ∧ ∀ x ∈ r, sensorValid r x = true → x ≤ t.monitors.hubTemp) ∧
         ((r.filter (sensorValid r)).length < 2 → t.monitors.hubTemp = 150000) ∧ t = { s with monitors := t.monitors }) ∧
     (∀ (i : Fin 12) mv, s.fabric.dies.length = 12 →
       (∃ t, exec (.voltageSample (.vfab i) mv) s = .next t ∧ t.fabric.die i.val = { s.fabric.die i.val with vfabMv := mv } ∧
         t = { s with fabric := { s.fabric with dies := t.fabric.dies } }) ∧
       (∃ t, exec (.voltageSample (.vio i) mv) s = .next t ∧ t.fabric.die i.val = { s.fabric.die i.val with vioMv := mv } ∧
         t = { s with fabric := { s.fabric with dies := t.fabric.dies } }) ∧
       ∃ t, exec (.voltageSample (.vhbm i) mv) s = .next t ∧ t.fabric.die i.val = { s.fabric.die i.val with vhbmMv := mv } ∧
         t = { s with fabric := { s.fabric with dies := t.fabric.dies } }) ∧
     ∀ mv, exec (.voltageSample .vhub mv) s = .next { s with monitors := { s.monitors with vhubMv := mv } } ∧
       exec (.voltageSample .stby mv) s = .next { s with monitors := { s.monitors with stbyMv := mv } }) ∧
  (∀ s : State,
     (∀ (core : Fin 1200) (a : Fin 4), s.monitors.ballastActive ≠ 0 → (s.fabric.core core.val).arrays.length = 4 →
       s.fabric.dies.length = 12 → ((s.fabric.core core.val).arrays.getD a.val {}).quiesced = false →
       ∃ t, exec (.ballastThresholdReached core a) s = .next t ∧
         ((t.fabric.core core.val).arrays.getD a.val {}).quiesced = true ∧
         (t.fabric.die (dieOf core.val)).ballast = bumpBy s.monitors.ballastActive (s.fabric.die (dieOf core.val)).ballast ∧
         (∀ k, k ≠ core.val → t.fabric.core k = s.fabric.core k) ∧ t.host = s.host) ∧
     (∀ (core : Fin 1200) (a : Fin 4), s.monitors.ballastActive = 0 → exec (.ballastThresholdReached core a) s = .next s) ∧
     (∀ (ch : Channel) (v : Byte), s.accepts ch 0x4080 1 .hOpCu →
       ∃ t, exec (.ballastThresholdWrite ch v) s = .next t ∧ t.monitors = { s.monitors with ballast := v.toNat } ∧
         t.od = s.od ∧ t.ret = s.ret))

/-! ### Arithmetic level AL1 -/

/-- Saturation and rounding (R223, R231, R232, R234): a saturated value lies in its range, is the value itself when that lies in
range, and is tagged exactly when it does not; rhe is a nearest multiple, and the even one of two; a lookup in range lies between
its two entries, and the end entries stand outside.
R227: the foot's sum over bit-planes, with the top plane of a signed activation negative, is the carry-in plus the weighted
sum that the model saturates once at the end of the row. -/
def Obligations.ArithmeticIsExact : Prop :=
  ((∀ (w : Nat) (v : Int), 1 ≤ w →
     -(2 ^ (w - 1)) ≤ (satS w v).1 ∧ (satS w v).1 ≤ 2 ^ (w - 1) - 1 ∧ ((satS w v).2 = false ↔ (satS w v).1 = v) ∧
       (-(2 ^ (w - 1)) ≤ v → v ≤ 2 ^ (w - 1) - 1 → (satS w v).1 = v) ∧ (v < -(2 ^ (w - 1)) → (satS w v).1 = -(2 ^ (w - 1))) ∧
       (2 ^ (w - 1) - 1 < v → (satS w v).1 = 2 ^ (w - 1) - 1) ∧
       0 ≤ (satU w v).1 ∧ (satU w v).1 ≤ 2 ^ w - 1 ∧ ((satU w v).2 = false ↔ (satU w v).1 = v) ∧
       (0 ≤ v → v ≤ 2 ^ w - 1 → (satU w v).1 = v) ∧ (v < 0 → (satU w v).1 = 0) ∧ (2 ^ w - 1 < v → (satU w v).1 = 2 ^ w - 1)) ∧
   (∀ (p : Int) (s : Nat), 2 * (rhe p s * 2 ^ s - p) ≤ 2 ^ s ∧ -(2 ^ s) ≤ 2 * (rhe p s * 2 ^ s - p) ∧
     ((2 * (rhe p s * 2 ^ s - p) = 2 ^ s ∨ 2 * (rhe p s * 2 ^ s - p) = -(2 ^ s)) → s ≠ 0 → rhe p s % 2 = 0)) ∧
   (∀ (t : List Int) (x0 x : Int) (k i : Nat), i < 255 → x0 + i * 2 ^ k ≤ x → x < x0 + (i + 1) * 2 ^ k →
     min (t.getD i 0) (t.getD (i + 1) 0) ≤ lookup t x0 k x ∧ lookup t x0 k x ≤ max (t.getD i 0) (t.getD (i + 1) 0)) ∧
   (∀ (t : List Int) (x0 x : Int) (k : Nat), x < x0 → lookup t x0 k x = t.getD 0 0) ∧
   (∀ (t : List Int) (x0 x : Int) (k : Nat), x0 + 255 * 2 ^ k ≤ x → lookup t x0 k x = t.getD 255 0)) ∧
  (∀ (p : Nat) (isSigned : Bool) (carry : Int) (ws : List Int) (codes : List Nat), 1 ≤ p → p ≤ 16 →
     ws.length = codes.length → (∀ u ∈ codes, u < 2 ^ p) →
     footValue carry (List.zipWith (fun w u => w * (if isSigned then signed p u else (u : Int))) ws codes) =
       satS 48 (carry + ((List.range p).map fun b =>
         (if isSigned = true ∧ b = p - 1 then (-1 : Int) else 1) * 2 ^ b *
           (List.zipWith (fun w u => if bit u b then w else 0) ws codes).sum).sum))

/-! ### Cores -/

/-- What each step leaves at its issue (R248, R251-R253): NOP, WAITSLOT and FENCE only move the sequencer on, END also stops issue,
and the array steps are queued behind what was issued before, a FROMSLOT STREAM with the lines its slot has buffered; a step that R251 does not accept is a plan fault with code 0x01;
while the step may not issue, nothing changes. -/
def Obligations.StepsIssueInOrder : Prop :=
  ∀ (s : State) (core : Fin 1200),
    (s.issuesStep core.val .nop → exec (.nop core) s = .next ((s.countIdle core.val).applyFx core.val (CoreFx.settle core.val
      { core := { s.fabric.core core.val with seq := (s.fabric.core core.val).seq + 1, lastIssue := s.clock.count } }))) ∧
    (∀ sl, s.issuesStep core.val (.waitslot sl) → exec (.waitslot core) s = .next ((s.countIdle core.val).applyFx core.val (CoreFx.settle core.val
      { core := { s.fabric.core core.val with seq := (s.fabric.core core.val).seq + 1, lastIssue := s.clock.count } }))) ∧
    (∀ m, s.issuesStep core.val (.fence m) → exec (.fence core) s = .next ((s.countIdle core.val).applyFx core.val (CoreFx.settle core.val
      { core := { s.fabric.core core.val with seq := (s.fabric.core core.val).seq + 1, lastIssue := s.clock.count } }))) ∧
    (s.issuesStep core.val .fin → exec (.endStep core) s = .next ((s.countIdle core.val).applyFx core.val (CoreFx.settle core.val
      { core := { s.fabric.core core.val with
                    seq := (s.fabric.core core.val).seq + 1, issuing := false, ended := true, lastIssue := s.clock.count } }))) ∧
    (∀ a w sh src, s.issuesAlone core.val (.loadw a w sh src) →
      ∃ t, exec (.loadw core) s = .next t ∧ s.onlyCore t core.val ∧
        t.fabric.core core.val = { s.fabric.core core.val with
          seq := (s.fabric.core core.val).seq + 1, ops := [⟨.loadw a w sh src, (s.fabric.core core.val).seq, 0, []⟩]
          lastProgress := s.clock.count, lastIssue := s.clock.count }) ∧
    (∀ f, s.issuesAlone core.val (.stream f) →
      ∃ t, exec (.stream core) s = .next t ∧ s.onlyCore t core.val ∧
        t.fabric.core core.val = { s.fabric.core core.val with
          seq := (s.fabric.core core.val).seq + 1
          ops := [⟨.stream f, (s.fabric.core core.val).seq, 0,
            if f.fromSlot then (takeLines f.src f.linesNeeded (s.fabric.core core.val).recvBuf).1 else []⟩]
          recvBuf := if f.fromSlot then (takeLines f.src f.linesNeeded (s.fabric.core core.val).recvBuf).2
            else (s.fabric.core core.val).recvBuf
          lastProgress := s.clock.count, lastIssue := s.clock.count }) ∧
    (∀ a x y p q u, s.issuesAlone core.val (.opacc a x y p q u) →
      ∃ t, exec (.opacc core) s = .next t ∧ s.onlyCore t core.val ∧
        t.fabric.core core.val = { s.fabric.core core.val with
          seq := (s.fabric.core core.val).seq + 1, ops := [⟨.opacc a x y p q u, (s.fabric.core core.val).seq, 0, []⟩]
          lastProgress := s.clock.count, lastIssue := s.clock.count }) ∧
    (∀ a d l p, s.issuesAlone core.val (.drain a d l p) →
      ∃ t, exec (.drain core) s = .next t ∧ s.onlyCore t core.val ∧
        t.fabric.core core.val = { s.fabric.core core.val with
          seq := (s.fabric.core core.val).seq + 1, ops := [⟨.drain a d l p, (s.fabric.core core.val).seq, 0, []⟩]
          lastProgress := s.clock.count, lastIssue := s.clock.count }) ∧
    (s.issues core.val = true → s.stepAt core.val = none →
      exec (.nop core) s = .next (s.coreFail core.val 1 (s.fabric.core core.val).seq)) ∧
    (s.issues core.val = false → exec (.nop core) s = .next s)

/-- The vector steps between registers (R222-R224, R231, R233, R256): every lane is the exact result saturated to 48 bits, and the
register's tag is the OR of its operands' tags and of the saturations. -/
def Obligations.VectorLanes : Prop :=
  ∀ (s : State) (core : Fin 1200) (f : VecF), s.issuesAlone core.val (.vec f) → 
    f.vd < (s.fabric.core core.val).vregs.length → ((s.fabric.core core.val).vreg f.va).lanes.length = 128 →
    let c := s.fabric.core core.val
    let a := c.vreg f.va
    let b := c.vreg f.vb
    let binary (o : Host.Outcome State Fault Refusal) (op : Int → Int → Int) : Prop :=
      ∃ t, o = .next t ∧ s.onlyCore t core.val ∧ c.steppedTo (t.fabric.core core.val) ∧
        c.tookLanes (t.fabric.core core.val) f.vd (fun i => (satS 48 (op (a.lanes.getD i 0) (b.lanes.getD i 0))).1)
          (a.tag || b.tag || (List.range 128).any fun i => (satS 48 (op (a.lanes.getD i 0) (b.lanes.getD i 0))).2)
    (f.vop = 0x10 → binary (exec (.vadd core) s) (· + ·)) ∧ (f.vop = 0x11 → binary (exec (.vsub core) s) (· - ·)) ∧
    (f.vop = 0x12 → binary (exec (.vmul core) s) (· * ·)) ∧ (f.vop = 0x13 → binary (exec (.vmax core) s) max) ∧
    (f.vop = 0x14 → binary (exec (.vmin core) s) min) ∧
    (f.vop = 0x1A → ∃ t, exec (.vsum core) s = .next t ∧ s.onlyCore t core.val ∧ c.steppedTo (t.fabric.core core.val) ∧
      c.tookLanes (t.fabric.core core.val) f.vd (fun i => if i = 0 then (satS 48 a.lanes.sum).1 else 0)
        (a.tag || (satS 48 a.lanes.sum).2)) ∧
    (∀ q, f.vop = 0x18 → c.requant f.line 128 = some q →
      ∃ t, exec (.vreq core) s = .next t ∧ s.onlyCore t core.val ∧ c.steppedTo (t.fabric.core core.val) ∧
        c.tookLanes (t.fabric.core core.val) f.vd
          (fun i => (sat q.signed q.w (rhe (a.lanes.getD i 0 * q.m.getD i 0) q.s + q.z.getD i 0)).1)
          (a.tag || q.tag || (List.range 128).any fun i =>
            (sat q.signed q.w (rhe (a.lanes.getD i 0 * q.m.getD i 0) q.s + q.z.getD i 0)).2)) ∧
    (∀ t0, f.vop = 0x19 → c.lut f.line = some t0 →
      ∃ t, exec (.vlut core) s = .next t ∧ s.onlyCore t core.val ∧ c.steppedTo (t.fabric.core core.val) ∧
        c.tookLanes (t.fabric.core core.val) f.vd
          (fun i => lookup t0.1.entries t0.1.x0 t0.1.k (satS 32 (a.lanes.getD i 0)).1)
          (a.tag || t0.2 || (List.range 128).any fun i => (satS 32 (a.lanes.getD i 0)).2))

/-- The vector steps to and from the Lagoon (R224, R225, R236, R245, R247): a load takes the packed values and the OR of the lines'
tags; a store writes each lane saturated to the width, value i at bit i × w, whole lines or a first part of a last line, and nothing
beyond them; a range clear of the windows is never refused. -/
def Obligations.VectorMemory : Prop :=
  ∀ (s : State) (core : Fin 1200) (f : VecF), s.issuesAlone core.val (.vec f) →
    let c := s.fabric.core core.val
    (f.vop = 0x01 → f.vd < c.vregs.length →
      ∃ t, exec (.vld core) s = .next t ∧ s.onlyCore t core.val ∧ c.steppedTo (t.fabric.core core.val) ∧
        c.tookLanes (t.fabric.core core.val) f.vd
          (fun i => packedAt (c.linesNat f.line (packedLines 128 f.w)) i f.w f.signed)
          (c.linesTag f.line (packedLines 128 f.w))) ∧
    (f.vop = 0x02 → f.vd < c.vregs.length →
      ∃ t, exec (.vld48 core) s = .next t ∧ s.onlyCore t core.val ∧ c.steppedTo (t.fabric.core core.val) ∧
        c.tookLanes (t.fabric.core core.val) f.vd (fun i => signed 48 (field (c.linesNat f.line 16) (64 * i) 48))
          (c.linesTag f.line 16)) ∧
    (f.vop = 0x03 → 1 ≤ f.w → f.w ≤ 32 → (c.vreg f.va).lanes.length = 128 → c.clearOf f.line (packedLines 128 f.w) →
      ∃ t, exec (.vst core) s = .next t ∧ s.onlyCore t core.val ∧ c.steppedTo (t.fabric.core core.val) ∧
        (t.fabric.core core.val).vregs = c.vregs ∧
        (∀ i, i < 128 → packedAt ((t.fabric.core core.val).linesNat f.line (packedLines 128 f.w)) i f.w f.signed =
          (sat f.signed f.w ((c.vreg f.va).lanes.getD i 0)).1) ∧
        c.sameOutside (t.fabric.core core.val) f.line (packedLines 128 f.w)) ∧
    (f.vop = 0x04 → (c.vreg f.va).lanes.length = 128 → (∀ v ∈ (c.vreg f.va).lanes, (satS 48 v).2 = false) → c.clearOf f.line 16 →
      ∃ t, exec (.vst48 core) s = .next t ∧ s.onlyCore t core.val ∧ c.steppedTo (t.fabric.core core.val) ∧
        (t.fabric.core core.val).vregs = c.vregs ∧
        (∀ i, i < 128 → signed 48 (field ((t.fabric.core core.val).linesNat f.line 16) (64 * i) 48) =
          (c.vreg f.va).lanes.getD i 0) ∧
        (∀ k, k < 16 → ((t.fabric.core core.val).line (f.line + k)).tag = (c.vreg f.va).tag) ∧
        c.sameOutside (t.fabric.core core.val) f.line 16) ∧
    (∀ e r, f.vop = 0x20 → 1 ≤ f.n → f.n ≤ 4096 → c.lut (c.softmaxTables f.aux).1 = some e → c.lut (c.softmaxTables f.aux).2 = some r →
      c.clearOf f.line (packedLines f.n 32) →
      ∃ t, exec (.vsmax core) s = .next t ∧ s.onlyCore t core.val ∧ c.steppedTo (t.fabric.core core.val) ∧
        (t.fabric.core core.val).vregs = c.vregs ∧
        (∀ i, i < f.n → packedAt ((t.fabric.core core.val).linesNat f.line (packedLines f.n 32)) i 32 true =
          (softmax ((List.range f.n).map fun j => packedAt (c.linesNat f.line (packedLines f.n 32)) j 32 true) e.1 r.1).1.getD i 0) ∧
        c.sameOutside (t.fabric.core core.val) f.line (packedLines f.n 32))

/-- A front (R180, R181, R195, R196, R207, R208): the array holds the weights the lines pack, sign-extended, under the loaded shape,
and its accumulators stand; the beats waited count on the die. A shape is 0 ordinary, 1 Narrows, 2 diagonal.
Array operations (R190-R193, R201, R202, R214, R227-R230): an OPACC counts its updates, and one update adds the saturated product
in every cell; a DRAIN leaves accumulators and count at zero; a STREAM, from the Lagoon or with its lines taken from a slot, runs over
its mask; an operation on a shape it does not fit is a plan fault with code 0x05 and starts nothing. -/
def Obligations.ArraysRun : Prop :=
  (∀ (s : State) (core : Fin 1200) (wait a width shape src idx : Nat), s.fabric.tide.isSome = true →
     (s.fabric.core core.val).ops = [⟨.loadw a width shape src, idx, 0, []⟩] → a < (s.fabric.core core.val).arrays.length → 1 ≤ width →
     width ≤ 8 → shape ≤ 2 →
     ∃ t, exec (.frontStart core wait) s = .next t ∧ s.onlyCore t core.val ∧ (t.fabric.core core.val).ops = [] ∧
       (t.fabric.core core.val).lagoon = (s.fabric.core core.val).lagoon ∧
       ((t.fabric.core core.val).array a).shape = (if shape = 1 then .narrows else .stationary) ∧
       ((t.fabric.core core.val).array a).acc = ((s.fabric.core core.val).array a).acc ∧
       (∀ k, k ≠ a → (t.fabric.core core.val).array k = (s.fabric.core core.val).array k) ∧
       ∀ r col, r < 128 → col < 128 →
         ((t.fabric.core core.val).array a).weight r col =
           (let v := (s.fabric.core core.val).linesNat src (loadLines width shape)
            if shape = 0 then packedAt v (128 * r + col) width true
            else if shape = 1 then packedAt v (512 * (r % 32) + 128 * (r / 32) + col) width true
            else if r = col then packedAt v r width true else 0)) ∧
  (∀ (s : State) (core : Fin 1200) (gap : List Nat) (idx : Nat), s.fabric.tide.isSome = true → SMap.wf {} s.fabric.cores = true →
     let c := s.fabric.core core.val
     (∀ a x y p q u, c.ops = [⟨.opacc a x y p q u, idx, 0, []⟩] → a < c.arrays.length → (c.array a).shape ≠ .narrows →
       ∃ t, exec (.arrayOperationStart core gap) s = .next t ∧ s.onlyCore t core.val ∧ (t.fabric.core core.val).ops = [] ∧
         ((t.fabric.core core.val).array a).updates = (c.array a).updates + u ∧
         (t.fabric.core core.val).lagoon = c.lagoon ∧
         (u = 1 → ∀ r col, r < 128 → col < 128 →
           signed 24 (SMap.get (0 : BitVec 24) ((t.fabric.core core.val).array a).acc (128 * r + col)).toNat =
             (satS 24 (signed 24 (SMap.get (0 : BitVec 24) (c.array a).acc (128 * r + col)).toNat +
               packedAt (c.linesNat p 2) r 8 x * packedAt (c.linesNat q 2) col 8 y)).1)) ∧
     (∀ a dest dst dp, c.ops = [⟨.drain a dest dst dp, idx, 0, []⟩] → a < c.arrays.length → c.arrayFault (.drain a dest dst dp) = none →
       ∃ t, exec (.arrayOperationStart core gap) s = .next t ∧ (t.fabric.core core.val).ops = [] ∧
         ((t.fabric.core core.val).array a).acc = [] ∧ ((t.fabric.core core.val).array a).updates = 0 ∧
         ((t.fabric.core core.val).array a).weights = (c.array a).weights ∧ t.host = s.host ∧ t.measure = s.measure) ∧
     (∀ f fed, c.ops = [⟨.stream f, idx, 0, fed⟩] → c.arrayFault (.stream f) = none →
       (f.fromSlot = true → f.linesNeeded ≤ fed.length) →
       ∃ t, exec (.arrayOperationStart core gap) s = .next t ∧ (t.fabric.core core.val).ops = [] ∧
         (t.fabric.core core.val).curMask = BitVec.ofNat 4 f.mask ∧
         (∀ a, ((t.fabric.core core.val).array a).weights = (c.array a).weights ∧
           ((t.fabric.core core.val).array a).acc = (c.array a).acc) ∧ t.host = s.host ∧ t.measure = s.measure) ∧
     (∀ o fed, c.ops = [⟨o, idx, 0, fed⟩] → o.isArrayOp = true → (⟨o, idx, 0, fed⟩ : Issued).fedWhole = true → c.arrayFault o = some 5 →
       ∃ t, exec (.arrayOperationStart core gap) s = .next t ∧ (t.fabric.core core.val).lagoon = c.lagoon ∧
         (s.fabric.dies.length = 12 → (t.fabric.die (dieOf core.val)).arrayFaults =
           bump (s.fabric.die (dieOf core.val)).arrayFaults ∧
           (t.fabric.die (dieOf core.val)).ballast = (s.fabric.die (dieOf core.val)).ballast) ∧
         (∀ a, ((t.fabric.core core.val).array a).acc = (c.array a).acc)))

/-- Units of the Sound (R46, R250, R257-R259, R262): SEND gives its lines as units with rising sequence numbers; a unit that a planned
sender has under way, or that carries a row's input, enters the receive buffer of the core that accepts it, and the next sequence is
awaited; one that meets a full buffer is held and counted; one that nothing sent does not exist; a unit with a wrong token, and a core
1 ms without progress, are plan faults with codes 0x02 and 0x04; frozen beats count.
A plan fault (R202, R263, R291): its die's record and counter, the tide voided for the core's streams, the streams halted; the
other streams' rows stand and no core is retired. -/
def Obligations.SoundUnitsFlow : Prop :=
  (∀ (s : State) (core : Fin 1200),
     let c := s.fabric.core core.val
     (∀ sl l n e, s.issuesAlone core.val (.send sl l n) → c.slot sl = some e → e.receive = false → 1 ≤ n →
       ∃ t, exec (.send core) s = .next t ∧ c.steppedTo (t.fabric.core core.val) ∧ (t.fabric.core core.val).lagoon = c.lagoon ∧
         t.fabric.flight.length = s.fabric.flight.length + (n + 3) / 4 ∧
         (∃ rest, t.fabric.flight = s.fabric.flight ++ (⟨core.val,
           { dst := e.partner, token := BitVec.ofNat 48 (sl + 2 ^ 12 * (SMap.get 0 c.sendSeq sl % 2 ^ 20) + 2 ^ 32 * core.val),
             data := leBytes (64 * min 4 n) (c.linesNat l (min 4 n)), tag := c.linesTag l (min 4 n) }, false⟩ : InFlight) :: rest)) ∧
     (∀ sl l n e, s.issuesAlone core.val (.recv sl l n) → c.slot sl = some e → e.receive = true → 1 ≤ n →
       ∃ t, exec (.recv core) s = .next t ∧ s.onlyCore t core.val ∧ (t.fabric.core core.val).seq = c.seq + 1 ∧
         (c.recvBuf = [] → t.fabric.core core.val = { c with
           seq := c.seq + 1, ops := [⟨.recv sl l n, c.seq, 0, []⟩], lastProgress := s.clock.count, lastIssue := s.clock.count })) ∧
     (∀ u x, s.fabric.tide.isSome = true → u.dst.toNat = core.val → c.tokenOk u = true → hbmEndpoint (unitSource u) = false →
       s.fabric.inFlight u = some x →
       (c.ops = [] → c.recvBuf.length < 64 → x.source ≠ core.val →
         ∃ t, exec (.soundUnitArrive u) s = .next t ∧ (t.fabric.core core.val).recvBuf = c.recvBuf ++ [x.unit] ∧
           SMap.get 0 (t.fabric.core core.val).recvSeq (unitSlot u) = SMap.get 0 c.recvSeq (unitSlot u) + 1 ∧
           (t.fabric.core core.val).lagoon = c.lagoon ∧ t.fabric.flight = s.fabric.flight.erase x ∧
           (∀ k, k ≠ core.val → k ≠ x.source → t.fabric.core k = s.fabric.core k)) ∧
       (c.ops = [] → 64 ≤ c.recvBuf.length →
         ∃ t, exec (.soundUnitArrive u) s = .next t ∧ t.fabric.cores = s.fabric.cores ∧
           (x.held = true → t = s) ∧
           (x.held = false → s.fabric.dies.length = 12 →
             (t.fabric.die (dieOf core.val)).heldUnits = bump (s.fabric.die (dieOf core.val)).heldUnits))) ∧
     (∀ u, s.fabric.tide.isSome = true → u.dst.toNat = core.val → c.tokenOk u = true → hbmEndpoint (unitSource u) = false →
       s.fabric.inFlight u = none →
       (rowEndpoint (unitSource u) = true → c.ops = [] → c.recvBuf.length < 64 →
         match s.rowUnit u with
         | none => exec (.soundUnitArrive u) s = .next s
         | some v => ∃ t, exec (.soundUnitArrive u) s = .next t ∧ s.onlyCore t core.val ∧
             (t.fabric.core core.val).recvBuf = c.recvBuf ++ [v] ∧ (t.fabric.core core.val).lagoon = c.lagoon) ∧
       (rowEndpoint (unitSource u) = false → exec (.soundUnitArrive u) s = .next s)) ∧
     (∀ u, s.fabric.tide.isSome = true → u.dst.toNat = core.val → c.tokenOk u = false →
       exec (.soundUnitArrive u) s = .next (s.coreFail core.val 2 c.seq)) ∧
     (s.fabric.inTide core.val = true → c.unfinished = true → c.lastProgress + 1000000 ≤ s.clock.count →
       (s.fabric.plan.bind (·.span)) = none →
       exec (.noProgressFault core) s = .next (s.coreFail core.val 4 c.seq)) ∧
     (s.clock.count < c.lastProgress + 1000000 → exec (.noProgressFault core) s = .next s) ∧
     (∀ a : Option (Fin 4), s.fabric.tide.isSome = true → s.fabric.dies.length = 12 →
       ∃ t, exec (.arrayFreeze core a) s = .next t ∧
         (t.fabric.die (dieOf core.val)).frozen =
           bumpBy (if a.isSome then 1 else c.streamMask.length) (s.fabric.die (dieOf core.val)).frozen ∧
         t = { s with fabric := { s.fabric with dies := t.fabric.dies } })) ∧
  (∀ (s : State) (core : Fin 1200) (code step : Nat), s.fabric.dies.length = 12 → code ≠ 5 →
     let t := s.coreFail core.val code step
     (t.fabric.die (dieOf core.val)).coreFaults = bump (s.fabric.die (dieOf core.val)).coreFaults ∧
       (t.fabric.die (dieOf core.val)).lastPlanFault = ⟨core.val % 100, step, code, s.now⟩ ∧
       t.fabric.halted = s.fabric.halted ||| streamMask (s.fabric.streamsOfCore core.val) ∧
       (∀ td, s.fabric.tide = some td → t.fabric.tide =
         some { td with voided := td.voided ||| streamMask (s.fabric.streamsOfCore core.val) }) ∧
       t.ret = s.ret ∧ t.otp = s.otp ∧ t.measure = s.measure ∧
       (∀ k, (∀ st ∈ s.fabric.streamsOfCore core.val, k ∉ s.fabric.coresOf st) → t.fabric.core k = s.fabric.core k))

/-! ### Plans and tides -/

/-- From delivery to SWITCH-PENDING (R272-R276, R315, R318, R504): a delivery stages a plan and takes its place on F0, or is refused
with 0x0D while one is staged; a fetched file of the delivered length that passes every check is CHECKED under the digest of the whole
file, one that fails leaves the code and nothing staged, one whose fetch ended in a fault leaves 0x0E, and a refused translation asks
for the page where PRI is enabled and leaves 0x0E where it is not; nothing ends while F0 is not fetching it. 0xA5 and 0x5A act as
stated and any other value is ignored. The running plan is untouched throughout. -/
def Obligations.PlansAreStaged : Prop :=
  ∀ (s : State) (ch : Channel) (addr len : BitVec 64) (v : Byte), s.sessionOpen = true →
    (s.accepts ch 0x4100 1 .host →
      (s.fabric.staged = none → exec (.planDelivery ch addr len) s =
        .next { (s.touch ch).takeF0 with
          fabric := { s.fabric with staged := some ⟨.loading, addr, len, none, s.host.f0Requests + 1⟩ } }) ∧
      (s.fabric.staged ≠ none → exec (.planDelivery ch addr len) s =
        .next { s.touch ch with fabric := { s.fabric with refusal := 0x0D, refused := bump s.fabric.refused } })) ∧
    (∀ i k f, s.fabric.staged = some ⟨.loading, addr, len, i, k⟩ →
      (s.fetchesPlan ⟨.loading, addr, len, i, k⟩ = false → exec (.planCheck f) s = .next s) ∧
      (s.fetchesPlan ⟨.loading, addr, len, i, k⟩ = true →
        (∀ b, ∃ p : PlanInfo, p.digest = sha384 b ∧
          let code := if b.length = len.toNat then s.planCode b else 0x01
          exec (.planCheck (.bytes b)) s = .next (if code = 0
            then { s with fabric := { s.fabric with staged := some ⟨.checked, addr, len, some p, k⟩ } }
            else { s with fabric := { s.fabric with refusal := code, refused := bump s.fabric.refused, staged := none } })) ∧
        exec (.planCheck .error) s = .next { s with fabric := { s.fabric with
          refusal := 0x0E, refused := bump s.fabric.refused, staged := none } } ∧
        exec (.planCheck .refused) s = .next (if s.host.pri
          then { s with host := s.host.requestPage .plan s.clock.count }
          else { s with fabric := { s.fabric with
            refusal := 0x0E, refused := bump s.fabric.refused, staged := none } }))) ∧
    (∀ p, s.accepts ch 0x4100 2 .hOpCu → s.fabric.staged = some p →
      (p.state = .checked → exec (.planSwitch ch 0xA5) s =
        .next { s.touch ch with fabric := { s.fabric with staged := some { p with state := .switchPending } } }) ∧
      (p.state ≠ .loading → exec (.planDiscard ch 0x5A) s =
        .next { s.touch ch with fabric := { s.fabric with staged := none } }) ∧
      (v ≠ 0xA5 → v ≠ 0x5A → exec (.planSwitch ch v) s = .next ((s.touch ch).ignoreWrite 0x4100 2) ∧
        exec (.planDiscard ch v) s = .next ((s.touch ch).ignoreWrite 0x4100 2)))

/-- Admission at a tide boundary (R246, R264, R277-R281, R293, R295): the plan runs, nothing is staged, MR9 takes the record, its
streams leave HALTED, every partition core and its window store hold the image's windows, and a span plan, which waits for the first
grid point at or after OD 0x4100.03 and the last module's report, has its EPOCH as grid origin; a plan that fails a repeated check is discarded and the running plan goes on. -/
def Obligations.PlansAreAdmitted : Prop :=
  ∀ (s : State) (a l : BitVec 64) (k : Nat) (p : PlanInfo), s.fabric.staged = some ⟨.switchPending, a, l, some p, k⟩ → s.fabric.tide = none →
    s.measure.mrs.length = 32 → SMap.wf {} s.fabric.cores = true →
    let admitted (t : State) : Prop :=
      t.fabric.plan = some p ∧ t.fabric.staged = none ∧ t.fabric.tideCount = s.fabric.tideCount ∧
        t.mr 9 = sha384 (digestBytes (s.mr 9) ++ ([0x01] ++ digestBytes p.digest ++ leBytes 8 s.now)) ∧
        (∀ k, k ≠ 9 → t.mr k = s.mr k) ∧ t.fabric.halted = s.fabric.halted &&& ~~~p.mask ∧ t.otp = s.otp ∧ t.keys = s.keys ∧
        (∀ i ∈ p.cores, t.fabric.core i = (p.windowsOf s.hosting.models i).core ∧
          SMap.get {} t.fabric.windows i = p.windowsOf s.hosting.models i)
    (p.span = none → s.recheckCode p = 0 →
      ∃ t, exec (.planAdmission []) s = .next t ∧ admitted t ∧ s.now ≤ t.fabric.origin ∧ t.fabric.origin % 1000 = 0) ∧
    (∀ sp, p.span = some sp → s.recheckCode p = 0 →
      ∀ reported, 0 < p.cadenceNs →
      let first (g : Nat) : Prop := max s.fabric.spanSwitch reported ≤ g ∧ sp.epoch ≤ g ∧ (g - sp.epoch) % p.cadenceNs = 0
      (first (s.spanNow sp) → (∀ g, first g → s.spanNow sp ≤ g) →
        ∃ t, exec (.spanAdmission ⟨[], reported⟩) s = .next t ∧ admitted t ∧ t.fabric.origin = sp.epoch) ∧
      (¬ first (s.spanNow sp) → exec (.spanAdmission ⟨[], reported⟩) s = .next s)) ∧
    (p.span = none → s.recheckCode p ≠ 0 →
      exec (.planAdmission []) s = .next { s with fabric := { s.fabric with
        refusal := s.recheckCode p, refused := bump s.fabric.refused, staged := none } })

/-- A departure that is due (R213, R244, R282-R284, R287-R290): the tide takes the next number and the device time, is paced exactly
when plan floor × 1,000 exceeds MIN_FLOOR × (1,000 + margin), fills the slots of every stream that takes part with its eligible
submissions in order, then with padding or null rows; the plan's cores hold nothing but their windows, those that take part start at
step 0, and every array of the device is cleared, but for whether it has quiesced. Before it is due, and while a plan waits for the
boundary (R277), nothing happens.
The slots of a stream (R283, R284): as many as its ROWS, the eligible submissions first and in order, then padding rows for a LEVEL
stream and null rows otherwise.
Grid and due times (R280, R288): a paced tide departs on a grid point of its plan, never before the last one's finish. -/
def Obligations.TidesDepart : Prop :=
  (∀ (s : State) (p : PlanInfo), s.fabric.plan = some p → s.fabric.tide = none → s.up = true → s.od.session ≠ 0 →
     s.od.drained = false → s.tideCores p ≠ [] → SMap.wf {} s.fabric.cores = true →
     let paced := decide (p.cert.minFloor * (1000 + s.ret.margin) < s.planFloorNow p * 1000)
     let cleared (k : Nat) : List ArrayState := (s.fabric.core k).arrays.map fun a => { quiesced := a.quiesced }
     ((s.switching false).isSome = true → exec .tideDeparture s = .next s) ∧
     ((s.switching false).isNone = true → dueTime s.fabric.origin p.cadenceNs s.fabric.lastTide paced ≤ s.gridNow →
       ∃ t td, exec .tideDeparture s = .next t ∧ t.fabric.tide = some td ∧ td.no = s.fabric.tideCount ∧ td.depart = s.now ∧
         td.paced = paced ∧ td.voided = 0 ∧ t.fabric.tideCount = s.fabric.tideCount + 1 ∧ t.fabric.plan = s.fabric.plan ∧
         (∀ e ∈ p.streams, s.takesPart e = true → (e.stream, slotsFor e (s.host.slotOrder e.stream)) ∈ td.rows) ∧
         (∀ r ∈ td.rows, ∃ e ∈ p.streams, s.takesPart e = true ∧ r.1 = e.stream) ∧
         (∀ i ∈ s.tideCores p, (t.fabric.core i).seq = 0 ∧ (t.fabric.core i).ops = [] ∧
           (t.fabric.core i).arrays = cleared i ∧ (t.fabric.core i).issuing = !(s.fabric.core i).idle) ∧
         (∀ i ∈ p.cores, (t.fabric.core i).arrays = cleared i ∧
           (i ∉ s.tideCores p → (t.fabric.core i).issuing = false) ∧
           ∀ l, (t.fabric.core i).line l = if (s.fabric.core i).inWindow l then (s.fabric.core i).line l else {}) ∧
         (∀ k, k ∉ p.cores → t.fabric.core k = { s.fabric.core k with arrays := cleared k }) ∧
         t.start.power = (if s.start.power = .ready then .run else s.start.power) ∧
         t.monitors.ballastActive = s.monitors.ballast ∧ t.measure = s.measure ∧ t.ret = s.ret) ∧
     (s.gridNow < dueTime s.fabric.origin p.cadenceNs s.fabric.lastTide paced → exec .tideDeparture s = .next s)) ∧
  (∀ (e : StreamEntry) (tags : List Nat),
     (slotsFor e tags).length = e.rows ∧
       (∀ k, k < e.rows → k < tags.length → (slotsFor e tags)[k]? = some (.sub (tags.getD k 0))) ∧
       (∀ k, tags.length ≤ k → k < e.rows → (slotsFor e tags)[k]? = some (if e.level then .padding else .nullRow))) ∧
  (∀ (origin cadence next fin : Nat), 0 < cadence → origin ≤ next → (next - origin) % cadence = 0 → 
     (let d := dueTime origin cadence (some (false, next, fin)) true
      fin ≤ d ∧ origin ≤ d ∧ (d - origin) % cadence = 0 ∧ ∀ g, origin ≤ g → (g - origin) % cadence = 0 → fin ≤ g → d ≤ g) ∧
     dueTime origin cadence (some (true, next, fin)) true = max next fin ∧
     (∀ b, dueTime origin cadence (some (b, next, fin)) false = fin) ∧ dueTime origin cadence none true = origin)

/-- A tide finishes once all its work is complete and its outputs are in hub staging (R252, R285, R289, R570): no tide runs, its
plan-state writes are in HBM but for those of voided streams and of null and padding rows, and every submission in it is answered with
the output the staged units hold, with CLIPPED, LATE and UNPACED as the tide ran (R226).
The span wait limit (R298, R591): with a mark missing when it has elapsed, every stream of the span plan enters HALTED, the event is
recorded with the ports still missing, and the tide, if one runs, is voided for them. -/
def Obligations.TidesFinishAndSpansWait : Prop :=
  (∀ (s : State) (p : PlanInfo) (td : Tide), s.fabric.plan = some p → s.fabric.tide = some td → s.od.session = 1 →
     s.start.debugEnd = 0 → p.span = none →
     ((p.streams.filter fun e => (td.rows.map (·.1)).contains e.stream && !inMask s.fabric.halted e.stream).all fun e =>
       (s.fabric.coresOf e.stream).all fun i => (s.fabric.core i).done) = true →
     s.fabric.outputsStaged p td = true →
     ∃ t, exec .tideFinish s = .next t ∧ t.fabric.tide = none ∧ t.fabric.plan = s.fabric.plan ∧
       t.fabric.lastTide = some (td.paced, td.nextGrid, s.now) ∧
       (∀ d ∈ t.fabric.dies, d.commit = []) ∧
       (∀ k, (∀ d ∈ s.fabric.dies, ∀ w ∈ d.commit, w.2.1 = k → td.commits w.1 = false) →
         SMap.get {} t.fabric.hbm k = SMap.get {} s.fabric.hbm k) ∧
       (∀ tag x e r, (tag, some x) ∈ s.host.subs → x.phase = .inTide → x.tide = some td.no → p.entry x.stream = some e →
         rowOf td.rows x.stream tag = some r →
         ∃ y, (tag, some y) ∈ t.host.subs ∧ y.phase = .answered ∧ y.status = some 0 ∧
           y.output = some (rowOutput p e r s.fabric.staging).1 ∧
           y.flags.getLsbD 0 = ((rowOutput p e r s.fabric.staging).2 || x.sampleTag) ∧ y.flags.getLsbD 1 = (td.paced && decide (td.nextGrid < s.now)) ∧ y.flags.getLsbD 2 = !td.paced ∧
           y.flags.getLsbD 3 = td.loopOut ∧ (∃ o, y.output = some o ∧ o.length = e.outputLen)) ∧
       (t.start.power = s.start.power ∨ t.start.power = .ready) ∧
       (∀ k, t.fabric.core k = s.fabric.core k) ∧ t.measure = s.measure ∧ t.ret = s.ret) ∧
  (∀ (s : State) (missing : BitVec 12) (p : PlanInfo), s.fabric.plan = some p → p.span.isSome = true → s.spanExpired = true →
     (p.mask &&& ~~~s.fabric.halted) ≠ 0 →
     ∃ t, exec (.spanWaitExpiry missing) s = .next t ∧ t.fabric.halted = s.fabric.halted ||| p.mask ∧ t.otp = s.otp ∧
       t.measure = s.measure ∧ t.ret = s.ret ∧ t.fabric.plan = s.fabric.plan ∧
       (s.faults.queue.length < 32 → s.faults.overflow = none →
         ∃ r ∈ t.faults.queue, r.code = 9 ∧ r.a = missing.toNat ∧ r.time = s.now))

/-! ### The host data path -/

/-- Doorbells, ring configuration, ingest mode and fences (R21, R305-R307, R310, R325, R328, R401): each permitted write leaves just
what its rule says, and everything else stands; a value out of range on a doorbell only counts; outside the TEE stream in
CONFIG_LOCKED or RUN nothing is written. -/
def Obligations.HostWritesActOnce : Prop :=
  ∀ (s : State) (tee : Bool) (ring : BitVec 16) (v : BitVec 32), s.hostReaches tee → SMap.wf {} s.host.rings = true →
    SMap.wf 0 s.host.fences = true →
    (s.doorbellOk ring.toNat v.toNat → s.notCarriedBy (s.host.ring ring.toNat).stream = false →
      ∃ t, exec (.sqTailWrite tee ring v) s = .next t ∧ (t.host.ring ring.toNat).sqTail = v.toNat ∧
        (t.host.ring ring.toNat).stop =
          (if (s.host.ring ring.toNat).stop = .entry then .none else (s.host.ring ring.toNat).stop) ∧
        (∀ k, k ≠ ring.toNat → t.host.ring k = s.host.ring k) ∧ t = { s with host := { s.host with rings := t.host.rings } }) ∧
    (s.doorbellOk ring.toNat v.toNat →
      ∃ t, exec (.cqHeadWrite tee ring v) s = .next t ∧ (t.host.ring ring.toNat).cqHead = v.toNat ∧
        (t.host.ring ring.toNat).cqTail = (s.host.ring ring.toNat).cqTail ∧
        (∀ k, k ≠ ring.toNat → t.host.ring k = s.host.ring k) ∧ t = { s with host := { s.host with rings := t.host.rings } }) ∧
    (¬ s.doorbellOk ring.toNat v.toNat →
      exec (.sqTailWrite tee ring v) s = .next { s with host := { s.host with ignored := bump s.host.ignored } } ∧
        exec (.cqHeadWrite tee ring v) s = .next { s with host := { s.host with ignored := bump s.host.ignored } }) ∧
    (∀ (f : BitVec 12) (w : BitVec 64), s.straits.spanFences = false →
      ∃ t, exec (.fenceObjectWrite tee f w) s = .next t ∧
        SMap.get 0 t.host.fences f.toNat = max (SMap.get 0 s.host.fences f.toNat) w.toNat ∧
        (∀ k, k ≠ f.toNat → SMap.get 0 t.host.fences k = SMap.get 0 s.host.fences k) ∧
        t = { s with host := { s.host with fences := t.host.fences } }) ∧
    (∀ (ch : Channel) (m : Byte), s.accepts ch 0x5410 1 .hOpCu →
      (m.toNat < 2 → ∃ t, exec (.ingestModeWrite ch m) s = .next t ∧ t.host = { s.host with mode := m.toNat } ∧ t.od = s.od) ∧
      (2 ≤ m.toNat → exec (.ingestModeWrite ch m) s = .next ((s.touch ch).ignoreWrite 0x5410 1))) ∧
    (∀ (ch : Channel) (cfg : RingCfg), s.accepts ch 0x5420 1 .host →
      ((s.host.ring cfg.ring.toNat).enabled = false → ringCfgOk cfg = true → s.od.session = 1 → cfg.enable ≠ 0 →
        ∃ t, exec (.ringConfigWrite ch cfg) s = .next t ∧ (t.host.ring cfg.ring.toNat).enabled = true ∧
          (t.host.ring cfg.ring.toNat).depth = 2 ^ cfg.log2Depth.toNat ∧ (t.host.ring cfg.ring.toNat).stream = cfg.stream.toNat ∧
          (t.host.ring cfg.ring.toNat).sqHead = 0 ∧ (t.host.ring cfg.ring.toNat).sqTail = 0 ∧
          (t.host.ring cfg.ring.toNat).cqHead = 0 ∧ (t.host.ring cfg.ring.toNat).cqTail = 0 ∧
          ∀ k, k ≠ cfg.ring.toNat → t.host.ring k = s.host.ring k) ∧
      ((s.host.ring cfg.ring.toNat).enabled = true → cfg.enable = 0 →
        ∃ t, exec (.ringConfigWrite ch cfg) s = .next t ∧
          t.host.ring cfg.ring.toNat = { s.host.ring cfg.ring.toNat with enabled := false }) ∧
      ((s.host.ring cfg.ring.toNat).enabled = true → cfg.enable ≠ 0 →
        exec (.ringConfigWrite ch cfg) s = .next { s.touch ch with host := { s.host with ignored := bump s.host.ignored } }) ∧
      ((s.host.ring cfg.ring.toNat).enabled = false → ringCfgOk cfg = false →
        exec (.ringConfigWrite ch cfg) s = .next ((s.touch ch).ignoreWrite 0x5420 1)))

/-- A LIVE entry (R18, R19, R309-R314, R318): SCORE and EVENTS take the next number, a time not before now and the lowest free tag, which
held nothing, and every other submission stands but for events that go on being forwarded; a record whose translation is refused waits
for its page where PRI is enabled and completes with INPUT_FAULT where it is not; a RESUBMIT takes no number and no tag and makes the parked submission eligible under its own number and time; a malformed or
unmatched entry is not consumed and stops its ring with its count. -/
def Obligations.EntriesAreSequenced : Prop :=
  ∀ (s : State) (ring : BitVec 16) (w : BitVec 512), SMap.wf none s.host.subs = true →
    let e := sqEntryOf w.toNat
    let q := s.host.ring ring.toNat
    let tag := s.host.freeTag
    let accepted (o : Host.Outcome State Fault Refusal) : Prop :=
      ∃ t x, o = .next t ∧ s.host.sub tag = none ∧ t.host.sub tag = some x ∧ x.seq = s.ret.nextSeq ∧ s.now ≤ x.time ∧
        x.ring = ring.toNat ∧ x.stream = q.stream ∧ x.kind = e.opcode ∧ x.cookie = e.cookie ∧ x.inputLen = e.inputLen ∧
        x.eventCount = e.eventCount ∧ x.status = none ∧ (x.phase = .fetching ∨ x.phase = .laneWait) ∧ s.othersKept t tag ∧
        t.ret = { s.ret with nextSeq := s.ret.nextSeq + 1 } ∧ (t.host.ring ring.toNat).sqHead = (q.sqHead + 1) % q.depth ∧
        (∀ k, k ≠ ring.toNat → t.host.ring k = s.host.ring k) ∧ t.measure = s.measure ∧ t.fabric = s.fabric
    (s.readsEntry ring.toNat w → e.opcode = 1 → accepted (exec (.score ring w true) s)) ∧
    (s.readsEntry ring.toNat w → e.opcode = 2 → accepted (exec (.events ring w true) s)) ∧
    (s.readsEntry ring.toNat w → e.opcode = 1 ∨ e.opcode = 2 →
      ∃ t x, (if e.opcode = 1 then exec (.score ring w false) s else exec (.events ring w false) s) = .next t ∧
        t.host.sub tag = some x ∧ x.seq = s.ret.nextSeq ∧ s.othersKept t tag ∧
        t.ret = { s.ret with nextSeq := s.ret.nextSeq + 1 } ∧ (t.host.ring ring.toNat).sqHead = (q.sqHead + 1) % q.depth ∧
        (if s.host.pri then x.phase = .pageWait ∧ x.status = none ∧ t.host.paging (.record (BitVec.ofNat 18 tag)) = true
         else x.phase = .answered ∧ x.status = some 2 ∧ t.host.inputFaults = bump s.host.inputFaults)) ∧
    (∀ k x, s.readsEntry ring.toNat w → e.opcode = 3 → s.host.parkedAs q.stream e.seq = some k → s.host.sub k = some x →
      ∃ t y, exec (.resubmit ring w) s = .next t ∧ t.host.sub k = some y ∧ y.seq = x.seq ∧ y.time = x.time ∧ y.record = x.record ∧
        y.sample = x.sample ∧ y.status = none ∧ y.parked = false ∧ y.cookie = e.cookie ∧ s.otherSubs t k ∧ t.ret = s.ret ∧
        (t.host.ring ring.toNat).sqHead = (q.sqHead + 1) % q.depth) ∧
    (s.readsEntry ring.toNat w → e.opcode = 3 → s.host.parkedAs q.stream e.seq = none →
      ∃ t, exec (.resubmit ring w) s = .next t ∧ t.host.ring ring.toNat = { q with stop := .entry } ∧
        t.host.replayRefused = bump s.host.replayRefused ∧ t.host.subs = s.host.subs ∧ t.ret = s.ret) ∧
    (∀ k, s.readsRing ring.toNat = true → s.logged = false → e.opcode = 1 →
      malformedCase false (((s.fabric.entry q.stream).map (·.inputMax)).getD 0) w.toNat = some k →
      ∃ t, exec (.score ring w true) s = .next t ∧ t.host.ring ring.toNat = { q with stop := .entry } ∧
        t.host.malformed = bump s.host.malformed ∧ t.host.lastMalformed = (ring.toNat, k, s.now) ∧
        t.host.subs = s.host.subs ∧ t.ret = s.ret ∧ ∀ j, j ≠ ring.toNat → t.host.ring j = s.host.ring j) ∧
    (s.host.fenceReached ring.toNat = true →
      ∃ t, exec (.fenceWaitRelease ring) s = .next t ∧ t.host.ring ring.toNat = { q with stop := .none, heldEntry := none } ∧
        t = { s with host := { s.host with rings := t.host.rings } })

/-- Record fetches (R156, R157, R303, R318, R332, R333): a fetched record stands with the SHA-384 of its octets and frees its lane; a
page response of Success retries the fetch, and any other response, or a request that has waited for OD 0x5443.03, is INPUT_FAULT,
counted, while one that has not waited so long changes nothing; an ATS invalidation leaves every translation that overlaps no octet of
its range and no other, waits for the fetches that read the range, and is not taken while 32 are outstanding.
Interrupts (R327, R401-R403): when a vector's hold-off interval has ended a deferred vector is raised, once; a vector that is
unmasked sends what was pending, once; while the function is masked, or the device may not write host memory, it stays pending. -/
def Obligations.FetchesAndVectors : Prop :=
  (∀ (s : State) (tag : BitVec 18) (x : Submission), s.host.sub tag.toNat = some x → SMap.wf none s.host.subs = true →
     (∀ b : Bytes, x.phase = .fetching → s.engines.inLane tag.toNat = true → b.length = x.inputLen → s.dmaOk = true →
       ∃ t y, exec (.recordFetchDone tag b) s = .next t ∧ t.host.sub tag.toNat = some y ∧ y.record = b ∧
         y.inputDigest = some (sha384 b) ∧ y.seq = x.seq ∧ t.engines.inLane tag.toNat = false ∧ t.ret = s.ret ∧
         t.measure = s.measure) ∧
     (s.host.pageOut (.record tag) = true → x.phase = .pageWait →
       (∃ t y, exec (.pageRequestResponse (.record tag) true) s = .next t ∧ t.host.sub tag.toNat = some y ∧
         (y.phase = .fetching ∨ y.phase = .laneWait) ∧ y.seq = x.seq ∧ t.ret = s.ret) ∧
       (∃ t y, exec (.pageRequestResponse (.record tag) false) s = .next t ∧ t.host.sub tag.toNat = some y ∧
         y.status = some 2 ∧ y.phase = .answered ∧ y.inputDigest = none ∧ t.host.inputFaults = bump s.host.inputFaults) ∧
       (s.host.pageTimedOut (.record tag) s.clock.count = true →
         ∃ t y, exec (.priTimeout (.record tag)) s = .next t ∧ t.host.sub tag.toNat = some y ∧
           y.status = some 2 ∧ y.phase = .answered ∧ t.host.inputFaults = bump s.host.inputFaults) ∧
       ((∀ p ∈ s.host.pages, p.1 = .record tag → s.clock.count < p.2 + s.host.priTimeout * 1000000) →
         exec (.priTimeout (.record tag)) s = .next s)) ∧
     (∀ iova len : BitVec 64,
       (32 ≤ s.host.invalidationsOut.length → exec (.atsInvalidation iova len) s = .next s) ∧
       (s.host.invalidationsOut.length < 32 →
         ∃ t, exec (.atsInvalidation iova len) s = .next t ∧
           t = { s with host := { s.host with atc := t.host.atc, invalidations := t.host.invalidations } } ∧
           (∀ p, p ∈ t.host.atc ↔ p ∈ s.host.atc ∧
             (4096 * (p.1 + 2 ^ p.2) ≤ iova.toNat ∨ iova.toNat + len.toNat ≤ 4096 * p.1)) ∧
           (∀ k y, s.host.sub k = some y → y.inFetch = true → y.inputAddr < iova.toNat + len.toNat →
             iova.toNat < y.inputAddr + y.inputLen → ∃ i ∈ t.host.invalidationsOut, (k, y.seq) ∈ i.waits)))) ∧
  (∀ (s : State) (vec : Fin 2048) (tee : Bool), SMap.wf 0 s.host.msixSent = true →
     let sent (t : State) : Nat := SMap.get 0 t.host.msixSent vec.val
     (s.host.holdoffOver vec.val s.clock.count = true → s.host.deferred.contains vec.val = true → s.host.msixOn = true →
       ∃ t, exec (.msixHoldoffExpiry vec) s = .next t ∧ t.host.deferred.contains vec.val = false ∧
         (s.host.masked vec.val = false → s.dmaOk = true → sent t = sent s + 1) ∧
         (s.host.masked vec.val = true ∨ s.dmaOk = false → sent t = sent s ∧ t.host.msixPending.contains vec.val = true) ∧
         (∀ k, k ≠ vec.val → SMap.get 0 t.host.msixSent k = SMap.get 0 s.host.msixSent k) ∧ t.host.rings = s.host.rings ∧
         t.hostMem = s.hostMem) ∧
     (s.host.holdoffOver vec.val s.clock.count = true → s.host.deferred.contains vec.val = false →
       ∃ t, exec (.msixHoldoffExpiry vec) s = .next t ∧ t.host.msixSent = s.host.msixSent ∧
         t.host.holding.any (fun e => e.1 == vec.val) = false) ∧
     (s.hostReaches tee → s.host.msixOn = true → s.host.msixPending.contains vec.val = true →
       SMap.wf (0, 0, true) s.host.msix = true →
       ∃ t, exec (.msixVectorUnmask ⟨tee, vec⟩) s = .next t ∧ (SMap.get (0, 0, true) t.host.msix vec.val).2.2 = false ∧
         (s.host.msixMask = false → s.dmaOk = true →
           sent t = sent s + 1 ∧ t.host.msixPending.contains vec.val = false) ∧
         (s.host.msixMask = true ∨ s.dmaOk = false → t.host.msixSent = s.host.msixSent ∧ t.host.msixPending = s.host.msixPending) ∧
         t.host.subs = s.host.subs))

/-- A SCORE answer is posted (R314, R320-R324, R383): its output at OUTPUT_ADDR, its receipt in the next slot of the receipt ring, its
completion with number, time, cookie, tag, stream, status and length in the next CQ entry, and nothing else of host memory; the chain
takes the receipt, and the tag is free. The three places do not overlap. An output whose lane is busy waits for it in hub staging, and
nothing of the answer is posted (R155, R156). -/
def Obligations.CompletionsFollowReceipts : Prop :=
  ∀ (s : State) (tag : BitVec 18) (x : Submission) (a : Answer) (o : Bytes), s.host.sub tag.toNat = some x →
    SMap.wf none s.host.subs = true → x.answerOf = some a → x.kind = 1 → x.status = some 0 → x.phase = .answered → x.owed = [] → x.output = some o → x.outWritten = false →
    x.outPending = false → x.receiptNo = none → x.parked = false → x.fenceSignal = none → o.length ≤ 4096 →
    x.seq < 2 ^ 64 → x.time < 2 ^ 64 → x.cookie < 2 ^ 32 → x.stream < 64 →
    s.dmaOk = true → s.host.inOrder x = true → s.mayReceipt = true → s.measure.receipts = [] → s.measure.receiptRing.ready = true →
    s.ret.receiptsWritten = s.ret.receiptsMade → s.measure.sinceCut + 1 < s.ret.ckptCount → s.od.session = 1 →
    let lane := s.engines.laneFree (laneOf x.ring) || s.engines.inLane tag.toNat
    (x.outDigested = false → lane = false → ∃ t y, exec (.completionPost tag ⟨true, true, true⟩) s = .next t ∧
      t.host.sub tag.toNat = some y ∧ y = { x with outLane := true } ∧ s.otherSubs t tag.toNat ∧ t.hostMem = s.hostMem ∧
      t.ret = s.ret ∧ t.measure = s.measure ∧
      t.engines.laneWaits = (if x.outLane then s.engines.laneWaits else bump s.engines.laneWaits)) ∧
    (x.outDigested = true ∨ lane = true →
    let q := s.host.ring x.ring
    let ev := s.measure.receiptRing
    let cq := q.cqBase.toNat + 32 * q.cqTail
    let r := receiptBytes x { a with flags := s.receiptFlags a.flags } s.chainHead (if a.tide.isSome then a.generation else s.ret.generation)
    q.cqStop = .none → q.cqFull = false → r.length = 160 → x.outputAddr + o.length ≤ ev.slot 160 → ev.slot 160 + 160 ≤ cq →
    ∃ t b, exec (.completionPost tag ⟨true, true, true⟩) s = .next t ∧ t.hostHolds x.outputAddr o ∧ t.hostHolds (ev.slot 160) r ∧
      t.hostHolds cq b ∧ b.length = 32 ∧ field (leNat b) 0 64 = x.seq ∧ field (leNat b) 64 64 = x.time ∧
      field (leNat b) 128 32 = x.cookie ∧ field (leNat b) 160 18 = tag.toNat ∧ field (leNat b) 178 6 = x.stream ∧
      field (leNat b) 184 8 = 0 ∧ field (leNat b) 192 16 = o.length ∧
      (∀ a, (a < x.outputAddr ∨ x.outputAddr + o.length ≤ a) → (a < ev.slot 160 ∨ ev.slot 160 + 160 ≤ a) →
        (a < cq ∨ cq + 32 ≤ a) → readByte t.hostMem a = readByte s.hostMem a) ∧
      t.host.sub tag.toNat = none ∧ s.otherSubs t tag.toNat ∧ (t.host.ring x.ring).cqTail = (q.cqTail + 1) % q.depth ∧
      t.ret.receiptsMade = s.ret.receiptsMade + 1 ∧ t.ret.receiptsWritten = s.ret.receiptsMade + 1 ∧
      t.ret.liveHead = sha384 (digestBytes s.chainHead ++ r) ∧ t.measure.receipts = [] ∧ t.measure.mrs = s.measure.mrs)

/-! ### The Shoal engine -/

/-- One event applied (R345-R351, R365): an invalid event changes no record and is counted; a probe changes no record; any other event
leaks all eight channels to its tick, advances LAST_T, adds its magnitude to the channels of its mask with saturation, folds
saturations into TAG, and acts on a crossing: below depth 2 the threshold is taken off and every fan-out entry spikes one depth on
under the same ancestor; at depth 2 it is only counted. Every other record stands. -/
def Obligations.ShoalEventsApply : Prop :=
  ∀ (s : State) (n : Fin 12) (e : ShoalEvent), s.Inv → s.appliesNext n.val e →
    let c := s.shoal.cluster n.val
    let i := nidIndex e.nid
    let w := c.record i
    let added (k : Nat) : Int × Bool :=
      if bit e.chmask k then satS 40 (c.leakedTo w e.time k + e.mag * 2 ^ c.shift (tcselOf w k)) else (c.leakedTo w e.time k, false)
    let watch := field w 416 3
    let thresh : Int := (field w 424 24 : Int) * 65536
    let fires := bit w 419 && decide (thresh ≤ (added watch).1)
    let tag := bit w 420 || e.tag || (List.range 8).any fun k => (added k).2
    (s.shoal.valid e = false → ∃ t, exec (.shoalEventApply n) s = .next t ∧ s.onlyShoal t ∧ s.sameRecords t ∧
      t.shoal.invalid = bumpAt s.shoal.invalid n.val ∧ t.shoal.applied = s.shoal.applied ∧ t.shoal.spikes = s.shoal.spikes) ∧
    (s.shoal.valid e = true → e.chmask = 0 → ∃ t, exec (.shoalEventApply n) s = .next t ∧ s.onlyShoal t ∧ s.sameRecords t ∧
      t.shoal.invalid = s.shoal.invalid ∧ t.shoal.spikes = s.shoal.spikes) ∧
    (s.shoal.valid e = true → e.chmask ≠ 0 → e.time < 2 ^ 62 →
      ∃ t, exec (.shoalEventApply n) s = .next t ∧ s.onlyShoal t ∧ s.recordsBut t n.val i ∧ t.shoal.invalid = s.shoal.invalid ∧
        (let w' := (t.shoal.cluster n.val).record i
         (∀ k, k < 8 → channelOf w' k =
           (if fires = true ∧ e.depth < 2 ∧ k = watch then (added k).1 - thresh else (added k).1)) ∧
         field w' 320 48 = max (field w 320 48) (tickOf e.time) ∧ bit w' 420 = tag ∧ field w' 368 52 = field w 368 52 ∧
         w' >>> 421 = w >>> 421) ∧
        (fires = true → e.depth < 2 → field w 476 9 ≤ 256 → field e.suborder 0 8 = 0 → (e.depth = 0 → field e.suborder 8 8 = 0) →
          ∀ j, j < field w 476 9 →
            let syn := (SMap.get 0 c.synapses (field w 448 28 + j)).toNat
            ∃ x ∈ t.shoal.pending, x.nid = field syn 0 31 ∧ x.chmask = field syn 40 8 ∧ x.mag = signed c.width (field syn 32 c.width) ∧
              x.sample = false ∧ x.time = e.time ∧ x.seq = e.seq ∧ x.depth = e.depth + 1 ∧ x.tag = tag ∧
              field x.suborder 16 8 = field e.suborder 16 8 ∧
              (if e.depth = 0 then field x.suborder 8 8 = j % 256 else field x.suborder 0 8 = j % 256)) ∧
        (t.shoal.depth2 = if fires = true ∧ 2 ≤ e.depth then bumpAt s.shoal.depth2 n.val else s.shoal.depth2) ∧
        (fires = true → e.depth < 2 → t.shoal.spikes = modifyAt s.shoal.spikes n.val (bumpBy (field w 476 9))))

/-- Samples and sleep (R353, R354, R357): the sample of a SCORE holds, per SAMPLE event in record order, eight 5-octet channels leaked
to the submission's time, zero for an invalid event; no record changes. A sleeping cluster keeps its records.
Images and snapshots (R359-R362, R29): what each write and each end of a transfer leaves. A refused image changes nothing but the
result; an accepted one replaces the clusters, extends MR11 and gives a new start-state digest; a snapshot holds forwarding until it
is written out, octet for octet, and its digest stands in OD 0x6002.02; a refused translation asks for the page where PRI is enabled
(R318). Nothing ends while DMA is forbidden. -/
def Obligations.SamplesAndImages : Prop :=
  (∀ s : State, s.Inv →
     (∀ (tag : BitVec 18) (x : Submission), s.host.sub tag.toNat = some x → x.unsampled = true → s.host.passed x.seq = true →
       s.shoal.clearTo x.seq = true →
       let l := ((List.range x.eventCount).map fun k => stampedEvent x.record k x.time x.seq).filter (·.sample)
       ∃ t y b, exec (.shoalSample tag) s = .next t ∧ t = { s with host := { s.host with subs := t.host.subs } } ∧
         t.host.sub tag.toNat = some y ∧ s.otherSubs t tag.toNat ∧ y.sample = some b ∧ y.seq = x.seq ∧ y.status = x.status ∧
         (x.phase = .staged → y.phase = .sampled) ∧ b.length = 40 * l.length ∧
         (∀ p e k, l[p]? = some e → k < 8 →
           let c := s.shoal.cluster e.target
           let w := c.record (nidIndex e.nid)
           leField b (40 * p + 5 * k) 5 = (if s.shoal.valid e then twos 40 (c.leakedTo w x.time k) else 0)) ∧
         (y.sampleTag = l.any fun e => s.shoal.valid e && bit ((s.shoal.cluster e.target).record (nidIndex e.nid)) 420)) ∧
     (∀ n : Fin 12, (∀ e ∈ s.shoal.pending, e.target ≠ n.val) →
       ∃ t, exec (.shoalSleep n) s = .next t ∧ (t.shoal.cluster n.val).asleep = true ∧ s.sameRecords t ∧
         t = { s with shoal := { s.shoal with clusters := t.shoal.clusters } })) ∧
  (∀ s : State, s.Inv →
     (∀ (ch : Channel) (addr len : BitVec 64), s.accepts ch 0x6001 1 .host → s.od.session = 1 →
       ∃ t, exec (.shoalImageLoad ch addr len) s = .next t ∧ s.sameRecords t ∧ t.measure = s.measure ∧ t.od = s.od ∧
         (s.shoal.planAdmitted = true → t.shoal = { s.shoal with loadResult := 2 }) ∧
         (s.shoal.planAdmitted = false → s.shoal.load.isSome = true ∨ s.shoal.snapshot.isSome = true →
           t.shoal = { s.shoal with loadResult := 6 }) ∧
         (s.shoal.planAdmitted = false → s.shoal.load = none → s.shoal.snapshot = none →
           t.shoal = { s.shoal with load := some (addr, len) })) ∧
     (∀ addr len, s.shoal.load = some (addr, len) →
       (∀ f, s.dmaOk = false → exec (.shoalImageLoaded f) s = .next s) ∧
       (s.dmaOk = true →
         exec (.shoalImageLoaded none) s = .next { s with shoal := { s.shoal with load := none, loadResult := 5 } }) ∧
       ∀ b, s.dmaOk = true → (s.imageCode b len.toNat ≠ 0 →
           exec (.shoalImageLoaded (some b)) s =
             .next { s with shoal := { s.shoal with load := none, loadResult := s.imageCode b len.toNat } }) ∧
         (s.imageCode b len.toNat = 0 →
           ∃ t, exec (.shoalImageLoaded (some b)) s = .next t ∧ t.shoal.load = none ∧ t.shoal.loadResult = 0 ∧
             (∀ n, n < 12 → (t.shoal.cluster n).neurons = (clusterDir b n).neurons ∧
               (t.shoal.cluster n).inbox = (s.shoal.cluster n).inbox ∧
               ∀ i, i < (clusterDir b n).neurons → (t.shoal.cluster n).record i = leField b ((clusterDir b n).recOff + 64 * i) 64) ∧
             t.mr 11 = extendValue (s.mr 11) (1 :: digestBytes (sha384 (programBytes t.shoal.clusters)) ++ leBytes 8 s.now) ∧
             (∀ k, k ≠ 11 → t.mr k = s.mr k) ∧
             t.shoal.startState = sha384 (Config.startState t.shoal.allRecords s.regionLines) ∧ t.host = s.host ∧ t.ret = s.ret)) ∧
     (∀ (ch : Channel) (addr len : BitVec 64), s.accepts ch 0x6002 1 .host → s.od.session = 1 →
       ∃ t, exec (.shoalSnapshot ch addr len) s = .next t ∧ t.od = s.od ∧ t.hostMem = s.hostMem ∧
         (s.shoal.load = none → s.shoal.snapshot = none → t.shoal = { s.shoal with snapshot := some (addr, len) }) ∧
         (s.shoal.load.isSome = true ∨ s.shoal.snapshot.isSome = true → t.shoal = { s.shoal with snapResult := 6 })) ∧
     (∀ addr len, s.shoal.snapshot = some (addr, len) → s.shoal.image = none → s.allCovered = true →
       s.shoalImage.length ≤ len.toNat →
       exec .snapshotCapture s = .next { s with
         shoal := { s.shoal with image := some s.shoalImage }, host := { s.host with snapshotHold := true } }) ∧
     (∀ addr len b, s.shoal.snapshot = some (addr, len) → s.shoal.image = some b → s.dmaOk = true →
       s.host.paging .snapshot = false →
       (∃ t, exec (.snapshotComplete true) s = .next t ∧ t.hostHolds addr.toNat b ∧
         (∀ a, a < addr.toNat ∨ addr.toNat + b.length ≤ a → readByte t.hostMem a = readByte s.hostMem a) ∧
         t.shoal.snapDigest = sha384 b ∧ t.shoal.snapResult = 0 ∧ t.shoal.snapshot = none ∧ t.host.snapshotHold = false ∧
         s.sameRecords t) ∧
       (s.host.pri = true → exec (.snapshotComplete false) s =
         .next { s with host := s.host.requestPage .snapshot s.clock.count }) ∧
       (s.host.pri = false →
         ∃ t, exec (.snapshotComplete false) s = .next t ∧ t.hostMem = s.hostMem ∧ t.shoal.snapResult = 5 ∧
           t.shoal.snapDigest = s.shoal.snapDigest ∧ t.shoal.snapshot = none ∧ t.host.snapshotHold = false ∧ s.sameRecords t)))

/-! ### Evidence, checkpoints, evidence rings -/

/-- Evidence (R127, R172, R371-R377, R395, R554): from item 0 on, a nonce of 8 to 64 octets gives the plane that asked the claims of
this instant under tag 61, as a COSE_Sign of at most 65,536 octets whose two signatures verify with the public keys of one pair, the
Alias's where it exists; where no signature is released none is left. A nonce of another length, and any before item 0, is ignored; no
register moves.
Tenant registers (R149, R366, R369): MR16 to MR31 take 1 to 256 octets, any other register or length is ignored. -/
def Obligations.EvidenceAndRegisters : Prop :=
  (∀ (s : State) (ch : Channel) (nonce : Bytes), s.accepts ch 0x2040 1 .all →
     let k := s.evidenceKey
     let under (alg : Int) (c : Claims) : Bytes := sigStructure alg (kidOf k.pub) (encodeClaims c)
     let token (u : Bytes) (c : Claims) (sig : Bytes × Bytes) : Bytes :=
       cborTag 61 (coseSign u (encodeClaims c) (kidOf k.pub) sig.1 sig.2)
     (8 ≤ nonce.length → nonce.length ≤ 64 → s.evidenceServed = true →
       ∃ t r, exec (.evidenceRequest ch nonce) s = .next t ∧
         (planeCode ch = 1 → t.measure.tokenH = r ∧ t.measure.tokenC = s.measure.tokenC) ∧
         (planeCode ch = 2 → t.measure.tokenC = r ∧ t.measure.tokenH = s.measure.tokenH) ∧
         (∀ c b, r = some (c, b) → c = s.claims nonce ∧ b.length ≤ 65536 ∧
           ∃ u sig, b = token u c sig ∧ k.verifies (under algEs384 c) (under algMlDsa65 c) sig = true) ∧
         (s.conditionNow.debugClass = false →
           let c := s.claims nonce
           match (s.sign k (under algEs384 c) (under algMlDsa65 c)).2 with
           | some sig => ∃ u, r = if (token u c sig).length ≤ 65536 then some (c, token u c sig) else none
           | none => r = none) ∧
         (let c := s.claims nonce
          c.nonce = nonce ∧ c.measurements = s.measure.mrs ∧ c.deviceTime = s.now ∧ c.serial = s.otp.serial ∧
            c.state = (if s.transition = 0 then 1 else 2) ∧ c.transition = s.transition ∧ c.offline = s.offlineMask ∧
            c.lifecycle = s.otp.lifecycleCode ∧ c.debug = s.conditionNow.code ∧
            c.log = (s.measure.log.length, s.measure.complete) ∧ c.plan = s.fabric.plan.map (·.digest)) ∧
         t.measure.mrs = s.measure.mrs ∧ t.keys.store = s.keys.store ∧ t.ret = s.ret) ∧
     (nonce.length < 8 ∨ 64 < nonce.length ∨ s.evidenceServed = false →
       exec (.evidenceRequest ch nonce) s = .next ((s.touch ch).ignoreWrite 0x2040 1))) ∧
  (∀ (s : State) (ch : Channel) (mr : Byte) (data : Bytes), s.accepts ch 0x2041 1 .hOpCu → s.measure.mrs.length = 32 →
     (16 ≤ mr.toNat → mr.toNat ≤ 31 → 1 ≤ data.length → data.length ≤ 256 →
       ∃ t, exec (.tenantExtend ch mr data) s = .next t ∧ t.mr mr.toNat = sha384 (digestBytes (s.mr mr.toNat) ++ data) ∧
         (∀ k, k ≠ mr.toNat → t.mr k = s.mr k) ∧ t.ret = s.ret ∧ t.keys = s.keys ∧ t.od = s.od) ∧
     (mr.toNat < 16 ∨ 31 < mr.toNat ∨ data.length = 0 ∨ 256 < data.length →
       exec (.tenantExtend ch mr data) s = .next ((s.touch ch).ignoreWrite 0x2041 1)))

/-- Checkpoints (R384-R390): a cut by interval or on request takes the head, the count and the number of this instant and restarts
both; while a checkpoint is being signed it waits under the earliest cause; one whose signatures verify enters its queue as 4,096 octets
whose body says what was cut, and the chain claim may name it (R374); where none is released it stays the one being signed (R172). The
control blocks: an enabled ring is empty at entry 0, a disabled one keeps nothing, HEAD is taken up to TAIL. -/
def Obligations.CheckpointsAreCut : Prop :=
  ∀ s : State,
    let cutBy (t : State) (cause : Nat) : Prop := ∃ c, t.measure.signing = some c ∧ c.cause = cause ∧ c.head = s.chainHead ∧
      c.count = s.measure.sinceCut ∧ c.first = s.measure.firstSince ∧ c.no = s.measure.ckptNo ∧ c.time = s.now ∧
      c.mrd = s.measure.mrd ∧ c.transition = s.transition ∧ t.measure.ckptNo = s.measure.ckptNo + 1 ∧ t.measure.sinceCut = 0 ∧
      t.measure.firstSince = s.ret.receiptsMade ∧ t.measure.lastCutAt = s.clock.count ∧
      t.ret.lastCut = some (c.session, c.no, c.head, c.time) ∧ t.measure.mrs = s.measure.mrs ∧ t.hostMem = s.hostMem
    (s.aliasExists = true → s.measure.checkpoints.length < 16 →
      (s.measure.signing = none →
        (s.intervalOver = true → ∃ t, exec .checkpointInterval s = .next t ∧ cutBy t 2) ∧
        (∀ ch, s.accepts ch 0x2044 3 .all → ∃ t, exec (.checkpointRequest ch 0xA5) s = .next t ∧ cutBy t 3)) ∧
      (∀ c, s.measure.signing = some c → s.intervalOver = true →
        exec .checkpointInterval s =
          .next { s with measure := { s.measure with deferred := some (s.measure.deferred.getD 2) } })) ∧
    (s.intervalOver = false → exec .checkpointInterval s = .next s) ∧
    (∀ c, s.measure.signing = some c → s.measure.ckptRing.ready = false → s.measure.deferred = none → s.od.session ≠ 2 →
      s.keys.committing = false → s.start.debugEnd ≠ 2 → s.hosting.stopping = false →
      let k := s.aliasSigner
      let m := checkpointBody s.otp.serial c
      ∃ t, exec (.checkpointSigned true) s = .next t ∧ t.hostMem = s.hostMem ∧ t.measure.mrs = s.measure.mrs ∧
        match (s.sign k m m).2 with
        | some sig => k.verifies m m sig = true ∧ ∃ b, t.measure.checkpoints = s.measure.checkpoints ++ [b] ∧ b.length = 4096 ∧
            slice b 0 256 = m ∧ slice b 256 96 = sig.1 ∧ slice b 352 3309 = sig.2 ∧
            leField b 0 4 = 0x55434B50 ∧ leField b 24 8 = c.session % 2 ^ 64 ∧ leField b 32 8 = c.no % 2 ^ 64 ∧
            leField b 48 8 = c.count % 2 ^ 64 ∧ slice b 64 48 = digestBytes c.head ∧ slice b 112 48 = digestBytes c.prev ∧
            t.measure.signing = none ∧ t.measure.ckptHolds = bump s.measure.ckptHolds ∧
            t.ret = { s.ret with lastSigned := some (c.session, c.no, c.head) }
        | none => t.measure = s.measure ∧ t.ret = s.ret ∧ t.engines = s.engines.bnAlarm) ∧
    (∀ (tee : Bool) (r : EvRing), s.hostReaches tee → s.measure.receipts = [] → s.measure.checkpoints = [] →
      s.measure.deferred = none → s.od.session ≠ 2 → s.keys.committing = false → s.start.debugEnd ≠ 2 → s.hosting.stopping = false →
      ((s.measure.ring r).enabled = false → depthOk r (s.measure.ring r).log2Depth = true →
        ∃ t, exec (.ringControlEnable tee r 1 true) s = .next t ∧
          t.measure.ring r = { s.measure.ring r with enabled := true, head := 0, tail := 0, faulted := false } ∧
          t.measure.mrs = s.measure.mrs ∧ t.ret = s.ret ∧ t.hostMem = s.hostMem) ∧
      (∃ t, exec (.ringControlEnable tee r 0 true) s = .next t ∧ (t.measure.ring r).enabled = false ∧
        t.measure.receipts = s.measure.receipts ∧ t.hostMem = s.hostMem) ∧
      (∀ v : BitVec 64, (s.measure.ring r).head ≤ v.toNat → v.toNat ≤ (s.measure.ring r).tail →
        ∃ t, exec (.ringControlHead tee r v true) s = .next t ∧
          t.measure.ring r = { s.measure.ring r with head := v.toNat, faulted := false } ∧ t.hostMem = s.hostMem ∧ t.ret = s.ret))

/-! ### SPDM, IDE, TDISP -/

/-- The responder outside secured sessions (R172, R378, R554): each request of the table is answered as the table says, from its phase
of the connection on; MR k is the block of index k + 1 with its value type, and no token is had before item 0; a signature is released
only where it verifies; what is longer than 4,080 octets is handed out in chunks; a request that comes too early is answered by an
ERROR and changes nothing. -/
def Obligations.SpdmAnswers : Prop :=
  ∀ s : State, s.doeUp = true →
    let chain := s.readyIdevidCert.spdmChain
    let valueType (mr : Nat) : Byte := if mr = 0 then 0x80 else if mr ≤ 6 then 0x81 else if mr = 7 then 0x82 else 0x83
    let answers (t : State) (code : Nat) (body : Bytes) : Prop := s.signedOnly t ∧ t.hosting.response = some (code, body)
    (∃ t, exec .getVersion s = .next t ∧ t.hosting.response = some (4, [0x13]) ∧ t.hosting.spdmPhase = 1 ∧
      (∀ i, i < 4 → t.spdmSession i = {}) ∧ t.hosting.tdi = s.hosting.tdi ∧ t.hosting.ide = s.hosting.ide ∧ t.measure = s.measure) ∧
    (1 ≤ s.hosting.spdmPhase →
      (∃ t, exec .getCapabilities s = .next t ∧ s.answeredBy t 0x61 (leBytes 4 4096 ++ leBytes 4 73728) ∧ 2 ≤ t.hosting.spdmPhase) ∧
      ∀ k, 4080 * k < s.hosting.large.length →
        ∃ t, exec (.chunkGet k) s = .next t ∧ s.answeredBy t 0x06 (slice s.hosting.large (4080 * k) 4080)) ∧
    (2 ≤ s.hosting.spdmPhase →
      (∃ t, exec (.negotiateAlgorithms true) s = .next t ∧ t.hosting.spdmPhase = 3 ∧ ∃ b, s.answeredBy t 0x63 b) ∧
      ∃ t, exec (.negotiateAlgorithms false) s = .next t ∧ t.hosting.spdmPhase = s.hosting.spdmPhase ∧ s.answeredBy t 0x7F [1]) ∧
    (3 ≤ s.hosting.spdmPhase →
      (∃ t, exec .getDigests s = .next t ∧ answers t 0x01 (1 :: digestBytes (sha384 chain))) ∧
      (∀ off len, ∃ t, exec (.getCertificate 0 off len) s = .next t ∧
        (chain.length ≤ off → answers t 0x7F [1]) ∧
        (off < chain.length → (slice chain off len).length ≤ 4080 → answers t 0x02 (slice chain off len)) ∧
        (off < chain.length → 4080 < (slice chain off len).length →
          answers t 0x7F [0x0F] ∧ t.hosting.large = 2 :: slice chain off len)) ∧
      (∀ slot off len, slot ≠ 0 → ∃ t, exec (.getCertificate slot off len) s = .next t ∧ answers t 0x7F [1]) ∧
      (∀ slot n, slot ≠ 0 → ∃ t, exec (.challenge slot n) s = .next t ∧ answers t 0x7F [1]) ∧
      (∀ n, ∃ t, exec (.challenge 0 n) s = .next t ∧
        s.answeredSigned t 0x03 (digestBytes (sha384 chain) ++ beBytes 32 n.toNat)) ∧
      (∀ (k : Fin 32) n, ∃ t, exec (.getMeasurements (BitVec.ofNat 8 (k.val + 1)) n) s = .next t ∧
        s.answeredSigned t 0x60
          ([BitVec.ofNat 8 (k.val + 1), 1, 51, 0, valueType k.val, 48, 0] ++ digestBytes (s.mr k.val))) ∧
      (∀ n, (∃ t, exec (.getMeasurements 0 n) s = .next t ∧ s.answeredSigned t 0x60 [33]) ∧
        (∀ k : Byte, k = 0xFD ∨ k = 0xFF → s.evidenceServed = false →
          ∃ t, exec (.getMeasurements k n) s = .next t ∧ s.answeredBy t 0x7F [1]) ∧
        (∀ k : Byte, 32 < k.toNat → k ≠ 0xFD → k ≠ 0xFF →
          ∃ t, exec (.getMeasurements k n) s = .next t ∧ s.answeredBy t 0x7F [1]) ∧
        (∀ k : Byte, k = 0xFD ∨ k = 0xFF → s.evidenceServed = true →
          ∃ t, exec (.getMeasurements k n) s = .next t ∧ t.measure = s.measure ∧ t.ret = s.ret ∧ t.keys.store = s.keys.store ∧
            match (s.token (beBytes 32 n.toNat)).2 with
            | none => t.hosting.response = some (0x7F, [1])
            | some (_, b) => t.hosting.response = some (0x7F, [5]) ∨ ∃ sig : Bytes, sig.length = 96 ∧
                let block (i : Nat) (ty : Byte) (v : Bytes) : Bytes :=
                  [BitVec.ofNat 8 i, 1] ++ leBytes 2 (v.length + 3) ++ [ty] ++ leBytes 2 v.length ++ v
                let body := (if k = 0xFF then (List.range 32).flatMap fun i => block (i + 1) (valueType i) (digestBytes (s.mr i))
                  else []) ++ block 0xFD 0x84 b ++ sig
                if body.length ≤ 4080 then t.hosting.response = some (0x60, body)
                else t.hosting.response = some (0x7F, [0x0F]) ∧ t.hosting.large = 0x60 :: body))) ∧
    (∀ c ∈ [Instr.getCapabilities, .negotiateAlgorithms true, .getDigests], s.hosting.spdmPhase < 1 →
      ∃ t, exec c s = .next t ∧ s.answeredBy t 0x7F [4]) ∧
    (∀ (c : Instr) (slot k : Byte) (off len : Nat) (n : BitVec 256), s.hosting.spdmPhase < 3 →
      c ∈ [Instr.getDigests, .getCertificate slot off len, .challenge slot n, .getMeasurements k n] →
      ∃ t, exec c s = .next t ∧ s.answeredBy t 0x7F [4])

/-- Secured sessions (R117, R405-R407): a free one of the four is set up by KEY_EXCHANGE over a point of the curve, answered with a
drawn share of 96 octets, and established by a verified FINISH, with the heartbeat the requester sets; every message restarts its
timer; KEY_UPDATE moves its keys on; its end clears its keys and leaves the IDE keys; a fifth is refused. -/
def Obligations.SecuredSessionsLive : Prop :=
  ∀ (s : State) (i : Fin 4), s.hosting.sessions.length = 4 → s.securedServed = true →
    let keyed (x : SpdmSession) : Prop := x.requestKey.isSome = true ∧ x.responseKey.isSome = true
    (∀ data : Bytes, 3 ≤ s.hosting.spdmPhase → s.hosting.sessions.findIdx? (fun x => x.phase == 0) = some i.val →
      ((ecDecode (4 :: data)).isSome = true →
        ∃ t share, exec (.keyExchange data) s = .next t ∧ (t.spdmSession i.val).phase = 1 ∧ keyed (t.spdmSession i.val) ∧
          (t.spdmSession i.val).lastMessage = s.clock.count ∧ s.otherSessions t i.val ∧
          share = (ecPublic ((drawBytes s.draws).drop 8)).drop 1 ∧ share.length = 96 ∧
          s.answeredSigned t 0x64 (leBytes 1 i.val ++ share)) ∧
      ((ecDecode (4 :: data)).isNone = true →
        ∃ t, exec (.keyExchange data) s = .next t ∧ t.hosting.sessions = s.hosting.sessions ∧ s.answeredBy t 0x7F [1])) ∧
    (∀ data, 3 ≤ s.hosting.spdmPhase → s.hosting.sessions.findIdx? (fun x => x.phase == 0) = none →
      ∃ t, exec (.keyExchange data) s = .next t ∧ t.hosting.sessions = s.hosting.sessions ∧ s.answeredBy t 0x7F [0x0A]) ∧
    (∀ hb, (s.spdmSession i.val).phase = 1 →
      (∃ t a b, exec (.finish i true hb) s = .next t ∧ t.hosting.response = some (0x65, []) ∧ s.keyedOnly t ∧
        s.otherSessions t i.val ∧ t.spdmSession i.val = { s.spdmSession i.val with
          phase := 2, heartbeatS := hb.toNat, lastMessage := s.clock.count, requestKey := some a, responseKey := some b }) ∧
      ∃ t, exec (.finish i false hb) s = .next t ∧ t.spdmSession i.val = {} ∧ s.otherSessions t i.val) ∧
    ((s.spdmSession i.val).phase = 2 →
      (∃ t, exec (.heartbeat i) s = .next t ∧ s.answeredBy t 0x68 [] ∧ s.otherSessions t i.val ∧
        t.spdmSession i.val = { s.spdmSession i.val with lastMessage := s.clock.count }) ∧
      (∃ t, exec (.keyUpdate i) s = .next t ∧ t.hosting.response = some (0x69, []) ∧ s.keyedOnly t ∧ s.otherSessions t i.val ∧
        (t.spdmSession i.val).phase = 2 ∧ keyed (t.spdmSession i.val) ∧
        (t.spdmSession i.val).keyGeneration = (s.spdmSession i.val).keyGeneration + 1) ∧
      (∃ t, exec (.endSession i) s = .next t ∧ t.spdmSession i.val = {} ∧ s.otherSessions t i.val ∧ t.hosting.ide = s.hosting.ide ∧
        t.hosting.tdi = s.hosting.tdi)) ∧
    (s.heartbeatOver i.val = true → ∃ t, exec (.spdmHeartbeatTimeout i) s = .next t ∧ t.spdmSession i.val = {} ∧
      s.otherSessions t i.val ∧ t.hosting.ide = s.hosting.ide) ∧
    (s.heartbeatOver i.val = false → exec (.spdmHeartbeatTimeout i) s = .next s)

/-- IDE keys (R117, R397-R399) inside a secured session: a key enters a consumer slot that is not going, as shares, under the Stream ID
of its message, GO under that ID uses it, STOP clears it, and QUERY says what the port supports and which streams are secure; an
integrity failure makes its stream Insecure, counts, and moves the TDI to ERROR. -/
def Obligations.IdeKeysMove : Prop :=
  ∀ (s : State) (i : Fin 4) (id : IdeKeyId), SMap.wf {} s.hosting.ide = true → s.hosting.streamIds.length = 9 →
    let others (t : State) : Prop := (∀ k, k ≠ ideKey id → t.hosting.slot k = s.hosting.slot k) ∧ t.hosting.tdi = s.hosting.tdi
    (s.inSession i.val →
      (∃ t, exec (.query i) s = .next t ∧ s.answeredBy t 0x01 (leBytes 4 0x01070043 ++ leBytes 2 s.hosting.secure)) ∧
      (∀ key, (s.hosting.slot (ideKey id)).going = false →
        ∃ t m, exec (.keyProg i id key) s = .next t ∧ t.hosting.response = some (0x03, [0]) ∧ s.keyedOnly t ∧
          t.hosting.slot (ideKey id) = ⟨some m, false⟩ ∧ m.key = beBytes 32 key.toNat ∧
          t.hosting.streamIds.getD id.stream.val 0 = id.streamId ∧ others t) ∧
      (∀ m g, s.hosting.slot (ideKey id) = ⟨some m, g⟩ → s.hosting.streamIds.getD id.stream.val 0 = id.streamId →
        ∃ t, exec (.kSetGo i id) s = .next t ∧ s.answeredBy t 0x06 [0] ∧ t.hosting.slot (ideKey id) = ⟨some m, true⟩ ∧ others t) ∧
      ((s.hosting.slot (ideKey id)).key = none ∨ s.hosting.streamIds.getD id.stream.val 0 ≠ id.streamId →
        ∃ t, exec (.kSetGo i id) s = .next t ∧ s.answeredBy t 0x06 [4] ∧ t.hosting.ide = s.hosting.ide) ∧
      (∀ key, (s.hosting.slot (ideKey id)).going = true →
        ∃ t, exec (.keyProg i id key) s = .next t ∧ s.answeredBy t 0x03 [4] ∧ t.hosting.ide = s.hosting.ide) ∧
      (∃ t, exec (.kSetStop i id) s = .next t ∧ s.answeredBy t 0x06 [0] ∧ t.hosting.slot (ideKey id) = {} ∧ others t)) ∧
    (∀ st : Fin 9, s.pins.pcieUp = true →
      ∃ t, exec (.ideIntegrityFail st) s = .next t ∧ t.hosting.tdi = .error ∧ t.hosting.insecure.getLsbD st.val = true ∧
        (∀ k, k ≠ st.val → t.hosting.insecure.getLsbD k = s.hosting.insecure.getLsbD k) ∧
        t.hosting.ideFailures = bump s.hosting.ideFailures ∧ t = { s with hosting := t.hosting })

/-- The TDI (R400-R404): lock, report, state and start move it as TDISP says, START only under the nonce of the lock, and then what was
held is sent; a stop is answered at once: without a session it leaves CONFIG_UNLOCKED; with one it is CLOSING, and once every held
answer has its receipt and FINAL can be cut the plan, submissions, receipts and models are gone and the TDI is CONFIG_UNLOCKED; a
locked configuration that changes is ERROR. -/
def Obligations.TdiMoves : Prop :=
  ∀ (s : State) (i : Fin 4), s.inSession i.val →
    (∃ t b, exec (.getTdispVersion i) s = .next t ∧ s.answeredBy t 0x01 b ∧ t.hosting.tdi = s.hosting.tdi) ∧
    (∃ t b, exec (.getTdispCapabilities i) s = .next t ∧ s.answeredBy t 0x02 b ∧ t.hosting.tdi = s.hosting.tdi) ∧
    (∃ t, exec (.getDeviceInterfaceState i) s = .next t ∧ s.answeredBy t 0x05 (leBytes 1 s.hosting.tdi.code) ∧
      t.hosting.tdi = s.hosting.tdi) ∧
    (s.hosting.tdi = .unlocked →
      ∃ (t : State) (n : BitVec 256), exec (.lockInterfaceRequest i) s = .next t ∧ t.hosting.tdi = .locked ∧
        t.hosting.startNonce = some n ∧ s.answeredBy t 0x03 (beBytes 32 n.toNat)) ∧
    (s.hosting.tdi = .locked →
      (∃ t b, exec (.getDeviceInterfaceReport i) s = .next t ∧ s.answeredBy t 0x04 b ∧ t.hosting.tdi = .locked) ∧
      (∀ n, s.hosting.startNonce = some n →
        ∃ t, exec (.startInterfaceRequest i n) s = .next t ∧ t.hosting.tdi = .run ∧ t.hosting.response = some (0x06, []) ∧
          t = { s with
            hosting := t.hosting
            host := { s.host with msixPending := t.host.msixPending, msixSent := t.host.msixSent } }) ∧
      (∀ n, s.hosting.startNonce ≠ some n →
        ∃ t b, exec (.startInterfaceRequest i n) s = .next t ∧ t.hosting.tdi = .locked ∧ s.answeredBy t 0x7F b)) ∧
    (s.hosting.tdi ≠ .unlocked → ∃ t b, exec (.lockInterfaceRequest i) s = .next t ∧ t.hosting.tdi = s.hosting.tdi ∧
      s.answeredBy t 0x7F b) ∧
    (s.hosting.tdi = .locked ∨ s.hosting.tdi = .run →
      ∃ t, exec .lockedConfigurationChange s = .next t ∧ t.hosting.tdi = .error ∧ t = { s with hosting := t.hosting }) ∧
    (∃ t, exec (.stopInterfaceRequest i) s = .next t ∧ t.hosting.response = some (7, []) ∧
      t.hostMem = s.hostMem ∧ t.otp = s.otp ∧ t.measure.mrs = s.measure.mrs ∧
      (s.od.session = 0 → t.hosting.tdi = .unlocked ∧ t = { s with
        hosting := t.hosting
        host := { s.host with msixPending := t.host.msixPending, msixSent := t.host.msixSent } }) ∧
      (s.od.session ≠ 0 → s.od.drained = false → s.host.receipted = true → s.cutFree = true →
        t.hosting.tdi = .unlocked ∧ t.od.session ≠ 1 ∧ t.fabric.plan = none ∧ t.fabric.tide = none ∧ t.host.subs = [] ∧
          t.measure.receipts = [] ∧ t.hosting.models = []) ∧
      (s.od.session ≠ 0 → s.od.drained = false → s.cutFree = false →
        t.hosting.tdi = s.hosting.tdi ∧ t.hosting.stopping = true ∧ t.od.session = 2 ∧ t.fabric = s.fabric))

/-! ### Models, consent, regions -/

/-- Models (R402, R403, R408, R411-R414): a clear or bound load takes the lowest free slot; a head that fails a check is refused with
the first failing check's code; the content key of the first matching recipient is unwrapped under the key derived from both shared
secrets, the header and the KID, and stands in the slot; a load that ends well lists its digest and extends MR10 with record 1 or 2; one
that fails gives its code, changes no register and frees its slot; none ends while DMA is forbidden. -/
def Obligations.ModelsLoad : Prop :=
  ∀ s : State, s.Inv →
    (∀ (ch : Channel) (addr len : BitVec 64) (k : Nat), s.accepts ch 0x5100 1 .host → s.od.session = 1 → modelSizeOk len.toNat = true →
      s.hosting.loads.findIdx? (·.isNone) = some k → s.hosting.storeFull len.toNat = false →
      ∃ t, exec (.clearModelLoad ch addr len) s = .next t ∧
        t.hosting.loads.getD k none = some { bound := false, addr := addr, len := len } ∧
        (∀ j, j ≠ k → t.hosting.loads.getD j none = s.hosting.loads.getD j none) ∧ t.measure = s.measure ∧ t.od = s.od ∧
        t.hosting.models = s.hosting.models) ∧
    (∀ (ch : Channel) (addr len : BitVec 64) (head : Option Bytes), s.accepts ch 0x5100 2 .host → s.od.session = 1 →
      ∃ t, exec (.boundBundleLoad ch addr len head) s = .next t ∧ t.measure = s.measure ∧ t.hosting.models = s.hosting.models ∧
        (s.hosting.loads.all (·.isSome) = true → t.hosting.loadResult = 8 ∧ t.hosting.loads = s.hosting.loads) ∧
        ∀ k, s.hosting.loads.findIdx? (·.isNone) = some k →
          (s.dmaOk = false → s.hosting.storeFull len.toNat = false →
            t.hosting.loads.getD k none = some { bound := true, addr := addr, len := len }) ∧
          (s.dmaOk = true → head = none → t.hosting.loadResult = 9 ∧ t.hosting.loads = s.hosting.loads) ∧
          ∀ h, head = some h → s.dmaOk = true →
            (bundleFormatOk h len.toNat = false → t.hosting.loadResult = 1 ∧ t.hosting.loads = s.hosting.loads) ∧
            (bundleFormatOk h len.toNat = true → bundlePolicyOk s.otp h = false →
              t.hosting.loadResult = 2 ∧ t.hosting.loads = s.hosting.loads) ∧
            (bundleFormatOk h len.toNat = true → bundlePolicyOk s.otp h = true → s.bundleRecipient h = none →
              t.hosting.loadResult = 3 ∧ t.hosting.loads = s.hosting.loads) ∧
            ∀ r, bundleFormatOk h len.toNat = true → bundlePolicyOk s.otp h = true → s.bundleRecipient h = some r →
              let seeds := s.bindingFor r
              let z := ecdh seeds.1 (slice r 24 97) s.draws
              let zeroed := slice h 0 32 ++ List.replicate 16 0 ++ slice h 48 80
              let w := kdf (z ++ kemDecap seeds.2 (slice r 121 1088)) (ascii "U1200-BUNDLE")
                (digestBytes (sha384 zeroed) ++ slice r 0 16) 32
              let content := if (ecDecode (slice r 24 97)).isNone then none
                else (kwUnwrap w (slice r 1209 40)).filter fun k => k.length == 32
              match content with
              | none => t.hosting.loadResult = 4 ∧ t.hosting.loads = s.hosting.loads
              | some key =>
                if s.hosting.storeFull (bundleContent h) = true then
                  t.hosting.loadResult = 7 ∧ t.hosting.loads = s.hosting.loads
                else ∃ l m, t.hosting.loads.getD k none = some l ∧ l.bound = true ∧ l.len.toNat = bundleContent h ∧
                  l.weights = digestOf (slice h 0x38 48) ∧ l.content = some m ∧ m.key = key ∧
                  ∀ j, j ≠ k → t.hosting.loads.getD j none = s.hosting.loads.getD j none) ∧
    (∀ (slot : Fin 4) (r : ModelResult) (l : ModelLoad), s.hosting.loads.getD slot.val none = some l →
      (s.dmaOk = false → exec (.modelLoadComplete slot r) s = .next s) ∧
      (s.dmaOk = true →
        ∃ t, exec (.modelLoadComplete slot r) s = .next t ∧ t.hosting.loads.getD slot.val none = none ∧ t.ret = s.ret ∧
          t.keys = { s.keys with wkr := t.keys.wkr } ∧
          let fits := r.fetchOk && decide (r.data.length = l.len.toNat)
          let accepted (plain : Bytes) : Prop :=
            t.hosting.loadResult = 0 ∧ t.hosting.models = s.hosting.models ++ [(sha384 plain, plain)] ∧
              t.mr 10 = extendValue (s.mr 10) ((if l.bound then 2 else 1) :: digestBytes (sha384 plain) ++ leBytes 8 s.now) ∧
              ∀ j, j ≠ 10 → t.mr j = s.mr j
          let refused (code : Nat) : Prop :=
            t.hosting.loadResult = code ∧ t.hosting.models = s.hosting.models ∧ t.measure = s.measure
          (l.bound = false → if fits then accepted r.data else refused 9) ∧
          (∀ key, l.bound = true → l.content = some key →
            if fits then
              match gcmOpen key.key (slice l.header 16 12) (boundHeader l.header) r.data (slice l.header 32 16) with
              | none => refused 5
              | some plain => if sha384 plain = l.weights then accepted plain else refused 6
            else refused 9) ∧
          (l.bound = true → l.content = none → (∃ plain, accepted plain) ∨ ∃ c ∈ [1, 2, 3, 4, 5, 6, 7, 9], refused c)))

/-- Consent (R418-R424), outside a debug session: an accepted token is well formed, signed, for this serial, in its time and of a
higher sequence; it is the one in force of its scope; expiry, withdrawal and a new key end tokens; each is a record of MR12. -/
def Obligations.ConsentIsRecorded : Prop :=
  ∀ (s : State) (ch : Channel), s.Inv → s.start.condition.debugClass = false →
    (∀ d, s.accepts ch 0x2050 1 .cust →
      ∃ t, exec (.consentKeyWrite ch d) s = .next t ∧ t.ret.tenantKey = d ∧ t.ret.tokenSeq = s.ret.tokenSeq ∧ t.otp = s.otp ∧
        (d ≠ s.ret.tenantKey → ∀ k, k < 3 → t.ret.token k = none) ∧
        (d = s.ret.tenantKey → t.ret = s.ret ∧ t.measure = s.measure)) ∧
    (∀ tk : ConsentToken, s.accepts ch 0x2050 2 ⟨true, false, false, true, true⟩ → tk.raw.length ≤ 8192 →
      (s.tokenCode ch tk = 0 → tk.wellFormed = true ∧ tk.sigOk = true ∧ tk.keyDigest = s.ret.tenantKey ∧ tk.serial = s.otp.serial ∧
        tk.notBefore ≤ s.now ∧ s.now < tk.expiry ∧ s.ret.tokenSeq < tk.seq.toNat ∧
        ∃ t, exec (.consentTokenSubmit ch tk) s = .next t ∧
          t.ret.token (scopeIndexOf tk.scope) = some ⟨tk.seq.toNat, tk.expiry, sha384 tk.raw⟩ ∧
          (∀ k, k ≠ scopeIndexOf tk.scope → t.ret.token k = s.ret.token k) ∧ t.ret.tokenSeq = tk.seq.toNat ∧
          t.mr 12 = extendValue (s.mr 12) (1 :: digestBytes (sha384 tk.raw) ++ leBytes 8 s.now) ∧ t.hosting.tokenResult = 0) ∧
      (s.tokenCode ch tk ≠ 0 →
        ∃ t, exec (.consentTokenSubmit ch tk) s = .next t ∧ t.hosting.tokenResult = s.tokenCode ch tk ∧ t.ret = s.ret ∧
          t.measure = s.measure)) ∧
    (∀ sc tk, s.ret.token (scopeIndexOf sc) = some tk →
      (tk.expiry ≤ s.now →
        ∃ t, exec (.consentTokenExpiry sc) s = .next t ∧ t.ret.token (scopeIndexOf sc) = none ∧
          (∀ k, k ≠ scopeIndexOf sc → t.ret.token k = s.ret.token k) ∧
          t.mr 12 = extendValue (s.mr 12) (2 :: digestBytes tk.digest ++ leBytes 8 s.now) ∧ t.start = s.start) ∧
      (s.now < tk.expiry → exec (.consentTokenExpiry sc) s = .next s)) ∧
    (∀ (v : Byte) tk, s.accepts ch 0x2050 6 .hCu → 1 ≤ v.toNat → v.toNat ≤ 3 → s.ret.token (v.toNat - 1) = some tk →
      ∃ t, exec (.consentWithdraw ch v) s = .next t ∧ t.ret.token (v.toNat - 1) = none ∧
        (∀ k, k ≠ v.toNat - 1 → t.ret.token k = s.ret.token k) ∧
        t.mr 12 = extendValue (s.mr 12) (3 :: digestBytes tk.digest ++ leBytes 8 s.now) ∧ t.start = s.start)

/-- Regions (R426-R432, R583): FREE space is taken where it fits; a region that a plan names is not freed, an allocated one goes to
SCRUBBING; only SCRUBBING is suspended and only SUSPENDED or DARK resumed; a completed scrub leaves zeros, clean tags and FREE space
and touches no other line; a failed one leaves the region DARK with its progress and a record. -/
def Obligations.RegionsScrub : Prop :=
  ∀ s : State, s.Inv →
    (∀ (ch : Channel) (k : BitVec 16) (stack : Byte) (size : BitVec 32) (b : Nat), s.accepts ch 0x5000 1 .hOpCu → s.od.session = 1 →
      k.toNat < 1024 → stack.toNat < 12 → 1 ≤ size.toNat → (s.ret.region k.toNat).state = .free →
      s.ret.stackScrub.getLsbD stack.toNat = false → s.ret.fits stack.toNat b size.toNat = true →
      ∃ t c, exec (.regionAllocate ch k stack size) s = .next t ∧ s.ret.fits stack.toNat c size.toNat = true ∧
        t.ret.region k.toNat = ⟨stack.toNat, c, size.toNat, .allocated, 0⟩ ∧
        (∀ j, j ≠ k.toNat → t.ret.region j = s.ret.region j) ∧ t.hosting.regionResult = 0 ∧ t.fabric = s.fabric) ∧
    (∀ (ch : Channel) (k : BitVec 16), s.accepts ch 0x5000 5 .hOpCu → k.toNat < 1024 →
      ∃ t, exec (.regionFree ch k) s = .next t ∧ t.fabric = s.fabric ∧ (∀ j, j ≠ k.toNat → t.ret.region j = s.ret.region j) ∧
        (s.regionNamed k.toNat = true → t.hosting.regionResult = 3 ∧ t.ret = s.ret) ∧
        (s.regionNamed k.toNat = false → (s.ret.region k.toNat).state = .allocated →
          t.hosting.regionResult = 0 ∧ t.ret.region k.toNat = (s.ret.region k.toNat).scrub)) ∧
    (∀ (ch : Channel) (k : BitVec 16), s.accepts ch 0x5010 1 .cust → (s.ret.region k.toNat).state = .scrubbing →
      ∃ t, exec (.scrubSuspend ch k) s = .next t ∧ t.ret.region k.toNat = { s.ret.region k.toNat with state := .suspended } ∧
        (∀ j, j ≠ k.toNat → t.ret.region j = s.ret.region j) ∧ t.hosting = s.hosting) ∧
    (∀ (ch : Channel) (k : BitVec 16), s.accepts ch 0x5010 2 .cust →
      (s.ret.region k.toNat).state = .suspended ∨ (s.ret.region k.toNat).state = .dark →
      ∃ t, exec (.scrubResume ch k) s = .next t ∧ t.ret.region k.toNat = { s.ret.region k.toNat with state := .scrubbing } ∧
        (∀ j, j ≠ k.toNat → t.ret.region j = s.ret.region j) ∧ t.fabric = s.fabric) ∧
    (∀ (r : Fin 1024), let x := s.ret.region r.val
      x.state = .scrubbing →
      (s.up = true → (s.fabric.die x.stack).online = true →
        ∃ t, exec (.scrubComplete (.region r)) s = .next t ∧ t.ret.region r.val = {} ∧
          (∀ j, j ≠ r.val → t.ret.region j = s.ret.region j) ∧
          ∀ key, SMap.get {} t.fabric.hbm key =
            (if inStack x.stack (x.base * 16384) (x.size * 16384) key then {} else SMap.get {} s.fabric.hbm key)) ∧
      (∀ mib, ∃ t, exec (.scrubReadbackFail (.region r) mib) s = .next t ∧
        t.ret.region r.val = { x with state := .dark, progress := mib } ∧ (∀ j, j ≠ r.val → t.ret.region j = s.ret.region j) ∧
        t.faults = s.faults.record { code := 0x0F, unit := x.stack, a := r.val, b := mib, time := s.now } ∧
        t.fabric.hbm = s.fabric.hbm)) ∧
    (∀ x ∈ [ScrubTarget.modelStore, .shoalStore, .planStaging, .windowStore],
      (s.ret.stores.getD (storeIndex x) {}).state = .scrubbing → s.ret.stores.length = 4 →
      (s.up = true →
        ∃ t, exec (.scrubComplete x) s = .next t ∧ t.ret.stores.getD (storeIndex x) {} = {} ∧
          (∀ k, k ≠ storeIndex x → t.ret.stores.getD k {} = s.ret.stores.getD k {}) ∧ t.fabric = s.fabric) ∧
      (∀ mib, ∃ t, exec (.scrubReadbackFail x mib) s = .next t ∧
        t.ret.stores.getD (storeIndex x) {} =
          { s.ret.stores.getD (storeIndex x) {} with state := .dark, progress := mib } ∧
        (∀ k, k ≠ storeIndex x → t.ret.stores.getD k {} = s.ret.stores.getD k {}) ∧ t.fabric = s.fabric ∧
        t.ret.regions = s.ret.regions)) ∧
    (∀ i : Fin 12, s.ret.stackScrub.getLsbD i.val = true → s.up = true → (s.fabric.die i.val).online = true →
      ∃ t, exec (.scrubComplete (.stack i)) s = .next t ∧ t.ret.stackScrub.getLsbD i.val = false ∧
        (∀ j, j ≠ i.val → t.ret.stackScrub.getLsbD j = s.ret.stackScrub.getLsbD j) ∧
        ∀ key, SMap.get {} t.fabric.hbm key = (if inStack i.val 0 (2 ^ 29) key then {} else SMap.get {} s.fabric.hbm key))

/-! ### Straits -/

/-- Agreement (R117, R172, R439-R441, R445, R446): a trained port agrees keys for epoch 0; a partner that passes every check of R440 is
answered, any other is REFUSED and retried after 10 s; the partner's ENCAP gives the two keys of the epoch, held as shares, and CONFIRM
goes out where its signatures verify; both CONFIRMs bring the port UP, or switch the sender of a port that is UP; and the two sides of
one agreement derive the same two keys, each the other's transmit key. -/
def Obligations.PortsAgree : Prop :=
  (∀ (s : State) (p : Fin 12), s.straits.ports.length = 12 →
    let x := s.port p.val
    (s.portLive p.val = true →
      (x.state = .training ∨ x.state = .fault →
        ∃ t a, exec (.trainingDone p) s = .next t ∧ (t.port p.val).state = .agreeing ∧ (t.port p.val).agreement = some a ∧
          a.epoch = 0 ∧ a.peer = none ∧ s.onlyPort t p.val) ∧
      (x.state = .refused → x.refusedAt + 10000000000 ≤ s.clock.count →
        ∃ t a, exec (.refusedRetry p) s = .next t ∧ (t.port p.val).state = .agreeing ∧ (t.port p.val).agreement = some a ∧
          a.epoch = 0 ∧ s.onlyPort t p.val)) ∧
    (x.state = .refused → s.clock.count < x.refusedAt + 10000000000 → exec (.refusedRetry p) s = .next s) ∧
    (∀ a m, x.agreement = some a → a.peer = none →
      (s.acceptsPeer m = true → m.aliasOk = true ∧ s.otp.lifecycleCode = 1 ∧
        sha384 (List.replicate 48 0 ++ leBytes 4 m.mr8Record.toNat) = m.certMr.getD 8 0 ∧
        (s.start.condition.debugClass = false → m.idevidOkProduction = true) ∧
        (s.ret.peerPolicy = 1 → ∀ k, k < 6 → m.certMr.getD (k + 1) 0 = s.mr (k + 1)) ∧
        ∃ t b k, exec (.hello p m) s = .next t ∧ (t.port p.val).agreement = some b ∧ b.peer = some m ∧ b.epoch = a.epoch ∧
          b.kemToPeer = some k ∧ k.key.length = 32 ∧ b.received = a.received ++ m.raw ∧
          (t.port p.val).state = x.state ∧ s.onlyPort t p.val) ∧
      (s.acceptsPeer m = false →
        ∃ t, exec (.hello p m) s = .next t ∧ (t.port p.val).state = .refused ∧ (t.port p.val).agreement = none ∧
          (t.port p.val).refusedAt = s.clock.count ∧ s.onlyPort t p.val)) ∧
    (∀ a m ct, x.agreement = some a → a.peer = some m → a.kemFromPeer = none →
      ∃ t b k tx rx, exec (.encap p ct) s = .next t ∧ (t.port p.val).agreement = some b ∧ b.kemFromPeer = some k ∧
        k.key = kemDecap a.kemSeed.key ct ∧ b.sent = a.sent ∧ b.received = a.received ++ Config.straitMessage 2 [ct] ∧
        (t.port p.val).nextTx = some tx ∧ (t.port p.val).nextRx = some rx ∧
        (tx.key, rx.key) = s.linkKeys (a.received2 ct) m (ecdh a.ecSeed.key m.ecPub s.draws) (kemDecap a.kemSeed.key ct) ∧
        (let key := s.aliasSigner
         let d := digestBytes (s.transcriptOf (a.received2 ct) m)
         ∃ n, b.confirm =
           if key.verifies d d (key.attempt d d n) then Config.straitMessage 3 [(key.attempt d d n).1, (key.attempt d d n).2]
           else if key.verifies d d (key.attempt d d (n + 4)) then
             Config.straitMessage 3 [(key.attempt d d (n + 4)).1, (key.attempt d d (n + 4)).2]
           else []) ∧
        (t.port p.val).state = x.state ∧ s.onlyPort t p.val) ∧
    (∀ a m k, x.agreement = some a → a.peer = some m → a.kemFromPeer = some k → a.confirm ≠ [] →
      (x.state ≠ .up →
        ∃ t, exec (.confirm p true true) s = .next t ∧ (t.port p.val).state = .up ∧ (t.port p.val).agreement = none ∧
          (t.port p.val).epoch = a.epoch ∧ (t.port p.val).keyTx = x.nextTx ∧ (t.port p.val).keyRx = x.nextRx ∧
          (t.port p.val).nextTx = none ∧ (t.port p.val).nextRx = none ∧ (t.port p.val).expected = 0 ∧
          (t.port p.val).txCounter = 0 ∧
          (t.port p.val).partner = some (m.address.toNat, m.serial, m.port.toNat) ∧ s.onlyPort t p.val) ∧
      (x.state = .up →
        ∃ t, exec (.confirm p true true) s = .next t ∧ (t.port p.val).state = .up ∧ (t.port p.val).epoch = a.epoch ∧
          (t.port p.val).keyTx = x.nextTx ∧ (t.port p.val).nextTx = none ∧ (t.port p.val).nextRx = x.nextRx ∧
          (t.port p.val).keyRx = x.keyRx ∧ (t.port p.val).expected = x.expected ∧ (t.port p.val).txCounter = 0 ∧ s.onlyPort t p.val) ∧
      (∀ e d, (e && d) = false →
        ∃ t, exec (.confirm p e d) s = .next t ∧ (t.port p.val).state = .refused ∧ (t.port p.val).keyTx = none ∧
          (t.port p.val).nextTx = none ∧ s.onlyPort t p.val)) ∧
    (∀ a m e d, x.agreement = some a → a.peer = some m → a.kemFromPeer = none ∨ a.confirm = [] →
      exec (.confirm p e d) s = .next s)) ∧
  (∀ (s u : State) (a b : Agreement) (m n : HelloMsg) (z mine theirs : Bytes), m.serial = u.otp.serial → n.serial = s.otp.serial →
    s.otp.serial ≠ u.otp.serial → a.sent = b.received → b.sent = a.received → a.epoch = b.epoch →
    heldKey a.kemToPeer = theirs → heldKey b.kemToPeer = mine →
    u.linkKeys b n z theirs = ((s.linkKeys a m z mine).2, (s.linkKeys a m z mine).1))

/-- Frames and epochs (R443-R448): at a frame slot (log 4: the idle step) a port sends again what waits for it, with its octets, or a new
frame under the next COUNTER while fewer than 256 are unacknowledged; a frame is accepted only with the next COUNTER and a tag under the key of its MARK; one that fails
FEC or its tag sets NAK and counts; one with a retired mark only counts; the first frame of the next epoch retires the old key. The
acknowledgement it carries ends the wait for the frames sent up to it, and a NAK queues every unacknowledged one again, oldest first and
unchanged but for its count of failures. Eight failed transmissions of one frame are FAULT, a lost link trains again; the next epoch's
exchange begins beside the epoch in use; the bound stops DATA and repeats bring-up. -/
def Obligations.FramesAreChecked : Prop :=
  ∀ (s : State) (p : Fin 12), s.straits.ports.length = 12 → (s.port p.val).state = .up →
    let x := s.port p.val
    (∀ f : DataFrame, ∃ t, exec (.dataFrame p f) s = .next t ∧ (t.port p.val).corrected = bumpBy f.corrected x.corrected ∧
      (∀ q, q ≠ p.val → t.port q = s.port q) ∧
      (f.fecOk = false → (t.port p.val).nak = true ∧ (t.port p.val).failed = bump x.failed ∧ (t.port p.val).expected = x.expected ∧
        t.fabric = s.fabric) ∧
      (f.fecOk = true → f.mark = x.rxMark → f.counter.toNat = x.expected → f.tagOk = true →
        (t.port p.val).expected = x.expected + 1 ∧ (t.port p.val).nak = false ∧ (t.port p.val).failed = x.failed ∧
        (t.port p.val).keyRx = x.keyRx ∧ (f.units = [] → t.fabric = s.fabric) ∧
        (t.port p.val).wire = x.wire ∧ (t.port p.val).txCounter = x.txCounter ∧
        (let y := x.acknowledge f.ack.toNat
         (∀ g ∈ y.unacked, g ∈ x.unacked) ∧
         (∀ g ∈ x.unacked, g.mark = x.txMark → f.ack.toNat < g.counter → g ∈ y.unacked) ∧
         (f.nak = false → (t.port p.val).unacked = y.unacked ∧ (t.port p.val).resend = x.resend) ∧
         (∀ g rest, f.nak = true → x.resend = [] → y.unacked = g :: rest →
           (t.port p.val).resend = { g with fails := g.fails + 1 } :: rest ∧
             (t.port p.val).unacked = { g with fails := g.fails + 1 } :: rest))) ∧
      (f.fecOk = true → f.mark = x.rxMark → f.counter.toNat = x.expected → f.tagOk = false →
        (t.port p.val).expected = x.expected ∧ (t.port p.val).nak = true ∧ (t.port p.val).failed = bump x.failed ∧ t.fabric = s.fabric) ∧
      (f.fecOk = true → f.mark = x.rxMark → f.counter.toNat ≠ x.expected →
        t.port p.val = { x with corrected := bumpBy f.corrected x.corrected } ∧ t.fabric = s.fabric) ∧
      (f.fecOk = true → f.mark ≠ x.rxMark → x.pendingRx = none →
        t.port p.val = { x with corrected := bumpBy f.corrected x.corrected, retired := bump x.retired } ∧ t.fabric = s.fabric) ∧
      (∀ k, f.fecOk = true → f.mark ≠ x.rxMark → x.pendingRx = some k → f.counter.toNat = 0 → f.tagOk = true →
        (t.port p.val).keyRx = some k ∧ (t.port p.val).nextRx = none ∧ (t.port p.val).rxMark = f.mark ∧
        (t.port p.val).expected = 1)) ∧
    (s.pending = [] → s.pins.stby = true →
      ∃ t, step s = .next t ∧
        (({ s with clock := ⟨s.clock.count + 1, s.clock.device + 1⟩ } : State).frameDue p.val = false → t.port p.val = x) ∧
        (({ s with clock := ⟨s.clock.count + 1, s.clock.device + 1⟩ } : State).frameDue p.val = true →
          (∀ g rest, x.resend = g :: rest → t.port p.val = { x with resend := rest, wire := g.bytes }) ∧
          (x.resend = [] → 256 ≤ x.unacked.length → t.port p.val = x) ∧
          (x.resend = [] → x.unacked.length < 256 →
            ∃ g, g.counter = x.txCounter ∧ g.mark = x.txMark ∧ g.fails = 0 ∧ t.port p.val =
              { x with txCounter := x.txCounter + 1, unacked := x.unacked ++ [g], wire := g.bytes }))) ∧
    (∀ f : DataFrame, ∀ u : FrameUnit, f.fecOk = true → f.mark = x.rxMark → f.counter.toNat = x.expected → f.tagOk = true →
      f.units = [u] → u.kind = 1 → u.destModule.toNat ≠ s.ret.moduleAddr →
      ∃ t, exec (.dataFrame p f) s = .next t ∧ t.fabric = s.fabric ∧
        match s.route u.destModule.toNat with
        | none => t.straits.noRoute = bump s.straits.noRoute
        | some q => t.straits.forwarded = s.straits.forwarded ++ [(q, u)] ∧ t.straits.noRoute = s.straits.noRoute) ∧
    (x.exhausted = true →
      ∃ t, exec (.retransmissionExhausted p) s = .next t ∧ t.port p.val = { x.fresh .fault with unacked := x.unacked } ∧
        (∀ q, q ≠ p.val → t.port q = s.port q) ∧ t.fabric = s.fabric) ∧
    ((∀ g ∈ x.unacked, g.fails < 8) → exec (.retransmissionExhausted p) s = .next s) ∧
    (∃ t, exec (.straitLinkLoss p) s = .next t ∧ t.port p.val = x.fresh .training ∧ (∀ q, q ≠ p.val → t.port q = s.port q) ∧
      t.fabric = s.fabric) ∧
    (x.agreement = none → x.exchangeDue s.clock.count = true →
      ∃ t a, exec (.epochExchangeStart p) s = .next t ∧ t.port p.val = { x with agreement := some a, agreedAt := s.clock.count } ∧ a.epoch = x.epoch + 1 ∧
        a.peer = none ∧ s.onlyPort t p.val) ∧
    (x.exchangeDue s.clock.count = false → exec (.epochExchangeStart p) s = .next s) ∧
    (x.boundReached s.clock.count = false → exec (.epochBound p) s = .next s) ∧
    (x.epochCount + 24 * 3600 * 1000000000 ≤ s.clock.count ∨ 2 ^ 40 ≤ x.txCounter ∨ 2 ^ 40 ≤ x.framesReceived →
      ∃ t, exec (.epochBound p) s = .next t ∧ (t.port p.val).state = .agreeing ∧ (t.port p.val).dataStopped = true ∧
        (t.port p.val).keyTx = none ∧ s.onlyPort t p.val)

/-- The time tree (R296, R328, R450, R452-R454): finish marks are held with the latest finish they name, ALL-FINISHED goes down the tree
and ends the tide at the latest finish of any module, span fences rise and go on to
every tree neighbour but the one they came from, an exchange sets the offset to the parent's time, and the module address changes
only while no plan with a span section is held. -/
def Obligations.TheTreeCarries : Prop :=
  ∀ (s : State) (p : Fin 12), s.Inv →
    (∀ j latest : BitVec 64, (s.port p.val).state = .up →
      (s.lateMark j.toNat = false → s.fabric.ownFinish = none → ∃ t, exec (.finishMark p ⟨j, latest⟩) s = .next t ∧ t.fabric.marks = s.fabric.marks ++ [(p.val, j.toNat, latest.toNat)] ∧
        t.straits.lateMarks = s.straits.lateMarks ∧ t.host = s.host) ∧
      (s.lateMark j.toNat = false → s.fabric.ownFinish.isSome = true → s.od.session = 1 → s.start.debugEnd = 0 →
        ∃ t, exec (.finishMark p ⟨j, latest⟩) s = .next t ∧ t.straits.lateMarks = s.straits.lateMarks ∧ t.otp = s.otp ∧
          t.measure = s.measure ∧ t.ret = s.ret) ∧
      (s.lateMark j.toNat = true →
        exec (.finishMark p ⟨j, latest⟩) s = .next { s with straits := { s.straits with lateMarks := bump s.straits.lateMarks } }) ∧
      (s.lateMark j.toNat = false → s.fromParent p.val = true → s.od.session = 1 → s.start.debugEnd = 0 →
        ∃ t, exec (.allFinished p ⟨j, latest⟩) s = .next t ∧ t.fabric.allFinished = some (j.toNat, latest.toNat) ∧
          t.straits.markOut = s.straits.markOut ++ s.kids.map (fun k => (k, true, j.toNat, latest.toNat)) ∧
          (s.fabric.ownFinish = none → t.fabric.tide = s.fabric.tide ∧ t.host = s.host) ∧
          (∀ own, s.fabric.ownFinish = some (j.toNat, own) → t.fabric.tide = none ∧
            ∀ td, s.fabric.tide = some td → td.no = j.toNat →
              t.fabric.lastTide = some (td.paced, td.nextGrid, max own latest.toNat)))) ∧
    (∀ (f : BitVec 12) (v : BitVec 64), (s.port p.val).state = .up → s.straits.spanFences = true → 3072 ≤ f.toNat →
      ∃ t, exec (.spanFenceUnit p f v) s = .next t ∧
        SMap.get 0 t.host.fences f.toNat = max v.toNat (SMap.get 0 s.host.fences f.toNat) ∧
        (∀ k, k ≠ f.toNat → SMap.get 0 t.host.fences k = SMap.get 0 s.host.fences k) ∧
        (SMap.get 0 s.host.fences f.toNat < v.toNat → ∀ q ∈ s.treePorts, sameNeighbour q p.val = false →
          (q, f.toNat, v.toNat) ∈ t.straits.fenceOut) ∧
        (v.toNat ≤ SMap.get 0 s.host.fences f.toNat → t.straits.fenceOut = s.straits.fenceOut) ∧ t.host.subs = s.host.subs) ∧
    (∀ t1 t2 t3 t4 h sp, s.fabric.plan.bind (·.span) = some sp → sp.master ≠ s.ret.moduleAddr →
      (s.parentUp sp = false → exec (.spanSyncExchange t1 t2 t3 t4 h) s = .next s) ∧
      (s.parentUp sp = true →
      ∃ t, exec (.spanSyncExchange t1 t2 t3 t4 h) s = .next t ∧ t.straits.spanOffset = ((t2 - t1) + (t3 - t4)) / 2 ∧
        t.straits.lastSync = s.clock.count ∧ t.straits.hops = h + 1 ∧ t.straits.spanState = 2 ∧ t = { s with straits := t.straits })) ∧
    (∀ (ch : Channel) (v : BitVec 16), s.accepts ch 0x7001 1 .hOpCu →
      (s.spanHeld = false → v.toNat ≤ 0xFFF ∨ v.toNat = 0xFFFF →
        ∃ t, exec (.moduleAddressWrite ch v) s = .next t ∧ t.ret = { s.ret with moduleAddr := v.toNat } ∧ t.od = s.od) ∧
      (s.spanHeld = true → exec (.moduleAddressWrite ch v) s = .next ((s.touch ch).ignoreWrite 0x7001 1)))

/-! ### Time -/

/-- Time steps (R423, R457-R461): a Custodian stages, an Auditor's equal digest within the minute before APPLY_AT confirms; at that instant
device time takes the value, the timebase count does not, and MR13 records both times and the command, and a consent token that the step carries past its expiry ends with its record in MR12; a step under a span plan or
backwards in a session is refused with its code, one not confirmed lapses. -/
def Obligations.TimeStepsApply : Prop :=
  ∀ s : State,
    (∀ (ch : Channel) (c : Bytes), s.accepts ch 0x7410 1 .cust →
      (stepFormOk c = true → s.now < stepApplyAt c →
        ∃ t, exec (.timeStepStage ch c) s = .next t ∧ t.clock = s.clock ∧ t.od = s.od ∧
          t.time = { s.time with command := c, staged := true, confirmed := false, status := 1 }) ∧
      (stepFormOk c = true → stepApplyAt c ≤ s.now →
        ∃ t, exec (.timeStepStage ch c) s = .next t ∧ t.clock = s.clock ∧ t.time.staged = false ∧ t.time.status = 2) ∧
      (stepFormOk c = false → exec (.timeStepStage ch c) s = .next ((s.touch ch).ignoreWrite 0x7410 1))) ∧
    (∀ (ch : Channel) (d : Digest), s.accepts ch 0x7410 2 .aud → s.time.staged = true →
      (d = sha384 (s.time.command ++ beBytes 16 s.otp.serial.toNat) → s.now < stepApplyAt s.time.command →
        stepApplyAt s.time.command ≤ s.now + 60000000000 →
        ∃ t, exec (.timeStepConfirm ch d) s = .next t ∧ t.time = { s.time with confirmed := true, status := 1 } ∧ t.clock = s.clock) ∧
      (d ≠ sha384 (s.time.command ++ beBytes 16 s.otp.serial.toNat) →
        ∃ t, exec (.timeStepConfirm ch d) s = .next t ∧ t.time = { s.time with status := 3 } ∧ t.clock = s.clock)) ∧
    (s.time.staged = true → s.time.confirmed = true → stepApplyAt s.time.command ≤ s.now →
      (s.stepRefusal = 0 → s.measure.mrs.length = 32 → s.ret.tokens.length = 3 →
        let ended (tk : TokenInForce) : Bool := decide ((tk.expiry : Int) ≤ s.stepResult)
        s.start.condition.debugClass = false ∨ (∀ k tk, k < 3 → s.ret.token k = some tk → ended tk = false) →
        ∃ t, exec .timeStepApply s = .next t ∧ (t.clock.device : Int) = s.stepResult ∧ t.clock.count = s.clock.count ∧
          t.mr 13 = extendValue (s.mr 13) ([1] ++ leBytes 8 s.now ++ leBytes 8 t.clock.device ++
            digestBytes (sha384 (s.time.command ++ beBytes 16 s.otp.serial.toNat))) ∧
          (∀ k, k ≠ 12 → k ≠ 13 → t.mr k = s.mr k) ∧
          (∀ k, k < 3 → t.ret.token k = (s.ret.token k).filter fun tk => !ended tk) ∧
          t.mr 12 = [0, 1, 2].foldl (fun d k => match s.ret.token k with
            | some tk => if ended tk then extendValue d (2 :: digestBytes tk.digest ++ leBytes 8 t.clock.device) else d
            | none => d) (s.mr 12) ∧
          t.ret.timeSet = true ∧ t.time.staged = false ∧ t.time.status = 0 ∧
          t.measure.lastStep = t.clock.device) ∧
      ((s.fabric.plan.bind (·.span)).isSome = true →
        exec .timeStepApply s = .next { s with time := { s.time with staged := false, confirmed := false, status := 5 } }) ∧
      ((s.fabric.plan.bind (·.span)).isSome = false → s.od.session ≠ 0 → s.stepResult < s.now →
        exec .timeStepApply s = .next { s with time := { s.time with staged := false, confirmed := false, status := 4 } })) ∧
    (s.time.staged = true → s.time.confirmed = false →
      (stepApplyAt s.time.command ≤ s.now →
        exec .timeStepLapse s = .next { s with time := { s.time with staged := false, status := 2 } }) ∧
      (s.now < stepApplyAt s.time.command → exec .timeStepLapse s = .next s))

/-- TIME_PPS, TIME_REF and PTP (R462-R467, R471): PPS rises on whole seconds while the time is SET, but not within 500 ms of the last
rise; a TIME_REF code written makes the output relock, and 32 us after the lock it runs from the next multiple of its period; PTP sends
Sync with its Follow_Up, Announce and Delay_Resp as R467 fills them, only while it is enabled and the time is SET, and a foreign message
changes nothing. -/
def Obligations.TimeOutputsServe : Prop :=
  ∀ s : State,
    (s.timeServed = true → s.now % 1000000000 = 0 → s.time.lastPps ≠ some s.clock.count →
      ((∀ p, s.time.lastPps = some p → p + 500000000 ≤ s.clock.count) →
        exec .timePpsSecond s = .next { s with
          pins := { s.pins with timePps := true }, time := { s.time with lastPps := some s.clock.count } }) ∧
      (∀ p, s.time.lastPps = some p → s.clock.count < p + 500000000 →
        exec .timePpsSecond s = .next { s with time := { s.time with ppsOmitted := bump s.time.ppsOmitted } })) ∧
    (s.ret.timeSet = false → exec .timePpsSecond s = .next s ∧ exec .sync s = .next s ∧ exec .announce s = .next s ∧
      ∀ a b q, exec (.delayReq a b q) s = .next s) ∧
    (∀ (ch : Channel) (v : Byte), s.accepts ch 0x7420 1 .hOpCu →
      (v.toNat < 4 →
        ∃ t, exec (.timeRefWrite ch v) s = .next t ∧ t.ret = { s.ret with timeRef := v.toNat } ∧
          t.time = { s.time with refState := (if v = 0 then 0 else 1), lockedAt := none } ∧ t.pins.timeRefRunning = false ∧
          t.clock = s.clock) ∧
      (4 ≤ v.toNat → exec (.timeRefWrite ch v) s = .next ((s.touch ch).ignoreWrite 0x7420 1))) ∧
    (s.time.refState = 1 → exec .timeRefLock s = .next { s with time := { s.time with lockedAt := some s.clock.count } }) ∧
    (∀ k, s.time.refState = 1 → s.time.lockedAt = some k → k + 32000 ≤ s.clock.count →
      ∃ t, exec .timeRefRelease s = .next t ∧ t.time.refState = 2 ∧ t.pins.timeRefRunning = s.ret.timeSet ∧
        s.now ≤ t.time.refPhase ∧ t.time.refPhase < s.now + refPeriod s.ret.timeRef ∧
        t.time.refPhase % refPeriod s.ret.timeRef = 0 ∧ t.clock = s.clock ∧ t.ret = s.ret) ∧
    (s.ret.ptpEnable = 0 → exec .sync s = .next s ∧ exec .announce s = .next s ∧ ∀ a b q, exec (.delayReq a b q) s = .next s) ∧
    (s.timeServed = true → s.ret.ptpEnable = 1 →
      let domain := s.ret.ptp.getD 0 0
      let every := s.ret.ptp.getD 3 0
      exec .sync s = .next { s with time := { s.time with
        syncSeq := (s.time.syncSeq + 1) % 65536
        ptpSent := [
          { kind := 0x0, seq := s.time.syncSeq, domain := domain, interval := every, twoStep := true },
          { kind := 0x8, seq := s.time.syncSeq, domain := domain, interval := every, time := some s.now }] } } ∧
      exec .announce s = .next { s with time := { s.time with
        announceSeq := (s.time.announceSeq + 1) % 65536
        ptpSent := [
          { kind := 0xB, seq := s.time.announceSeq, domain := domain, interval := 1, time := some s.now
            priorities := some (s.ret.ptp.getD 1 0, s.ret.ptp.getD 2 0), quality := some (13, 0xFE, 0xA0), timescale := true
            utcOffset := some (s.ret.ptp.getD 4 0) }] } } ∧
      (∀ (a b : Bool) (q : BitVec 16), (a || b) = true →
        exec (.delayReq a b q) s = .next { s with time := { s.time with
          ptpSent := [{ kind := 0x9, seq := q.toNat, domain := domain, interval := 0, time := some s.now }] } }) ∧
      ∀ q : BitVec 16, exec (.delayReq false false q) s = .next s) ∧
    exec .foreignPtpMessage s = .next s

/-! ### The object dictionary -/

/-- Reads (R474, R475, R478, R480, R487-R490): a value of at most 8 octets is answered whole, a longer one by READ-SHORT not at all; a
long read answers the copy taken at its first unit, segment by segment, whatever changes meanwhile; without the right, zeros that look
the same, counted; a malformed unit changes nothing; and a host unit outside the TEE stream in CONFIG_LOCKED or RUN reads zeros (R401). -/
def Obligations.ReadsAnswer : Prop :=
  ∀ (s : State) (ch : Channel) (h : TuHeader), s.od.channels.length = 13 →
    let u := s.touch ch
    let v := u.odValue ch h.index.toNat h.sub.toNat
    let n := segLimit ch
    (s.asks ch 1 h [] →
      (u.readsObject ch h → u.openOn ch = none → v.length ≤ 8 →
        ∃ t r, exec (.readShort ch h) s = .next t ∧ t.replied ch r ∧ r.result = 0 ∧ r.total = v.length ∧ r.data = v.take h.total.toNat ∧
          r.xid = h.xid.toNat ∧ t.ret = u.ret ∧ t.measure = s.measure ∧ t.fabric = s.fabric) ∧
      (u.readsObject ch h → u.openOn ch = none → 8 < v.length →
        ∃ t r, exec (.readShort ch h) s = .next t ∧ t.replied ch r ∧ r.result = 4 ∧ r.data = [] ∧ t.ret = u.ret) ∧
      (u.readsObject ch h → (u.openOn ch).isSome = true →
        ∃ t r, exec (.readShort ch h) s = .next t ∧ t.replied ch r ∧ r.result = 7 ∧ t.openOn ch = u.openOn ch ∧ t.ret = u.ret) ∧
      (u.hasRead ch h.index.toNat h.sub.toNat = false → u.notYet h.index.toNat h.sub.toNat = false →
        ∃ t r, exec (.readShort ch h) s = .next t ∧ t.replied ch r ∧ r.result = 0 ∧ r.total = 8 ∧ r.data = List.replicate 8 0 ∧
          t.ret = (u.violate ch h.index.toNat h.sub.toNat 1).ret ∧ t.measure = s.measure)) ∧
    (s.asks ch 3 h [] → u.readsObject ch h → u.openOn ch = none → h.offset = 0 →
      ∃ t r, exec (.readLong ch h) s = .next t ∧ t.replied ch r ∧ r.result = 0 ∧ r.total = v.length ∧ r.offset = 0 ∧
        r.data = (v.take h.total.toNat).take n ∧ (r.last = decide ((v.take h.total.toNat).length ≤ n)) ∧ t.ret = u.ret ∧
        (n < (v.take h.total.toNat).length →
          ∃ o, t.openOn ch = some o ∧ o.data = v.take h.total.toNat ∧ o.next = n ∧ o.total = v.length ∧ o.xid = h.xid.toNat ∧
            o.write = false)) ∧
    (∀ o data, s.asks ch 5 h data → u.openOn ch = some o → o.write = false → o.named h = true →
      (h.offset.toNat = o.next →
        ∃ t r, exec (.continueTu ch h data) s = .next t ∧ t.replied ch r ∧ r.result = 0 ∧ r.offset = o.next ∧ r.total = o.total ∧
          r.data = slice o.data o.next n ∧ (r.last = decide (o.data.length ≤ o.next + n)) ∧ t.ret = u.ret ∧
          (o.data.length ≤ o.next + n → t.openOn ch = none) ∧
          (o.next + n < o.data.length → t.openOn ch = some { o with next := o.next + n, lastTu := s.clock.count })) ∧
      (h.offset.toNat ≠ o.next → o.silent = false →
        ∃ t r, exec (.continueTu ch h data) s = .next t ∧ t.replied ch r ∧ r.result = 2 ∧ t.openOn ch = none ∧ t.ret = u.ret)) ∧
    (s.channelUp ch = true → s.teeBlocked ch = false → s.tuReaches ch h = true → tuMalformed ch 1 h [] = true →
      ∃ t r, exec (.readShort ch h) s = .next t ∧ t.replied ch r ∧ r.result = 1 ∧ t.openOn ch = u.openOn ch ∧ t.ret = u.ret) ∧
    (s.channelUp ch = true → s.teeBlocked ch = true →
      ∃ t r, exec (.readShort ch h) s = .next t ∧ t.replied ch r ∧ (∀ b ∈ r.bytes, b = 0) ∧ t.openOn ch = s.openOn ch ∧
        t.ret = s.ret ∧ t.measure = s.measure ∧ t.fabric = s.fabric)

/-- Writes (R478, R479, R484, R485, R491-R494): a permitted whole value is applied or ignored and counted; behind another channel's
lock it is not applied; without the right it is silent and counted; a long write takes the lock, applies its segments only as one
whole value at the last, and an ABORT or an idle timer applies nothing and frees the lock. A write that reaches a vendor diagnostic
object is refused. -/
def Obligations.WritesApplyWhole : Prop :=
  ∀ (s : State) (ch : Channel) (h : TuHeader) (data : Bytes), s.od.channels.length = 13 →
    let u := s.touch ch
    let i := h.index.toNat
    let k := h.sub.toNat
    (s.asks ch 2 h data → vendorIndex i = false →
      (s.writesObject ch h →
        ∃ t r, exec (.writeShort ch h data) s = .next t ∧ t = (u.applyValue ch i k (segment h data)).1.carry ch 2 h data r ∧
          r.result = (if (u.writeObject ch i k (segment h data)).isSome then 0 else 6) ∧ r.total = h.segLen.toNat) ∧
      (s.writesObject ch h → i = 0x4104 → k = 1 → h.total = 2 → leNat (segment h data) ≤ 500 →
        ∃ t, exec (.writeShort ch h data) s = .next t ∧ t.ret = { u.ret with margin := leNat (segment h data) } ∧
          t.fabric = s.fabric ∧ t.measure = s.measure) ∧
      (u.writeRight ch i k = true → u.openOn ch = none → u.lockedFor ch i k = true →
        ∃ t r, exec (.writeShort ch h data) s = .next t ∧ t.replied ch r ∧ r.result = 3 ∧ t.ret = u.ret ∧ t.od.lock = s.od.lock) ∧
      (u.hasWrite ch i k = false → u.notYet i k = false →
        ∃ t r, exec (.writeShort ch h data) s = .next t ∧ t.replied ch r ∧ r.result = 0 ∧ r.total = h.segLen.toNat ∧
          t.ret = (u.violate ch i k 2).ret ∧ t.measure = s.measure ∧ t.od.lock = s.od.lock)) ∧
    (s.asks ch 4 h data → s.writesObject ch h → h.offset = 0 → isLast h = false → h.segLen.toNat ≤ h.total.toNat →
      ∃ t r o, exec (.writeLong ch h data) s = .next t ∧ t.replied ch r ∧ r.result = 0 ∧ t.openOn ch = some o ∧ o.write = true ∧
        o.data = segment h data ∧ o.total = h.total.toNat ∧ t.od.lock = some (ch, s.now) ∧ t.ret = u.ret ∧ t.measure = s.measure) ∧
    (∀ o, s.asks ch 5 h data → u.openOn ch = some o → o.write = true → o.silent = false → o.named h = true →
      h.offset.toNat = o.data.length → isLast h = false → o.data.length + h.segLen.toNat ≤ o.total →
      ∃ t r, exec (.continueTu ch h data) s = .next t ∧ t.replied ch r ∧ r.result = 0 ∧
        t.openOn ch = some { o with data := o.data ++ segment h data, lastTu := s.clock.count } ∧ t.ret = u.ret ∧ t.measure = s.measure) ∧
    (∀ o, s.asks ch 6 h [] → u.openOn ch = some o → o.xid = h.xid.toNat →
      ∃ t r, exec (.abortTu ch h) s = .next t ∧ t.replied ch r ∧ r.result = 0 ∧ t.openOn ch = none ∧ t.ret = u.ret ∧
        t.measure = s.measure ∧ (s.od.lock = some (ch, s.now) → t.od.lock = none)) ∧
    (∀ o, s.openOn ch = some o →
      (o.lastTu + s.ret.lockLease * 1000000 ≤ s.clock.count →
        ∃ t, exec (.odTransferIdle ch) s = .next t ∧ t.openOn ch = none ∧ (t.od.channel ch).expiredXid = some o.xid ∧
          t = { s with od := t.od } ∧ (∀ at_, s.od.lock = some (ch, at_) → t.od.lock = none)) ∧
      (s.clock.count < o.lastTu + s.ret.lockLease * 1000000 → exec (.odTransferIdle ch) s = .next s)) ∧
    (∀ val : Bytes, vendorIndex i = true → s.channelUp ch = true → s.teeBlocked ch = false → s.writeRight ch i k = true →
      s.openOn ch = none → s.lockedFor ch i k = false →
      exec (.objectWrite (.od ch h.index h.sub val)) s = .refused (.vendorDiagnostic i k))

/-- Objects and registers without a row of their own (R327, R389, R399, R406, R472, R497, R551): a permitted object write applies; the
evidence rings' fields change only while disabled; the MSI-X table, the mailbox and the PCIe enables take what is written, a change of
locked configuration moves the TDI to ERROR, and any other register access of a BAR changes nothing (R401); a unit over a secured session
acts for the host plane. -/
def Obligations.RegistersTake : Prop :=
  ∀ s : State,
    (∀ (ch : Channel) (val : Bytes), s.channelUp ch = true → s.teeBlocked ch = false → s.writeRight ch 0x3050 1 = true →
      s.openOn ch = none → s.lockedOut ch = false →
      (val.length = 1 → 60 ≤ leNat val → leNat val ≤ 85 →
        ∃ t, exec (.objectWrite (.od ch 0x3050 1 val)) s = .next t ∧ t.ret = { s.ret with thermalTarget := leNat val } ∧ t.od = s.od) ∧
      (val.length ≠ 1 ∨ leNat val < 60 ∨ 85 < leNat val →
        exec (.objectWrite (.od ch 0x3050 1 val)) s = .next ((s.touch ch).ignoreWrite 0x3050 1))) ∧
    (∀ tee, s.hostReaches tee →
      (∀ v, exec (.objectWrite (.mbVector tee v)) s = .next { s with od := { s.od with mbVector := v } }) ∧
      (∀ r v, v.toNat % 4096 = 0 → (s.measure.ring r).enabled = false →
        ∃ t, exec (.objectWrite (.ringBase tee r v)) s = .next t ∧ t.measure.ring r = { s.measure.ring r with base := v } ∧
          t.hostMem = s.hostMem) ∧
      (∀ r v, (s.measure.ring r).enabled = true → exec (.objectWrite (.ringBase tee r v)) s = .next s ∧
        exec (.objectWrite (.ringVector tee r (v.setWidth 16))) s = .next s) ∧
      (∀ (vec : Fin 2048) addr data, SMap.wf (0, 0, true) s.host.msix = true →
        ∃ t, exec (.objectWrite (.msixTable tee vec addr data true)) s = .next t ∧
          SMap.get (0, 0, true) t.host.msix vec.val = (addr, data, true) ∧ t.host.msixSent = s.host.msixSent ∧
          ∀ k, k ≠ vec.val → SMap.get (0, 0, true) t.host.msix k = SMap.get (0, 0, true) s.host.msix k)) ∧
    (∀ tee, s.pins.pcieUp = true → s.host.d3hot = false →
      exec (.objectWrite (.mmioOther tee)) s = .next (if s.teeBlocked (.bar0 tee) then s.countTee else s)) ∧
    (∀ a p m k b d, s.pins.pcieUp = true →
      let h := { s.host with ats := a, pri := p, msixOn := m, msixMask := k, busMaster := b, d3hot := d }
      let lockedConfig (x : HostPath) : Bool × Bool × Bool × Bool × Bool := (x.ats, x.pri, x.msixOn, x.busMaster, x.d3hot)
      (s.hosting.tdi = .locked ∨ s.hosting.tdi = .run → lockedConfig h ≠ lockedConfig s.host →
        exec (.objectWrite (.pcieConfig a p m k b d)) s = .next { s with
          host := h, hosting := { s.hosting with tdi := .error, startNonce := none } }) ∧
      ((s.hosting.tdi = .unlocked ∨ s.hosting.tdi = .error) ∨ lockedConfig h = lockedConfig s.host →
        ∃ t, exec (.objectWrite (.pcieConfig a p m k b d)) s = .next t ∧
          t = { s with host := { h with msixPending := t.host.msixPending, msixSent := t.host.msixSent } } ∧
          (m = false ∨ k = true ∨ b = false ∨ d = true → t = { s with host := h }))) ∧
    (∀ (i : Fin 4) (op : Byte) (h : TuHeader) (data : Bytes), s.inSession i.val → s.hosting.sessions.length = 4 → s.od.channels.length = 13 →
      s.asks (.spdm i) op.toNat h data →
      ∃ t, exec (.vendorDefinedRequest i op h data) s = .next t ∧
        (op = 1 → ∃ r, t.replied (.spdm i) r ∧ t.hosting.response = some (0x7E, r.bytes)))

/-- Sessions of the device (R502-R507): READY with no session and clear stores opens one for the plane that asks, with the tide
and receipt counts at zero, its genesis computed and the ingest mode latched; anything else only gives a code; the owner or a
Custodian closes it, and one with nothing left to drain is cut FINAL and cleared at once; another plane's write is ignored. -/
def Obligations.SessionsOpenAndClose : Prop :=
  ∀ (s : State) (ch : Channel), s.accepts ch 0x1400 1 .hCu →
    (s.openCode = 0 → s.start.power = .ready ∧ s.od.session = 0 ∧
      ∃ t, exec (.sessionOpen ch) s = .next t ∧ t.od.session = 1 ∧ t.od.owner = planeCode ch ∧ t.od.lastCommand = 0 ∧
        t.fabric.tideCount = 0 ∧ t.fabric.cores = [] ∧ t.ret.receiptsMade = 0 ∧ t.host.modeLatched = s.host.mode ∧
        t.measure.genesis = sha384 (ascii "U1200-CHAIN" ++ beBytes 16 s.otp.serial.toNat ++ leBytes 8 s.now ++
          digestBytes s.ret.liveHead) ∧
        t.chainHead = t.measure.genesis ∧ t.measure.mrs = s.measure.mrs ∧ t.ret.sessionsOpened = bump s.ret.sessionsOpened ∧
        t.ret.nextSeq = s.ret.nextSeq ∧ t.hostMem = s.hostMem) ∧
    (s.openCode ≠ 0 → exec (.sessionOpen ch) s = .next ((s.touch ch).sessionCode s.openCode)) ∧
    (s.od.session = 0 → exec (.sessionClose ch) s = .next ((s.touch ch).sessionCode 4)) ∧
    (s.od.session = 1 → planeCode ch = s.od.owner ∨ s.roleOf ch = some .custodian →
      (s.host.subs = [] → s.fabric.tide = none →
        ∃ t, exec (.sessionClose ch) s = .next t ∧ t.od.session ≠ 1 ∧ t.od.lastCommand = 0 ∧ t.fabric.plan = none ∧ t.fabric.cores = [] ∧
          t.shoal.clusters = List.replicate 12 {} ∧ t.hosting.models = [] ∧ (∀ x ∈ t.ret.stores, x.state = .scrubbing) ∧
          (∀ e ∈ t.ret.regions, e.2.state ≠ .allocated) ∧ t.measure.mrs = s.measure.mrs ∧
          (s.aliasExists = true → s.measure.signing = none → s.measure.checkpoints.length < 16 →
            ∃ c, t.measure.signing = some c ∧ c.cause = 6 ∧ c.head = s.chainHead)) ∧
      (s.fabric.tide.isSome = true →
        ∃ t, exec (.sessionClose ch) s = .next t ∧ t.od.session = 2 ∧ t.fabric = s.fabric ∧ t.host = s.host)) ∧
    (s.od.session = 1 → planeCode ch ≠ s.od.owner → s.roleOf ch ≠ some .custodian →
      exec (.sessionClose ch) s = .next ((s.touch ch).ignoreWrite 0x1400 1))

/-! ### The Causeway -/

/-- Causeway sessions (R111, R132, R172, R512-R519): IDENT is answered in every state but OFF and FUSE-HALT, broadcast or addressed, and
no other frame that is not addressed to the device is heard; a C-HELLO that passes every check of R515 takes a free number and its role
with a D-HELLO whose signatures verify, the first check that fails gives the code; a frame that does not decrypt, or whose SEQ is not the
next, is discarded and counted; C-FINISH opens the session under its keys only with its signature and an anchor that still stands, and a
staged anchor then closes into the next CA slot; a CLOSE, the idle limit and 2^32 frames end it with its keys; only a Custodian grants
co-signature, for at most 8 h. -/
def Obligations.CausewaySessionsLive : Prop :=
  ∀ s : State, s.causeway.sessions.length = 8 → s.otp.caSlots.length = 8 →
    let discarded : State := { s with causeway := { s.causeway with discarded := bump s.causeway.discarded } }
    (∀ dest, s.causewayUp = true → dest ≠ .other →
      ∃ t b, exec (.identReq dest) s = .next t ∧ t = { s with causeway := { s.causeway with lastFrame := some (2, b) } }) ∧
    (s.start.halt = .fuse → ∀ dest, exec (.identReq dest) s = .next s) ∧
    exec (.identReq .other) s = .next s ∧
    (∀ m : ClientHello, m.dest ≠ .device → exec (.cHello m) s = .next s) ∧
    (∀ m : ClientHello, m.dest = .device → s.causewayUp = true →
      (s.helloCode m = 0 → m.wellFormed = true ∧ m.chainOk = true ∧ s.anchorOk m = true ∧ s.validityOk m = true ∧ s.start.halt = .none ∧
        ∃ t k r bare n, exec (.cHello m) s = .next t ∧ s.causeway.freeSession = some k ∧ m.role = some r ∧
          t = { s with
            causeway := t.causeway, draws := t.draws, engines := t.engines
            keys := { s.keys with wkr := t.keys.wkr, debugIdevidCert := t.keys.debugIdevidCert }
            start := { s.start with drbgRequests := t.start.drbgRequests } } ∧
          let key := s.evidenceKey
          let d := digestBytes (sha384 (m.transcript ++ bare))
          let opened (sig : Bytes × Bytes) : Prop :=
            (t.causeway.session k).phase = 1 ∧ (t.causeway.session k).role = r ∧ (t.causeway.session k).certDigest = m.certDigest ∧
              (t.causeway.session k).transcript = m.transcript ++ (bare ++ sig.1 ++ sig.2) ∧
              (t.causeway.session k).anchor = (if m.anchorSlot.val = 8 then s.ret.stagedCa.map (·.1) else none) ∧
              (∀ j, j ≠ k → t.causeway.session j = s.causeway.session j) ∧ t.causeway.refused = s.causeway.refused ∧
              t.causeway.lastFrame = some (0x11, bare ++ sig.1 ++ sig.2)
          if key.verifies d d (key.attempt d d n) then opened (key.attempt d d n)
          else if key.verifies d d (key.attempt d d (n + 4)) then opened (key.attempt d d (n + 4))
          else t.causeway = s.causeway ∧ t.engines = s.engines.bnAlarm) ∧
      (s.helloCode m ≠ 0 →
        exec (.cHello m) s = .next { s with causeway := { s.causeway with
          refused := bump s.causeway.refused, lastRefusal := s.helloCode m } })) ∧
    (∀ (f : CwFrame) (sigR sigS : BitVec 384), s.hears f = true →
      let i := f.session.val
      let x := s.causeway.session i
      (x.phase ≠ 1 ∨ x.accepts f = false → ∀ b, exec (.cFinish f b sigR sigS) s = .next discarded) ∧
      (x.phase = 1 → x.accepts f = true →
        (s.anchorStands x = true →
          ∃ t, exec (.cFinish f true sigR sigS) s = .next t ∧
            (x.anchor = none →
              (t.causeway.session i).phase = 2 ∧ (t.causeway.session i).role = x.role ∧ (t.causeway.session i).opened = s.now ∧
              (t.causeway.session i).keyIn.isSome = true ∧ (t.causeway.session i).keyOut.isSome = true ∧
              (t.causeway.session i).ephemeral = none ∧ (t.causeway.session i).framesIn = 1 ∧
              t.causeway.lastFrame = some (0x13, leBytes 2 (i + 1) ++ leBytes 1 (roleCode (some x.role))) ∧
              (∀ j, j ≠ i → t.causeway.session j = s.causeway.session j) ∧ t.otp = s.otp ∧ t.measure = s.measure) ∧
            (∀ a k, x.anchor = some a → s.otp.freeSlot = some k →
              t.otp.caSlots.getD k none = some (CaSlot.ofAnchor a) ∧ (∀ j, j ≠ k → t.otp.caSlots.getD j none = s.otp.caSlots.getD j none) ∧
                t.ret.stagedCa = none ∧ t.ret.caClosedAt = some s.clock.count)) ∧
        (s.anchorStands x = false →
          ∃ t, exec (.cFinish f true sigR sigS) s = .next t ∧ t.causeway.session i = {} ∧ t.causeway.lastRefusal = 2 ∧
            t.causeway.refused = bump s.causeway.refused ∧ t.otp = s.otp) ∧
        ∃ t, exec (.cFinish f false sigR sigS) s = .next t ∧ t.causeway.session i = {} ∧ t.causeway.lastRefusal = 4 ∧
          t.causeway.refused = bump s.causeway.refused ∧ t.otp = s.otp)) ∧
    (∀ (f : CwFrame) (len off : BitVec 32) (data : Bytes) (cap : BitVec 16) (ms ident : BitVec 32),
      let i := f.session.val
      let x := s.causeway.session i
      (∀ c ∈ [Instr.causewayClose f, .fwBegin f len, .fwData f off data true true, .fwEnd f, .budget f cap ms ident],
        (s.hears f = false → exec c s = .next s) ∧
        (s.hears f = true → x.phase ≠ 2 ∨ x.accepts f = false → exec c s = .next discarded)) ∧
      (s.hears f = true → x.phase = 2 → x.accepts f = true → s.causeway.fw = none →
        ∃ t, exec (.causewayClose f) s = .next t ∧ s.causewayEnded t i)) ∧
    (∀ i : Fin 8, s.causeway.fw = none →
      ((s.causeway.session i.val).phase ≠ 0 →
        (s.causeway.session i.val).lastFrame + s.ret.idleLimit * 1000000000 ≤ s.clock.count →
        ∃ t, exec (.causewaySessionIdle i) s = .next t ∧ s.causewayEnded t i.val) ∧
      ((s.causeway.session i.val).phase = 2 →
        2 ^ 32 ≤ (s.causeway.session i.val).framesIn ∨ 2 ^ 32 ≤ (s.causeway.session i.val).framesOut →
        ∃ t, exec (.causewayFrameLimit i) s = .next t ∧ s.causewayEnded t i.val) ∧
      ((s.causeway.session i.val).phase = 0 → exec (.causewaySessionIdle i) s = .next s ∧ exec (.causewayFrameLimit i) s = .next s)) ∧
    (∀ (ch : Channel) (d : Digest) (e : BitVec 64), s.accepts ch 0x7820 1 .cust →
      (e.toNat ≤ s.now + 8 * 3600 * 1000000000 →
        ∃ t, exec (.cosignGrantWrite ch d e) s = .next t ∧ t.causeway.grant = (d, e.toNat) ∧ t.od = s.od ∧ t.ret = s.ret) ∧
      (s.now + 8 * 3600 * 1000000000 < e.toNat → exec (.cosignGrantWrite ch d e) s = .next ((s.touch ch).ignoreWrite 0x7820 1)))

/-- Firmware transfers (R94, R513, R521, R522), by frames that the session accepts: FW-BEGIN starts one where none is in progress; a
contiguous segment of 1 to 1,280 octets is taken, any other is answered by FW-ACK with the next expected offset; FW-END of the whole
stream ends it; a stall of 5 s refuses the delivery with 0x0A, and an update of the host's stands.
Budgets (R513, R523-R525): one in range from an Operator or Custodian takes its namesake's place and is acknowledged; the cap in
effect is no higher than the local cap and than every budget in force; at its end a budget is gone and counted. -/
def Obligations.TransfersAndBudgets : Prop :=
  (∀ (s : State) (f : CwFrame), s.hears f = true →
     let i := f.session.val
     let x := s.causeway.session i
     x.phase = 2 → x.accepts f = true →
     (∀ len : BitVec 32, roleCommands x.role = true →
       (s.deliveryBusy = false → len.toNat ≤ 32 * 1048576 →
         ∃ t, exec (.fwBegin f len) s = .next t ∧ t.causeway.fw = some ⟨i, len.toNat, [], 0, s.clock.count, false⟩ ∧
           t.start = s.start ∧ t.ret = s.ret) ∧
       (s.deliveryBusy = true →
         ∃ t, exec (.fwBegin f len) s = .next t ∧ t.causeway.fw = s.causeway.fw ∧ t.start.setResult = 9 ∧
           t.start.load = s.start.load ∧ t.ret.setsRefused = bump s.ret.setsRefused)) ∧
     (∀ (x : FwTransfer), s.causeway.fw = some x → x.session = i → x.ended = false →
       (∀ (off : BitVec 32) (data : Bytes) e d, off.toNat = x.data.length → 1 ≤ data.length → data.length ≤ 1280 →
         off.toNat + data.length ≤ x.total → (setHeadSize ≤ x.data.length ∨ x.data.length + data.length < setHeadSize) →
         ∃ t, exec (.fwData f off data e d) s = .next t ∧
           t.causeway.fw = some { x with data := x.data ++ data, frames := x.frames + 1, lastFrame := s.clock.count } ∧
           t.start = s.start ∧ t.measure = s.measure ∧
           ((x.frames + 1) % 16 = 0 → t.causeway.lastFrame = some (0x32, leBytes 4 (x.data.length + data.length)))) ∧
       (∀ (off : BitVec 32) (data : Bytes) e d, off.toNat ≠ x.data.length ∨ data.length = 0 ∨ 1280 < data.length →
         ∃ t, exec (.fwData f off data e d) s = .next t ∧ t.causeway.fw = s.causeway.fw ∧ t.start = s.start ∧
           t.causeway.lastFrame = some (0x32, leBytes 4 x.data.length)) ∧
       (x.data.length = x.total →
         ∃ t, exec (.fwEnd f) s = .next t ∧ t.causeway.fw = some { x with ended := true } ∧ t.start = s.start ∧
           t.causeway.lastFrame = some (0x32, leBytes 4 x.data.length)) ∧
       (x.lastFrame + 5000000000 ≤ s.clock.count → s.up = true →
         ∃ t, exec .fwTransferStall s = .next t ∧ t.causeway.fw = none ∧ t.start.setResult = 0x0A ∧
           t.start.update = (if s.start.causewayUpdate then none else s.start.update) ∧ t.otp = s.otp ∧ t.measure = s.measure) ∧
       (s.clock.count < x.lastFrame + 5000000000 → exec .fwTransferStall s = .next s))) ∧
  (∀ s : State,
     (∀ (f : CwFrame) (cap : BitVec 16) (ms ident : BitVec 32), s.hears f = true →
       let i := f.session.val
       let x := s.causeway.session i
       x.phase = 2 → x.accepts f = true →
       (roleCommands x.role = true → 900 ≤ cap.toNat → cap.toNat ≤ 2600 → 100 ≤ ms.toNat → ms.toNat ≤ 60000 →
         ∃ t b, exec (.budget f cap ms ident) s = .next t ∧
           (∀ x, x ∈ t.causeway.budgets ↔ (x ∈ s.causeway.budgets ∧ ¬(x.session = i ∧ x.ident = ident.toNat)) ∨
             x = ⟨i, ident.toNat, cap.toNat, s.clock.count + ms.toNat * 1000000⟩) ∧
           t.capInEffect ≤ cap.toNat ∧ t.causeway.lastFrame = some (0x41, b) ∧ leField b 0 2 = t.capInEffect % 65536 ∧ t.ret = s.ret ∧
           t.start = s.start ∧ (s.causeway.sessions.length = 8 → (t.causeway.session i).framesOut = x.framesOut + 1)) ∧
       (roleCommands x.role = false ∨ cap.toNat < 900 ∨ 2600 < cap.toNat ∨ ms.toNat < 100 ∨ 60000 < ms.toNat →
         ∃ t, exec (.budget f cap ms ident) s = .next t ∧ t.causeway.budgets = s.causeway.budgets ∧
           t.causeway.lastFrame = s.causeway.lastFrame)) ∧
     (∃ t, exec .budgetLapse s = .next t ∧
       t.causeway.budgets = s.causeway.budgets.filter (fun b => decide (s.clock.count < b.ends)) ∧
       t.causeway.lapses = bumpBy (s.causeway.budgets.length - t.causeway.budgets.length) s.causeway.lapses ∧
       t = { s with causeway := t.causeway }) ∧
     s.capInEffect ≤ s.ret.localCap ∧ (s.capInEffect = s.ret.localCap ∨ ∃ b ∈ s.causeway.budgets, s.capInEffect = b.cap) ∧ ∀ b ∈ s.causeway.budgets, s.capInEffect ≤ b.cap)

/-! ### Power, dies, faults, lifecycle -/

/-- The loops (R532-R538, R542, R549): a die's request moves by the steps of R533 and R538 and its setpoint is the least of its three
requests within 0.60 to 0.85 V; the thermal ceiling follows R535; a governor that does not run changes nothing; G0's measurement
stands, and no share leaves the budget: the online dies' allocations together stay within the cap in effect less the hub's power. -/
def Obligations.LoopsSetTheRails : Prop :=
  ∀ s : State, s.fabric.dies.length = 12 →
    (∀ (die : Fin 12) (w : Nat), let d := s.fabric.die die.val
      ((s.governor (die.val + 1)).state = .running → d.online = true → d.vfabOn = true →
        ∃ t, exec (.vfabSetpointStep die w) s = .next t ∧ (∀ k, k ≠ die.val → t.fabric.die k = s.fabric.die k) ∧
          (let e := t.fabric.die die.val
           e.setpoint = max 600 (min (min e.slack (min e.thermal e.power)) 850) ∧ e.thermal = d.thermal ∧ e.powerW = w ∧
           e.allocation = d.allocation ∧
           (d.allocation < w * 1000 → e.power = max 600 (min (d.power - 10) 850)) ∧
           (w * 100000 < d.allocation * 98 → e.power = max 600 (min (d.power + 5) 850)) ∧
           (w * 1000 ≤ d.allocation → d.allocation * 98 ≤ w * 100000 → e.power = d.power) ∧
           (s.fabric.planDie die.val = false → e.slack = s.ret.idleSetpoint) ∧
           (∀ p, s.fabric.plan = some p → s.fabric.planDie die.val = true →
             let target := p.cert.minFloor * (1000 + s.ret.margin) * (1000 + s.ret.headroom)
             (d.rate * 1000000 < target → d.slack ≤ d.setpoint → e.slack = d.slack + 5) ∧
             (d.rate * 1000000 < target → d.setpoint < d.slack → e.slack = d.slack) ∧
             (target * 102 < d.rate * 100000000 → e.slack = d.slack - 1) ∧
             (target ≤ d.rate * 1000000 → d.rate * 100000000 ≤ target * 102 → e.slack = d.slack))) ∧
          t.host = s.host ∧ t.ret = s.ret) ∧
      ((s.governor (die.val + 1)).state = .running → d.online = true →
        ∃ t, exec (.thermalLoopStep die) s = .next t ∧ (∀ k, k ≠ die.val → t.fabric.die k = s.fabric.die k) ∧
          (95000 ≤ d.temperature → (t.fabric.die die.val).thermal = 600) ∧
          (∀ n : Nat, 0 < n → (s.ret.thermalTarget : Int) * 1000 + ((n : Int) - 1) * 1000 < d.temperature →
            d.temperature ≤ (s.ret.thermalTarget : Int) * 1000 + (n : Int) * 1000 → d.temperature < 95000 →
            (t.fabric.die die.val).thermal = max 600 (min (d.thermal - 5 * n) 850)) ∧
          (d.temperature < (s.ret.thermalTarget : Int) * 1000 - 1000 → d.temperature < 95000 →
            (t.fabric.die die.val).thermal = max 600 (min (d.thermal + 2) 850)) ∧
          t.start = s.start) ∧
      ((s.governor (die.val + 1)).state ≠ .running →
        exec (.vfabSetpointStep die w) s = .next s ∧ exec (.thermalLoopStep die) s = .next s)) ∧
    (∀ (m h : Nat) (dw : List Nat), (s.governor 0).state = .running → s.up = true →
      ∃ t, exec (.powerCapStep m h dw) s = .next t ∧ t.power.moduleW = m ∧ t.power.hubW = h ∧
        (∀ n, n < 12 → (t.fabric.die n).powerW = dw.getD n 0 ∧ (t.fabric.die n).setpoint = (s.fabric.die n).setpoint) ∧
        ((t.fabric.dies.filter (·.online)).map (·.allocation)).sum ≤ (s.capInEffect - h) * 1000)

/-- Watchdogs and backstops (R543, R546, R573, R574, R576, R577): after 2 ms without a command a firing revokes the bus, counts and leaves the governor RESTARTING, or
FAILED at the third within 60 s; a restart is recorded with its delay; two valid sensors at
105 degrees, 1 ms beyond a fold-back and a failed governor take the die offline with its supplies, its records and its port, and nothing
short of them does; a fold-back only counts; the hub's trip is a loss of MAIN. -/
def Obligations.BackstopsAct : Prop :=
  ∀ s : State, s.shapes →
    (∀ (g : Fin 13) (eq : Bool), (s.governor g.val).state = .running → s.start.step12 = true →
      (s.clock.count < (s.governor g.val).commandAt + 2000000 → exec (.watchdogFire g eq) s = .next s) ∧
      ((s.governor g.val).commandAt + 2000000 ≤ s.clock.count →
      ∃ t, exec (.watchdogFire g eq) s = .next t ∧
        ((recentFirings (s.governor g.val) s.clock.count).length < 3 → (t.governor g.val).state = .restarting) ∧
        (3 ≤ (recentFirings (s.governor g.val) s.clock.count).length → (t.governor g.val).state = .failed) ∧
        (∀ k, k ≠ g.val → t.governor k = s.governor k) ∧ t.ret.firings = bumpAt s.ret.firings g.val ∧
        t.faults.leaseEnds = bumpAt s.faults.leaseEnds 0 ∧ t.fabric = s.fabric ∧ t.measure.mrs = s.measure.mrs)) ∧
    (∀ g : Fin 13, (s.governor g.val).state = .restarting →
      ∃ t, exec (.governorRestart g) s = .next t ∧ (t.governor g.val).state = .running ∧ (∀ k, k ≠ g.val → t.governor k = s.governor k) ∧
        t.faults = s.faults.record { code := 5, unit := g.val, a := (s.clock.count - (s.governor g.val).firedAt) / 1000,
                                     b := if (s.governor g.val).copied then 1 else 0, time := s.now } ∧ t.fabric = s.fabric) ∧
    (∀ die : Fin 12, (s.fabric.die die.val).online = true →
      (tripped (s.fabric.die die.val).sensors = true →
        ∃ t, exec (.dieThermalTrip die) s = .next t ∧ s.dieGone t die.val ∧ t.ret.trips = bumpAt s.ret.trips die.val) ∧
      (tripped (s.fabric.die die.val).sensors = false → exec (.dieThermalTrip die) s = .next s) ∧
      (∀ f, (s.fabric.die die.val).foldedAt = some f →
        (f + 1000000 ≤ s.clock.count →
          ∃ t, exec (.vfabOvercurrentOff die) s = .next t ∧ s.dieGone t die.val ∧ t.ret.trips = bumpAt s.ret.trips die.val) ∧
        (s.clock.count < f + 1000000 → exec (.vfabOvercurrentOff die) s = .next s)) ∧
      ((s.fabric.die die.val).foldedAt = none → exec (.vfabOvercurrentOff die) s = .next s) ∧
      ((s.governor (die.val + 1)).state = .failed → s.fabric.tide = none →
        ∃ t, exec (.dieOffline die) s = .next t ∧ s.dieGone t die.val ∧ t.ret.trips = s.ret.trips)) ∧
    (∀ die : Fin 12, ∃ t, exec (.vfabCurrentLimit die) s = .next t ∧
      t.fabric.die die.val = { s.fabric.die die.val with
        foldbacks := bump (s.fabric.die die.val).foldbacks, foldedAt := some s.clock.count } ∧ (∀ k, k ≠ die.val → t.fabric.die k = s.fabric.die k) ∧
      t = { s with fabric := { s.fabric with dies := t.fabric.dies } }) ∧
    (∀ l : List Int, tripped l = true ↔ 2 ≤ (l.filter fun x => sensorValid l x && decide (105000 ≤ x)).length) ∧
    (s.pins.vhub = true → tripped s.monitors.hubSensors = true → s.resettable = true → cleanStart s.silicon → s.otp.serviceable →
      ∃ t, exec .hubThermalTrip s = .next t ∧ t.atStandby ∧ s.keptOver t ∧ t.ret.trips = bumpAt s.ret.trips 12)

/-- Core faults and swaps (R41-R43, R47, R264, R568, R569, R572): a fault voids the tide of the core's streams and makes a swap due while a
spare is left, in ascending logical index; at a boundary, with the governor running, the lowest spare takes the lowest index due, the
faulty core reads RETIRED and the generation moves; the highest index due without a spare is RETIRED, its streams HALTED. -/
def Obligations.CoresAreSwapped : Prop :=
  ∀ s : State, s.shapes →
    (∀ core : Fin 1200,
      let n := dieOf core.val
      let i := core.val % 100
      let d := s.fabric.die n
      let due := d.awaiting i
      d.online = true → d.swaps.contains i = false → d.swaps.Pairwise (· ≤ ·) →
      due.Pairwise (· ≤ ·) ∧ due.Perm (i :: d.swaps) ∧
      (d.swaps.length < (s.ret.spares n).length →
        ∃ t, exec (.coreFault core) s = .next t ∧ (t.fabric.die n).swaps = due ∧ t.ret = s.ret ∧
          t.fabric.halted = s.fabric.halted ∧ t.measure = s.measure ∧
          (∀ x, s.fabric.tide = some x → ∃ y, t.fabric.tide = some y ∧ y.no = x.no ∧
            ∀ st ∈ s.fabric.streamsOfCore core.val, st < 64 → inMask y.voided st = true)) ∧
      ((s.ret.spares n).length ≤ d.swaps.length →
        ∃ t k, exec (.coreFault core) s = .next t ∧ due = (t.fabric.die n).swaps ++ [k] ∧
          t.ret.stateOf n (s.ret.physOf (100 * n + k)) = 2 ∧ t.ret.generation = s.ret.generation ∧
          ∀ st ∈ s.fabric.streamsOfCore (100 * n + k), st < 64 → inMask t.fabric.halted st = true)) ∧
    (∀ (die : Fin 12) (i sp : Nat) (l m : List Nat), s.fabric.tide = none → (s.governor (die.val + 1)).state = .running →
      (s.fabric.die die.val).online = true → (s.fabric.die die.val).swaps = i :: l → s.ret.spares die.val = sp :: m → i < 100 → 100 ≤ sp →
      s.ret.physOf (100 * die.val + i) ≠ sp →
      ∃ t, exec (.coreSwap die) s = .next t ∧ t.ret.physOf (100 * die.val + i) = sp ∧ t.ret.stateOf die.val sp = 0 ∧
        t.ret.stateOf die.val (s.ret.physOf (100 * die.val + i)) = 2 ∧ t.ret.generation = bump32 s.ret.generation ∧
        (t.fabric.die die.val).swaps = l ∧ (∀ k, k ≠ 100 * die.val + i → t.fabric.core k = s.fabric.core k) ∧ t.host = s.host) ∧
    (∀ die : Fin 12, s.fabric.tide.isSome = true → exec (.coreSwap die) s = .next s)

/-- HBM errors and the record queue (R578, R580, R595-R597): an uncorrectable read marks its line, counts, and is recorded at most once per
stack per second with the count since the last record; the oldest record is extended into MR14 and leaves the queue; a cleared
extension is issued again. -/
def Obligations.FaultsAreRecorded : Prop :=
  ∀ s : State, s.Inv →
    (∀ (n : Fin 12) (line : Nat), line < 2 ^ 29 →
      ∃ t, exec (.hbmUncorrectableRead n line) s = .next t ∧
        (SMap.get {} t.fabric.hbm (hbmKey n.val line)).poisoned = true ∧
        (SMap.get {} t.fabric.hbm (hbmKey n.val line)).data = (SMap.get {} s.fabric.hbm (hbmKey n.val line)).data ∧
        (∀ k, k ≠ hbmKey n.val line → SMap.get {} t.fabric.hbm k = SMap.get {} s.fabric.hbm k) ∧
        t.ret.poison = bumpAt s.ret.poison n.val ∧
        (∀ k, s.faults.poisonAt.getD n.val none = some k → s.clock.count < k + 1000000000 → t.faults.queue = s.faults.queue) ∧
        (s.faults.poisonAt.getD n.val none = none → s.faults.overflow = none → s.faults.queue.length < 64 →
          ∃ r, t.faults.queue = s.faults.queue ++ [r] ∧ r.code = 0x0E ∧ r.unit = n.val ∧
            r.b = s.faults.poisonSince.getD n.val 0 + 1 ∧ r.time = s.now)) ∧
    (∀ r l, s.faults.queue = r :: l →
      (s.faults.overflow = none →
        ∃ t, exec (.faultRecordExtend false) s = .next t ∧ t.faults.queue = l ∧ t.mr 14 = extendValue (s.mr 14) r.bytes ∧
          (∀ k, k ≠ 14 → t.mr k = s.mr k) ∧ t.faults.extended = bump s.faults.extended ∧ t.ret.lastFault = some r) ∧
      (∀ n m, s.faults.overflow = some (n, m) →
        ∃ t, exec (.faultRecordExtend false) s = .next t ∧ t.faults.overflow = none ∧
          t.faults.queue = l ++ [{ code := 0x1F, a := n, b := m % 2 ^ 32, time := s.now }]) ∧
      exec (.faultRecordExtend true) s = .next s)

/-- Lifecycle commands (R555, R556, R565): a Custodian stages step 2 or 3; an Auditor's confirmation of the same step within 60 s, in
READY and with no session, takes it for good, and the device starts again; any other gives its code and blows nothing. -/
def Obligations.LifecycleTakesTwo : Prop :=
  ∀ (s : State) (ch : Channel) (v : Byte), cleanStart s.silicon → s.otp.lifecycle.sound = true →
    (s.accepts ch 0x2003 2 .cust →
      (v = 2 ∨ v = 3 → ∃ t, exec (.lifecycleStage ch v) s = .next t ∧ t.faults.lifecycleStaged = some (v.toNat, s.clock.count) ∧
        t.otp = s.otp ∧ t.od = s.od) ∧
      (v ≠ 2 → v ≠ 3 → exec (.lifecycleStage ch v) s = .next ((s.touch ch).ignoreWrite 0x2003 2))) ∧
    (s.accepts ch 0x2003 3 .aud →
      (s.lifecycleVerdict v.toNat true = 0 → s.start.power = .ready ∧ s.od.session = 0 ∧ s.otp.lifecycleCode < v.toNat ∧
        ∃ t, exec (.lifecycleConfirm ch v true) s = .next t ∧ t.otp.lifecycleCode = v.toNat ∧ s.otp.grownTo t.otp ∧ t.clock = s.clock ∧
          t.start.power ≠ .ready) ∧
      (∀ b, s.lifecycleVerdict v.toNat b ≠ 0 →
        ∃ t, exec (.lifecycleConfirm ch v b) s = .next t ∧ t.otp = s.otp ∧ t.start = s.start ∧
          t.keys.lastCommand = s.lifecycleVerdict v.toNat b))

/-! ### The test access port -/

/-- The test access port (R554, R563, R613, R614): from START onward each instruction selects its register and says whether the outputs
follow the device, the boundary register or neither; a private instruction reaches inside only under a debug condition and reads
zero otherwise; before START nothing answers. Nothing but the port changes. -/
def Obligations.TheTapSelects : Prop :=
  ∀ s : State,
    (s.tapUp = true →
      (∃ t, exec .bypass s = .next t ∧ s.onlyTap t ∧ t.tap.instr = .bypass ∧ t.tap.data = 0 ∧ t.tap.driving = false ∧ t.tap.highZ = false) ∧
      (∃ t, exec .idcode s = .next t ∧ s.onlyTap t ∧ t.tap.instr = .idcode ∧ t.tap.data = Config.idcode ∧ t.tap.driving = false ∧
        t.tap.highZ = false) ∧
      (∀ b, ∃ t, exec (.samplePreload b) s = .next t ∧ s.onlyTap t ∧ t.tap.boundary = b ∧
        t.tap.data = s.pins.capture.zeroExtend 32 ∧ t.tap.driving = false ∧ t.tap.highZ = false) ∧
      (∃ t, exec .extest s = .next t ∧ s.onlyTap t ∧ t.tap.driving = true ∧ t.tap.boundary = s.tap.boundary ∧
        t.tap.data = s.pins.capture.zeroExtend 32) ∧
      (∃ t, exec .clamp s = .next t ∧ s.onlyTap t ∧ t.tap.driving = true ∧ t.tap.boundary = s.tap.boundary ∧ t.tap.data = 0) ∧
      (∃ t, exec .highz s = .next t ∧ s.onlyTap t ∧ t.tap.highZ = true ∧ t.tap.driving = false ∧ t.tap.data = 0) ∧
      (∀ c, s.start.condition.debugClass = false →
        ∃ t, exec (.tapPrivateInstruction c) s = .next t ∧ s.onlyTap t ∧ t.tap.debugReach = false ∧ t.tap.data = 0) ∧
      (∀ c, s.start.condition.debugClass = true → s.up = true →
        ∃ t, exec (.tapPrivateInstruction c) s = .next t ∧ s.onlyTap t ∧ t.tap.debugReach = true ∧ t.tap.instr = .privateInstr c)) ∧
    (s.tapUp = false → exec .bypass s = .next s ∧ exec .idcode s = .next s ∧ exec .extest s = .next s ∧ exec .clamp s = .next s ∧
      exec .highz s = .next s)

/-! ### The block -/

/-- A step carries out the command at the front of the queue with the queue's rest; with none waiting one nanosecond passes and
the queue stays empty (log 4: the model's choice of the idle step). -/
def Obligations.StepRunsFrontCommand : Prop :=
  (∀ (c : Instr) (s : State), step { s with pending := c :: s.pending } = exec c s) ∧
  ∀ s : State, s.pending = [] → ∃ t, step s = .next t ∧ t.pending = [] ∧ t.otp = s.otp ∧ t.hostMem = s.hostMem ∧
    t = { s with
      clock := t.clock, pins := t.pins, straits := t.straits, ret := { s.ret with regions := t.ret.regions }, power := t.power
      monitors := t.monitors } ∧
    ((s.clock.count + 1) % 1000000 ≠ 0 → t.ret = s.ret) ∧
    t.clock.count = s.clock.count + (if s.pins.stby then 1 else 0)

/-- Reset (R530, R606, R607 and the object tables): the part is OFF, no command waits, nothing is written to host memory, every RETAINED
object is at its default, the lifecycle is PROVISIONED (log 5), and the form that every step keeps holds. -/
def Obligations.ResetState : Prop :=
  State.reset.start.power = .off ∧ State.reset.pending = [] ∧ State.reset.hostMem = [] ∧ State.reset.ret = {} ∧
    State.reset.pins.presentLow = false ∧ State.reset.pins.rotStatus = 0 ∧ State.reset.otp.lifecycleCode = 1 ∧
    State.reset.otp.drsRevoked = false ∧ State.reset.Inv

/-- The form of the state (every fixed list at its length, every map and host memory canonical) is kept by every step of every
command. -/
def Obligations.StepKeepsForm : Prop :=
  ∀ s t : State, s.Inv → step s = .next t → t.Inv

/-- What test and factory fuse for good never changes, and no fuse thermometer is ever undone (04, "The OTP store"): over every
command in every state. -/
def Obligations.FusesOnlyGrow : Prop :=
  ∀ s t : State, step s = .next t → t.identityFuses = s.identityFuses ∧ s.otp.grownTo t.otp
end

