-- ==== Sys2Proof/Laws/Maps.lean ====
section
/-! SUPPORT. The laws of sparse maps and of host memory: a read after a write, every other key as before, and the canonical form
kept by every operation. -/

namespace Sys2Proof.Machine

variable {α : Type}

/-! ### Reads after writes -/

@[simp] theorem SMap.get_nil (d : α) (i : Nat) : SMap.get d [] i = d := rfl

theorem SMap.get_cons (d : α) (k : Nat) (v : α) (m : SMap α) (i : Nat) :
    SMap.get d ((k, v) :: m) i = if k = i then v else SMap.get d m i := rfl

theorem SMap.get_insert (d : α) (m : SMap α) (i : Nat) (x : α) (j : Nat) :
    SMap.get d (SMap.insert m i x) j = if i = j then x else SMap.get d m j := by
  induction m with
  | nil => rfl
  | cons e m ih =>
    obtain ⟨k, v⟩ := e
    simp only [SMap.insert]
    split
    · simp only [SMap.get_cons]
    · split
      · rename_i h; subst h; simp only [SMap.get_cons]; split <;> rfl
      · rename_i h; simp only [SMap.get_cons, ih]
        split
        · rename_i h'; subst h'; rw [if_neg (Ne.symm h)]
        · rfl

theorem SMap.get_erase_ne (d : α) (m : SMap α) {i j : Nat} (h : i ≠ j) : SMap.get d (SMap.erase m i) j = SMap.get d m j := by
  induction m with
  | nil => rfl
  | cons e m ih =>
    obtain ⟨k, v⟩ := e
    simp only [SMap.erase]
    split
    · rename_i hk; subst hk; simp only [SMap.get_cons, if_neg h]
    · simp only [SMap.get_cons, ih]

variable [DecidableEq α]

/-- Below the bound of a canonical map every key reads the default. -/
theorem SMap.get_low (d : α) (m : SMap α) (lo i : Nat) (hw : SMap.wfFrom d (some lo) m = true) (hi : i ≤ lo) :
    SMap.get d m i = d := by
  induction m generalizing lo with
  | nil => rfl
  | cons e m ih =>
    obtain ⟨k, v⟩ := e
    simp only [SMap.wfFrom, Bool.and_eq_true, decide_eq_true_eq] at hw
    rw [SMap.get_cons, if_neg (by omega)]
    exact ih k hw.2 (by omega)

theorem SMap.wfFrom_weaken (d : α) (m : SMap α) (lo lo' : Nat) (h : lo' ≤ lo) (hw : SMap.wfFrom d (some lo) m = true) :
    SMap.wfFrom d (some lo') m = true := by
  cases m with
  | nil => rfl
  | cons e m =>
    simp only [SMap.wfFrom, Bool.and_eq_true, decide_eq_true_eq] at hw ⊢
    exact ⟨⟨by omega, hw.1.2⟩, hw.2⟩

theorem SMap.wf_of_wfFrom (d : α) (m : SMap α) (lo : Option Nat) (hw : SMap.wfFrom d lo m = true) : SMap.wf d m = true := by
  cases m with
  | nil => rfl
  | cons e m =>
    simp only [SMap.wf, SMap.wfFrom, Bool.and_eq_true] at hw ⊢
    exact ⟨⟨trivial, hw.1.2⟩, hw.2⟩

theorem SMap.get_erase_same (d : α) (m : SMap α) (lo : Option Nat) (i : Nat) (hw : SMap.wfFrom d lo m = true) :
    SMap.get d (SMap.erase m i) i = d := by
  induction m generalizing lo with
  | nil => rfl
  | cons e m ih =>
    obtain ⟨k, v⟩ := e
    simp only [SMap.wfFrom, Bool.and_eq_true] at hw
    simp only [SMap.erase]
    split
    · rename_i hk; subst hk; exact SMap.get_low d m k k hw.2 (Nat.le_refl k)
    · rename_i hk; rw [SMap.get_cons, if_neg hk]; exact ih (some k) hw.2

/-- A written key reads as written, every other key as before. -/
theorem SMap.get_set (d : α) (m : SMap α) (i : Nat) (x : α) (j : Nat) (hw : SMap.wf d m = true) :
    SMap.get d (SMap.set d m i x) j = if i = j then x else SMap.get d m j := by
  unfold SMap.set
  split
  · rename_i hx
    by_cases h : i = j
    · subst h; rw [if_pos rfl, hx]; exact SMap.get_erase_same d m none i hw
    · rw [if_neg h]; exact SMap.get_erase_ne d m h
  · exact SMap.get_insert d m i x j

theorem SMap.get_set_same (d : α) (m : SMap α) (i : Nat) (x : α) (hw : SMap.wf d m = true) :
    SMap.get d (SMap.set d m i x) i = x := by rw [SMap.get_set d m i x i hw, if_pos rfl]

theorem SMap.get_set_ne (d : α) (m : SMap α) {i j : Nat} (x : α) (h : j ≠ i) :
    SMap.get d (SMap.set d m i x) j = SMap.get d m j := by
  unfold SMap.set
  split
  · exact SMap.get_erase_ne d m (Ne.symm h)
  · rw [SMap.get_insert, if_neg (Ne.symm h)]

theorem SMap.get_modify (d : α) (m : SMap α) (i : Nat) (f : α → α) (j : Nat) (hw : SMap.wf d m = true) :
    SMap.get d (SMap.modify d m i f) j = if i = j then f (SMap.get d m i) else SMap.get d m j := SMap.get_set d m i _ j hw

theorem SMap.get_modify_ne (d : α) (m : SMap α) {i j : Nat} (f : α → α) (h : j ≠ i) :
    SMap.get d (SMap.modify d m i f) j = SMap.get d m j := SMap.get_set_ne d m _ h

theorem SMap.get_setMany_out (d : α) (xs : List α) (m : SMap α) (i j : Nat) (h : j < i ∨ i + xs.length ≤ j) :
    SMap.get d (SMap.setMany d m i xs) j = SMap.get d m j := by
  induction xs generalizing m i with
  | nil => rfl
  | cons x xs ih =>
    simp only [List.length_cons] at h
    rw [SMap.setMany, ih _ _ (by omega), SMap.get_set_ne d m x (by omega)]

/-! ### The canonical form -/

theorem below_bound (lo : Option Nat) (i : Nat) :
    (∀ l, lo = some l → l < i) → (match lo with | none => true | some l => decide (l < i)) = true := by
  intro h; cases lo with
  | none => rfl
  | some l => exact decide_eq_true (h l rfl)

theorem SMap.wfFrom_insert (d : α) (m : SMap α) (lo : Option Nat) (i : Nat) (x : α) (hx : x ≠ d)
    (hlo : ∀ l, lo = some l → l < i) (hw : SMap.wfFrom d lo m = true) : SMap.wfFrom d lo (SMap.insert m i x) = true := by
  induction m generalizing lo with
  | nil => cases lo <;> simp_all [SMap.insert, SMap.wfFrom]
  | cons e m ih =>
    obtain ⟨k, v⟩ := e
    have hi := below_bound lo i hlo
    simp only [SMap.wfFrom, Bool.and_eq_true] at hw
    simp only [SMap.insert]
    split
    · rename_i hik
      simp only [SMap.wfFrom, Bool.and_eq_true, decide_eq_true_eq]
      exact ⟨⟨hi, hx⟩, ⟨hik, by simpa using hw.1.2⟩, hw.2⟩
    · split
      · rename_i hk; subst hk
        simp only [SMap.wfFrom, Bool.and_eq_true, decide_eq_true_eq]
        exact ⟨⟨hi, hx⟩, hw.2⟩
      · simp only [SMap.wfFrom, Bool.and_eq_true]
        refine ⟨⟨hw.1.1, hw.1.2⟩, ih (some k) ?_ hw.2⟩
        intro l hl; injection hl; omega

theorem SMap.wfFrom_erase (d : α) (m : SMap α) (lo : Option Nat) (i : Nat) (hw : SMap.wfFrom d lo m = true) :
    SMap.wfFrom d lo (SMap.erase m i) = true := by
  induction m generalizing lo with
  | nil => exact hw
  | cons e m ih =>
    obtain ⟨k, v⟩ := e
    simp only [SMap.wfFrom, Bool.and_eq_true] at hw
    simp only [SMap.erase]
    split
    · cases lo with
      | none => exact SMap.wf_of_wfFrom d m _ hw.2
      | some l => exact SMap.wfFrom_weaken d m k l (by simpa using Nat.le_of_lt (by simpa using hw.1.1)) hw.2
    · simp only [SMap.wfFrom, Bool.and_eq_true]
      exact ⟨hw.1, ih (some k) hw.2⟩

theorem SMap.wf_set (d : α) (m : SMap α) (i : Nat) (x : α) (hw : SMap.wf d m = true) : SMap.wf d (SMap.set d m i x) = true := by
  unfold SMap.set
  split
  · exact SMap.wfFrom_erase d m none i hw
  · rename_i hx; exact SMap.wfFrom_insert d m none i x hx (by intro l h; cases h) hw

theorem SMap.wf_modify (d : α) (m : SMap α) (i : Nat) (f : α → α) (hw : SMap.wf d m = true) :
    SMap.wf d (SMap.modify d m i f) = true := SMap.wf_set d m i _ hw

theorem SMap.wf_setMany (d : α) (xs : List α) (m : SMap α) (i : Nat) (hw : SMap.wf d m = true) :
    SMap.wf d (SMap.setMany d m i xs) = true := by
  induction xs generalizing m i with
  | nil => exact hw
  | cons x xs ih => exact ih _ _ (SMap.wf_set d m i x hw)

/-! ### Host memory -/

theorem readByte_storeByte (m : List Host.Cell) (a : Nat) (b : Byte) (c : Nat) :
    readByte (storeByte m a b) c = if a = c then some b else readByte m c := by
  induction m with
  | nil => rfl
  | cons e m ih =>
    obtain ⟨k, v⟩ := e
    simp only [storeByte]
    split
    · simp only [readByte]
    · split
      · rename_i h; subst h; simp only [readByte]; split <;> rfl
      · rename_i h; simp only [readByte, ih]
        split
        · rename_i h'; subst h'; rw [if_neg (Ne.symm h)]
        · rfl

theorem readByte_storeBytes_out (bs : Bytes) (m : List Host.Cell) (a c : Nat) (h : c < a ∨ a + bs.length ≤ c) :
    readByte (storeBytes m a bs) c = readByte m c := by
  induction bs generalizing m a with
  | nil => rfl
  | cons b bs ih =>
    simp only [List.length_cons] at h
    rw [storeBytes, ih _ _ (by omega), readByte_storeByte, if_neg (by omega)]

/-- Stored bytes read back (R320, R321, R389). -/
theorem readByte_storeBytes_in (bs : Bytes) (m : List Host.Cell) (a i : Nat) (h : i < bs.length) :
    readByte (storeBytes m a bs) (a + i) = bs[i]? := by
  induction bs generalizing m a i with
  | nil => simp at h
  | cons b bs ih =>
    cases i with
    | zero => rw [storeBytes, readByte_storeBytes_out _ _ _ _ (by omega), readByte_storeByte]; simp
    | succ i =>
      have := ih (storeByte m a b) (a + 1) i (by simpa using h)
      rw [storeBytes, show a + (i + 1) = a + 1 + i by omega, this]; simp

theorem Memory.wfFrom_storeByte (m : List Host.Cell) (lo : Option Nat) (a : Nat) (b : Byte)
    (hlo : ∀ l, lo = some l → l < a) (hw : Memory.wfFrom lo m = true) : Memory.wfFrom lo (storeByte m a b) = true := by
  induction m generalizing lo with
  | nil => cases lo <;> simp_all [storeByte, Memory.wfFrom]
  | cons e m ih =>
    obtain ⟨k, v⟩ := e
    have hi := below_bound lo a hlo
    simp only [Memory.wfFrom, Bool.and_eq_true] at hw
    simp only [storeByte]
    split
    · rename_i hak
      simp only [Memory.wfFrom, Bool.and_eq_true, decide_eq_true_eq]
      exact ⟨hi, hak, hw.2⟩
    · split
      · rename_i hk; subst hk
        simp only [Memory.wfFrom, Bool.and_eq_true]
        exact ⟨hi, hw.2⟩
      · simp only [Memory.wfFrom, Bool.and_eq_true]
        refine ⟨hw.1, ih (some k) ?_ hw.2⟩
        intro l hl; injection hl; omega

/-- Every write keeps host memory in its canonical form. -/
theorem Memory.wf_storeByte (m : List Host.Cell) (a : Nat) (b : Byte) (hw : Memory.wf m = true) :
    Memory.wf (storeByte m a b) = true := Memory.wfFrom_storeByte m none a b (by intro l h; cases h) hw

theorem Memory.wf_storeBytes (bs : Bytes) (m : List Host.Cell) (a : Nat) (hw : Memory.wf m = true) :
    Memory.wf (storeBytes m a bs) = true := by
  induction bs generalizing m a with
  | nil => exact hw
  | cons b bs ih => exact ih _ _ (Memory.wf_storeByte m a b hw)

end Sys2Proof.Machine
end

