-- ==== Sys2Proof/Laws/State.lean ====
section
/-! SUPPORT. What each named update of the state leaves and what it writes, one lemma per field, so that no proof unfolds a record
update. -/

namespace Sys2Proof.Machine

/-! ### What an update writes -/

@[simp] theorem State.sendFrame_causeway (s : State) (ftype : Nat) (body : Bytes) : (s.sendFrame ftype body).causeway = { s.causeway with lastFrame := some (ftype, body) } := rfl
@[simp] theorem State.refuseSetup_causeway (s : State) (code : Nat) : (s.refuseSetup code).causeway = { s.causeway with refused := bump s.causeway.refused, lastRefusal := code } := rfl
@[simp] theorem State.discardFrame_causeway (s : State) : s.discardFrame.causeway = { s.causeway with discarded := bump s.causeway.discarded } := rfl
@[simp] theorem State.modJob_engines (s : State) (j : Nat) (f : JobChannel → JobChannel) : (s.modJob j f).engines = { s.engines with jobs := modifyAt s.engines.jobs j f } := rfl
@[simp] theorem State.dropKey_keys (s : State) (n : KeyName) : (s.dropKey n).keys = { s.keys with store := SMap.set none s.keys.store n.index none } := rfl
@[simp] theorem State.loadCode_hosting (s : State) (code : Nat) : (s.loadCode code).hosting = { s.hosting with loadResult := code } := rfl
@[simp] theorem State.regionCode_hosting (s : State) (code : Nat) : (s.regionCode code).hosting = { s.hosting with regionResult := code } := rfl
@[simp] theorem State.keyCommand_keys (s : State) (code : Nat) : (s.keyCommand code).keys = { s.keys with lastCommand := code } := rfl
@[simp] theorem State.countLease_faults (s : State) (k : Nat) : (s.countLease k).faults = { s.faults with leaseEnds := bumpAt s.faults.leaseEnds k } := rfl
@[simp] theorem State.setOpen_od (s : State) (ch : Channel) (t : Option OpenTransfer) : (s.setOpen ch t).od = s.od.setChannel ch fun c => { c with opened := t } := rfl
@[simp] theorem State.endTransferOn_od (s : State) (ch : Channel) : (s.endTransferOn ch).od = s.od.closeTransfer (channelIndex ch) := rfl
@[simp] theorem State.putResponse_od (s : State) (ch : Channel) (r : TuResponse) : (s.putResponse ch r).od = s.od.setChannel ch fun c => { c with response := some r } := rfl
@[simp] theorem State.setRet_ret (s : State) (r : Retained) : (s.setRet r).ret = r := rfl
@[simp] theorem State.drawn_draws (s : State) : s.drawn.draws = s.draws + 1 := rfl
@[simp] theorem State.extendMr_measure (s : State) (r : Nat) (data : Bytes) : (s.extendMr r data).measure = s.measure.extend r data := rfl
@[simp] theorem State.fault_faults (s : State) (r : FaultRec) : (s.fault r).faults = s.faults.record r := rfl
@[simp] theorem State.refusePlan_fabric (s : State) (code : Nat) : (s.refusePlan code).fabric = { s.fabric with refusal := code, refused := bump s.fabric.refused, staged := none } := rfl
@[simp] theorem State.countTee_ret (s : State) : s.countTee.ret = { s.ret with teeRefused := bump s.ret.teeRefused } := rfl
@[simp] theorem State.ignoreWrite_od (s : State) (index sub : Nat) : (s.ignoreWrite index sub).od = { s.od with ignored := bump s.od.ignored, lastIgnored := (index, sub, s.now) } := rfl
@[simp] theorem State.sessionCode_od (s : State) (code : Nat) : (s.sessionCode code).od = { s.od with lastCommand := code } := rfl
@[simp] theorem State.refuseImage_shoal (s : State) (code : Nat) : (s.refuseImage code).shoal = { s.shoal with load := none, loadResult := code } := rfl
@[simp] theorem State.respond_hosting (s : State) (code : Nat) (body : Bytes) : (s.respond code body).hosting = { s.hosting with response := some (code, body) } := rfl
@[simp] theorem State.modSession_hosting (s : State) (i : Nat) (f : SpdmSession → SpdmSession) : (s.modSession i f).hosting = { s.hosting with sessions := modifyAt s.hosting.sessions i f } := rfl
@[simp] theorem State.modPort_straits (s : State) (p : Nat) (f : Port → Port) : (s.modPort p f).straits = { s.straits with ports := modifyAt s.straits.ports p f } := rfl
@[simp] theorem State.countLate_straits (s : State) : s.countLate.straits = { s.straits with lateMarks := bump s.straits.lateMarks } := rfl

/-! ### What an update leaves -/

@[simp] theorem State.refuseSet_pending (s : State) (code : Nat) : (s.refuseSet code).pending = s.pending := rfl
@[simp] theorem State.refuseSet_otp (s : State) (code : Nat) : (s.refuseSet code).otp = s.otp := rfl
@[simp] theorem State.refuseSet_silicon (s : State) (code : Nat) : (s.refuseSet code).silicon = s.silicon := rfl
@[simp] theorem State.refuseSet_pins (s : State) (code : Nat) : (s.refuseSet code).pins = s.pins := rfl
@[simp] theorem State.refuseSet_clock (s : State) (code : Nat) : (s.refuseSet code).clock = s.clock := rfl
@[simp] theorem State.refuseSet_keys (s : State) (code : Nat) : (s.refuseSet code).keys = s.keys := rfl
@[simp] theorem State.refuseSet_engines (s : State) (code : Nat) : (s.refuseSet code).engines = s.engines := rfl
@[simp] theorem State.refuseSet_monitors (s : State) (code : Nat) : (s.refuseSet code).monitors = s.monitors := rfl
@[simp] theorem State.refuseSet_fabric (s : State) (code : Nat) : (s.refuseSet code).fabric = s.fabric := rfl
@[simp] theorem State.refuseSet_host (s : State) (code : Nat) : (s.refuseSet code).host = s.host := rfl
@[simp] theorem State.refuseSet_shoal (s : State) (code : Nat) : (s.refuseSet code).shoal = s.shoal := rfl
@[simp] theorem State.refuseSet_measure (s : State) (code : Nat) : (s.refuseSet code).measure = s.measure := rfl
@[simp] theorem State.refuseSet_hosting (s : State) (code : Nat) : (s.refuseSet code).hosting = s.hosting := rfl
@[simp] theorem State.refuseSet_straits (s : State) (code : Nat) : (s.refuseSet code).straits = s.straits := rfl
@[simp] theorem State.refuseSet_time (s : State) (code : Nat) : (s.refuseSet code).time = s.time := rfl
@[simp] theorem State.refuseSet_od (s : State) (code : Nat) : (s.refuseSet code).od = s.od := rfl
@[simp] theorem State.refuseSet_power (s : State) (code : Nat) : (s.refuseSet code).power = s.power := rfl
@[simp] theorem State.refuseSet_faults (s : State) (code : Nat) : (s.refuseSet code).faults = s.faults := rfl
@[simp] theorem State.refuseSet_tap (s : State) (code : Nat) : (s.refuseSet code).tap = s.tap := rfl
@[simp] theorem State.refuseSet_hostMem (s : State) (code : Nat) : (s.refuseSet code).hostMem = s.hostMem := rfl
@[simp] theorem State.refuseSet_draws (s : State) (code : Nat) : (s.refuseSet code).draws = s.draws := rfl
@[simp] theorem State.sendFrame_pending (s : State) (ftype : Nat) (body : Bytes) : (s.sendFrame ftype body).pending = s.pending := rfl
@[simp] theorem State.sendFrame_otp (s : State) (ftype : Nat) (body : Bytes) : (s.sendFrame ftype body).otp = s.otp := rfl
@[simp] theorem State.sendFrame_ret (s : State) (ftype : Nat) (body : Bytes) : (s.sendFrame ftype body).ret = s.ret := rfl
@[simp] theorem State.sendFrame_silicon (s : State) (ftype : Nat) (body : Bytes) : (s.sendFrame ftype body).silicon = s.silicon := rfl
@[simp] theorem State.sendFrame_pins (s : State) (ftype : Nat) (body : Bytes) : (s.sendFrame ftype body).pins = s.pins := rfl
@[simp] theorem State.sendFrame_clock (s : State) (ftype : Nat) (body : Bytes) : (s.sendFrame ftype body).clock = s.clock := rfl
@[simp] theorem State.sendFrame_start (s : State) (ftype : Nat) (body : Bytes) : (s.sendFrame ftype body).start = s.start := rfl
@[simp] theorem State.sendFrame_keys (s : State) (ftype : Nat) (body : Bytes) : (s.sendFrame ftype body).keys = s.keys := rfl
@[simp] theorem State.sendFrame_engines (s : State) (ftype : Nat) (body : Bytes) : (s.sendFrame ftype body).engines = s.engines := rfl
@[simp] theorem State.sendFrame_monitors (s : State) (ftype : Nat) (body : Bytes) : (s.sendFrame ftype body).monitors = s.monitors := rfl
@[simp] theorem State.sendFrame_fabric (s : State) (ftype : Nat) (body : Bytes) : (s.sendFrame ftype body).fabric = s.fabric := rfl
@[simp] theorem State.sendFrame_host (s : State) (ftype : Nat) (body : Bytes) : (s.sendFrame ftype body).host = s.host := rfl
@[simp] theorem State.sendFrame_shoal (s : State) (ftype : Nat) (body : Bytes) : (s.sendFrame ftype body).shoal = s.shoal := rfl
@[simp] theorem State.sendFrame_measure (s : State) (ftype : Nat) (body : Bytes) : (s.sendFrame ftype body).measure = s.measure := rfl
@[simp] theorem State.sendFrame_hosting (s : State) (ftype : Nat) (body : Bytes) : (s.sendFrame ftype body).hosting = s.hosting := rfl
@[simp] theorem State.sendFrame_straits (s : State) (ftype : Nat) (body : Bytes) : (s.sendFrame ftype body).straits = s.straits := rfl
@[simp] theorem State.sendFrame_time (s : State) (ftype : Nat) (body : Bytes) : (s.sendFrame ftype body).time = s.time := rfl
@[simp] theorem State.sendFrame_od (s : State) (ftype : Nat) (body : Bytes) : (s.sendFrame ftype body).od = s.od := rfl
@[simp] theorem State.sendFrame_power (s : State) (ftype : Nat) (body : Bytes) : (s.sendFrame ftype body).power = s.power := rfl
@[simp] theorem State.sendFrame_faults (s : State) (ftype : Nat) (body : Bytes) : (s.sendFrame ftype body).faults = s.faults := rfl
@[simp] theorem State.sendFrame_tap (s : State) (ftype : Nat) (body : Bytes) : (s.sendFrame ftype body).tap = s.tap := rfl
@[simp] theorem State.sendFrame_hostMem (s : State) (ftype : Nat) (body : Bytes) : (s.sendFrame ftype body).hostMem = s.hostMem := rfl
@[simp] theorem State.sendFrame_draws (s : State) (ftype : Nat) (body : Bytes) : (s.sendFrame ftype body).draws = s.draws := rfl
@[simp] theorem State.refuseSetup_pending (s : State) (code : Nat) : (s.refuseSetup code).pending = s.pending := rfl
@[simp] theorem State.refuseSetup_otp (s : State) (code : Nat) : (s.refuseSetup code).otp = s.otp := rfl
@[simp] theorem State.refuseSetup_ret (s : State) (code : Nat) : (s.refuseSetup code).ret = s.ret := rfl
@[simp] theorem State.refuseSetup_silicon (s : State) (code : Nat) : (s.refuseSetup code).silicon = s.silicon := rfl
@[simp] theorem State.refuseSetup_pins (s : State) (code : Nat) : (s.refuseSetup code).pins = s.pins := rfl
@[simp] theorem State.refuseSetup_clock (s : State) (code : Nat) : (s.refuseSetup code).clock = s.clock := rfl
@[simp] theorem State.refuseSetup_start (s : State) (code : Nat) : (s.refuseSetup code).start = s.start := rfl
@[simp] theorem State.refuseSetup_keys (s : State) (code : Nat) : (s.refuseSetup code).keys = s.keys := rfl
@[simp] theorem State.refuseSetup_engines (s : State) (code : Nat) : (s.refuseSetup code).engines = s.engines := rfl
@[simp] theorem State.refuseSetup_monitors (s : State) (code : Nat) : (s.refuseSetup code).monitors = s.monitors := rfl
@[simp] theorem State.refuseSetup_fabric (s : State) (code : Nat) : (s.refuseSetup code).fabric = s.fabric := rfl
@[simp] theorem State.refuseSetup_host (s : State) (code : Nat) : (s.refuseSetup code).host = s.host := rfl
@[simp] theorem State.refuseSetup_shoal (s : State) (code : Nat) : (s.refuseSetup code).shoal = s.shoal := rfl
@[simp] theorem State.refuseSetup_measure (s : State) (code : Nat) : (s.refuseSetup code).measure = s.measure := rfl
@[simp] theorem State.refuseSetup_hosting (s : State) (code : Nat) : (s.refuseSetup code).hosting = s.hosting := rfl
@[simp] theorem State.refuseSetup_straits (s : State) (code : Nat) : (s.refuseSetup code).straits = s.straits := rfl
@[simp] theorem State.refuseSetup_time (s : State) (code : Nat) : (s.refuseSetup code).time = s.time := rfl
@[simp] theorem State.refuseSetup_od (s : State) (code : Nat) : (s.refuseSetup code).od = s.od := rfl
@[simp] theorem State.refuseSetup_power (s : State) (code : Nat) : (s.refuseSetup code).power = s.power := rfl
@[simp] theorem State.refuseSetup_faults (s : State) (code : Nat) : (s.refuseSetup code).faults = s.faults := rfl
@[simp] theorem State.refuseSetup_tap (s : State) (code : Nat) : (s.refuseSetup code).tap = s.tap := rfl
@[simp] theorem State.refuseSetup_hostMem (s : State) (code : Nat) : (s.refuseSetup code).hostMem = s.hostMem := rfl
@[simp] theorem State.refuseSetup_draws (s : State) (code : Nat) : (s.refuseSetup code).draws = s.draws := rfl
@[simp] theorem State.discardFrame_pending (s : State) : s.discardFrame.pending = s.pending := rfl
@[simp] theorem State.discardFrame_otp (s : State) : s.discardFrame.otp = s.otp := rfl
@[simp] theorem State.discardFrame_ret (s : State) : s.discardFrame.ret = s.ret := rfl
@[simp] theorem State.discardFrame_silicon (s : State) : s.discardFrame.silicon = s.silicon := rfl
@[simp] theorem State.discardFrame_pins (s : State) : s.discardFrame.pins = s.pins := rfl
@[simp] theorem State.discardFrame_clock (s : State) : s.discardFrame.clock = s.clock := rfl
@[simp] theorem State.discardFrame_start (s : State) : s.discardFrame.start = s.start := rfl
@[simp] theorem State.discardFrame_keys (s : State) : s.discardFrame.keys = s.keys := rfl
@[simp] theorem State.discardFrame_engines (s : State) : s.discardFrame.engines = s.engines := rfl
@[simp] theorem State.discardFrame_monitors (s : State) : s.discardFrame.monitors = s.monitors := rfl
@[simp] theorem State.discardFrame_fabric (s : State) : s.discardFrame.fabric = s.fabric := rfl
@[simp] theorem State.discardFrame_host (s : State) : s.discardFrame.host = s.host := rfl
@[simp] theorem State.discardFrame_shoal (s : State) : s.discardFrame.shoal = s.shoal := rfl
@[simp] theorem State.discardFrame_measure (s : State) : s.discardFrame.measure = s.measure := rfl
@[simp] theorem State.discardFrame_hosting (s : State) : s.discardFrame.hosting = s.hosting := rfl
@[simp] theorem State.discardFrame_straits (s : State) : s.discardFrame.straits = s.straits := rfl
@[simp] theorem State.discardFrame_time (s : State) : s.discardFrame.time = s.time := rfl
@[simp] theorem State.discardFrame_od (s : State) : s.discardFrame.od = s.od := rfl
@[simp] theorem State.discardFrame_power (s : State) : s.discardFrame.power = s.power := rfl
@[simp] theorem State.discardFrame_faults (s : State) : s.discardFrame.faults = s.faults := rfl
@[simp] theorem State.discardFrame_tap (s : State) : s.discardFrame.tap = s.tap := rfl
@[simp] theorem State.discardFrame_hostMem (s : State) : s.discardFrame.hostMem = s.hostMem := rfl
@[simp] theorem State.discardFrame_draws (s : State) : s.discardFrame.draws = s.draws := rfl
@[simp] theorem State.failSetup_pending (s : State) (i code : Nat) : (s.failSetup i code).pending = s.pending := rfl
@[simp] theorem State.failSetup_otp (s : State) (i code : Nat) : (s.failSetup i code).otp = s.otp := rfl
@[simp] theorem State.failSetup_ret (s : State) (i code : Nat) : (s.failSetup i code).ret = s.ret := rfl
@[simp] theorem State.failSetup_silicon (s : State) (i code : Nat) : (s.failSetup i code).silicon = s.silicon := rfl
@[simp] theorem State.failSetup_pins (s : State) (i code : Nat) : (s.failSetup i code).pins = s.pins := rfl
@[simp] theorem State.failSetup_clock (s : State) (i code : Nat) : (s.failSetup i code).clock = s.clock := rfl
@[simp] theorem State.failSetup_start (s : State) (i code : Nat) : (s.failSetup i code).start = s.start := rfl
@[simp] theorem State.failSetup_keys (s : State) (i code : Nat) : (s.failSetup i code).keys = s.keys := rfl
@[simp] theorem State.failSetup_engines (s : State) (i code : Nat) : (s.failSetup i code).engines = s.engines := rfl
@[simp] theorem State.failSetup_monitors (s : State) (i code : Nat) : (s.failSetup i code).monitors = s.monitors := rfl
@[simp] theorem State.failSetup_fabric (s : State) (i code : Nat) : (s.failSetup i code).fabric = s.fabric := rfl
@[simp] theorem State.failSetup_host (s : State) (i code : Nat) : (s.failSetup i code).host = s.host := rfl
@[simp] theorem State.failSetup_shoal (s : State) (i code : Nat) : (s.failSetup i code).shoal = s.shoal := rfl
@[simp] theorem State.failSetup_measure (s : State) (i code : Nat) : (s.failSetup i code).measure = s.measure := rfl
@[simp] theorem State.failSetup_hosting (s : State) (i code : Nat) : (s.failSetup i code).hosting = s.hosting := rfl
@[simp] theorem State.failSetup_straits (s : State) (i code : Nat) : (s.failSetup i code).straits = s.straits := rfl
@[simp] theorem State.failSetup_time (s : State) (i code : Nat) : (s.failSetup i code).time = s.time := rfl
@[simp] theorem State.failSetup_od (s : State) (i code : Nat) : (s.failSetup i code).od = s.od := rfl
@[simp] theorem State.failSetup_power (s : State) (i code : Nat) : (s.failSetup i code).power = s.power := rfl
@[simp] theorem State.failSetup_faults (s : State) (i code : Nat) : (s.failSetup i code).faults = s.faults := rfl
@[simp] theorem State.failSetup_tap (s : State) (i code : Nat) : (s.failSetup i code).tap = s.tap := rfl
@[simp] theorem State.failSetup_hostMem (s : State) (i code : Nat) : (s.failSetup i code).hostMem = s.hostMem := rfl
@[simp] theorem State.failSetup_draws (s : State) (i code : Nat) : (s.failSetup i code).draws = s.draws := rfl
@[simp] theorem State.takeBudget_pending (s : State) (b : Budget) : (s.takeBudget b).pending = s.pending := rfl
@[simp] theorem State.takeBudget_otp (s : State) (b : Budget) : (s.takeBudget b).otp = s.otp := rfl
@[simp] theorem State.takeBudget_ret (s : State) (b : Budget) : (s.takeBudget b).ret = s.ret := rfl
@[simp] theorem State.takeBudget_silicon (s : State) (b : Budget) : (s.takeBudget b).silicon = s.silicon := rfl
@[simp] theorem State.takeBudget_pins (s : State) (b : Budget) : (s.takeBudget b).pins = s.pins := rfl
@[simp] theorem State.takeBudget_clock (s : State) (b : Budget) : (s.takeBudget b).clock = s.clock := rfl
@[simp] theorem State.takeBudget_start (s : State) (b : Budget) : (s.takeBudget b).start = s.start := rfl
@[simp] theorem State.takeBudget_keys (s : State) (b : Budget) : (s.takeBudget b).keys = s.keys := rfl
@[simp] theorem State.takeBudget_engines (s : State) (b : Budget) : (s.takeBudget b).engines = s.engines := rfl
@[simp] theorem State.takeBudget_monitors (s : State) (b : Budget) : (s.takeBudget b).monitors = s.monitors := rfl
@[simp] theorem State.takeBudget_fabric (s : State) (b : Budget) : (s.takeBudget b).fabric = s.fabric := rfl
@[simp] theorem State.takeBudget_host (s : State) (b : Budget) : (s.takeBudget b).host = s.host := rfl
@[simp] theorem State.takeBudget_shoal (s : State) (b : Budget) : (s.takeBudget b).shoal = s.shoal := rfl
@[simp] theorem State.takeBudget_measure (s : State) (b : Budget) : (s.takeBudget b).measure = s.measure := rfl
@[simp] theorem State.takeBudget_hosting (s : State) (b : Budget) : (s.takeBudget b).hosting = s.hosting := rfl
@[simp] theorem State.takeBudget_straits (s : State) (b : Budget) : (s.takeBudget b).straits = s.straits := rfl
@[simp] theorem State.takeBudget_time (s : State) (b : Budget) : (s.takeBudget b).time = s.time := rfl
@[simp] theorem State.takeBudget_od (s : State) (b : Budget) : (s.takeBudget b).od = s.od := rfl
@[simp] theorem State.takeBudget_power (s : State) (b : Budget) : (s.takeBudget b).power = s.power := rfl
@[simp] theorem State.takeBudget_faults (s : State) (b : Budget) : (s.takeBudget b).faults = s.faults := rfl
@[simp] theorem State.takeBudget_tap (s : State) (b : Budget) : (s.takeBudget b).tap = s.tap := rfl
@[simp] theorem State.takeBudget_hostMem (s : State) (b : Budget) : (s.takeBudget b).hostMem = s.hostMem := rfl
@[simp] theorem State.takeBudget_draws (s : State) (b : Budget) : (s.takeBudget b).draws = s.draws := rfl
@[simp] theorem State.modJob_pending (s : State) (j : Nat) (f : JobChannel → JobChannel) : (s.modJob j f).pending = s.pending := rfl
@[simp] theorem State.modJob_otp (s : State) (j : Nat) (f : JobChannel → JobChannel) : (s.modJob j f).otp = s.otp := rfl
@[simp] theorem State.modJob_ret (s : State) (j : Nat) (f : JobChannel → JobChannel) : (s.modJob j f).ret = s.ret := rfl
@[simp] theorem State.modJob_silicon (s : State) (j : Nat) (f : JobChannel → JobChannel) : (s.modJob j f).silicon = s.silicon := rfl
@[simp] theorem State.modJob_pins (s : State) (j : Nat) (f : JobChannel → JobChannel) : (s.modJob j f).pins = s.pins := rfl
@[simp] theorem State.modJob_clock (s : State) (j : Nat) (f : JobChannel → JobChannel) : (s.modJob j f).clock = s.clock := rfl
@[simp] theorem State.modJob_start (s : State) (j : Nat) (f : JobChannel → JobChannel) : (s.modJob j f).start = s.start := rfl
@[simp] theorem State.modJob_keys (s : State) (j : Nat) (f : JobChannel → JobChannel) : (s.modJob j f).keys = s.keys := rfl
@[simp] theorem State.modJob_monitors (s : State) (j : Nat) (f : JobChannel → JobChannel) : (s.modJob j f).monitors = s.monitors := rfl
@[simp] theorem State.modJob_fabric (s : State) (j : Nat) (f : JobChannel → JobChannel) : (s.modJob j f).fabric = s.fabric := rfl
@[simp] theorem State.modJob_host (s : State) (j : Nat) (f : JobChannel → JobChannel) : (s.modJob j f).host = s.host := rfl
@[simp] theorem State.modJob_shoal (s : State) (j : Nat) (f : JobChannel → JobChannel) : (s.modJob j f).shoal = s.shoal := rfl
@[simp] theorem State.modJob_measure (s : State) (j : Nat) (f : JobChannel → JobChannel) : (s.modJob j f).measure = s.measure := rfl
@[simp] theorem State.modJob_hosting (s : State) (j : Nat) (f : JobChannel → JobChannel) : (s.modJob j f).hosting = s.hosting := rfl
@[simp] theorem State.modJob_straits (s : State) (j : Nat) (f : JobChannel → JobChannel) : (s.modJob j f).straits = s.straits := rfl
@[simp] theorem State.modJob_time (s : State) (j : Nat) (f : JobChannel → JobChannel) : (s.modJob j f).time = s.time := rfl
@[simp] theorem State.modJob_od (s : State) (j : Nat) (f : JobChannel → JobChannel) : (s.modJob j f).od = s.od := rfl
@[simp] theorem State.modJob_causeway (s : State) (j : Nat) (f : JobChannel → JobChannel) : (s.modJob j f).causeway = s.causeway := rfl
@[simp] theorem State.modJob_power (s : State) (j : Nat) (f : JobChannel → JobChannel) : (s.modJob j f).power = s.power := rfl
@[simp] theorem State.modJob_faults (s : State) (j : Nat) (f : JobChannel → JobChannel) : (s.modJob j f).faults = s.faults := rfl
@[simp] theorem State.modJob_tap (s : State) (j : Nat) (f : JobChannel → JobChannel) : (s.modJob j f).tap = s.tap := rfl
@[simp] theorem State.modJob_hostMem (s : State) (j : Nat) (f : JobChannel → JobChannel) : (s.modJob j f).hostMem = s.hostMem := rfl
@[simp] theorem State.modJob_draws (s : State) (j : Nat) (f : JobChannel → JobChannel) : (s.modJob j f).draws = s.draws := rfl
@[simp] theorem State.refuseBusy_pending (s : State) : s.refuseBusy.pending = s.pending := rfl
@[simp] theorem State.refuseBusy_otp (s : State) : s.refuseBusy.otp = s.otp := rfl
@[simp] theorem State.refuseBusy_silicon (s : State) : s.refuseBusy.silicon = s.silicon := rfl
@[simp] theorem State.refuseBusy_pins (s : State) : s.refuseBusy.pins = s.pins := rfl
@[simp] theorem State.refuseBusy_clock (s : State) : s.refuseBusy.clock = s.clock := rfl
@[simp] theorem State.refuseBusy_keys (s : State) : s.refuseBusy.keys = s.keys := rfl
@[simp] theorem State.refuseBusy_engines (s : State) : s.refuseBusy.engines = s.engines := rfl
@[simp] theorem State.refuseBusy_monitors (s : State) : s.refuseBusy.monitors = s.monitors := rfl
@[simp] theorem State.refuseBusy_fabric (s : State) : s.refuseBusy.fabric = s.fabric := rfl
@[simp] theorem State.refuseBusy_host (s : State) : s.refuseBusy.host = s.host := rfl
@[simp] theorem State.refuseBusy_shoal (s : State) : s.refuseBusy.shoal = s.shoal := rfl
@[simp] theorem State.refuseBusy_measure (s : State) : s.refuseBusy.measure = s.measure := rfl
@[simp] theorem State.refuseBusy_hosting (s : State) : s.refuseBusy.hosting = s.hosting := rfl
@[simp] theorem State.refuseBusy_straits (s : State) : s.refuseBusy.straits = s.straits := rfl
@[simp] theorem State.refuseBusy_time (s : State) : s.refuseBusy.time = s.time := rfl
@[simp] theorem State.refuseBusy_od (s : State) : s.refuseBusy.od = s.od := rfl
@[simp] theorem State.refuseBusy_causeway (s : State) : s.refuseBusy.causeway = s.causeway := rfl
@[simp] theorem State.refuseBusy_power (s : State) : s.refuseBusy.power = s.power := rfl
@[simp] theorem State.refuseBusy_faults (s : State) : s.refuseBusy.faults = s.faults := rfl
@[simp] theorem State.refuseBusy_tap (s : State) : s.refuseBusy.tap = s.tap := rfl
@[simp] theorem State.refuseBusy_hostMem (s : State) : s.refuseBusy.hostMem = s.hostMem := rfl
@[simp] theorem State.refuseBusy_draws (s : State) : s.refuseBusy.draws = s.draws := rfl
@[simp] theorem State.putKey_pending (s : State) (n : KeyName) (k : Bytes) : (s.putKey n k).pending = s.pending := rfl
@[simp] theorem State.putKey_otp (s : State) (n : KeyName) (k : Bytes) : (s.putKey n k).otp = s.otp := rfl
@[simp] theorem State.putKey_ret (s : State) (n : KeyName) (k : Bytes) : (s.putKey n k).ret = s.ret := rfl
@[simp] theorem State.putKey_silicon (s : State) (n : KeyName) (k : Bytes) : (s.putKey n k).silicon = s.silicon := rfl
@[simp] theorem State.putKey_pins (s : State) (n : KeyName) (k : Bytes) : (s.putKey n k).pins = s.pins := rfl
@[simp] theorem State.putKey_clock (s : State) (n : KeyName) (k : Bytes) : (s.putKey n k).clock = s.clock := rfl
@[simp] theorem State.putKey_engines (s : State) (n : KeyName) (k : Bytes) : (s.putKey n k).engines = s.engines := rfl
@[simp] theorem State.putKey_monitors (s : State) (n : KeyName) (k : Bytes) : (s.putKey n k).monitors = s.monitors := rfl
@[simp] theorem State.putKey_fabric (s : State) (n : KeyName) (k : Bytes) : (s.putKey n k).fabric = s.fabric := rfl
@[simp] theorem State.putKey_host (s : State) (n : KeyName) (k : Bytes) : (s.putKey n k).host = s.host := rfl
@[simp] theorem State.putKey_shoal (s : State) (n : KeyName) (k : Bytes) : (s.putKey n k).shoal = s.shoal := rfl
@[simp] theorem State.putKey_measure (s : State) (n : KeyName) (k : Bytes) : (s.putKey n k).measure = s.measure := rfl
@[simp] theorem State.putKey_hosting (s : State) (n : KeyName) (k : Bytes) : (s.putKey n k).hosting = s.hosting := rfl
@[simp] theorem State.putKey_straits (s : State) (n : KeyName) (k : Bytes) : (s.putKey n k).straits = s.straits := rfl
@[simp] theorem State.putKey_time (s : State) (n : KeyName) (k : Bytes) : (s.putKey n k).time = s.time := rfl
@[simp] theorem State.putKey_od (s : State) (n : KeyName) (k : Bytes) : (s.putKey n k).od = s.od := rfl
@[simp] theorem State.putKey_causeway (s : State) (n : KeyName) (k : Bytes) : (s.putKey n k).causeway = s.causeway := rfl
@[simp] theorem State.putKey_power (s : State) (n : KeyName) (k : Bytes) : (s.putKey n k).power = s.power := rfl
@[simp] theorem State.putKey_faults (s : State) (n : KeyName) (k : Bytes) : (s.putKey n k).faults = s.faults := rfl
@[simp] theorem State.putKey_tap (s : State) (n : KeyName) (k : Bytes) : (s.putKey n k).tap = s.tap := rfl
@[simp] theorem State.putKey_hostMem (s : State) (n : KeyName) (k : Bytes) : (s.putKey n k).hostMem = s.hostMem := rfl
@[simp] theorem State.dropKey_pending (s : State) (n : KeyName) : (s.dropKey n).pending = s.pending := rfl
@[simp] theorem State.dropKey_otp (s : State) (n : KeyName) : (s.dropKey n).otp = s.otp := rfl
@[simp] theorem State.dropKey_ret (s : State) (n : KeyName) : (s.dropKey n).ret = s.ret := rfl
@[simp] theorem State.dropKey_silicon (s : State) (n : KeyName) : (s.dropKey n).silicon = s.silicon := rfl
@[simp] theorem State.dropKey_pins (s : State) (n : KeyName) : (s.dropKey n).pins = s.pins := rfl
@[simp] theorem State.dropKey_clock (s : State) (n : KeyName) : (s.dropKey n).clock = s.clock := rfl
@[simp] theorem State.dropKey_start (s : State) (n : KeyName) : (s.dropKey n).start = s.start := rfl
@[simp] theorem State.dropKey_engines (s : State) (n : KeyName) : (s.dropKey n).engines = s.engines := rfl
@[simp] theorem State.dropKey_monitors (s : State) (n : KeyName) : (s.dropKey n).monitors = s.monitors := rfl
@[simp] theorem State.dropKey_fabric (s : State) (n : KeyName) : (s.dropKey n).fabric = s.fabric := rfl
@[simp] theorem State.dropKey_host (s : State) (n : KeyName) : (s.dropKey n).host = s.host := rfl
@[simp] theorem State.dropKey_shoal (s : State) (n : KeyName) : (s.dropKey n).shoal = s.shoal := rfl
@[simp] theorem State.dropKey_measure (s : State) (n : KeyName) : (s.dropKey n).measure = s.measure := rfl
@[simp] theorem State.dropKey_hosting (s : State) (n : KeyName) : (s.dropKey n).hosting = s.hosting := rfl
@[simp] theorem State.dropKey_straits (s : State) (n : KeyName) : (s.dropKey n).straits = s.straits := rfl
@[simp] theorem State.dropKey_time (s : State) (n : KeyName) : (s.dropKey n).time = s.time := rfl
@[simp] theorem State.dropKey_od (s : State) (n : KeyName) : (s.dropKey n).od = s.od := rfl
@[simp] theorem State.dropKey_causeway (s : State) (n : KeyName) : (s.dropKey n).causeway = s.causeway := rfl
@[simp] theorem State.dropKey_power (s : State) (n : KeyName) : (s.dropKey n).power = s.power := rfl
@[simp] theorem State.dropKey_faults (s : State) (n : KeyName) : (s.dropKey n).faults = s.faults := rfl
@[simp] theorem State.dropKey_tap (s : State) (n : KeyName) : (s.dropKey n).tap = s.tap := rfl
@[simp] theorem State.dropKey_hostMem (s : State) (n : KeyName) : (s.dropKey n).hostMem = s.hostMem := rfl
@[simp] theorem State.dropKey_draws (s : State) (n : KeyName) : (s.dropKey n).draws = s.draws := rfl
@[simp] theorem State.loadCode_pending (s : State) (code : Nat) : (s.loadCode code).pending = s.pending := rfl
@[simp] theorem State.loadCode_otp (s : State) (code : Nat) : (s.loadCode code).otp = s.otp := rfl
@[simp] theorem State.loadCode_ret (s : State) (code : Nat) : (s.loadCode code).ret = s.ret := rfl
@[simp] theorem State.loadCode_silicon (s : State) (code : Nat) : (s.loadCode code).silicon = s.silicon := rfl
@[simp] theorem State.loadCode_pins (s : State) (code : Nat) : (s.loadCode code).pins = s.pins := rfl
@[simp] theorem State.loadCode_clock (s : State) (code : Nat) : (s.loadCode code).clock = s.clock := rfl
@[simp] theorem State.loadCode_start (s : State) (code : Nat) : (s.loadCode code).start = s.start := rfl
@[simp] theorem State.loadCode_keys (s : State) (code : Nat) : (s.loadCode code).keys = s.keys := rfl
@[simp] theorem State.loadCode_engines (s : State) (code : Nat) : (s.loadCode code).engines = s.engines := rfl
@[simp] theorem State.loadCode_monitors (s : State) (code : Nat) : (s.loadCode code).monitors = s.monitors := rfl
@[simp] theorem State.loadCode_fabric (s : State) (code : Nat) : (s.loadCode code).fabric = s.fabric := rfl
@[simp] theorem State.loadCode_host (s : State) (code : Nat) : (s.loadCode code).host = s.host := rfl
@[simp] theorem State.loadCode_shoal (s : State) (code : Nat) : (s.loadCode code).shoal = s.shoal := rfl
@[simp] theorem State.loadCode_measure (s : State) (code : Nat) : (s.loadCode code).measure = s.measure := rfl
@[simp] theorem State.loadCode_straits (s : State) (code : Nat) : (s.loadCode code).straits = s.straits := rfl
@[simp] theorem State.loadCode_time (s : State) (code : Nat) : (s.loadCode code).time = s.time := rfl
@[simp] theorem State.loadCode_od (s : State) (code : Nat) : (s.loadCode code).od = s.od := rfl
@[simp] theorem State.loadCode_causeway (s : State) (code : Nat) : (s.loadCode code).causeway = s.causeway := rfl
@[simp] theorem State.loadCode_power (s : State) (code : Nat) : (s.loadCode code).power = s.power := rfl
@[simp] theorem State.loadCode_faults (s : State) (code : Nat) : (s.loadCode code).faults = s.faults := rfl
@[simp] theorem State.loadCode_tap (s : State) (code : Nat) : (s.loadCode code).tap = s.tap := rfl
@[simp] theorem State.loadCode_hostMem (s : State) (code : Nat) : (s.loadCode code).hostMem = s.hostMem := rfl
@[simp] theorem State.loadCode_draws (s : State) (code : Nat) : (s.loadCode code).draws = s.draws := rfl
@[simp] theorem State.regionCode_pending (s : State) (code : Nat) : (s.regionCode code).pending = s.pending := rfl
@[simp] theorem State.regionCode_otp (s : State) (code : Nat) : (s.regionCode code).otp = s.otp := rfl
@[simp] theorem State.regionCode_ret (s : State) (code : Nat) : (s.regionCode code).ret = s.ret := rfl
@[simp] theorem State.regionCode_silicon (s : State) (code : Nat) : (s.regionCode code).silicon = s.silicon := rfl
@[simp] theorem State.regionCode_pins (s : State) (code : Nat) : (s.regionCode code).pins = s.pins := rfl
@[simp] theorem State.regionCode_clock (s : State) (code : Nat) : (s.regionCode code).clock = s.clock := rfl
@[simp] theorem State.regionCode_start (s : State) (code : Nat) : (s.regionCode code).start = s.start := rfl
@[simp] theorem State.regionCode_keys (s : State) (code : Nat) : (s.regionCode code).keys = s.keys := rfl
@[simp] theorem State.regionCode_engines (s : State) (code : Nat) : (s.regionCode code).engines = s.engines := rfl
@[simp] theorem State.regionCode_monitors (s : State) (code : Nat) : (s.regionCode code).monitors = s.monitors := rfl
@[simp] theorem State.regionCode_fabric (s : State) (code : Nat) : (s.regionCode code).fabric = s.fabric := rfl
@[simp] theorem State.regionCode_host (s : State) (code : Nat) : (s.regionCode code).host = s.host := rfl
@[simp] theorem State.regionCode_shoal (s : State) (code : Nat) : (s.regionCode code).shoal = s.shoal := rfl
@[simp] theorem State.regionCode_measure (s : State) (code : Nat) : (s.regionCode code).measure = s.measure := rfl
@[simp] theorem State.regionCode_straits (s : State) (code : Nat) : (s.regionCode code).straits = s.straits := rfl
@[simp] theorem State.regionCode_time (s : State) (code : Nat) : (s.regionCode code).time = s.time := rfl
@[simp] theorem State.regionCode_od (s : State) (code : Nat) : (s.regionCode code).od = s.od := rfl
@[simp] theorem State.regionCode_causeway (s : State) (code : Nat) : (s.regionCode code).causeway = s.causeway := rfl
@[simp] theorem State.regionCode_power (s : State) (code : Nat) : (s.regionCode code).power = s.power := rfl
@[simp] theorem State.regionCode_faults (s : State) (code : Nat) : (s.regionCode code).faults = s.faults := rfl
@[simp] theorem State.regionCode_tap (s : State) (code : Nat) : (s.regionCode code).tap = s.tap := rfl
@[simp] theorem State.regionCode_hostMem (s : State) (code : Nat) : (s.regionCode code).hostMem = s.hostMem := rfl
@[simp] theorem State.regionCode_draws (s : State) (code : Nat) : (s.regionCode code).draws = s.draws := rfl
@[simp] theorem State.keyCommand_pending (s : State) (code : Nat) : (s.keyCommand code).pending = s.pending := rfl
@[simp] theorem State.keyCommand_otp (s : State) (code : Nat) : (s.keyCommand code).otp = s.otp := rfl
@[simp] theorem State.keyCommand_ret (s : State) (code : Nat) : (s.keyCommand code).ret = s.ret := rfl
@[simp] theorem State.keyCommand_silicon (s : State) (code : Nat) : (s.keyCommand code).silicon = s.silicon := rfl
@[simp] theorem State.keyCommand_pins (s : State) (code : Nat) : (s.keyCommand code).pins = s.pins := rfl
@[simp] theorem State.keyCommand_clock (s : State) (code : Nat) : (s.keyCommand code).clock = s.clock := rfl
@[simp] theorem State.keyCommand_start (s : State) (code : Nat) : (s.keyCommand code).start = s.start := rfl
@[simp] theorem State.keyCommand_engines (s : State) (code : Nat) : (s.keyCommand code).engines = s.engines := rfl
@[simp] theorem State.keyCommand_monitors (s : State) (code : Nat) : (s.keyCommand code).monitors = s.monitors := rfl
@[simp] theorem State.keyCommand_fabric (s : State) (code : Nat) : (s.keyCommand code).fabric = s.fabric := rfl
@[simp] theorem State.keyCommand_host (s : State) (code : Nat) : (s.keyCommand code).host = s.host := rfl
@[simp] theorem State.keyCommand_shoal (s : State) (code : Nat) : (s.keyCommand code).shoal = s.shoal := rfl
@[simp] theorem State.keyCommand_measure (s : State) (code : Nat) : (s.keyCommand code).measure = s.measure := rfl
@[simp] theorem State.keyCommand_hosting (s : State) (code : Nat) : (s.keyCommand code).hosting = s.hosting := rfl
@[simp] theorem State.keyCommand_straits (s : State) (code : Nat) : (s.keyCommand code).straits = s.straits := rfl
@[simp] theorem State.keyCommand_time (s : State) (code : Nat) : (s.keyCommand code).time = s.time := rfl
@[simp] theorem State.keyCommand_od (s : State) (code : Nat) : (s.keyCommand code).od = s.od := rfl
@[simp] theorem State.keyCommand_causeway (s : State) (code : Nat) : (s.keyCommand code).causeway = s.causeway := rfl
@[simp] theorem State.keyCommand_power (s : State) (code : Nat) : (s.keyCommand code).power = s.power := rfl
@[simp] theorem State.keyCommand_faults (s : State) (code : Nat) : (s.keyCommand code).faults = s.faults := rfl
@[simp] theorem State.keyCommand_tap (s : State) (code : Nat) : (s.keyCommand code).tap = s.tap := rfl
@[simp] theorem State.keyCommand_hostMem (s : State) (code : Nat) : (s.keyCommand code).hostMem = s.hostMem := rfl
@[simp] theorem State.keyCommand_draws (s : State) (code : Nat) : (s.keyCommand code).draws = s.draws := rfl
@[simp] theorem State.countLease_pending (s : State) (k : Nat) : (s.countLease k).pending = s.pending := rfl
@[simp] theorem State.countLease_otp (s : State) (k : Nat) : (s.countLease k).otp = s.otp := rfl
@[simp] theorem State.countLease_ret (s : State) (k : Nat) : (s.countLease k).ret = s.ret := rfl
@[simp] theorem State.countLease_silicon (s : State) (k : Nat) : (s.countLease k).silicon = s.silicon := rfl
@[simp] theorem State.countLease_pins (s : State) (k : Nat) : (s.countLease k).pins = s.pins := rfl
@[simp] theorem State.countLease_clock (s : State) (k : Nat) : (s.countLease k).clock = s.clock := rfl
@[simp] theorem State.countLease_start (s : State) (k : Nat) : (s.countLease k).start = s.start := rfl
@[simp] theorem State.countLease_keys (s : State) (k : Nat) : (s.countLease k).keys = s.keys := rfl
@[simp] theorem State.countLease_engines (s : State) (k : Nat) : (s.countLease k).engines = s.engines := rfl
@[simp] theorem State.countLease_monitors (s : State) (k : Nat) : (s.countLease k).monitors = s.monitors := rfl
@[simp] theorem State.countLease_fabric (s : State) (k : Nat) : (s.countLease k).fabric = s.fabric := rfl
@[simp] theorem State.countLease_host (s : State) (k : Nat) : (s.countLease k).host = s.host := rfl
@[simp] theorem State.countLease_shoal (s : State) (k : Nat) : (s.countLease k).shoal = s.shoal := rfl
@[simp] theorem State.countLease_measure (s : State) (k : Nat) : (s.countLease k).measure = s.measure := rfl
@[simp] theorem State.countLease_hosting (s : State) (k : Nat) : (s.countLease k).hosting = s.hosting := rfl
@[simp] theorem State.countLease_straits (s : State) (k : Nat) : (s.countLease k).straits = s.straits := rfl
@[simp] theorem State.countLease_time (s : State) (k : Nat) : (s.countLease k).time = s.time := rfl
@[simp] theorem State.countLease_od (s : State) (k : Nat) : (s.countLease k).od = s.od := rfl
@[simp] theorem State.countLease_causeway (s : State) (k : Nat) : (s.countLease k).causeway = s.causeway := rfl
@[simp] theorem State.countLease_power (s : State) (k : Nat) : (s.countLease k).power = s.power := rfl
@[simp] theorem State.countLease_tap (s : State) (k : Nat) : (s.countLease k).tap = s.tap := rfl
@[simp] theorem State.countLease_hostMem (s : State) (k : Nat) : (s.countLease k).hostMem = s.hostMem := rfl
@[simp] theorem State.countLease_draws (s : State) (k : Nat) : (s.countLease k).draws = s.draws := rfl
@[simp] theorem State.setOpen_pending (s : State) (ch : Channel) (t : Option OpenTransfer) : (s.setOpen ch t).pending = s.pending := rfl
@[simp] theorem State.setOpen_otp (s : State) (ch : Channel) (t : Option OpenTransfer) : (s.setOpen ch t).otp = s.otp := rfl
@[simp] theorem State.setOpen_ret (s : State) (ch : Channel) (t : Option OpenTransfer) : (s.setOpen ch t).ret = s.ret := rfl
@[simp] theorem State.setOpen_silicon (s : State) (ch : Channel) (t : Option OpenTransfer) : (s.setOpen ch t).silicon = s.silicon := rfl
@[simp] theorem State.setOpen_pins (s : State) (ch : Channel) (t : Option OpenTransfer) : (s.setOpen ch t).pins = s.pins := rfl
@[simp] theorem State.setOpen_clock (s : State) (ch : Channel) (t : Option OpenTransfer) : (s.setOpen ch t).clock = s.clock := rfl
@[simp] theorem State.setOpen_start (s : State) (ch : Channel) (t : Option OpenTransfer) : (s.setOpen ch t).start = s.start := rfl
@[simp] theorem State.setOpen_keys (s : State) (ch : Channel) (t : Option OpenTransfer) : (s.setOpen ch t).keys = s.keys := rfl
@[simp] theorem State.setOpen_engines (s : State) (ch : Channel) (t : Option OpenTransfer) : (s.setOpen ch t).engines = s.engines := rfl
@[simp] theorem State.setOpen_monitors (s : State) (ch : Channel) (t : Option OpenTransfer) : (s.setOpen ch t).monitors = s.monitors := rfl
@[simp] theorem State.setOpen_fabric (s : State) (ch : Channel) (t : Option OpenTransfer) : (s.setOpen ch t).fabric = s.fabric := rfl
@[simp] theorem State.setOpen_host (s : State) (ch : Channel) (t : Option OpenTransfer) : (s.setOpen ch t).host = s.host := rfl
@[simp] theorem State.setOpen_shoal (s : State) (ch : Channel) (t : Option OpenTransfer) : (s.setOpen ch t).shoal = s.shoal := rfl
@[simp] theorem State.setOpen_measure (s : State) (ch : Channel) (t : Option OpenTransfer) : (s.setOpen ch t).measure = s.measure := rfl
@[simp] theorem State.setOpen_hosting (s : State) (ch : Channel) (t : Option OpenTransfer) : (s.setOpen ch t).hosting = s.hosting := rfl
@[simp] theorem State.setOpen_straits (s : State) (ch : Channel) (t : Option OpenTransfer) : (s.setOpen ch t).straits = s.straits := rfl
@[simp] theorem State.setOpen_time (s : State) (ch : Channel) (t : Option OpenTransfer) : (s.setOpen ch t).time = s.time := rfl
@[simp] theorem State.setOpen_causeway (s : State) (ch : Channel) (t : Option OpenTransfer) : (s.setOpen ch t).causeway = s.causeway := rfl
@[simp] theorem State.setOpen_power (s : State) (ch : Channel) (t : Option OpenTransfer) : (s.setOpen ch t).power = s.power := rfl
@[simp] theorem State.setOpen_faults (s : State) (ch : Channel) (t : Option OpenTransfer) : (s.setOpen ch t).faults = s.faults := rfl
@[simp] theorem State.setOpen_tap (s : State) (ch : Channel) (t : Option OpenTransfer) : (s.setOpen ch t).tap = s.tap := rfl
@[simp] theorem State.setOpen_hostMem (s : State) (ch : Channel) (t : Option OpenTransfer) : (s.setOpen ch t).hostMem = s.hostMem := rfl
@[simp] theorem State.setOpen_draws (s : State) (ch : Channel) (t : Option OpenTransfer) : (s.setOpen ch t).draws = s.draws := rfl
@[simp] theorem State.endTransferOn_pending (s : State) (ch : Channel) : (s.endTransferOn ch).pending = s.pending := rfl
@[simp] theorem State.endTransferOn_otp (s : State) (ch : Channel) : (s.endTransferOn ch).otp = s.otp := rfl
@[simp] theorem State.endTransferOn_ret (s : State) (ch : Channel) : (s.endTransferOn ch).ret = s.ret := rfl
@[simp] theorem State.endTransferOn_silicon (s : State) (ch : Channel) : (s.endTransferOn ch).silicon = s.silicon := rfl
@[simp] theorem State.endTransferOn_pins (s : State) (ch : Channel) : (s.endTransferOn ch).pins = s.pins := rfl
@[simp] theorem State.endTransferOn_clock (s : State) (ch : Channel) : (s.endTransferOn ch).clock = s.clock := rfl
@[simp] theorem State.endTransferOn_start (s : State) (ch : Channel) : (s.endTransferOn ch).start = s.start := rfl
@[simp] theorem State.endTransferOn_keys (s : State) (ch : Channel) : (s.endTransferOn ch).keys = s.keys := rfl
@[simp] theorem State.endTransferOn_engines (s : State) (ch : Channel) : (s.endTransferOn ch).engines = s.engines := rfl
@[simp] theorem State.endTransferOn_monitors (s : State) (ch : Channel) : (s.endTransferOn ch).monitors = s.monitors := rfl
@[simp] theorem State.endTransferOn_fabric (s : State) (ch : Channel) : (s.endTransferOn ch).fabric = s.fabric := rfl
@[simp] theorem State.endTransferOn_host (s : State) (ch : Channel) : (s.endTransferOn ch).host = s.host := rfl
@[simp] theorem State.endTransferOn_shoal (s : State) (ch : Channel) : (s.endTransferOn ch).shoal = s.shoal := rfl
@[simp] theorem State.endTransferOn_measure (s : State) (ch : Channel) : (s.endTransferOn ch).measure = s.measure := rfl
@[simp] theorem State.endTransferOn_hosting (s : State) (ch : Channel) : (s.endTransferOn ch).hosting = s.hosting := rfl
@[simp] theorem State.endTransferOn_straits (s : State) (ch : Channel) : (s.endTransferOn ch).straits = s.straits := rfl
@[simp] theorem State.endTransferOn_time (s : State) (ch : Channel) : (s.endTransferOn ch).time = s.time := rfl
@[simp] theorem State.endTransferOn_causeway (s : State) (ch : Channel) : (s.endTransferOn ch).causeway = s.causeway := rfl
@[simp] theorem State.endTransferOn_power (s : State) (ch : Channel) : (s.endTransferOn ch).power = s.power := rfl
@[simp] theorem State.endTransferOn_faults (s : State) (ch : Channel) : (s.endTransferOn ch).faults = s.faults := rfl
@[simp] theorem State.endTransferOn_tap (s : State) (ch : Channel) : (s.endTransferOn ch).tap = s.tap := rfl
@[simp] theorem State.endTransferOn_hostMem (s : State) (ch : Channel) : (s.endTransferOn ch).hostMem = s.hostMem := rfl
@[simp] theorem State.endTransferOn_draws (s : State) (ch : Channel) : (s.endTransferOn ch).draws = s.draws := rfl
@[simp] theorem State.putResponse_pending (s : State) (ch : Channel) (r : TuResponse) : (s.putResponse ch r).pending = s.pending := rfl
@[simp] theorem State.putResponse_otp (s : State) (ch : Channel) (r : TuResponse) : (s.putResponse ch r).otp = s.otp := rfl
@[simp] theorem State.putResponse_ret (s : State) (ch : Channel) (r : TuResponse) : (s.putResponse ch r).ret = s.ret := rfl
@[simp] theorem State.putResponse_silicon (s : State) (ch : Channel) (r : TuResponse) : (s.putResponse ch r).silicon = s.silicon := rfl
@[simp] theorem State.putResponse_pins (s : State) (ch : Channel) (r : TuResponse) : (s.putResponse ch r).pins = s.pins := rfl
@[simp] theorem State.putResponse_clock (s : State) (ch : Channel) (r : TuResponse) : (s.putResponse ch r).clock = s.clock := rfl
@[simp] theorem State.putResponse_start (s : State) (ch : Channel) (r : TuResponse) : (s.putResponse ch r).start = s.start := rfl
@[simp] theorem State.putResponse_keys (s : State) (ch : Channel) (r : TuResponse) : (s.putResponse ch r).keys = s.keys := rfl
@[simp] theorem State.putResponse_engines (s : State) (ch : Channel) (r : TuResponse) : (s.putResponse ch r).engines = s.engines := rfl
@[simp] theorem State.putResponse_monitors (s : State) (ch : Channel) (r : TuResponse) : (s.putResponse ch r).monitors = s.monitors := rfl
@[simp] theorem State.putResponse_fabric (s : State) (ch : Channel) (r : TuResponse) : (s.putResponse ch r).fabric = s.fabric := rfl
@[simp] theorem State.putResponse_host (s : State) (ch : Channel) (r : TuResponse) : (s.putResponse ch r).host = s.host := rfl
@[simp] theorem State.putResponse_shoal (s : State) (ch : Channel) (r : TuResponse) : (s.putResponse ch r).shoal = s.shoal := rfl
@[simp] theorem State.putResponse_measure (s : State) (ch : Channel) (r : TuResponse) : (s.putResponse ch r).measure = s.measure := rfl
@[simp] theorem State.putResponse_hosting (s : State) (ch : Channel) (r : TuResponse) : (s.putResponse ch r).hosting = s.hosting := rfl
@[simp] theorem State.putResponse_straits (s : State) (ch : Channel) (r : TuResponse) : (s.putResponse ch r).straits = s.straits := rfl
@[simp] theorem State.putResponse_time (s : State) (ch : Channel) (r : TuResponse) : (s.putResponse ch r).time = s.time := rfl
@[simp] theorem State.putResponse_causeway (s : State) (ch : Channel) (r : TuResponse) : (s.putResponse ch r).causeway = s.causeway := rfl
@[simp] theorem State.putResponse_power (s : State) (ch : Channel) (r : TuResponse) : (s.putResponse ch r).power = s.power := rfl
@[simp] theorem State.putResponse_faults (s : State) (ch : Channel) (r : TuResponse) : (s.putResponse ch r).faults = s.faults := rfl
@[simp] theorem State.putResponse_tap (s : State) (ch : Channel) (r : TuResponse) : (s.putResponse ch r).tap = s.tap := rfl
@[simp] theorem State.putResponse_hostMem (s : State) (ch : Channel) (r : TuResponse) : (s.putResponse ch r).hostMem = s.hostMem := rfl
@[simp] theorem State.putResponse_draws (s : State) (ch : Channel) (r : TuResponse) : (s.putResponse ch r).draws = s.draws := rfl
@[simp] theorem State.setRet_pending (s : State) (r : Retained) : (s.setRet r).pending = s.pending := rfl
@[simp] theorem State.setRet_otp (s : State) (r : Retained) : (s.setRet r).otp = s.otp := rfl
@[simp] theorem State.setRet_silicon (s : State) (r : Retained) : (s.setRet r).silicon = s.silicon := rfl
@[simp] theorem State.setRet_pins (s : State) (r : Retained) : (s.setRet r).pins = s.pins := rfl
@[simp] theorem State.setRet_clock (s : State) (r : Retained) : (s.setRet r).clock = s.clock := rfl
@[simp] theorem State.setRet_start (s : State) (r : Retained) : (s.setRet r).start = s.start := rfl
@[simp] theorem State.setRet_keys (s : State) (r : Retained) : (s.setRet r).keys = s.keys := rfl
@[simp] theorem State.setRet_engines (s : State) (r : Retained) : (s.setRet r).engines = s.engines := rfl
@[simp] theorem State.setRet_monitors (s : State) (r : Retained) : (s.setRet r).monitors = s.monitors := rfl
@[simp] theorem State.setRet_fabric (s : State) (r : Retained) : (s.setRet r).fabric = s.fabric := rfl
@[simp] theorem State.setRet_host (s : State) (r : Retained) : (s.setRet r).host = s.host := rfl
@[simp] theorem State.setRet_shoal (s : State) (r : Retained) : (s.setRet r).shoal = s.shoal := rfl
@[simp] theorem State.setRet_measure (s : State) (r : Retained) : (s.setRet r).measure = s.measure := rfl
@[simp] theorem State.setRet_hosting (s : State) (r : Retained) : (s.setRet r).hosting = s.hosting := rfl
@[simp] theorem State.setRet_straits (s : State) (r : Retained) : (s.setRet r).straits = s.straits := rfl
@[simp] theorem State.setRet_time (s : State) (r : Retained) : (s.setRet r).time = s.time := rfl
@[simp] theorem State.setRet_od (s : State) (r : Retained) : (s.setRet r).od = s.od := rfl
@[simp] theorem State.setRet_causeway (s : State) (r : Retained) : (s.setRet r).causeway = s.causeway := rfl
@[simp] theorem State.setRet_power (s : State) (r : Retained) : (s.setRet r).power = s.power := rfl
@[simp] theorem State.setRet_faults (s : State) (r : Retained) : (s.setRet r).faults = s.faults := rfl
@[simp] theorem State.setRet_tap (s : State) (r : Retained) : (s.setRet r).tap = s.tap := rfl
@[simp] theorem State.setRet_hostMem (s : State) (r : Retained) : (s.setRet r).hostMem = s.hostMem := rfl
@[simp] theorem State.setRet_draws (s : State) (r : Retained) : (s.setRet r).draws = s.draws := rfl
@[simp] theorem State.selectRing_pending (s : State) (ch : Channel) (x : Nat) : (s.selectRing ch x).pending = s.pending := rfl
@[simp] theorem State.selectRing_otp (s : State) (ch : Channel) (x : Nat) : (s.selectRing ch x).otp = s.otp := rfl
@[simp] theorem State.selectRing_ret (s : State) (ch : Channel) (x : Nat) : (s.selectRing ch x).ret = s.ret := rfl
@[simp] theorem State.selectRing_silicon (s : State) (ch : Channel) (x : Nat) : (s.selectRing ch x).silicon = s.silicon := rfl
@[simp] theorem State.selectRing_pins (s : State) (ch : Channel) (x : Nat) : (s.selectRing ch x).pins = s.pins := rfl
@[simp] theorem State.selectRing_clock (s : State) (ch : Channel) (x : Nat) : (s.selectRing ch x).clock = s.clock := rfl
@[simp] theorem State.selectRing_start (s : State) (ch : Channel) (x : Nat) : (s.selectRing ch x).start = s.start := rfl
@[simp] theorem State.selectRing_keys (s : State) (ch : Channel) (x : Nat) : (s.selectRing ch x).keys = s.keys := rfl
@[simp] theorem State.selectRing_engines (s : State) (ch : Channel) (x : Nat) : (s.selectRing ch x).engines = s.engines := rfl
@[simp] theorem State.selectRing_monitors (s : State) (ch : Channel) (x : Nat) : (s.selectRing ch x).monitors = s.monitors := rfl
@[simp] theorem State.selectRing_fabric (s : State) (ch : Channel) (x : Nat) : (s.selectRing ch x).fabric = s.fabric := rfl
@[simp] theorem State.selectRing_shoal (s : State) (ch : Channel) (x : Nat) : (s.selectRing ch x).shoal = s.shoal := rfl
@[simp] theorem State.selectRing_measure (s : State) (ch : Channel) (x : Nat) : (s.selectRing ch x).measure = s.measure := rfl
@[simp] theorem State.selectRing_hosting (s : State) (ch : Channel) (x : Nat) : (s.selectRing ch x).hosting = s.hosting := rfl
@[simp] theorem State.selectRing_straits (s : State) (ch : Channel) (x : Nat) : (s.selectRing ch x).straits = s.straits := rfl
@[simp] theorem State.selectRing_time (s : State) (ch : Channel) (x : Nat) : (s.selectRing ch x).time = s.time := rfl
@[simp] theorem State.selectRing_od (s : State) (ch : Channel) (x : Nat) : (s.selectRing ch x).od = s.od := rfl
@[simp] theorem State.selectRing_causeway (s : State) (ch : Channel) (x : Nat) : (s.selectRing ch x).causeway = s.causeway := rfl
@[simp] theorem State.selectRing_power (s : State) (ch : Channel) (x : Nat) : (s.selectRing ch x).power = s.power := rfl
@[simp] theorem State.selectRing_faults (s : State) (ch : Channel) (x : Nat) : (s.selectRing ch x).faults = s.faults := rfl
@[simp] theorem State.selectRing_tap (s : State) (ch : Channel) (x : Nat) : (s.selectRing ch x).tap = s.tap := rfl
@[simp] theorem State.selectRing_hostMem (s : State) (ch : Channel) (x : Nat) : (s.selectRing ch x).hostMem = s.hostMem := rfl
@[simp] theorem State.selectRing_draws (s : State) (ch : Channel) (x : Nat) : (s.selectRing ch x).draws = s.draws := rfl
@[simp] theorem State.drawn_pending (s : State) : s.drawn.pending = s.pending := rfl
@[simp] theorem State.drawn_otp (s : State) : s.drawn.otp = s.otp := rfl
@[simp] theorem State.drawn_ret (s : State) : s.drawn.ret = s.ret := rfl
@[simp] theorem State.drawn_silicon (s : State) : s.drawn.silicon = s.silicon := rfl
@[simp] theorem State.drawn_pins (s : State) : s.drawn.pins = s.pins := rfl
@[simp] theorem State.drawn_clock (s : State) : s.drawn.clock = s.clock := rfl
@[simp] theorem State.drawn_start (s : State) : s.drawn.start = s.start := rfl
@[simp] theorem State.drawn_keys (s : State) : s.drawn.keys = s.keys := rfl
@[simp] theorem State.drawn_engines (s : State) : s.drawn.engines = s.engines := rfl
@[simp] theorem State.drawn_monitors (s : State) : s.drawn.monitors = s.monitors := rfl
@[simp] theorem State.drawn_fabric (s : State) : s.drawn.fabric = s.fabric := rfl
@[simp] theorem State.drawn_host (s : State) : s.drawn.host = s.host := rfl
@[simp] theorem State.drawn_shoal (s : State) : s.drawn.shoal = s.shoal := rfl
@[simp] theorem State.drawn_measure (s : State) : s.drawn.measure = s.measure := rfl
@[simp] theorem State.drawn_hosting (s : State) : s.drawn.hosting = s.hosting := rfl
@[simp] theorem State.drawn_straits (s : State) : s.drawn.straits = s.straits := rfl
@[simp] theorem State.drawn_time (s : State) : s.drawn.time = s.time := rfl
@[simp] theorem State.drawn_od (s : State) : s.drawn.od = s.od := rfl
@[simp] theorem State.drawn_causeway (s : State) : s.drawn.causeway = s.causeway := rfl
@[simp] theorem State.drawn_power (s : State) : s.drawn.power = s.power := rfl
@[simp] theorem State.drawn_faults (s : State) : s.drawn.faults = s.faults := rfl
@[simp] theorem State.drawn_tap (s : State) : s.drawn.tap = s.tap := rfl
@[simp] theorem State.drawn_hostMem (s : State) : s.drawn.hostMem = s.hostMem := rfl
@[simp] theorem State.extendMr_pending (s : State) (r : Nat) (data : Bytes) : (s.extendMr r data).pending = s.pending := rfl
@[simp] theorem State.extendMr_otp (s : State) (r : Nat) (data : Bytes) : (s.extendMr r data).otp = s.otp := rfl
@[simp] theorem State.extendMr_ret (s : State) (r : Nat) (data : Bytes) : (s.extendMr r data).ret = s.ret := rfl
@[simp] theorem State.extendMr_silicon (s : State) (r : Nat) (data : Bytes) : (s.extendMr r data).silicon = s.silicon := rfl
@[simp] theorem State.extendMr_pins (s : State) (r : Nat) (data : Bytes) : (s.extendMr r data).pins = s.pins := rfl
@[simp] theorem State.extendMr_clock (s : State) (r : Nat) (data : Bytes) : (s.extendMr r data).clock = s.clock := rfl
@[simp] theorem State.extendMr_start (s : State) (r : Nat) (data : Bytes) : (s.extendMr r data).start = s.start := rfl
@[simp] theorem State.extendMr_keys (s : State) (r : Nat) (data : Bytes) : (s.extendMr r data).keys = s.keys := rfl
@[simp] theorem State.extendMr_engines (s : State) (r : Nat) (data : Bytes) : (s.extendMr r data).engines = s.engines := rfl
@[simp] theorem State.extendMr_monitors (s : State) (r : Nat) (data : Bytes) : (s.extendMr r data).monitors = s.monitors := rfl
@[simp] theorem State.extendMr_fabric (s : State) (r : Nat) (data : Bytes) : (s.extendMr r data).fabric = s.fabric := rfl
@[simp] theorem State.extendMr_host (s : State) (r : Nat) (data : Bytes) : (s.extendMr r data).host = s.host := rfl
@[simp] theorem State.extendMr_shoal (s : State) (r : Nat) (data : Bytes) : (s.extendMr r data).shoal = s.shoal := rfl
@[simp] theorem State.extendMr_hosting (s : State) (r : Nat) (data : Bytes) : (s.extendMr r data).hosting = s.hosting := rfl
@[simp] theorem State.extendMr_straits (s : State) (r : Nat) (data : Bytes) : (s.extendMr r data).straits = s.straits := rfl
@[simp] theorem State.extendMr_time (s : State) (r : Nat) (data : Bytes) : (s.extendMr r data).time = s.time := rfl
@[simp] theorem State.extendMr_od (s : State) (r : Nat) (data : Bytes) : (s.extendMr r data).od = s.od := rfl
@[simp] theorem State.extendMr_causeway (s : State) (r : Nat) (data : Bytes) : (s.extendMr r data).causeway = s.causeway := rfl
@[simp] theorem State.extendMr_power (s : State) (r : Nat) (data : Bytes) : (s.extendMr r data).power = s.power := rfl
@[simp] theorem State.extendMr_faults (s : State) (r : Nat) (data : Bytes) : (s.extendMr r data).faults = s.faults := rfl
@[simp] theorem State.extendMr_tap (s : State) (r : Nat) (data : Bytes) : (s.extendMr r data).tap = s.tap := rfl
@[simp] theorem State.extendMr_hostMem (s : State) (r : Nat) (data : Bytes) : (s.extendMr r data).hostMem = s.hostMem := rfl
@[simp] theorem State.extendMr_draws (s : State) (r : Nat) (data : Bytes) : (s.extendMr r data).draws = s.draws := rfl
@[simp] theorem State.fault_pending (s : State) (r : FaultRec) : (s.fault r).pending = s.pending := rfl
@[simp] theorem State.fault_otp (s : State) (r : FaultRec) : (s.fault r).otp = s.otp := rfl
@[simp] theorem State.fault_ret (s : State) (r : FaultRec) : (s.fault r).ret = s.ret := rfl
@[simp] theorem State.fault_silicon (s : State) (r : FaultRec) : (s.fault r).silicon = s.silicon := rfl
@[simp] theorem State.fault_pins (s : State) (r : FaultRec) : (s.fault r).pins = s.pins := rfl
@[simp] theorem State.fault_clock (s : State) (r : FaultRec) : (s.fault r).clock = s.clock := rfl
@[simp] theorem State.fault_start (s : State) (r : FaultRec) : (s.fault r).start = s.start := rfl
@[simp] theorem State.fault_keys (s : State) (r : FaultRec) : (s.fault r).keys = s.keys := rfl
@[simp] theorem State.fault_engines (s : State) (r : FaultRec) : (s.fault r).engines = s.engines := rfl
@[simp] theorem State.fault_monitors (s : State) (r : FaultRec) : (s.fault r).monitors = s.monitors := rfl
@[simp] theorem State.fault_fabric (s : State) (r : FaultRec) : (s.fault r).fabric = s.fabric := rfl
@[simp] theorem State.fault_host (s : State) (r : FaultRec) : (s.fault r).host = s.host := rfl
@[simp] theorem State.fault_shoal (s : State) (r : FaultRec) : (s.fault r).shoal = s.shoal := rfl
@[simp] theorem State.fault_measure (s : State) (r : FaultRec) : (s.fault r).measure = s.measure := rfl
@[simp] theorem State.fault_hosting (s : State) (r : FaultRec) : (s.fault r).hosting = s.hosting := rfl
@[simp] theorem State.fault_straits (s : State) (r : FaultRec) : (s.fault r).straits = s.straits := rfl
@[simp] theorem State.fault_time (s : State) (r : FaultRec) : (s.fault r).time = s.time := rfl
@[simp] theorem State.fault_od (s : State) (r : FaultRec) : (s.fault r).od = s.od := rfl
@[simp] theorem State.fault_causeway (s : State) (r : FaultRec) : (s.fault r).causeway = s.causeway := rfl
@[simp] theorem State.fault_power (s : State) (r : FaultRec) : (s.fault r).power = s.power := rfl
@[simp] theorem State.fault_tap (s : State) (r : FaultRec) : (s.fault r).tap = s.tap := rfl
@[simp] theorem State.fault_hostMem (s : State) (r : FaultRec) : (s.fault r).hostMem = s.hostMem := rfl
@[simp] theorem State.fault_draws (s : State) (r : FaultRec) : (s.fault r).draws = s.draws := rfl
@[simp] theorem State.haltStreams_pending (s : State) (l : List Nat) : (s.haltStreams l).pending = s.pending := rfl
@[simp] theorem State.haltStreams_otp (s : State) (l : List Nat) : (s.haltStreams l).otp = s.otp := rfl
@[simp] theorem State.haltStreams_ret (s : State) (l : List Nat) : (s.haltStreams l).ret = s.ret := rfl
@[simp] theorem State.haltStreams_silicon (s : State) (l : List Nat) : (s.haltStreams l).silicon = s.silicon := rfl
@[simp] theorem State.haltStreams_pins (s : State) (l : List Nat) : (s.haltStreams l).pins = s.pins := rfl
@[simp] theorem State.haltStreams_clock (s : State) (l : List Nat) : (s.haltStreams l).clock = s.clock := rfl
@[simp] theorem State.haltStreams_start (s : State) (l : List Nat) : (s.haltStreams l).start = s.start := rfl
@[simp] theorem State.haltStreams_keys (s : State) (l : List Nat) : (s.haltStreams l).keys = s.keys := rfl
@[simp] theorem State.haltStreams_engines (s : State) (l : List Nat) : (s.haltStreams l).engines = s.engines := rfl
@[simp] theorem State.haltStreams_monitors (s : State) (l : List Nat) : (s.haltStreams l).monitors = s.monitors := rfl
@[simp] theorem State.haltStreams_shoal (s : State) (l : List Nat) : (s.haltStreams l).shoal = s.shoal := rfl
@[simp] theorem State.haltStreams_measure (s : State) (l : List Nat) : (s.haltStreams l).measure = s.measure := rfl
@[simp] theorem State.haltStreams_hosting (s : State) (l : List Nat) : (s.haltStreams l).hosting = s.hosting := rfl
@[simp] theorem State.haltStreams_straits (s : State) (l : List Nat) : (s.haltStreams l).straits = s.straits := rfl
@[simp] theorem State.haltStreams_time (s : State) (l : List Nat) : (s.haltStreams l).time = s.time := rfl
@[simp] theorem State.haltStreams_od (s : State) (l : List Nat) : (s.haltStreams l).od = s.od := rfl
@[simp] theorem State.haltStreams_causeway (s : State) (l : List Nat) : (s.haltStreams l).causeway = s.causeway := rfl
@[simp] theorem State.haltStreams_power (s : State) (l : List Nat) : (s.haltStreams l).power = s.power := rfl
@[simp] theorem State.haltStreams_faults (s : State) (l : List Nat) : (s.haltStreams l).faults = s.faults := rfl
@[simp] theorem State.haltStreams_tap (s : State) (l : List Nat) : (s.haltStreams l).tap = s.tap := rfl
@[simp] theorem State.haltStreams_hostMem (s : State) (l : List Nat) : (s.haltStreams l).hostMem = s.hostMem := rfl
@[simp] theorem State.haltStreams_draws (s : State) (l : List Nat) : (s.haltStreams l).draws = s.draws := rfl
@[simp] theorem State.refusePlan_pending (s : State) (code : Nat) : (s.refusePlan code).pending = s.pending := rfl
@[simp] theorem State.refusePlan_otp (s : State) (code : Nat) : (s.refusePlan code).otp = s.otp := rfl
@[simp] theorem State.refusePlan_ret (s : State) (code : Nat) : (s.refusePlan code).ret = s.ret := rfl
@[simp] theorem State.refusePlan_silicon (s : State) (code : Nat) : (s.refusePlan code).silicon = s.silicon := rfl
@[simp] theorem State.refusePlan_pins (s : State) (code : Nat) : (s.refusePlan code).pins = s.pins := rfl
@[simp] theorem State.refusePlan_clock (s : State) (code : Nat) : (s.refusePlan code).clock = s.clock := rfl
@[simp] theorem State.refusePlan_start (s : State) (code : Nat) : (s.refusePlan code).start = s.start := rfl
@[simp] theorem State.refusePlan_keys (s : State) (code : Nat) : (s.refusePlan code).keys = s.keys := rfl
@[simp] theorem State.refusePlan_engines (s : State) (code : Nat) : (s.refusePlan code).engines = s.engines := rfl
@[simp] theorem State.refusePlan_monitors (s : State) (code : Nat) : (s.refusePlan code).monitors = s.monitors := rfl
@[simp] theorem State.refusePlan_host (s : State) (code : Nat) : (s.refusePlan code).host = s.host := rfl
@[simp] theorem State.refusePlan_shoal (s : State) (code : Nat) : (s.refusePlan code).shoal = s.shoal := rfl
@[simp] theorem State.refusePlan_measure (s : State) (code : Nat) : (s.refusePlan code).measure = s.measure := rfl
@[simp] theorem State.refusePlan_hosting (s : State) (code : Nat) : (s.refusePlan code).hosting = s.hosting := rfl
@[simp] theorem State.refusePlan_straits (s : State) (code : Nat) : (s.refusePlan code).straits = s.straits := rfl
@[simp] theorem State.refusePlan_time (s : State) (code : Nat) : (s.refusePlan code).time = s.time := rfl
@[simp] theorem State.refusePlan_od (s : State) (code : Nat) : (s.refusePlan code).od = s.od := rfl
@[simp] theorem State.refusePlan_causeway (s : State) (code : Nat) : (s.refusePlan code).causeway = s.causeway := rfl
@[simp] theorem State.refusePlan_power (s : State) (code : Nat) : (s.refusePlan code).power = s.power := rfl
@[simp] theorem State.refusePlan_faults (s : State) (code : Nat) : (s.refusePlan code).faults = s.faults := rfl
@[simp] theorem State.refusePlan_tap (s : State) (code : Nat) : (s.refusePlan code).tap = s.tap := rfl
@[simp] theorem State.refusePlan_hostMem (s : State) (code : Nat) : (s.refusePlan code).hostMem = s.hostMem := rfl
@[simp] theorem State.refusePlan_draws (s : State) (code : Nat) : (s.refusePlan code).draws = s.draws := rfl
@[simp] theorem State.countTee_pending (s : State) : s.countTee.pending = s.pending := rfl
@[simp] theorem State.countTee_otp (s : State) : s.countTee.otp = s.otp := rfl
@[simp] theorem State.countTee_silicon (s : State) : s.countTee.silicon = s.silicon := rfl
@[simp] theorem State.countTee_pins (s : State) : s.countTee.pins = s.pins := rfl
@[simp] theorem State.countTee_clock (s : State) : s.countTee.clock = s.clock := rfl
@[simp] theorem State.countTee_start (s : State) : s.countTee.start = s.start := rfl
@[simp] theorem State.countTee_keys (s : State) : s.countTee.keys = s.keys := rfl
@[simp] theorem State.countTee_engines (s : State) : s.countTee.engines = s.engines := rfl
@[simp] theorem State.countTee_monitors (s : State) : s.countTee.monitors = s.monitors := rfl
@[simp] theorem State.countTee_fabric (s : State) : s.countTee.fabric = s.fabric := rfl
@[simp] theorem State.countTee_host (s : State) : s.countTee.host = s.host := rfl
@[simp] theorem State.countTee_shoal (s : State) : s.countTee.shoal = s.shoal := rfl
@[simp] theorem State.countTee_measure (s : State) : s.countTee.measure = s.measure := rfl
@[simp] theorem State.countTee_hosting (s : State) : s.countTee.hosting = s.hosting := rfl
@[simp] theorem State.countTee_straits (s : State) : s.countTee.straits = s.straits := rfl
@[simp] theorem State.countTee_time (s : State) : s.countTee.time = s.time := rfl
@[simp] theorem State.countTee_od (s : State) : s.countTee.od = s.od := rfl
@[simp] theorem State.countTee_causeway (s : State) : s.countTee.causeway = s.causeway := rfl
@[simp] theorem State.countTee_power (s : State) : s.countTee.power = s.power := rfl
@[simp] theorem State.countTee_faults (s : State) : s.countTee.faults = s.faults := rfl
@[simp] theorem State.countTee_tap (s : State) : s.countTee.tap = s.tap := rfl
@[simp] theorem State.countTee_hostMem (s : State) : s.countTee.hostMem = s.hostMem := rfl
@[simp] theorem State.countTee_draws (s : State) : s.countTee.draws = s.draws := rfl
@[simp] theorem State.violate_pending (s : State) (ch : Channel) (index sub kind : Nat) : (s.violate ch index sub kind).pending = s.pending := rfl
@[simp] theorem State.violate_otp (s : State) (ch : Channel) (index sub kind : Nat) : (s.violate ch index sub kind).otp = s.otp := rfl
@[simp] theorem State.violate_silicon (s : State) (ch : Channel) (index sub kind : Nat) : (s.violate ch index sub kind).silicon = s.silicon := rfl
@[simp] theorem State.violate_pins (s : State) (ch : Channel) (index sub kind : Nat) : (s.violate ch index sub kind).pins = s.pins := rfl
@[simp] theorem State.violate_clock (s : State) (ch : Channel) (index sub kind : Nat) : (s.violate ch index sub kind).clock = s.clock := rfl
@[simp] theorem State.violate_start (s : State) (ch : Channel) (index sub kind : Nat) : (s.violate ch index sub kind).start = s.start := rfl
@[simp] theorem State.violate_keys (s : State) (ch : Channel) (index sub kind : Nat) : (s.violate ch index sub kind).keys = s.keys := rfl
@[simp] theorem State.violate_engines (s : State) (ch : Channel) (index sub kind : Nat) : (s.violate ch index sub kind).engines = s.engines := rfl
@[simp] theorem State.violate_monitors (s : State) (ch : Channel) (index sub kind : Nat) : (s.violate ch index sub kind).monitors = s.monitors := rfl
@[simp] theorem State.violate_fabric (s : State) (ch : Channel) (index sub kind : Nat) : (s.violate ch index sub kind).fabric = s.fabric := rfl
@[simp] theorem State.violate_host (s : State) (ch : Channel) (index sub kind : Nat) : (s.violate ch index sub kind).host = s.host := rfl
@[simp] theorem State.violate_shoal (s : State) (ch : Channel) (index sub kind : Nat) : (s.violate ch index sub kind).shoal = s.shoal := rfl
@[simp] theorem State.violate_measure (s : State) (ch : Channel) (index sub kind : Nat) : (s.violate ch index sub kind).measure = s.measure := rfl
@[simp] theorem State.violate_hosting (s : State) (ch : Channel) (index sub kind : Nat) : (s.violate ch index sub kind).hosting = s.hosting := rfl
@[simp] theorem State.violate_straits (s : State) (ch : Channel) (index sub kind : Nat) : (s.violate ch index sub kind).straits = s.straits := rfl
@[simp] theorem State.violate_time (s : State) (ch : Channel) (index sub kind : Nat) : (s.violate ch index sub kind).time = s.time := rfl
@[simp] theorem State.violate_od (s : State) (ch : Channel) (index sub kind : Nat) : (s.violate ch index sub kind).od = s.od := rfl
@[simp] theorem State.violate_causeway (s : State) (ch : Channel) (index sub kind : Nat) : (s.violate ch index sub kind).causeway = s.causeway := rfl
@[simp] theorem State.violate_power (s : State) (ch : Channel) (index sub kind : Nat) : (s.violate ch index sub kind).power = s.power := rfl
@[simp] theorem State.violate_faults (s : State) (ch : Channel) (index sub kind : Nat) : (s.violate ch index sub kind).faults = s.faults := rfl
@[simp] theorem State.violate_tap (s : State) (ch : Channel) (index sub kind : Nat) : (s.violate ch index sub kind).tap = s.tap := rfl
@[simp] theorem State.violate_hostMem (s : State) (ch : Channel) (index sub kind : Nat) : (s.violate ch index sub kind).hostMem = s.hostMem := rfl
@[simp] theorem State.violate_draws (s : State) (ch : Channel) (index sub kind : Nat) : (s.violate ch index sub kind).draws = s.draws := rfl
@[simp] theorem State.ignoreWrite_pending (s : State) (index sub : Nat) : (s.ignoreWrite index sub).pending = s.pending := rfl
@[simp] theorem State.ignoreWrite_otp (s : State) (index sub : Nat) : (s.ignoreWrite index sub).otp = s.otp := rfl
@[simp] theorem State.ignoreWrite_ret (s : State) (index sub : Nat) : (s.ignoreWrite index sub).ret = s.ret := rfl
@[simp] theorem State.ignoreWrite_silicon (s : State) (index sub : Nat) : (s.ignoreWrite index sub).silicon = s.silicon := rfl
@[simp] theorem State.ignoreWrite_pins (s : State) (index sub : Nat) : (s.ignoreWrite index sub).pins = s.pins := rfl
@[simp] theorem State.ignoreWrite_clock (s : State) (index sub : Nat) : (s.ignoreWrite index sub).clock = s.clock := rfl
@[simp] theorem State.ignoreWrite_start (s : State) (index sub : Nat) : (s.ignoreWrite index sub).start = s.start := rfl
@[simp] theorem State.ignoreWrite_keys (s : State) (index sub : Nat) : (s.ignoreWrite index sub).keys = s.keys := rfl
@[simp] theorem State.ignoreWrite_engines (s : State) (index sub : Nat) : (s.ignoreWrite index sub).engines = s.engines := rfl
@[simp] theorem State.ignoreWrite_monitors (s : State) (index sub : Nat) : (s.ignoreWrite index sub).monitors = s.monitors := rfl
@[simp] theorem State.ignoreWrite_fabric (s : State) (index sub : Nat) : (s.ignoreWrite index sub).fabric = s.fabric := rfl
@[simp] theorem State.ignoreWrite_host (s : State) (index sub : Nat) : (s.ignoreWrite index sub).host = s.host := rfl
@[simp] theorem State.ignoreWrite_shoal (s : State) (index sub : Nat) : (s.ignoreWrite index sub).shoal = s.shoal := rfl
@[simp] theorem State.ignoreWrite_measure (s : State) (index sub : Nat) : (s.ignoreWrite index sub).measure = s.measure := rfl
@[simp] theorem State.ignoreWrite_hosting (s : State) (index sub : Nat) : (s.ignoreWrite index sub).hosting = s.hosting := rfl
@[simp] theorem State.ignoreWrite_straits (s : State) (index sub : Nat) : (s.ignoreWrite index sub).straits = s.straits := rfl
@[simp] theorem State.ignoreWrite_time (s : State) (index sub : Nat) : (s.ignoreWrite index sub).time = s.time := rfl
@[simp] theorem State.ignoreWrite_causeway (s : State) (index sub : Nat) : (s.ignoreWrite index sub).causeway = s.causeway := rfl
@[simp] theorem State.ignoreWrite_power (s : State) (index sub : Nat) : (s.ignoreWrite index sub).power = s.power := rfl
@[simp] theorem State.ignoreWrite_faults (s : State) (index sub : Nat) : (s.ignoreWrite index sub).faults = s.faults := rfl
@[simp] theorem State.ignoreWrite_tap (s : State) (index sub : Nat) : (s.ignoreWrite index sub).tap = s.tap := rfl
@[simp] theorem State.ignoreWrite_hostMem (s : State) (index sub : Nat) : (s.ignoreWrite index sub).hostMem = s.hostMem := rfl
@[simp] theorem State.ignoreWrite_draws (s : State) (index sub : Nat) : (s.ignoreWrite index sub).draws = s.draws := rfl
@[simp] theorem State.stopMalformed_pending (s : State) (r k : Nat) : (s.stopMalformed r k).pending = s.pending := rfl
@[simp] theorem State.stopMalformed_otp (s : State) (r k : Nat) : (s.stopMalformed r k).otp = s.otp := rfl
@[simp] theorem State.stopMalformed_ret (s : State) (r k : Nat) : (s.stopMalformed r k).ret = s.ret := rfl
@[simp] theorem State.stopMalformed_silicon (s : State) (r k : Nat) : (s.stopMalformed r k).silicon = s.silicon := rfl
@[simp] theorem State.stopMalformed_pins (s : State) (r k : Nat) : (s.stopMalformed r k).pins = s.pins := rfl
@[simp] theorem State.stopMalformed_clock (s : State) (r k : Nat) : (s.stopMalformed r k).clock = s.clock := rfl
@[simp] theorem State.stopMalformed_start (s : State) (r k : Nat) : (s.stopMalformed r k).start = s.start := rfl
@[simp] theorem State.stopMalformed_keys (s : State) (r k : Nat) : (s.stopMalformed r k).keys = s.keys := rfl
@[simp] theorem State.stopMalformed_engines (s : State) (r k : Nat) : (s.stopMalformed r k).engines = s.engines := rfl
@[simp] theorem State.stopMalformed_monitors (s : State) (r k : Nat) : (s.stopMalformed r k).monitors = s.monitors := rfl
@[simp] theorem State.stopMalformed_fabric (s : State) (r k : Nat) : (s.stopMalformed r k).fabric = s.fabric := rfl
@[simp] theorem State.stopMalformed_shoal (s : State) (r k : Nat) : (s.stopMalformed r k).shoal = s.shoal := rfl
@[simp] theorem State.stopMalformed_measure (s : State) (r k : Nat) : (s.stopMalformed r k).measure = s.measure := rfl
@[simp] theorem State.stopMalformed_hosting (s : State) (r k : Nat) : (s.stopMalformed r k).hosting = s.hosting := rfl
@[simp] theorem State.stopMalformed_straits (s : State) (r k : Nat) : (s.stopMalformed r k).straits = s.straits := rfl
@[simp] theorem State.stopMalformed_time (s : State) (r k : Nat) : (s.stopMalformed r k).time = s.time := rfl
@[simp] theorem State.stopMalformed_od (s : State) (r k : Nat) : (s.stopMalformed r k).od = s.od := rfl
@[simp] theorem State.stopMalformed_causeway (s : State) (r k : Nat) : (s.stopMalformed r k).causeway = s.causeway := rfl
@[simp] theorem State.stopMalformed_power (s : State) (r k : Nat) : (s.stopMalformed r k).power = s.power := rfl
@[simp] theorem State.stopMalformed_faults (s : State) (r k : Nat) : (s.stopMalformed r k).faults = s.faults := rfl
@[simp] theorem State.stopMalformed_tap (s : State) (r k : Nat) : (s.stopMalformed r k).tap = s.tap := rfl
@[simp] theorem State.stopMalformed_hostMem (s : State) (r k : Nat) : (s.stopMalformed r k).hostMem = s.hostMem := rfl
@[simp] theorem State.stopMalformed_draws (s : State) (r k : Nat) : (s.stopMalformed r k).draws = s.draws := rfl
@[simp] theorem State.sequence_pending (s : State) (ring st : Nat) (e : SqEntry) : (s.sequence ring st e).pending = s.pending := rfl
@[simp] theorem State.sequence_otp (s : State) (ring st : Nat) (e : SqEntry) : (s.sequence ring st e).otp = s.otp := rfl
@[simp] theorem State.sequence_silicon (s : State) (ring st : Nat) (e : SqEntry) : (s.sequence ring st e).silicon = s.silicon := rfl
@[simp] theorem State.sequence_pins (s : State) (ring st : Nat) (e : SqEntry) : (s.sequence ring st e).pins = s.pins := rfl
@[simp] theorem State.sequence_clock (s : State) (ring st : Nat) (e : SqEntry) : (s.sequence ring st e).clock = s.clock := rfl
@[simp] theorem State.sequence_start (s : State) (ring st : Nat) (e : SqEntry) : (s.sequence ring st e).start = s.start := rfl
@[simp] theorem State.sequence_keys (s : State) (ring st : Nat) (e : SqEntry) : (s.sequence ring st e).keys = s.keys := rfl
@[simp] theorem State.sequence_engines (s : State) (ring st : Nat) (e : SqEntry) : (s.sequence ring st e).engines = s.engines := rfl
@[simp] theorem State.sequence_monitors (s : State) (ring st : Nat) (e : SqEntry) : (s.sequence ring st e).monitors = s.monitors := rfl
@[simp] theorem State.sequence_fabric (s : State) (ring st : Nat) (e : SqEntry) : (s.sequence ring st e).fabric = s.fabric := rfl
@[simp] theorem State.sequence_shoal (s : State) (ring st : Nat) (e : SqEntry) : (s.sequence ring st e).shoal = s.shoal := rfl
@[simp] theorem State.sequence_measure (s : State) (ring st : Nat) (e : SqEntry) : (s.sequence ring st e).measure = s.measure := rfl
@[simp] theorem State.sequence_hosting (s : State) (ring st : Nat) (e : SqEntry) : (s.sequence ring st e).hosting = s.hosting := rfl
@[simp] theorem State.sequence_straits (s : State) (ring st : Nat) (e : SqEntry) : (s.sequence ring st e).straits = s.straits := rfl
@[simp] theorem State.sequence_time (s : State) (ring st : Nat) (e : SqEntry) : (s.sequence ring st e).time = s.time := rfl
@[simp] theorem State.sequence_od (s : State) (ring st : Nat) (e : SqEntry) : (s.sequence ring st e).od = s.od := rfl
@[simp] theorem State.sequence_causeway (s : State) (ring st : Nat) (e : SqEntry) : (s.sequence ring st e).causeway = s.causeway := rfl
@[simp] theorem State.sequence_power (s : State) (ring st : Nat) (e : SqEntry) : (s.sequence ring st e).power = s.power := rfl
@[simp] theorem State.sequence_faults (s : State) (ring st : Nat) (e : SqEntry) : (s.sequence ring st e).faults = s.faults := rfl
@[simp] theorem State.sequence_tap (s : State) (ring st : Nat) (e : SqEntry) : (s.sequence ring st e).tap = s.tap := rfl
@[simp] theorem State.sequence_hostMem (s : State) (ring st : Nat) (e : SqEntry) : (s.sequence ring st e).hostMem = s.hostMem := rfl
@[simp] theorem State.sequence_draws (s : State) (ring st : Nat) (e : SqEntry) : (s.sequence ring st e).draws = s.draws := rfl
@[simp] theorem State.makeCut_pending (s : State) (cause : Nat) : (s.makeCut cause).pending = s.pending := rfl
@[simp] theorem State.makeCut_otp (s : State) (cause : Nat) : (s.makeCut cause).otp = s.otp := rfl
@[simp] theorem State.makeCut_silicon (s : State) (cause : Nat) : (s.makeCut cause).silicon = s.silicon := rfl
@[simp] theorem State.makeCut_pins (s : State) (cause : Nat) : (s.makeCut cause).pins = s.pins := rfl
@[simp] theorem State.makeCut_clock (s : State) (cause : Nat) : (s.makeCut cause).clock = s.clock := rfl
@[simp] theorem State.makeCut_start (s : State) (cause : Nat) : (s.makeCut cause).start = s.start := rfl
@[simp] theorem State.makeCut_keys (s : State) (cause : Nat) : (s.makeCut cause).keys = s.keys := rfl
@[simp] theorem State.makeCut_engines (s : State) (cause : Nat) : (s.makeCut cause).engines = s.engines := rfl
@[simp] theorem State.makeCut_monitors (s : State) (cause : Nat) : (s.makeCut cause).monitors = s.monitors := rfl
@[simp] theorem State.makeCut_fabric (s : State) (cause : Nat) : (s.makeCut cause).fabric = s.fabric := rfl
@[simp] theorem State.makeCut_host (s : State) (cause : Nat) : (s.makeCut cause).host = s.host := rfl
@[simp] theorem State.makeCut_shoal (s : State) (cause : Nat) : (s.makeCut cause).shoal = s.shoal := rfl
@[simp] theorem State.makeCut_hosting (s : State) (cause : Nat) : (s.makeCut cause).hosting = s.hosting := rfl
@[simp] theorem State.makeCut_straits (s : State) (cause : Nat) : (s.makeCut cause).straits = s.straits := rfl
@[simp] theorem State.makeCut_time (s : State) (cause : Nat) : (s.makeCut cause).time = s.time := rfl
@[simp] theorem State.makeCut_od (s : State) (cause : Nat) : (s.makeCut cause).od = s.od := rfl
@[simp] theorem State.makeCut_causeway (s : State) (cause : Nat) : (s.makeCut cause).causeway = s.causeway := rfl
@[simp] theorem State.makeCut_power (s : State) (cause : Nat) : (s.makeCut cause).power = s.power := rfl
@[simp] theorem State.makeCut_faults (s : State) (cause : Nat) : (s.makeCut cause).faults = s.faults := rfl
@[simp] theorem State.makeCut_tap (s : State) (cause : Nat) : (s.makeCut cause).tap = s.tap := rfl
@[simp] theorem State.makeCut_hostMem (s : State) (cause : Nat) : (s.makeCut cause).hostMem = s.hostMem := rfl
@[simp] theorem State.makeCut_draws (s : State) (cause : Nat) : (s.makeCut cause).draws = s.draws := rfl
@[simp] theorem State.sessionCode_pending (s : State) (code : Nat) : (s.sessionCode code).pending = s.pending := rfl
@[simp] theorem State.sessionCode_otp (s : State) (code : Nat) : (s.sessionCode code).otp = s.otp := rfl
@[simp] theorem State.sessionCode_ret (s : State) (code : Nat) : (s.sessionCode code).ret = s.ret := rfl
@[simp] theorem State.sessionCode_silicon (s : State) (code : Nat) : (s.sessionCode code).silicon = s.silicon := rfl
@[simp] theorem State.sessionCode_pins (s : State) (code : Nat) : (s.sessionCode code).pins = s.pins := rfl
@[simp] theorem State.sessionCode_clock (s : State) (code : Nat) : (s.sessionCode code).clock = s.clock := rfl
@[simp] theorem State.sessionCode_start (s : State) (code : Nat) : (s.sessionCode code).start = s.start := rfl
@[simp] theorem State.sessionCode_keys (s : State) (code : Nat) : (s.sessionCode code).keys = s.keys := rfl
@[simp] theorem State.sessionCode_engines (s : State) (code : Nat) : (s.sessionCode code).engines = s.engines := rfl
@[simp] theorem State.sessionCode_monitors (s : State) (code : Nat) : (s.sessionCode code).monitors = s.monitors := rfl
@[simp] theorem State.sessionCode_fabric (s : State) (code : Nat) : (s.sessionCode code).fabric = s.fabric := rfl
@[simp] theorem State.sessionCode_host (s : State) (code : Nat) : (s.sessionCode code).host = s.host := rfl
@[simp] theorem State.sessionCode_shoal (s : State) (code : Nat) : (s.sessionCode code).shoal = s.shoal := rfl
@[simp] theorem State.sessionCode_measure (s : State) (code : Nat) : (s.sessionCode code).measure = s.measure := rfl
@[simp] theorem State.sessionCode_hosting (s : State) (code : Nat) : (s.sessionCode code).hosting = s.hosting := rfl
@[simp] theorem State.sessionCode_straits (s : State) (code : Nat) : (s.sessionCode code).straits = s.straits := rfl
@[simp] theorem State.sessionCode_time (s : State) (code : Nat) : (s.sessionCode code).time = s.time := rfl
@[simp] theorem State.sessionCode_causeway (s : State) (code : Nat) : (s.sessionCode code).causeway = s.causeway := rfl
@[simp] theorem State.sessionCode_power (s : State) (code : Nat) : (s.sessionCode code).power = s.power := rfl
@[simp] theorem State.sessionCode_faults (s : State) (code : Nat) : (s.sessionCode code).faults = s.faults := rfl
@[simp] theorem State.sessionCode_tap (s : State) (code : Nat) : (s.sessionCode code).tap = s.tap := rfl
@[simp] theorem State.sessionCode_hostMem (s : State) (code : Nat) : (s.sessionCode code).hostMem = s.hostMem := rfl
@[simp] theorem State.sessionCode_draws (s : State) (code : Nat) : (s.sessionCode code).draws = s.draws := rfl
@[simp] theorem State.openTheSession_pending (s : State) (plane : Nat) : (s.openTheSession plane).pending = s.pending := rfl
@[simp] theorem State.openTheSession_otp (s : State) (plane : Nat) : (s.openTheSession plane).otp = s.otp := rfl
@[simp] theorem State.openTheSession_silicon (s : State) (plane : Nat) : (s.openTheSession plane).silicon = s.silicon := rfl
@[simp] theorem State.openTheSession_pins (s : State) (plane : Nat) : (s.openTheSession plane).pins = s.pins := rfl
@[simp] theorem State.openTheSession_clock (s : State) (plane : Nat) : (s.openTheSession plane).clock = s.clock := rfl
@[simp] theorem State.openTheSession_start (s : State) (plane : Nat) : (s.openTheSession plane).start = s.start := rfl
@[simp] theorem State.openTheSession_keys (s : State) (plane : Nat) : (s.openTheSession plane).keys = s.keys := rfl
@[simp] theorem State.openTheSession_engines (s : State) (plane : Nat) : (s.openTheSession plane).engines = s.engines := rfl
@[simp] theorem State.openTheSession_monitors (s : State) (plane : Nat) : (s.openTheSession plane).monitors = s.monitors := rfl
@[simp] theorem State.openTheSession_hosting (s : State) (plane : Nat) : (s.openTheSession plane).hosting = s.hosting := rfl
@[simp] theorem State.openTheSession_straits (s : State) (plane : Nat) : (s.openTheSession plane).straits = s.straits := rfl
@[simp] theorem State.openTheSession_time (s : State) (plane : Nat) : (s.openTheSession plane).time = s.time := rfl
@[simp] theorem State.openTheSession_causeway (s : State) (plane : Nat) : (s.openTheSession plane).causeway = s.causeway := rfl
@[simp] theorem State.openTheSession_power (s : State) (plane : Nat) : (s.openTheSession plane).power = s.power := rfl
@[simp] theorem State.openTheSession_faults (s : State) (plane : Nat) : (s.openTheSession plane).faults = s.faults := rfl
@[simp] theorem State.openTheSession_tap (s : State) (plane : Nat) : (s.openTheSession plane).tap = s.tap := rfl
@[simp] theorem State.openTheSession_hostMem (s : State) (plane : Nat) : (s.openTheSession plane).hostMem = s.hostMem := rfl
@[simp] theorem State.openTheSession_draws (s : State) (plane : Nat) : (s.openTheSession plane).draws = s.draws := rfl
@[simp] theorem State.loadImage_pending (s : State) (b : Bytes) : (s.loadImage b).pending = s.pending := rfl
@[simp] theorem State.loadImage_otp (s : State) (b : Bytes) : (s.loadImage b).otp = s.otp := rfl
@[simp] theorem State.loadImage_ret (s : State) (b : Bytes) : (s.loadImage b).ret = s.ret := rfl
@[simp] theorem State.loadImage_silicon (s : State) (b : Bytes) : (s.loadImage b).silicon = s.silicon := rfl
@[simp] theorem State.loadImage_pins (s : State) (b : Bytes) : (s.loadImage b).pins = s.pins := rfl
@[simp] theorem State.loadImage_clock (s : State) (b : Bytes) : (s.loadImage b).clock = s.clock := rfl
@[simp] theorem State.loadImage_start (s : State) (b : Bytes) : (s.loadImage b).start = s.start := rfl
@[simp] theorem State.loadImage_keys (s : State) (b : Bytes) : (s.loadImage b).keys = s.keys := rfl
@[simp] theorem State.loadImage_engines (s : State) (b : Bytes) : (s.loadImage b).engines = s.engines := rfl
@[simp] theorem State.loadImage_monitors (s : State) (b : Bytes) : (s.loadImage b).monitors = s.monitors := rfl
@[simp] theorem State.loadImage_fabric (s : State) (b : Bytes) : (s.loadImage b).fabric = s.fabric := rfl
@[simp] theorem State.loadImage_host (s : State) (b : Bytes) : (s.loadImage b).host = s.host := rfl
@[simp] theorem State.loadImage_hosting (s : State) (b : Bytes) : (s.loadImage b).hosting = s.hosting := rfl
@[simp] theorem State.loadImage_straits (s : State) (b : Bytes) : (s.loadImage b).straits = s.straits := rfl
@[simp] theorem State.loadImage_time (s : State) (b : Bytes) : (s.loadImage b).time = s.time := rfl
@[simp] theorem State.loadImage_od (s : State) (b : Bytes) : (s.loadImage b).od = s.od := rfl
@[simp] theorem State.loadImage_causeway (s : State) (b : Bytes) : (s.loadImage b).causeway = s.causeway := rfl
@[simp] theorem State.loadImage_power (s : State) (b : Bytes) : (s.loadImage b).power = s.power := rfl
@[simp] theorem State.loadImage_faults (s : State) (b : Bytes) : (s.loadImage b).faults = s.faults := rfl
@[simp] theorem State.loadImage_tap (s : State) (b : Bytes) : (s.loadImage b).tap = s.tap := rfl
@[simp] theorem State.loadImage_hostMem (s : State) (b : Bytes) : (s.loadImage b).hostMem = s.hostMem := rfl
@[simp] theorem State.loadImage_draws (s : State) (b : Bytes) : (s.loadImage b).draws = s.draws := rfl
@[simp] theorem State.refuseImage_pending (s : State) (code : Nat) : (s.refuseImage code).pending = s.pending := rfl
@[simp] theorem State.refuseImage_otp (s : State) (code : Nat) : (s.refuseImage code).otp = s.otp := rfl
@[simp] theorem State.refuseImage_ret (s : State) (code : Nat) : (s.refuseImage code).ret = s.ret := rfl
@[simp] theorem State.refuseImage_silicon (s : State) (code : Nat) : (s.refuseImage code).silicon = s.silicon := rfl
@[simp] theorem State.refuseImage_pins (s : State) (code : Nat) : (s.refuseImage code).pins = s.pins := rfl
@[simp] theorem State.refuseImage_clock (s : State) (code : Nat) : (s.refuseImage code).clock = s.clock := rfl
@[simp] theorem State.refuseImage_start (s : State) (code : Nat) : (s.refuseImage code).start = s.start := rfl
@[simp] theorem State.refuseImage_keys (s : State) (code : Nat) : (s.refuseImage code).keys = s.keys := rfl
@[simp] theorem State.refuseImage_engines (s : State) (code : Nat) : (s.refuseImage code).engines = s.engines := rfl
@[simp] theorem State.refuseImage_monitors (s : State) (code : Nat) : (s.refuseImage code).monitors = s.monitors := rfl
@[simp] theorem State.refuseImage_fabric (s : State) (code : Nat) : (s.refuseImage code).fabric = s.fabric := rfl
@[simp] theorem State.refuseImage_host (s : State) (code : Nat) : (s.refuseImage code).host = s.host := rfl
@[simp] theorem State.refuseImage_measure (s : State) (code : Nat) : (s.refuseImage code).measure = s.measure := rfl
@[simp] theorem State.refuseImage_hosting (s : State) (code : Nat) : (s.refuseImage code).hosting = s.hosting := rfl
@[simp] theorem State.refuseImage_straits (s : State) (code : Nat) : (s.refuseImage code).straits = s.straits := rfl
@[simp] theorem State.refuseImage_time (s : State) (code : Nat) : (s.refuseImage code).time = s.time := rfl
@[simp] theorem State.refuseImage_od (s : State) (code : Nat) : (s.refuseImage code).od = s.od := rfl
@[simp] theorem State.refuseImage_causeway (s : State) (code : Nat) : (s.refuseImage code).causeway = s.causeway := rfl
@[simp] theorem State.refuseImage_power (s : State) (code : Nat) : (s.refuseImage code).power = s.power := rfl
@[simp] theorem State.refuseImage_faults (s : State) (code : Nat) : (s.refuseImage code).faults = s.faults := rfl
@[simp] theorem State.refuseImage_tap (s : State) (code : Nat) : (s.refuseImage code).tap = s.tap := rfl
@[simp] theorem State.refuseImage_hostMem (s : State) (code : Nat) : (s.refuseImage code).hostMem = s.hostMem := rfl
@[simp] theorem State.refuseImage_draws (s : State) (code : Nat) : (s.refuseImage code).draws = s.draws := rfl
@[simp] theorem State.respond_pending (s : State) (code : Nat) (body : Bytes) : (s.respond code body).pending = s.pending := rfl
@[simp] theorem State.respond_otp (s : State) (code : Nat) (body : Bytes) : (s.respond code body).otp = s.otp := rfl
@[simp] theorem State.respond_ret (s : State) (code : Nat) (body : Bytes) : (s.respond code body).ret = s.ret := rfl
@[simp] theorem State.respond_silicon (s : State) (code : Nat) (body : Bytes) : (s.respond code body).silicon = s.silicon := rfl
@[simp] theorem State.respond_pins (s : State) (code : Nat) (body : Bytes) : (s.respond code body).pins = s.pins := rfl
@[simp] theorem State.respond_clock (s : State) (code : Nat) (body : Bytes) : (s.respond code body).clock = s.clock := rfl
@[simp] theorem State.respond_start (s : State) (code : Nat) (body : Bytes) : (s.respond code body).start = s.start := rfl
@[simp] theorem State.respond_keys (s : State) (code : Nat) (body : Bytes) : (s.respond code body).keys = s.keys := rfl
@[simp] theorem State.respond_engines (s : State) (code : Nat) (body : Bytes) : (s.respond code body).engines = s.engines := rfl
@[simp] theorem State.respond_monitors (s : State) (code : Nat) (body : Bytes) : (s.respond code body).monitors = s.monitors := rfl
@[simp] theorem State.respond_fabric (s : State) (code : Nat) (body : Bytes) : (s.respond code body).fabric = s.fabric := rfl
@[simp] theorem State.respond_host (s : State) (code : Nat) (body : Bytes) : (s.respond code body).host = s.host := rfl
@[simp] theorem State.respond_shoal (s : State) (code : Nat) (body : Bytes) : (s.respond code body).shoal = s.shoal := rfl
@[simp] theorem State.respond_measure (s : State) (code : Nat) (body : Bytes) : (s.respond code body).measure = s.measure := rfl
@[simp] theorem State.respond_straits (s : State) (code : Nat) (body : Bytes) : (s.respond code body).straits = s.straits := rfl
@[simp] theorem State.respond_time (s : State) (code : Nat) (body : Bytes) : (s.respond code body).time = s.time := rfl
@[simp] theorem State.respond_od (s : State) (code : Nat) (body : Bytes) : (s.respond code body).od = s.od := rfl
@[simp] theorem State.respond_causeway (s : State) (code : Nat) (body : Bytes) : (s.respond code body).causeway = s.causeway := rfl
@[simp] theorem State.respond_power (s : State) (code : Nat) (body : Bytes) : (s.respond code body).power = s.power := rfl
@[simp] theorem State.respond_faults (s : State) (code : Nat) (body : Bytes) : (s.respond code body).faults = s.faults := rfl
@[simp] theorem State.respond_tap (s : State) (code : Nat) (body : Bytes) : (s.respond code body).tap = s.tap := rfl
@[simp] theorem State.respond_hostMem (s : State) (code : Nat) (body : Bytes) : (s.respond code body).hostMem = s.hostMem := rfl
@[simp] theorem State.respond_draws (s : State) (code : Nat) (body : Bytes) : (s.respond code body).draws = s.draws := rfl
@[simp] theorem State.spdmError_pending (s : State) (code : Nat) : (s.spdmError code).pending = s.pending := rfl
@[simp] theorem State.spdmError_otp (s : State) (code : Nat) : (s.spdmError code).otp = s.otp := rfl
@[simp] theorem State.spdmError_ret (s : State) (code : Nat) : (s.spdmError code).ret = s.ret := rfl
@[simp] theorem State.spdmError_silicon (s : State) (code : Nat) : (s.spdmError code).silicon = s.silicon := rfl
@[simp] theorem State.spdmError_pins (s : State) (code : Nat) : (s.spdmError code).pins = s.pins := rfl
@[simp] theorem State.spdmError_clock (s : State) (code : Nat) : (s.spdmError code).clock = s.clock := rfl
@[simp] theorem State.spdmError_start (s : State) (code : Nat) : (s.spdmError code).start = s.start := rfl
@[simp] theorem State.spdmError_keys (s : State) (code : Nat) : (s.spdmError code).keys = s.keys := rfl
@[simp] theorem State.spdmError_engines (s : State) (code : Nat) : (s.spdmError code).engines = s.engines := rfl
@[simp] theorem State.spdmError_monitors (s : State) (code : Nat) : (s.spdmError code).monitors = s.monitors := rfl
@[simp] theorem State.spdmError_fabric (s : State) (code : Nat) : (s.spdmError code).fabric = s.fabric := rfl
@[simp] theorem State.spdmError_host (s : State) (code : Nat) : (s.spdmError code).host = s.host := rfl
@[simp] theorem State.spdmError_shoal (s : State) (code : Nat) : (s.spdmError code).shoal = s.shoal := rfl
@[simp] theorem State.spdmError_measure (s : State) (code : Nat) : (s.spdmError code).measure = s.measure := rfl
@[simp] theorem State.spdmError_straits (s : State) (code : Nat) : (s.spdmError code).straits = s.straits := rfl
@[simp] theorem State.spdmError_time (s : State) (code : Nat) : (s.spdmError code).time = s.time := rfl
@[simp] theorem State.spdmError_od (s : State) (code : Nat) : (s.spdmError code).od = s.od := rfl
@[simp] theorem State.spdmError_causeway (s : State) (code : Nat) : (s.spdmError code).causeway = s.causeway := rfl
@[simp] theorem State.spdmError_power (s : State) (code : Nat) : (s.spdmError code).power = s.power := rfl
@[simp] theorem State.spdmError_faults (s : State) (code : Nat) : (s.spdmError code).faults = s.faults := rfl
@[simp] theorem State.spdmError_tap (s : State) (code : Nat) : (s.spdmError code).tap = s.tap := rfl
@[simp] theorem State.spdmError_hostMem (s : State) (code : Nat) : (s.spdmError code).hostMem = s.hostMem := rfl
@[simp] theorem State.spdmError_draws (s : State) (code : Nat) : (s.spdmError code).draws = s.draws := rfl
@[simp] theorem State.endSpdm_pending (s : State) (i : Nat) : (s.endSpdm i).pending = s.pending := rfl
@[simp] theorem State.endSpdm_otp (s : State) (i : Nat) : (s.endSpdm i).otp = s.otp := rfl
@[simp] theorem State.endSpdm_ret (s : State) (i : Nat) : (s.endSpdm i).ret = s.ret := rfl
@[simp] theorem State.endSpdm_silicon (s : State) (i : Nat) : (s.endSpdm i).silicon = s.silicon := rfl
@[simp] theorem State.endSpdm_pins (s : State) (i : Nat) : (s.endSpdm i).pins = s.pins := rfl
@[simp] theorem State.endSpdm_clock (s : State) (i : Nat) : (s.endSpdm i).clock = s.clock := rfl
@[simp] theorem State.endSpdm_start (s : State) (i : Nat) : (s.endSpdm i).start = s.start := rfl
@[simp] theorem State.endSpdm_keys (s : State) (i : Nat) : (s.endSpdm i).keys = s.keys := rfl
@[simp] theorem State.endSpdm_engines (s : State) (i : Nat) : (s.endSpdm i).engines = s.engines := rfl
@[simp] theorem State.endSpdm_monitors (s : State) (i : Nat) : (s.endSpdm i).monitors = s.monitors := rfl
@[simp] theorem State.endSpdm_fabric (s : State) (i : Nat) : (s.endSpdm i).fabric = s.fabric := rfl
@[simp] theorem State.endSpdm_host (s : State) (i : Nat) : (s.endSpdm i).host = s.host := rfl
@[simp] theorem State.endSpdm_shoal (s : State) (i : Nat) : (s.endSpdm i).shoal = s.shoal := rfl
@[simp] theorem State.endSpdm_measure (s : State) (i : Nat) : (s.endSpdm i).measure = s.measure := rfl
@[simp] theorem State.endSpdm_straits (s : State) (i : Nat) : (s.endSpdm i).straits = s.straits := rfl
@[simp] theorem State.endSpdm_time (s : State) (i : Nat) : (s.endSpdm i).time = s.time := rfl
@[simp] theorem State.endSpdm_causeway (s : State) (i : Nat) : (s.endSpdm i).causeway = s.causeway := rfl
@[simp] theorem State.endSpdm_power (s : State) (i : Nat) : (s.endSpdm i).power = s.power := rfl
@[simp] theorem State.endSpdm_faults (s : State) (i : Nat) : (s.endSpdm i).faults = s.faults := rfl
@[simp] theorem State.endSpdm_tap (s : State) (i : Nat) : (s.endSpdm i).tap = s.tap := rfl
@[simp] theorem State.endSpdm_hostMem (s : State) (i : Nat) : (s.endSpdm i).hostMem = s.hostMem := rfl
@[simp] theorem State.endSpdm_draws (s : State) (i : Nat) : (s.endSpdm i).draws = s.draws := rfl
@[simp] theorem State.modSession_pending (s : State) (i : Nat) (f : SpdmSession → SpdmSession) : (s.modSession i f).pending = s.pending := rfl
@[simp] theorem State.modSession_otp (s : State) (i : Nat) (f : SpdmSession → SpdmSession) : (s.modSession i f).otp = s.otp := rfl
@[simp] theorem State.modSession_ret (s : State) (i : Nat) (f : SpdmSession → SpdmSession) : (s.modSession i f).ret = s.ret := rfl
@[simp] theorem State.modSession_silicon (s : State) (i : Nat) (f : SpdmSession → SpdmSession) : (s.modSession i f).silicon = s.silicon := rfl
@[simp] theorem State.modSession_pins (s : State) (i : Nat) (f : SpdmSession → SpdmSession) : (s.modSession i f).pins = s.pins := rfl
@[simp] theorem State.modSession_clock (s : State) (i : Nat) (f : SpdmSession → SpdmSession) : (s.modSession i f).clock = s.clock := rfl
@[simp] theorem State.modSession_start (s : State) (i : Nat) (f : SpdmSession → SpdmSession) : (s.modSession i f).start = s.start := rfl
@[simp] theorem State.modSession_keys (s : State) (i : Nat) (f : SpdmSession → SpdmSession) : (s.modSession i f).keys = s.keys := rfl
@[simp] theorem State.modSession_engines (s : State) (i : Nat) (f : SpdmSession → SpdmSession) : (s.modSession i f).engines = s.engines := rfl
@[simp] theorem State.modSession_monitors (s : State) (i : Nat) (f : SpdmSession → SpdmSession) : (s.modSession i f).monitors = s.monitors := rfl
@[simp] theorem State.modSession_fabric (s : State) (i : Nat) (f : SpdmSession → SpdmSession) : (s.modSession i f).fabric = s.fabric := rfl
@[simp] theorem State.modSession_host (s : State) (i : Nat) (f : SpdmSession → SpdmSession) : (s.modSession i f).host = s.host := rfl
@[simp] theorem State.modSession_shoal (s : State) (i : Nat) (f : SpdmSession → SpdmSession) : (s.modSession i f).shoal = s.shoal := rfl
@[simp] theorem State.modSession_measure (s : State) (i : Nat) (f : SpdmSession → SpdmSession) : (s.modSession i f).measure = s.measure := rfl
@[simp] theorem State.modSession_straits (s : State) (i : Nat) (f : SpdmSession → SpdmSession) : (s.modSession i f).straits = s.straits := rfl
@[simp] theorem State.modSession_time (s : State) (i : Nat) (f : SpdmSession → SpdmSession) : (s.modSession i f).time = s.time := rfl
@[simp] theorem State.modSession_od (s : State) (i : Nat) (f : SpdmSession → SpdmSession) : (s.modSession i f).od = s.od := rfl
@[simp] theorem State.modSession_causeway (s : State) (i : Nat) (f : SpdmSession → SpdmSession) : (s.modSession i f).causeway = s.causeway := rfl
@[simp] theorem State.modSession_power (s : State) (i : Nat) (f : SpdmSession → SpdmSession) : (s.modSession i f).power = s.power := rfl
@[simp] theorem State.modSession_faults (s : State) (i : Nat) (f : SpdmSession → SpdmSession) : (s.modSession i f).faults = s.faults := rfl
@[simp] theorem State.modSession_tap (s : State) (i : Nat) (f : SpdmSession → SpdmSession) : (s.modSession i f).tap = s.tap := rfl
@[simp] theorem State.modSession_hostMem (s : State) (i : Nat) (f : SpdmSession → SpdmSession) : (s.modSession i f).hostMem = s.hostMem := rfl
@[simp] theorem State.modSession_draws (s : State) (i : Nat) (f : SpdmSession → SpdmSession) : (s.modSession i f).draws = s.draws := rfl
@[simp] theorem State.tdispError_pending (s : State) (code : Nat) : (s.tdispError code).pending = s.pending := rfl
@[simp] theorem State.tdispError_otp (s : State) (code : Nat) : (s.tdispError code).otp = s.otp := rfl
@[simp] theorem State.tdispError_ret (s : State) (code : Nat) : (s.tdispError code).ret = s.ret := rfl
@[simp] theorem State.tdispError_silicon (s : State) (code : Nat) : (s.tdispError code).silicon = s.silicon := rfl
@[simp] theorem State.tdispError_pins (s : State) (code : Nat) : (s.tdispError code).pins = s.pins := rfl
@[simp] theorem State.tdispError_clock (s : State) (code : Nat) : (s.tdispError code).clock = s.clock := rfl
@[simp] theorem State.tdispError_start (s : State) (code : Nat) : (s.tdispError code).start = s.start := rfl
@[simp] theorem State.tdispError_keys (s : State) (code : Nat) : (s.tdispError code).keys = s.keys := rfl
@[simp] theorem State.tdispError_engines (s : State) (code : Nat) : (s.tdispError code).engines = s.engines := rfl
@[simp] theorem State.tdispError_monitors (s : State) (code : Nat) : (s.tdispError code).monitors = s.monitors := rfl
@[simp] theorem State.tdispError_fabric (s : State) (code : Nat) : (s.tdispError code).fabric = s.fabric := rfl
@[simp] theorem State.tdispError_host (s : State) (code : Nat) : (s.tdispError code).host = s.host := rfl
@[simp] theorem State.tdispError_shoal (s : State) (code : Nat) : (s.tdispError code).shoal = s.shoal := rfl
@[simp] theorem State.tdispError_measure (s : State) (code : Nat) : (s.tdispError code).measure = s.measure := rfl
@[simp] theorem State.tdispError_straits (s : State) (code : Nat) : (s.tdispError code).straits = s.straits := rfl
@[simp] theorem State.tdispError_time (s : State) (code : Nat) : (s.tdispError code).time = s.time := rfl
@[simp] theorem State.tdispError_od (s : State) (code : Nat) : (s.tdispError code).od = s.od := rfl
@[simp] theorem State.tdispError_causeway (s : State) (code : Nat) : (s.tdispError code).causeway = s.causeway := rfl
@[simp] theorem State.tdispError_power (s : State) (code : Nat) : (s.tdispError code).power = s.power := rfl
@[simp] theorem State.tdispError_faults (s : State) (code : Nat) : (s.tdispError code).faults = s.faults := rfl
@[simp] theorem State.tdispError_tap (s : State) (code : Nat) : (s.tdispError code).tap = s.tap := rfl
@[simp] theorem State.tdispError_hostMem (s : State) (code : Nat) : (s.tdispError code).hostMem = s.hostMem := rfl
@[simp] theorem State.tdispError_draws (s : State) (code : Nat) : (s.tdispError code).draws = s.draws := rfl
@[simp] theorem State.modPort_pending (s : State) (p : Nat) (f : Port → Port) : (s.modPort p f).pending = s.pending := rfl
@[simp] theorem State.modPort_otp (s : State) (p : Nat) (f : Port → Port) : (s.modPort p f).otp = s.otp := rfl
@[simp] theorem State.modPort_ret (s : State) (p : Nat) (f : Port → Port) : (s.modPort p f).ret = s.ret := rfl
@[simp] theorem State.modPort_silicon (s : State) (p : Nat) (f : Port → Port) : (s.modPort p f).silicon = s.silicon := rfl
@[simp] theorem State.modPort_pins (s : State) (p : Nat) (f : Port → Port) : (s.modPort p f).pins = s.pins := rfl
@[simp] theorem State.modPort_clock (s : State) (p : Nat) (f : Port → Port) : (s.modPort p f).clock = s.clock := rfl
@[simp] theorem State.modPort_start (s : State) (p : Nat) (f : Port → Port) : (s.modPort p f).start = s.start := rfl
@[simp] theorem State.modPort_keys (s : State) (p : Nat) (f : Port → Port) : (s.modPort p f).keys = s.keys := rfl
@[simp] theorem State.modPort_engines (s : State) (p : Nat) (f : Port → Port) : (s.modPort p f).engines = s.engines := rfl
@[simp] theorem State.modPort_monitors (s : State) (p : Nat) (f : Port → Port) : (s.modPort p f).monitors = s.monitors := rfl
@[simp] theorem State.modPort_fabric (s : State) (p : Nat) (f : Port → Port) : (s.modPort p f).fabric = s.fabric := rfl
@[simp] theorem State.modPort_host (s : State) (p : Nat) (f : Port → Port) : (s.modPort p f).host = s.host := rfl
@[simp] theorem State.modPort_shoal (s : State) (p : Nat) (f : Port → Port) : (s.modPort p f).shoal = s.shoal := rfl
@[simp] theorem State.modPort_measure (s : State) (p : Nat) (f : Port → Port) : (s.modPort p f).measure = s.measure := rfl
@[simp] theorem State.modPort_hosting (s : State) (p : Nat) (f : Port → Port) : (s.modPort p f).hosting = s.hosting := rfl
@[simp] theorem State.modPort_time (s : State) (p : Nat) (f : Port → Port) : (s.modPort p f).time = s.time := rfl
@[simp] theorem State.modPort_od (s : State) (p : Nat) (f : Port → Port) : (s.modPort p f).od = s.od := rfl
@[simp] theorem State.modPort_causeway (s : State) (p : Nat) (f : Port → Port) : (s.modPort p f).causeway = s.causeway := rfl
@[simp] theorem State.modPort_power (s : State) (p : Nat) (f : Port → Port) : (s.modPort p f).power = s.power := rfl
@[simp] theorem State.modPort_faults (s : State) (p : Nat) (f : Port → Port) : (s.modPort p f).faults = s.faults := rfl
@[simp] theorem State.modPort_tap (s : State) (p : Nat) (f : Port → Port) : (s.modPort p f).tap = s.tap := rfl
@[simp] theorem State.modPort_hostMem (s : State) (p : Nat) (f : Port → Port) : (s.modPort p f).hostMem = s.hostMem := rfl
@[simp] theorem State.modPort_draws (s : State) (p : Nat) (f : Port → Port) : (s.modPort p f).draws = s.draws := rfl
@[simp] theorem State.refusePort_pending (s : State) (p : Nat) : (s.refusePort p).pending = s.pending := rfl
@[simp] theorem State.refusePort_otp (s : State) (p : Nat) : (s.refusePort p).otp = s.otp := rfl
@[simp] theorem State.refusePort_ret (s : State) (p : Nat) : (s.refusePort p).ret = s.ret := rfl
@[simp] theorem State.refusePort_silicon (s : State) (p : Nat) : (s.refusePort p).silicon = s.silicon := rfl
@[simp] theorem State.refusePort_pins (s : State) (p : Nat) : (s.refusePort p).pins = s.pins := rfl
@[simp] theorem State.refusePort_clock (s : State) (p : Nat) : (s.refusePort p).clock = s.clock := rfl
@[simp] theorem State.refusePort_start (s : State) (p : Nat) : (s.refusePort p).start = s.start := rfl
@[simp] theorem State.refusePort_keys (s : State) (p : Nat) : (s.refusePort p).keys = s.keys := rfl
@[simp] theorem State.refusePort_engines (s : State) (p : Nat) : (s.refusePort p).engines = s.engines := rfl
@[simp] theorem State.refusePort_monitors (s : State) (p : Nat) : (s.refusePort p).monitors = s.monitors := rfl
@[simp] theorem State.refusePort_fabric (s : State) (p : Nat) : (s.refusePort p).fabric = s.fabric := rfl
@[simp] theorem State.refusePort_host (s : State) (p : Nat) : (s.refusePort p).host = s.host := rfl
@[simp] theorem State.refusePort_shoal (s : State) (p : Nat) : (s.refusePort p).shoal = s.shoal := rfl
@[simp] theorem State.refusePort_measure (s : State) (p : Nat) : (s.refusePort p).measure = s.measure := rfl
@[simp] theorem State.refusePort_hosting (s : State) (p : Nat) : (s.refusePort p).hosting = s.hosting := rfl
@[simp] theorem State.refusePort_time (s : State) (p : Nat) : (s.refusePort p).time = s.time := rfl
@[simp] theorem State.refusePort_od (s : State) (p : Nat) : (s.refusePort p).od = s.od := rfl
@[simp] theorem State.refusePort_causeway (s : State) (p : Nat) : (s.refusePort p).causeway = s.causeway := rfl
@[simp] theorem State.refusePort_power (s : State) (p : Nat) : (s.refusePort p).power = s.power := rfl
@[simp] theorem State.refusePort_faults (s : State) (p : Nat) : (s.refusePort p).faults = s.faults := rfl
@[simp] theorem State.refusePort_tap (s : State) (p : Nat) : (s.refusePort p).tap = s.tap := rfl
@[simp] theorem State.refusePort_hostMem (s : State) (p : Nat) : (s.refusePort p).hostMem = s.hostMem := rfl
@[simp] theorem State.refusePort_draws (s : State) (p : Nat) : (s.refusePort p).draws = s.draws := rfl
@[simp] theorem State.confirmed_pending (s : State) (p : Nat) (a : Agreement) (m : HelloMsg) : (s.confirmed p a m).pending = s.pending := rfl
@[simp] theorem State.confirmed_otp (s : State) (p : Nat) (a : Agreement) (m : HelloMsg) : (s.confirmed p a m).otp = s.otp := rfl
@[simp] theorem State.confirmed_ret (s : State) (p : Nat) (a : Agreement) (m : HelloMsg) : (s.confirmed p a m).ret = s.ret := rfl
@[simp] theorem State.confirmed_silicon (s : State) (p : Nat) (a : Agreement) (m : HelloMsg) : (s.confirmed p a m).silicon = s.silicon := rfl
@[simp] theorem State.confirmed_pins (s : State) (p : Nat) (a : Agreement) (m : HelloMsg) : (s.confirmed p a m).pins = s.pins := rfl
@[simp] theorem State.confirmed_clock (s : State) (p : Nat) (a : Agreement) (m : HelloMsg) : (s.confirmed p a m).clock = s.clock := rfl
@[simp] theorem State.confirmed_start (s : State) (p : Nat) (a : Agreement) (m : HelloMsg) : (s.confirmed p a m).start = s.start := rfl
@[simp] theorem State.confirmed_keys (s : State) (p : Nat) (a : Agreement) (m : HelloMsg) : (s.confirmed p a m).keys = s.keys := rfl
@[simp] theorem State.confirmed_engines (s : State) (p : Nat) (a : Agreement) (m : HelloMsg) : (s.confirmed p a m).engines = s.engines := rfl
@[simp] theorem State.confirmed_monitors (s : State) (p : Nat) (a : Agreement) (m : HelloMsg) : (s.confirmed p a m).monitors = s.monitors := rfl
@[simp] theorem State.confirmed_fabric (s : State) (p : Nat) (a : Agreement) (m : HelloMsg) : (s.confirmed p a m).fabric = s.fabric := rfl
@[simp] theorem State.confirmed_host (s : State) (p : Nat) (a : Agreement) (m : HelloMsg) : (s.confirmed p a m).host = s.host := rfl
@[simp] theorem State.confirmed_shoal (s : State) (p : Nat) (a : Agreement) (m : HelloMsg) : (s.confirmed p a m).shoal = s.shoal := rfl
@[simp] theorem State.confirmed_measure (s : State) (p : Nat) (a : Agreement) (m : HelloMsg) : (s.confirmed p a m).measure = s.measure := rfl
@[simp] theorem State.confirmed_hosting (s : State) (p : Nat) (a : Agreement) (m : HelloMsg) : (s.confirmed p a m).hosting = s.hosting := rfl
@[simp] theorem State.confirmed_time (s : State) (p : Nat) (a : Agreement) (m : HelloMsg) : (s.confirmed p a m).time = s.time := rfl
@[simp] theorem State.confirmed_od (s : State) (p : Nat) (a : Agreement) (m : HelloMsg) : (s.confirmed p a m).od = s.od := rfl
@[simp] theorem State.confirmed_causeway (s : State) (p : Nat) (a : Agreement) (m : HelloMsg) : (s.confirmed p a m).causeway = s.causeway := rfl
@[simp] theorem State.confirmed_power (s : State) (p : Nat) (a : Agreement) (m : HelloMsg) : (s.confirmed p a m).power = s.power := rfl
@[simp] theorem State.confirmed_faults (s : State) (p : Nat) (a : Agreement) (m : HelloMsg) : (s.confirmed p a m).faults = s.faults := rfl
@[simp] theorem State.confirmed_tap (s : State) (p : Nat) (a : Agreement) (m : HelloMsg) : (s.confirmed p a m).tap = s.tap := rfl
@[simp] theorem State.confirmed_hostMem (s : State) (p : Nat) (a : Agreement) (m : HelloMsg) : (s.confirmed p a m).hostMem = s.hostMem := rfl
@[simp] theorem State.confirmed_draws (s : State) (p : Nat) (a : Agreement) (m : HelloMsg) : (s.confirmed p a m).draws = s.draws := rfl
@[simp] theorem State.countLate_pending (s : State) : s.countLate.pending = s.pending := rfl
@[simp] theorem State.countLate_otp (s : State) : s.countLate.otp = s.otp := rfl
@[simp] theorem State.countLate_ret (s : State) : s.countLate.ret = s.ret := rfl
@[simp] theorem State.countLate_silicon (s : State) : s.countLate.silicon = s.silicon := rfl
@[simp] theorem State.countLate_pins (s : State) : s.countLate.pins = s.pins := rfl
@[simp] theorem State.countLate_clock (s : State) : s.countLate.clock = s.clock := rfl
@[simp] theorem State.countLate_start (s : State) : s.countLate.start = s.start := rfl
@[simp] theorem State.countLate_keys (s : State) : s.countLate.keys = s.keys := rfl
@[simp] theorem State.countLate_engines (s : State) : s.countLate.engines = s.engines := rfl
@[simp] theorem State.countLate_monitors (s : State) : s.countLate.monitors = s.monitors := rfl
@[simp] theorem State.countLate_fabric (s : State) : s.countLate.fabric = s.fabric := rfl
@[simp] theorem State.countLate_host (s : State) : s.countLate.host = s.host := rfl
@[simp] theorem State.countLate_shoal (s : State) : s.countLate.shoal = s.shoal := rfl
@[simp] theorem State.countLate_measure (s : State) : s.countLate.measure = s.measure := rfl
@[simp] theorem State.countLate_hosting (s : State) : s.countLate.hosting = s.hosting := rfl
@[simp] theorem State.countLate_time (s : State) : s.countLate.time = s.time := rfl
@[simp] theorem State.countLate_od (s : State) : s.countLate.od = s.od := rfl
@[simp] theorem State.countLate_causeway (s : State) : s.countLate.causeway = s.causeway := rfl
@[simp] theorem State.countLate_power (s : State) : s.countLate.power = s.power := rfl
@[simp] theorem State.countLate_faults (s : State) : s.countLate.faults = s.faults := rfl
@[simp] theorem State.countLate_tap (s : State) : s.countLate.tap = s.tap := rfl
@[simp] theorem State.countLate_hostMem (s : State) : s.countLate.hostMem = s.hostMem := rfl
@[simp] theorem State.countLate_draws (s : State) : s.countLate.draws = s.draws := rfl
@[simp] theorem State.stageStep_pending (s : State) (c : Bytes) : (s.stageStep c).pending = s.pending := rfl
@[simp] theorem State.stageStep_otp (s : State) (c : Bytes) : (s.stageStep c).otp = s.otp := rfl
@[simp] theorem State.stageStep_ret (s : State) (c : Bytes) : (s.stageStep c).ret = s.ret := rfl
@[simp] theorem State.stageStep_silicon (s : State) (c : Bytes) : (s.stageStep c).silicon = s.silicon := rfl
@[simp] theorem State.stageStep_pins (s : State) (c : Bytes) : (s.stageStep c).pins = s.pins := rfl
@[simp] theorem State.stageStep_clock (s : State) (c : Bytes) : (s.stageStep c).clock = s.clock := rfl
@[simp] theorem State.stageStep_start (s : State) (c : Bytes) : (s.stageStep c).start = s.start := rfl
@[simp] theorem State.stageStep_keys (s : State) (c : Bytes) : (s.stageStep c).keys = s.keys := rfl
@[simp] theorem State.stageStep_engines (s : State) (c : Bytes) : (s.stageStep c).engines = s.engines := rfl
@[simp] theorem State.stageStep_monitors (s : State) (c : Bytes) : (s.stageStep c).monitors = s.monitors := rfl
@[simp] theorem State.stageStep_fabric (s : State) (c : Bytes) : (s.stageStep c).fabric = s.fabric := rfl
@[simp] theorem State.stageStep_host (s : State) (c : Bytes) : (s.stageStep c).host = s.host := rfl
@[simp] theorem State.stageStep_shoal (s : State) (c : Bytes) : (s.stageStep c).shoal = s.shoal := rfl
@[simp] theorem State.stageStep_measure (s : State) (c : Bytes) : (s.stageStep c).measure = s.measure := rfl
@[simp] theorem State.stageStep_hosting (s : State) (c : Bytes) : (s.stageStep c).hosting = s.hosting := rfl
@[simp] theorem State.stageStep_straits (s : State) (c : Bytes) : (s.stageStep c).straits = s.straits := rfl
@[simp] theorem State.stageStep_od (s : State) (c : Bytes) : (s.stageStep c).od = s.od := rfl
@[simp] theorem State.stageStep_causeway (s : State) (c : Bytes) : (s.stageStep c).causeway = s.causeway := rfl
@[simp] theorem State.stageStep_power (s : State) (c : Bytes) : (s.stageStep c).power = s.power := rfl
@[simp] theorem State.stageStep_faults (s : State) (c : Bytes) : (s.stageStep c).faults = s.faults := rfl
@[simp] theorem State.stageStep_tap (s : State) (c : Bytes) : (s.stageStep c).tap = s.tap := rfl
@[simp] theorem State.stageStep_hostMem (s : State) (c : Bytes) : (s.stageStep c).hostMem = s.hostMem := rfl
@[simp] theorem State.stageStep_draws (s : State) (c : Bytes) : (s.stageStep c).draws = s.draws := rfl
@[simp] theorem State.relock_pending (s : State) (v : Nat) : (s.relock v).pending = s.pending := rfl
@[simp] theorem State.relock_otp (s : State) (v : Nat) : (s.relock v).otp = s.otp := rfl
@[simp] theorem State.relock_silicon (s : State) (v : Nat) : (s.relock v).silicon = s.silicon := rfl
@[simp] theorem State.relock_clock (s : State) (v : Nat) : (s.relock v).clock = s.clock := rfl
@[simp] theorem State.relock_start (s : State) (v : Nat) : (s.relock v).start = s.start := rfl
@[simp] theorem State.relock_keys (s : State) (v : Nat) : (s.relock v).keys = s.keys := rfl
@[simp] theorem State.relock_engines (s : State) (v : Nat) : (s.relock v).engines = s.engines := rfl
@[simp] theorem State.relock_monitors (s : State) (v : Nat) : (s.relock v).monitors = s.monitors := rfl
@[simp] theorem State.relock_fabric (s : State) (v : Nat) : (s.relock v).fabric = s.fabric := rfl
@[simp] theorem State.relock_host (s : State) (v : Nat) : (s.relock v).host = s.host := rfl
@[simp] theorem State.relock_shoal (s : State) (v : Nat) : (s.relock v).shoal = s.shoal := rfl
@[simp] theorem State.relock_measure (s : State) (v : Nat) : (s.relock v).measure = s.measure := rfl
@[simp] theorem State.relock_hosting (s : State) (v : Nat) : (s.relock v).hosting = s.hosting := rfl
@[simp] theorem State.relock_straits (s : State) (v : Nat) : (s.relock v).straits = s.straits := rfl
@[simp] theorem State.relock_od (s : State) (v : Nat) : (s.relock v).od = s.od := rfl
@[simp] theorem State.relock_causeway (s : State) (v : Nat) : (s.relock v).causeway = s.causeway := rfl
@[simp] theorem State.relock_power (s : State) (v : Nat) : (s.relock v).power = s.power := rfl
@[simp] theorem State.relock_faults (s : State) (v : Nat) : (s.relock v).faults = s.faults := rfl
@[simp] theorem State.relock_tap (s : State) (v : Nat) : (s.relock v).tap = s.tap := rfl
@[simp] theorem State.relock_hostMem (s : State) (v : Nat) : (s.relock v).hostMem = s.hostMem := rfl
@[simp] theorem State.relock_draws (s : State) (v : Nat) : (s.relock v).draws = s.draws := rfl

/-! ### Updates made of others -/

@[simp] theorem State.extendSecurity_pending (s : State) : s.extendSecurity.pending = s.pending := by simp [State.extendSecurity]
@[simp] theorem State.extendSecurity_otp (s : State) : s.extendSecurity.otp = s.otp := by simp [State.extendSecurity]
@[simp] theorem State.extendSecurity_ret (s : State) : s.extendSecurity.ret = s.ret := by simp [State.extendSecurity]
@[simp] theorem State.extendSecurity_silicon (s : State) : s.extendSecurity.silicon = s.silicon := by simp [State.extendSecurity]
@[simp] theorem State.extendSecurity_pins (s : State) : s.extendSecurity.pins = s.pins := by simp [State.extendSecurity]
@[simp] theorem State.extendSecurity_clock (s : State) : s.extendSecurity.clock = s.clock := by simp [State.extendSecurity]
@[simp] theorem State.extendSecurity_start (s : State) : s.extendSecurity.start = s.start := by simp [State.extendSecurity]
@[simp] theorem State.extendSecurity_keys (s : State) : s.extendSecurity.keys = s.keys := by simp [State.extendSecurity]
@[simp] theorem State.extendSecurity_engines (s : State) : s.extendSecurity.engines = s.engines := by simp [State.extendSecurity]
@[simp] theorem State.extendSecurity_monitors (s : State) : s.extendSecurity.monitors = s.monitors := by simp [State.extendSecurity]
@[simp] theorem State.extendSecurity_fabric (s : State) : s.extendSecurity.fabric = s.fabric := by simp [State.extendSecurity]
@[simp] theorem State.extendSecurity_host (s : State) : s.extendSecurity.host = s.host := by simp [State.extendSecurity]
@[simp] theorem State.extendSecurity_shoal (s : State) : s.extendSecurity.shoal = s.shoal := by simp [State.extendSecurity]
@[simp] theorem State.extendSecurity_hosting (s : State) : s.extendSecurity.hosting = s.hosting := by simp [State.extendSecurity]
@[simp] theorem State.extendSecurity_straits (s : State) : s.extendSecurity.straits = s.straits := by simp [State.extendSecurity]
@[simp] theorem State.extendSecurity_time (s : State) : s.extendSecurity.time = s.time := by simp [State.extendSecurity]
@[simp] theorem State.extendSecurity_od (s : State) : s.extendSecurity.od = s.od := by simp [State.extendSecurity]
@[simp] theorem State.extendSecurity_causeway (s : State) : s.extendSecurity.causeway = s.causeway := by simp [State.extendSecurity]
@[simp] theorem State.extendSecurity_power (s : State) : s.extendSecurity.power = s.power := by simp [State.extendSecurity]
@[simp] theorem State.extendSecurity_faults (s : State) : s.extendSecurity.faults = s.faults := by simp [State.extendSecurity]
@[simp] theorem State.extendSecurity_tap (s : State) : s.extendSecurity.tap = s.tap := by simp [State.extendSecurity]
@[simp] theorem State.extendSecurity_hostMem (s : State) : s.extendSecurity.hostMem = s.hostMem := by simp [State.extendSecurity]
@[simp] theorem State.extendSecurity_draws (s : State) : s.extendSecurity.draws = s.draws := by simp [State.extendSecurity]
@[simp] theorem State.acceptToken_pending (s : State) (t : ConsentToken) : (s.acceptToken t).pending = s.pending := by simp [State.acceptToken]
@[simp] theorem State.acceptToken_otp (s : State) (t : ConsentToken) : (s.acceptToken t).otp = s.otp := by simp [State.acceptToken]
@[simp] theorem State.acceptToken_silicon (s : State) (t : ConsentToken) : (s.acceptToken t).silicon = s.silicon := by simp [State.acceptToken]
@[simp] theorem State.acceptToken_pins (s : State) (t : ConsentToken) : (s.acceptToken t).pins = s.pins := by simp [State.acceptToken]
@[simp] theorem State.acceptToken_clock (s : State) (t : ConsentToken) : (s.acceptToken t).clock = s.clock := by simp [State.acceptToken]
@[simp] theorem State.acceptToken_start (s : State) (t : ConsentToken) : (s.acceptToken t).start = s.start := by simp [State.acceptToken]
@[simp] theorem State.acceptToken_keys (s : State) (t : ConsentToken) : (s.acceptToken t).keys = s.keys := by simp [State.acceptToken]
@[simp] theorem State.acceptToken_engines (s : State) (t : ConsentToken) : (s.acceptToken t).engines = s.engines := by simp [State.acceptToken]
@[simp] theorem State.acceptToken_monitors (s : State) (t : ConsentToken) : (s.acceptToken t).monitors = s.monitors := by simp [State.acceptToken]
@[simp] theorem State.acceptToken_fabric (s : State) (t : ConsentToken) : (s.acceptToken t).fabric = s.fabric := by simp [State.acceptToken]
@[simp] theorem State.acceptToken_host (s : State) (t : ConsentToken) : (s.acceptToken t).host = s.host := by simp [State.acceptToken]
@[simp] theorem State.acceptToken_shoal (s : State) (t : ConsentToken) : (s.acceptToken t).shoal = s.shoal := by simp [State.acceptToken]
@[simp] theorem State.acceptToken_straits (s : State) (t : ConsentToken) : (s.acceptToken t).straits = s.straits := by simp [State.acceptToken]
@[simp] theorem State.acceptToken_time (s : State) (t : ConsentToken) : (s.acceptToken t).time = s.time := by simp [State.acceptToken]
@[simp] theorem State.acceptToken_od (s : State) (t : ConsentToken) : (s.acceptToken t).od = s.od := by simp [State.acceptToken]
@[simp] theorem State.acceptToken_causeway (s : State) (t : ConsentToken) : (s.acceptToken t).causeway = s.causeway := by simp [State.acceptToken]
@[simp] theorem State.acceptToken_power (s : State) (t : ConsentToken) : (s.acceptToken t).power = s.power := by simp [State.acceptToken]
@[simp] theorem State.acceptToken_faults (s : State) (t : ConsentToken) : (s.acceptToken t).faults = s.faults := by simp [State.acceptToken]
@[simp] theorem State.acceptToken_tap (s : State) (t : ConsentToken) : (s.acceptToken t).tap = s.tap := by simp [State.acceptToken]
@[simp] theorem State.acceptToken_hostMem (s : State) (t : ConsentToken) : (s.acceptToken t).hostMem = s.hostMem := by simp [State.acceptToken]
@[simp] theorem State.acceptToken_draws (s : State) (t : ConsentToken) : (s.acceptToken t).draws = s.draws := by simp [State.acceptToken]
@[simp] theorem State.keyEvent_pending (s : State) (code id : Nat) (pk : Digest) : (s.keyEvent code id pk).pending = s.pending := by simp [State.keyEvent]
@[simp] theorem State.keyEvent_otp (s : State) (code id : Nat) (pk : Digest) : (s.keyEvent code id pk).otp = s.otp := by simp [State.keyEvent]
@[simp] theorem State.keyEvent_ret (s : State) (code id : Nat) (pk : Digest) : (s.keyEvent code id pk).ret = s.ret := by simp [State.keyEvent]
@[simp] theorem State.keyEvent_silicon (s : State) (code id : Nat) (pk : Digest) : (s.keyEvent code id pk).silicon = s.silicon := by simp [State.keyEvent]
@[simp] theorem State.keyEvent_pins (s : State) (code id : Nat) (pk : Digest) : (s.keyEvent code id pk).pins = s.pins := by simp [State.keyEvent]
@[simp] theorem State.keyEvent_clock (s : State) (code id : Nat) (pk : Digest) : (s.keyEvent code id pk).clock = s.clock := by simp [State.keyEvent]
@[simp] theorem State.keyEvent_start (s : State) (code id : Nat) (pk : Digest) : (s.keyEvent code id pk).start = s.start := by simp [State.keyEvent]
@[simp] theorem State.keyEvent_keys (s : State) (code id : Nat) (pk : Digest) : (s.keyEvent code id pk).keys = s.keys := by simp [State.keyEvent]
@[simp] theorem State.keyEvent_engines (s : State) (code id : Nat) (pk : Digest) : (s.keyEvent code id pk).engines = s.engines := by simp [State.keyEvent]
@[simp] theorem State.keyEvent_monitors (s : State) (code id : Nat) (pk : Digest) : (s.keyEvent code id pk).monitors = s.monitors := by simp [State.keyEvent]
@[simp] theorem State.keyEvent_fabric (s : State) (code id : Nat) (pk : Digest) : (s.keyEvent code id pk).fabric = s.fabric := by simp [State.keyEvent]
@[simp] theorem State.keyEvent_host (s : State) (code id : Nat) (pk : Digest) : (s.keyEvent code id pk).host = s.host := by simp [State.keyEvent]
@[simp] theorem State.keyEvent_shoal (s : State) (code id : Nat) (pk : Digest) : (s.keyEvent code id pk).shoal = s.shoal := by simp [State.keyEvent]
@[simp] theorem State.keyEvent_hosting (s : State) (code id : Nat) (pk : Digest) : (s.keyEvent code id pk).hosting = s.hosting := by simp [State.keyEvent]
@[simp] theorem State.keyEvent_straits (s : State) (code id : Nat) (pk : Digest) : (s.keyEvent code id pk).straits = s.straits := by simp [State.keyEvent]
@[simp] theorem State.keyEvent_time (s : State) (code id : Nat) (pk : Digest) : (s.keyEvent code id pk).time = s.time := by simp [State.keyEvent]
@[simp] theorem State.keyEvent_od (s : State) (code id : Nat) (pk : Digest) : (s.keyEvent code id pk).od = s.od := by simp [State.keyEvent]
@[simp] theorem State.keyEvent_causeway (s : State) (code id : Nat) (pk : Digest) : (s.keyEvent code id pk).causeway = s.causeway := by simp [State.keyEvent]
@[simp] theorem State.keyEvent_power (s : State) (code id : Nat) (pk : Digest) : (s.keyEvent code id pk).power = s.power := by simp [State.keyEvent]
@[simp] theorem State.keyEvent_faults (s : State) (code id : Nat) (pk : Digest) : (s.keyEvent code id pk).faults = s.faults := by simp [State.keyEvent]
@[simp] theorem State.keyEvent_tap (s : State) (code id : Nat) (pk : Digest) : (s.keyEvent code id pk).tap = s.tap := by simp [State.keyEvent]
@[simp] theorem State.keyEvent_hostMem (s : State) (code id : Nat) (pk : Digest) : (s.keyEvent code id pk).hostMem = s.hostMem := by simp [State.keyEvent]
@[simp] theorem State.keyEvent_draws (s : State) (code id : Nat) (pk : Digest) : (s.keyEvent code id pk).draws = s.draws := by simp [State.keyEvent]
@[simp] theorem State.applyStep_pending (s : State) : s.applyStep.pending = s.pending := by simp [State.applyStep]
@[simp] theorem State.applyStep_otp (s : State) : s.applyStep.otp = s.otp := by simp [State.applyStep]
@[simp] theorem State.applyStep_silicon (s : State) : s.applyStep.silicon = s.silicon := by simp [State.applyStep]
@[simp] theorem State.applyStep_start (s : State) : s.applyStep.start = s.start := by simp [State.applyStep]
@[simp] theorem State.applyStep_keys (s : State) : s.applyStep.keys = s.keys := by simp [State.applyStep]
@[simp] theorem State.applyStep_engines (s : State) : s.applyStep.engines = s.engines := by simp [State.applyStep]
@[simp] theorem State.applyStep_monitors (s : State) : s.applyStep.monitors = s.monitors := by simp [State.applyStep]
@[simp] theorem State.applyStep_host (s : State) : s.applyStep.host = s.host := by simp [State.applyStep]
@[simp] theorem State.applyStep_shoal (s : State) : s.applyStep.shoal = s.shoal := by simp [State.applyStep]
@[simp] theorem State.applyStep_hosting (s : State) : s.applyStep.hosting = s.hosting := by simp [State.applyStep]
@[simp] theorem State.applyStep_straits (s : State) : s.applyStep.straits = s.straits := by simp [State.applyStep]
@[simp] theorem State.applyStep_od (s : State) : s.applyStep.od = s.od := by simp [State.applyStep]
@[simp] theorem State.applyStep_causeway (s : State) : s.applyStep.causeway = s.causeway := by simp [State.applyStep]
@[simp] theorem State.applyStep_power (s : State) : s.applyStep.power = s.power := by simp [State.applyStep]
@[simp] theorem State.applyStep_faults (s : State) : s.applyStep.faults = s.faults := by simp [State.applyStep]
@[simp] theorem State.applyStep_tap (s : State) : s.applyStep.tap = s.tap := by simp [State.applyStep]
@[simp] theorem State.applyStep_hostMem (s : State) : s.applyStep.hostMem = s.hostMem := by simp [State.applyStep]
@[simp] theorem State.applyStep_draws (s : State) : s.applyStep.draws = s.draws := by simp [State.applyStep]

/-! ### Draws, transfers over the key bus, signatures -/

@[simp] theorem State.generated_draws (s : State) : s.generated.draws = s.draws + 1 := rfl
@[simp] theorem State.generatedBy_draws (s : State) (n : Nat) : (s.generatedBy n).draws = s.draws + n := rfl
@[simp] theorem State.transfer_draws (s : State) (k : Bytes) : (s.transfer k).1.draws = s.draws + 1 := rfl
@[simp] theorem State.transfer_key (s : State) (k : Bytes) : (s.transfer k).2 = maskKey k (Config.drbg s.draws) := rfl
@[simp] theorem State.putKey_start (s : State) (n : KeyName) (k : Bytes) : (s.putKey n k).start = { s.start with drbgRequests := s.start.drbgRequests + 1 } := rfl
@[simp] theorem State.generated_pending (s : State) : s.generated.pending = s.pending := rfl
@[simp] theorem State.generated_otp (s : State) : s.generated.otp = s.otp := rfl
@[simp] theorem State.generated_silicon (s : State) : s.generated.silicon = s.silicon := rfl
@[simp] theorem State.generated_ret (s : State) : s.generated.ret = s.ret := rfl
@[simp] theorem State.generated_pins (s : State) : s.generated.pins = s.pins := rfl
@[simp] theorem State.generated_clock (s : State) : s.generated.clock = s.clock := rfl
@[simp] theorem State.generated_keys (s : State) : s.generated.keys = s.keys := rfl
@[simp] theorem State.generated_engines (s : State) : s.generated.engines = s.engines := rfl
@[simp] theorem State.generated_monitors (s : State) : s.generated.monitors = s.monitors := rfl
@[simp] theorem State.generated_fabric (s : State) : s.generated.fabric = s.fabric := rfl
@[simp] theorem State.generated_host (s : State) : s.generated.host = s.host := rfl
@[simp] theorem State.generated_shoal (s : State) : s.generated.shoal = s.shoal := rfl
@[simp] theorem State.generated_measure (s : State) : s.generated.measure = s.measure := rfl
@[simp] theorem State.generated_hosting (s : State) : s.generated.hosting = s.hosting := rfl
@[simp] theorem State.generated_straits (s : State) : s.generated.straits = s.straits := rfl
@[simp] theorem State.generated_time (s : State) : s.generated.time = s.time := rfl
@[simp] theorem State.generated_causeway (s : State) : s.generated.causeway = s.causeway := rfl
@[simp] theorem State.generated_od (s : State) : s.generated.od = s.od := rfl
@[simp] theorem State.generated_power (s : State) : s.generated.power = s.power := rfl
@[simp] theorem State.generated_faults (s : State) : s.generated.faults = s.faults := rfl
@[simp] theorem State.generated_tap (s : State) : s.generated.tap = s.tap := rfl
@[simp] theorem State.generated_hostMem (s : State) : s.generated.hostMem = s.hostMem := rfl
@[simp] theorem State.generatedBy_pending (s : State) (n : Nat) : (s.generatedBy n).pending = s.pending := rfl
@[simp] theorem State.generatedBy_otp (s : State) (n : Nat) : (s.generatedBy n).otp = s.otp := rfl
@[simp] theorem State.generatedBy_silicon (s : State) (n : Nat) : (s.generatedBy n).silicon = s.silicon := rfl
@[simp] theorem State.generatedBy_ret (s : State) (n : Nat) : (s.generatedBy n).ret = s.ret := rfl
@[simp] theorem State.generatedBy_pins (s : State) (n : Nat) : (s.generatedBy n).pins = s.pins := rfl
@[simp] theorem State.generatedBy_clock (s : State) (n : Nat) : (s.generatedBy n).clock = s.clock := rfl
@[simp] theorem State.generatedBy_keys (s : State) (n : Nat) : (s.generatedBy n).keys = s.keys := rfl
@[simp] theorem State.generatedBy_engines (s : State) (n : Nat) : (s.generatedBy n).engines = s.engines := rfl
@[simp] theorem State.generatedBy_monitors (s : State) (n : Nat) : (s.generatedBy n).monitors = s.monitors := rfl
@[simp] theorem State.generatedBy_fabric (s : State) (n : Nat) : (s.generatedBy n).fabric = s.fabric := rfl
@[simp] theorem State.generatedBy_host (s : State) (n : Nat) : (s.generatedBy n).host = s.host := rfl
@[simp] theorem State.generatedBy_shoal (s : State) (n : Nat) : (s.generatedBy n).shoal = s.shoal := rfl
@[simp] theorem State.generatedBy_measure (s : State) (n : Nat) : (s.generatedBy n).measure = s.measure := rfl
@[simp] theorem State.generatedBy_hosting (s : State) (n : Nat) : (s.generatedBy n).hosting = s.hosting := rfl
@[simp] theorem State.generatedBy_straits (s : State) (n : Nat) : (s.generatedBy n).straits = s.straits := rfl
@[simp] theorem State.generatedBy_time (s : State) (n : Nat) : (s.generatedBy n).time = s.time := rfl
@[simp] theorem State.generatedBy_causeway (s : State) (n : Nat) : (s.generatedBy n).causeway = s.causeway := rfl
@[simp] theorem State.generatedBy_od (s : State) (n : Nat) : (s.generatedBy n).od = s.od := rfl
@[simp] theorem State.generatedBy_power (s : State) (n : Nat) : (s.generatedBy n).power = s.power := rfl
@[simp] theorem State.generatedBy_faults (s : State) (n : Nat) : (s.generatedBy n).faults = s.faults := rfl
@[simp] theorem State.generatedBy_tap (s : State) (n : Nat) : (s.generatedBy n).tap = s.tap := rfl
@[simp] theorem State.generatedBy_hostMem (s : State) (n : Nat) : (s.generatedBy n).hostMem = s.hostMem := rfl
@[simp] theorem State.transfer_pending (s : State) (k : Bytes) : (s.transfer k).1.pending = s.pending := rfl
@[simp] theorem State.transfer_otp (s : State) (k : Bytes) : (s.transfer k).1.otp = s.otp := rfl
@[simp] theorem State.transfer_silicon (s : State) (k : Bytes) : (s.transfer k).1.silicon = s.silicon := rfl
@[simp] theorem State.transfer_ret (s : State) (k : Bytes) : (s.transfer k).1.ret = s.ret := rfl
@[simp] theorem State.transfer_pins (s : State) (k : Bytes) : (s.transfer k).1.pins = s.pins := rfl
@[simp] theorem State.transfer_clock (s : State) (k : Bytes) : (s.transfer k).1.clock = s.clock := rfl
@[simp] theorem State.transfer_engines (s : State) (k : Bytes) : (s.transfer k).1.engines = s.engines := rfl
@[simp] theorem State.transfer_monitors (s : State) (k : Bytes) : (s.transfer k).1.monitors = s.monitors := rfl
@[simp] theorem State.transfer_fabric (s : State) (k : Bytes) : (s.transfer k).1.fabric = s.fabric := rfl
@[simp] theorem State.transfer_host (s : State) (k : Bytes) : (s.transfer k).1.host = s.host := rfl
@[simp] theorem State.transfer_shoal (s : State) (k : Bytes) : (s.transfer k).1.shoal = s.shoal := rfl
@[simp] theorem State.transfer_measure (s : State) (k : Bytes) : (s.transfer k).1.measure = s.measure := rfl
@[simp] theorem State.transfer_hosting (s : State) (k : Bytes) : (s.transfer k).1.hosting = s.hosting := rfl
@[simp] theorem State.transfer_straits (s : State) (k : Bytes) : (s.transfer k).1.straits = s.straits := rfl
@[simp] theorem State.transfer_time (s : State) (k : Bytes) : (s.transfer k).1.time = s.time := rfl
@[simp] theorem State.transfer_causeway (s : State) (k : Bytes) : (s.transfer k).1.causeway = s.causeway := rfl
@[simp] theorem State.transfer_od (s : State) (k : Bytes) : (s.transfer k).1.od = s.od := rfl
@[simp] theorem State.transfer_power (s : State) (k : Bytes) : (s.transfer k).1.power = s.power := rfl
@[simp] theorem State.transfer_faults (s : State) (k : Bytes) : (s.transfer k).1.faults = s.faults := rfl
@[simp] theorem State.transfer_tap (s : State) (k : Bytes) : (s.transfer k).1.tap = s.tap := rfl
@[simp] theorem State.transfer_hostMem (s : State) (k : Bytes) : (s.transfer k).1.hostMem = s.hostMem := rfl
@[simp] theorem State.bnAlarm_pending (s : State) : s.bnAlarm.pending = s.pending := rfl
@[simp] theorem State.bnAlarm_otp (s : State) : s.bnAlarm.otp = s.otp := rfl
@[simp] theorem State.bnAlarm_silicon (s : State) : s.bnAlarm.silicon = s.silicon := rfl
@[simp] theorem State.bnAlarm_ret (s : State) : s.bnAlarm.ret = s.ret := rfl
@[simp] theorem State.bnAlarm_pins (s : State) : s.bnAlarm.pins = s.pins := rfl
@[simp] theorem State.bnAlarm_clock (s : State) : s.bnAlarm.clock = s.clock := rfl
@[simp] theorem State.bnAlarm_start (s : State) : s.bnAlarm.start = s.start := rfl
@[simp] theorem State.bnAlarm_keys (s : State) : s.bnAlarm.keys = s.keys := rfl
@[simp] theorem State.bnAlarm_monitors (s : State) : s.bnAlarm.monitors = s.monitors := rfl
@[simp] theorem State.bnAlarm_fabric (s : State) : s.bnAlarm.fabric = s.fabric := rfl
@[simp] theorem State.bnAlarm_host (s : State) : s.bnAlarm.host = s.host := rfl
@[simp] theorem State.bnAlarm_shoal (s : State) : s.bnAlarm.shoal = s.shoal := rfl
@[simp] theorem State.bnAlarm_measure (s : State) : s.bnAlarm.measure = s.measure := rfl
@[simp] theorem State.bnAlarm_hosting (s : State) : s.bnAlarm.hosting = s.hosting := rfl
@[simp] theorem State.bnAlarm_straits (s : State) : s.bnAlarm.straits = s.straits := rfl
@[simp] theorem State.bnAlarm_time (s : State) : s.bnAlarm.time = s.time := rfl
@[simp] theorem State.bnAlarm_causeway (s : State) : s.bnAlarm.causeway = s.causeway := rfl
@[simp] theorem State.bnAlarm_od (s : State) : s.bnAlarm.od = s.od := rfl
@[simp] theorem State.bnAlarm_power (s : State) : s.bnAlarm.power = s.power := rfl
@[simp] theorem State.bnAlarm_faults (s : State) : s.bnAlarm.faults = s.faults := rfl
@[simp] theorem State.bnAlarm_tap (s : State) : s.bnAlarm.tap = s.tap := rfl
@[simp] theorem State.bnAlarm_hostMem (s : State) : s.bnAlarm.hostMem = s.hostMem := rfl
@[simp] theorem State.bnAlarm_draws (s : State) : s.bnAlarm.draws = s.draws := rfl
@[simp] theorem State.agreeEc_pending (s : State) (seed pub : Bytes) : (s.agreeEc seed pub).1.pending = s.pending := rfl
@[simp] theorem State.agreeEc_otp (s : State) (seed pub : Bytes) : (s.agreeEc seed pub).1.otp = s.otp := rfl
@[simp] theorem State.agreeEc_silicon (s : State) (seed pub : Bytes) : (s.agreeEc seed pub).1.silicon = s.silicon := rfl
@[simp] theorem State.agreeEc_ret (s : State) (seed pub : Bytes) : (s.agreeEc seed pub).1.ret = s.ret := rfl
@[simp] theorem State.agreeEc_pins (s : State) (seed pub : Bytes) : (s.agreeEc seed pub).1.pins = s.pins := rfl
@[simp] theorem State.agreeEc_clock (s : State) (seed pub : Bytes) : (s.agreeEc seed pub).1.clock = s.clock := rfl
@[simp] theorem State.agreeEc_keys (s : State) (seed pub : Bytes) : (s.agreeEc seed pub).1.keys = s.keys := rfl
@[simp] theorem State.agreeEc_engines (s : State) (seed pub : Bytes) : (s.agreeEc seed pub).1.engines = s.engines := rfl
@[simp] theorem State.agreeEc_monitors (s : State) (seed pub : Bytes) : (s.agreeEc seed pub).1.monitors = s.monitors := rfl
@[simp] theorem State.agreeEc_fabric (s : State) (seed pub : Bytes) : (s.agreeEc seed pub).1.fabric = s.fabric := rfl
@[simp] theorem State.agreeEc_host (s : State) (seed pub : Bytes) : (s.agreeEc seed pub).1.host = s.host := rfl
@[simp] theorem State.agreeEc_shoal (s : State) (seed pub : Bytes) : (s.agreeEc seed pub).1.shoal = s.shoal := rfl
@[simp] theorem State.agreeEc_measure (s : State) (seed pub : Bytes) : (s.agreeEc seed pub).1.measure = s.measure := rfl
@[simp] theorem State.agreeEc_hosting (s : State) (seed pub : Bytes) : (s.agreeEc seed pub).1.hosting = s.hosting := rfl
@[simp] theorem State.agreeEc_straits (s : State) (seed pub : Bytes) : (s.agreeEc seed pub).1.straits = s.straits := rfl
@[simp] theorem State.agreeEc_time (s : State) (seed pub : Bytes) : (s.agreeEc seed pub).1.time = s.time := rfl
@[simp] theorem State.agreeEc_causeway (s : State) (seed pub : Bytes) : (s.agreeEc seed pub).1.causeway = s.causeway := rfl
@[simp] theorem State.agreeEc_od (s : State) (seed pub : Bytes) : (s.agreeEc seed pub).1.od = s.od := rfl
@[simp] theorem State.agreeEc_power (s : State) (seed pub : Bytes) : (s.agreeEc seed pub).1.power = s.power := rfl
@[simp] theorem State.agreeEc_faults (s : State) (seed pub : Bytes) : (s.agreeEc seed pub).1.faults = s.faults := rfl
@[simp] theorem State.agreeEc_tap (s : State) (seed pub : Bytes) : (s.agreeEc seed pub).1.tap = s.tap := rfl
@[simp] theorem State.agreeEc_hostMem (s : State) (seed pub : Bytes) : (s.agreeEc seed pub).1.hostMem = s.hostMem := rfl
@[simp] theorem State.sign_pending (s : State) (k : Signer) (a b : Bytes) : (s.sign k a b).1.pending = s.pending := by simp only [State.sign]; split_ifs <;> simp
@[simp] theorem State.sign_otp (s : State) (k : Signer) (a b : Bytes) : (s.sign k a b).1.otp = s.otp := by simp only [State.sign]; split_ifs <;> simp
@[simp] theorem State.sign_silicon (s : State) (k : Signer) (a b : Bytes) : (s.sign k a b).1.silicon = s.silicon := by simp only [State.sign]; split_ifs <;> simp
@[simp] theorem State.sign_ret (s : State) (k : Signer) (a b : Bytes) : (s.sign k a b).1.ret = s.ret := by simp only [State.sign]; split_ifs <;> simp
@[simp] theorem State.sign_pins (s : State) (k : Signer) (a b : Bytes) : (s.sign k a b).1.pins = s.pins := by simp only [State.sign]; split_ifs <;> simp
@[simp] theorem State.sign_clock (s : State) (k : Signer) (a b : Bytes) : (s.sign k a b).1.clock = s.clock := by simp only [State.sign]; split_ifs <;> simp
@[simp] theorem State.sign_keys (s : State) (k : Signer) (a b : Bytes) : (s.sign k a b).1.keys = s.keys := by simp only [State.sign]; split_ifs <;> simp
@[simp] theorem State.sign_monitors (s : State) (k : Signer) (a b : Bytes) : (s.sign k a b).1.monitors = s.monitors := by simp only [State.sign]; split_ifs <;> simp
@[simp] theorem State.sign_fabric (s : State) (k : Signer) (a b : Bytes) : (s.sign k a b).1.fabric = s.fabric := by simp only [State.sign]; split_ifs <;> simp
@[simp] theorem State.sign_host (s : State) (k : Signer) (a b : Bytes) : (s.sign k a b).1.host = s.host := by simp only [State.sign]; split_ifs <;> simp
@[simp] theorem State.sign_shoal (s : State) (k : Signer) (a b : Bytes) : (s.sign k a b).1.shoal = s.shoal := by simp only [State.sign]; split_ifs <;> simp
@[simp] theorem State.sign_measure (s : State) (k : Signer) (a b : Bytes) : (s.sign k a b).1.measure = s.measure := by simp only [State.sign]; split_ifs <;> simp
@[simp] theorem State.sign_hosting (s : State) (k : Signer) (a b : Bytes) : (s.sign k a b).1.hosting = s.hosting := by simp only [State.sign]; split_ifs <;> simp
@[simp] theorem State.sign_straits (s : State) (k : Signer) (a b : Bytes) : (s.sign k a b).1.straits = s.straits := by simp only [State.sign]; split_ifs <;> simp
@[simp] theorem State.sign_time (s : State) (k : Signer) (a b : Bytes) : (s.sign k a b).1.time = s.time := by simp only [State.sign]; split_ifs <;> simp
@[simp] theorem State.sign_causeway (s : State) (k : Signer) (a b : Bytes) : (s.sign k a b).1.causeway = s.causeway := by simp only [State.sign]; split_ifs <;> simp
@[simp] theorem State.sign_od (s : State) (k : Signer) (a b : Bytes) : (s.sign k a b).1.od = s.od := by simp only [State.sign]; split_ifs <;> simp
@[simp] theorem State.sign_power (s : State) (k : Signer) (a b : Bytes) : (s.sign k a b).1.power = s.power := by simp only [State.sign]; split_ifs <;> simp
@[simp] theorem State.sign_faults (s : State) (k : Signer) (a b : Bytes) : (s.sign k a b).1.faults = s.faults := by simp only [State.sign]; split_ifs <;> simp
@[simp] theorem State.sign_tap (s : State) (k : Signer) (a b : Bytes) : (s.sign k a b).1.tap = s.tap := by simp only [State.sign]; split_ifs <;> simp
@[simp] theorem State.sign_hostMem (s : State) (k : Signer) (a b : Bytes) : (s.sign k a b).1.hostMem = s.hostMem := by simp only [State.sign]; split_ifs <;> simp
@[simp] theorem State.signEc_pending (s : State) (seed m : Bytes) : (s.signEc seed m).1.pending = s.pending := by simp only [State.signEc]; split_ifs <;> simp
@[simp] theorem State.signEc_otp (s : State) (seed m : Bytes) : (s.signEc seed m).1.otp = s.otp := by simp only [State.signEc]; split_ifs <;> simp
@[simp] theorem State.signEc_silicon (s : State) (seed m : Bytes) : (s.signEc seed m).1.silicon = s.silicon := by simp only [State.signEc]; split_ifs <;> simp
@[simp] theorem State.signEc_ret (s : State) (seed m : Bytes) : (s.signEc seed m).1.ret = s.ret := by simp only [State.signEc]; split_ifs <;> simp
@[simp] theorem State.signEc_pins (s : State) (seed m : Bytes) : (s.signEc seed m).1.pins = s.pins := by simp only [State.signEc]; split_ifs <;> simp
@[simp] theorem State.signEc_clock (s : State) (seed m : Bytes) : (s.signEc seed m).1.clock = s.clock := by simp only [State.signEc]; split_ifs <;> simp
@[simp] theorem State.signEc_keys (s : State) (seed m : Bytes) : (s.signEc seed m).1.keys = s.keys := by simp only [State.signEc]; split_ifs <;> simp
@[simp] theorem State.signEc_monitors (s : State) (seed m : Bytes) : (s.signEc seed m).1.monitors = s.monitors := by simp only [State.signEc]; split_ifs <;> simp
@[simp] theorem State.signEc_fabric (s : State) (seed m : Bytes) : (s.signEc seed m).1.fabric = s.fabric := by simp only [State.signEc]; split_ifs <;> simp
@[simp] theorem State.signEc_host (s : State) (seed m : Bytes) : (s.signEc seed m).1.host = s.host := by simp only [State.signEc]; split_ifs <;> simp
@[simp] theorem State.signEc_shoal (s : State) (seed m : Bytes) : (s.signEc seed m).1.shoal = s.shoal := by simp only [State.signEc]; split_ifs <;> simp
@[simp] theorem State.signEc_measure (s : State) (seed m : Bytes) : (s.signEc seed m).1.measure = s.measure := by simp only [State.signEc]; split_ifs <;> simp
@[simp] theorem State.signEc_hosting (s : State) (seed m : Bytes) : (s.signEc seed m).1.hosting = s.hosting := by simp only [State.signEc]; split_ifs <;> simp
@[simp] theorem State.signEc_straits (s : State) (seed m : Bytes) : (s.signEc seed m).1.straits = s.straits := by simp only [State.signEc]; split_ifs <;> simp
@[simp] theorem State.signEc_time (s : State) (seed m : Bytes) : (s.signEc seed m).1.time = s.time := by simp only [State.signEc]; split_ifs <;> simp
@[simp] theorem State.signEc_causeway (s : State) (seed m : Bytes) : (s.signEc seed m).1.causeway = s.causeway := by simp only [State.signEc]; split_ifs <;> simp
@[simp] theorem State.signEc_od (s : State) (seed m : Bytes) : (s.signEc seed m).1.od = s.od := by simp only [State.signEc]; split_ifs <;> simp
@[simp] theorem State.signEc_power (s : State) (seed m : Bytes) : (s.signEc seed m).1.power = s.power := by simp only [State.signEc]; split_ifs <;> simp
@[simp] theorem State.signEc_faults (s : State) (seed m : Bytes) : (s.signEc seed m).1.faults = s.faults := by simp only [State.signEc]; split_ifs <;> simp
@[simp] theorem State.signEc_tap (s : State) (seed m : Bytes) : (s.signEc seed m).1.tap = s.tap := by simp only [State.signEc]; split_ifs <;> simp
@[simp] theorem State.signEc_hostMem (s : State) (seed m : Bytes) : (s.signEc seed m).1.hostMem = s.hostMem := by simp only [State.signEc]; split_ifs <;> simp
@[simp] theorem State.signCose_pending (s : State) (k : Signer) (u p : Bytes) : (s.signCose k u p).1.pending = s.pending := by simp [State.signCose]
@[simp] theorem State.signCose_otp (s : State) (k : Signer) (u p : Bytes) : (s.signCose k u p).1.otp = s.otp := by simp [State.signCose]
@[simp] theorem State.signCose_silicon (s : State) (k : Signer) (u p : Bytes) : (s.signCose k u p).1.silicon = s.silicon := by simp [State.signCose]
@[simp] theorem State.signCose_ret (s : State) (k : Signer) (u p : Bytes) : (s.signCose k u p).1.ret = s.ret := by simp [State.signCose]
@[simp] theorem State.signCose_pins (s : State) (k : Signer) (u p : Bytes) : (s.signCose k u p).1.pins = s.pins := by simp [State.signCose]
@[simp] theorem State.signCose_clock (s : State) (k : Signer) (u p : Bytes) : (s.signCose k u p).1.clock = s.clock := by simp [State.signCose]
@[simp] theorem State.signCose_keys (s : State) (k : Signer) (u p : Bytes) : (s.signCose k u p).1.keys = s.keys := by simp [State.signCose]
@[simp] theorem State.signCose_monitors (s : State) (k : Signer) (u p : Bytes) : (s.signCose k u p).1.monitors = s.monitors := by simp [State.signCose]
@[simp] theorem State.signCose_fabric (s : State) (k : Signer) (u p : Bytes) : (s.signCose k u p).1.fabric = s.fabric := by simp [State.signCose]
@[simp] theorem State.signCose_host (s : State) (k : Signer) (u p : Bytes) : (s.signCose k u p).1.host = s.host := by simp [State.signCose]
@[simp] theorem State.signCose_shoal (s : State) (k : Signer) (u p : Bytes) : (s.signCose k u p).1.shoal = s.shoal := by simp [State.signCose]
@[simp] theorem State.signCose_measure (s : State) (k : Signer) (u p : Bytes) : (s.signCose k u p).1.measure = s.measure := by simp [State.signCose]
@[simp] theorem State.signCose_hosting (s : State) (k : Signer) (u p : Bytes) : (s.signCose k u p).1.hosting = s.hosting := by simp [State.signCose]
@[simp] theorem State.signCose_straits (s : State) (k : Signer) (u p : Bytes) : (s.signCose k u p).1.straits = s.straits := by simp [State.signCose]
@[simp] theorem State.signCose_time (s : State) (k : Signer) (u p : Bytes) : (s.signCose k u p).1.time = s.time := by simp [State.signCose]
@[simp] theorem State.signCose_causeway (s : State) (k : Signer) (u p : Bytes) : (s.signCose k u p).1.causeway = s.causeway := by simp [State.signCose]
@[simp] theorem State.signCose_od (s : State) (k : Signer) (u p : Bytes) : (s.signCose k u p).1.od = s.od := by simp [State.signCose]
@[simp] theorem State.signCose_power (s : State) (k : Signer) (u p : Bytes) : (s.signCose k u p).1.power = s.power := by simp [State.signCose]
@[simp] theorem State.signCose_faults (s : State) (k : Signer) (u p : Bytes) : (s.signCose k u p).1.faults = s.faults := by simp [State.signCose]
@[simp] theorem State.signCose_tap (s : State) (k : Signer) (u p : Bytes) : (s.signCose k u p).1.tap = s.tap := by simp [State.signCose]
@[simp] theorem State.signCose_hostMem (s : State) (k : Signer) (u p : Bytes) : (s.signCose k u p).1.hostMem = s.hostMem := by simp [State.signCose]
@[simp] theorem State.queueCheckpoint_pending (s : State) (c : Cut) (entry : Bytes) : (s.queueCheckpoint c entry).pending = s.pending := rfl
@[simp] theorem State.queueCheckpoint_otp (s : State) (c : Cut) (entry : Bytes) : (s.queueCheckpoint c entry).otp = s.otp := rfl
@[simp] theorem State.queueCheckpoint_silicon (s : State) (c : Cut) (entry : Bytes) : (s.queueCheckpoint c entry).silicon = s.silicon := rfl
@[simp] theorem State.queueCheckpoint_pins (s : State) (c : Cut) (entry : Bytes) : (s.queueCheckpoint c entry).pins = s.pins := rfl
@[simp] theorem State.queueCheckpoint_clock (s : State) (c : Cut) (entry : Bytes) : (s.queueCheckpoint c entry).clock = s.clock := rfl
@[simp] theorem State.queueCheckpoint_start (s : State) (c : Cut) (entry : Bytes) : (s.queueCheckpoint c entry).start = s.start := rfl
@[simp] theorem State.queueCheckpoint_keys (s : State) (c : Cut) (entry : Bytes) : (s.queueCheckpoint c entry).keys = s.keys := rfl
@[simp] theorem State.queueCheckpoint_engines (s : State) (c : Cut) (entry : Bytes) : (s.queueCheckpoint c entry).engines = s.engines := rfl
@[simp] theorem State.queueCheckpoint_monitors (s : State) (c : Cut) (entry : Bytes) : (s.queueCheckpoint c entry).monitors = s.monitors := rfl
@[simp] theorem State.queueCheckpoint_fabric (s : State) (c : Cut) (entry : Bytes) : (s.queueCheckpoint c entry).fabric = s.fabric := rfl
@[simp] theorem State.queueCheckpoint_host (s : State) (c : Cut) (entry : Bytes) : (s.queueCheckpoint c entry).host = s.host := rfl
@[simp] theorem State.queueCheckpoint_shoal (s : State) (c : Cut) (entry : Bytes) : (s.queueCheckpoint c entry).shoal = s.shoal := rfl
@[simp] theorem State.queueCheckpoint_hosting (s : State) (c : Cut) (entry : Bytes) : (s.queueCheckpoint c entry).hosting = s.hosting := rfl
@[simp] theorem State.queueCheckpoint_straits (s : State) (c : Cut) (entry : Bytes) : (s.queueCheckpoint c entry).straits = s.straits := rfl
@[simp] theorem State.queueCheckpoint_time (s : State) (c : Cut) (entry : Bytes) : (s.queueCheckpoint c entry).time = s.time := rfl
@[simp] theorem State.queueCheckpoint_causeway (s : State) (c : Cut) (entry : Bytes) : (s.queueCheckpoint c entry).causeway = s.causeway := rfl
@[simp] theorem State.queueCheckpoint_od (s : State) (c : Cut) (entry : Bytes) : (s.queueCheckpoint c entry).od = s.od := rfl
@[simp] theorem State.queueCheckpoint_power (s : State) (c : Cut) (entry : Bytes) : (s.queueCheckpoint c entry).power = s.power := rfl
@[simp] theorem State.queueCheckpoint_faults (s : State) (c : Cut) (entry : Bytes) : (s.queueCheckpoint c entry).faults = s.faults := rfl
@[simp] theorem State.queueCheckpoint_tap (s : State) (c : Cut) (entry : Bytes) : (s.queueCheckpoint c entry).tap = s.tap := rfl
@[simp] theorem State.queueCheckpoint_hostMem (s : State) (c : Cut) (entry : Bytes) : (s.queueCheckpoint c entry).hostMem = s.hostMem := rfl
@[simp] theorem State.queueCheckpoint_draws (s : State) (c : Cut) (entry : Bytes) : (s.queueCheckpoint c entry).draws = s.draws := rfl
@[simp] theorem State.agree_pending (s : State) (p epoch : Nat) (f : Port → Port) : (s.agree p epoch f).pending = s.pending := by simp [State.agree]
@[simp] theorem State.agree_otp (s : State) (p epoch : Nat) (f : Port → Port) : (s.agree p epoch f).otp = s.otp := by simp [State.agree]
@[simp] theorem State.agree_silicon (s : State) (p epoch : Nat) (f : Port → Port) : (s.agree p epoch f).silicon = s.silicon := by simp [State.agree]
@[simp] theorem State.agree_ret (s : State) (p epoch : Nat) (f : Port → Port) : (s.agree p epoch f).ret = s.ret := by simp [State.agree]
@[simp] theorem State.agree_pins (s : State) (p epoch : Nat) (f : Port → Port) : (s.agree p epoch f).pins = s.pins := by simp [State.agree]
@[simp] theorem State.agree_clock (s : State) (p epoch : Nat) (f : Port → Port) : (s.agree p epoch f).clock = s.clock := by simp [State.agree]
@[simp] theorem State.agree_engines (s : State) (p epoch : Nat) (f : Port → Port) : (s.agree p epoch f).engines = s.engines := by simp [State.agree]
@[simp] theorem State.agree_monitors (s : State) (p epoch : Nat) (f : Port → Port) : (s.agree p epoch f).monitors = s.monitors := by simp [State.agree]
@[simp] theorem State.agree_fabric (s : State) (p epoch : Nat) (f : Port → Port) : (s.agree p epoch f).fabric = s.fabric := by simp [State.agree]
@[simp] theorem State.agree_host (s : State) (p epoch : Nat) (f : Port → Port) : (s.agree p epoch f).host = s.host := by simp [State.agree]
@[simp] theorem State.agree_shoal (s : State) (p epoch : Nat) (f : Port → Port) : (s.agree p epoch f).shoal = s.shoal := by simp [State.agree]
@[simp] theorem State.agree_measure (s : State) (p epoch : Nat) (f : Port → Port) : (s.agree p epoch f).measure = s.measure := by simp [State.agree]
@[simp] theorem State.agree_hosting (s : State) (p epoch : Nat) (f : Port → Port) : (s.agree p epoch f).hosting = s.hosting := by simp [State.agree]
@[simp] theorem State.agree_time (s : State) (p epoch : Nat) (f : Port → Port) : (s.agree p epoch f).time = s.time := by simp [State.agree]
@[simp] theorem State.agree_causeway (s : State) (p epoch : Nat) (f : Port → Port) : (s.agree p epoch f).causeway = s.causeway := by simp [State.agree]
@[simp] theorem State.agree_od (s : State) (p epoch : Nat) (f : Port → Port) : (s.agree p epoch f).od = s.od := by simp [State.agree]
@[simp] theorem State.agree_power (s : State) (p epoch : Nat) (f : Port → Port) : (s.agree p epoch f).power = s.power := by simp [State.agree]
@[simp] theorem State.agree_faults (s : State) (p epoch : Nat) (f : Port → Port) : (s.agree p epoch f).faults = s.faults := by simp [State.agree]
@[simp] theorem State.agree_tap (s : State) (p epoch : Nat) (f : Port → Port) : (s.agree p epoch f).tap = s.tap := by simp [State.agree]
@[simp] theorem State.agree_hostMem (s : State) (p epoch : Nat) (f : Port → Port) : (s.agree p epoch f).hostMem = s.hostMem := by simp [State.agree]
@[simp] theorem State.bringUp_pending (s : State) (p : Nat) : (s.bringUp p).pending = s.pending := by simp [State.bringUp]
@[simp] theorem State.bringUp_otp (s : State) (p : Nat) : (s.bringUp p).otp = s.otp := by simp [State.bringUp]
@[simp] theorem State.bringUp_silicon (s : State) (p : Nat) : (s.bringUp p).silicon = s.silicon := by simp [State.bringUp]
@[simp] theorem State.bringUp_ret (s : State) (p : Nat) : (s.bringUp p).ret = s.ret := by simp [State.bringUp]
@[simp] theorem State.bringUp_pins (s : State) (p : Nat) : (s.bringUp p).pins = s.pins := by simp [State.bringUp]
@[simp] theorem State.bringUp_clock (s : State) (p : Nat) : (s.bringUp p).clock = s.clock := by simp [State.bringUp]
@[simp] theorem State.bringUp_engines (s : State) (p : Nat) : (s.bringUp p).engines = s.engines := by simp [State.bringUp]
@[simp] theorem State.bringUp_monitors (s : State) (p : Nat) : (s.bringUp p).monitors = s.monitors := by simp [State.bringUp]
@[simp] theorem State.bringUp_fabric (s : State) (p : Nat) : (s.bringUp p).fabric = s.fabric := by simp [State.bringUp]
@[simp] theorem State.bringUp_host (s : State) (p : Nat) : (s.bringUp p).host = s.host := by simp [State.bringUp]
@[simp] theorem State.bringUp_shoal (s : State) (p : Nat) : (s.bringUp p).shoal = s.shoal := by simp [State.bringUp]
@[simp] theorem State.bringUp_measure (s : State) (p : Nat) : (s.bringUp p).measure = s.measure := by simp [State.bringUp]
@[simp] theorem State.bringUp_hosting (s : State) (p : Nat) : (s.bringUp p).hosting = s.hosting := by simp [State.bringUp]
@[simp] theorem State.bringUp_time (s : State) (p : Nat) : (s.bringUp p).time = s.time := by simp [State.bringUp]
@[simp] theorem State.bringUp_causeway (s : State) (p : Nat) : (s.bringUp p).causeway = s.causeway := by simp [State.bringUp]
@[simp] theorem State.bringUp_od (s : State) (p : Nat) : (s.bringUp p).od = s.od := by simp [State.bringUp]
@[simp] theorem State.bringUp_power (s : State) (p : Nat) : (s.bringUp p).power = s.power := by simp [State.bringUp]
@[simp] theorem State.bringUp_faults (s : State) (p : Nat) : (s.bringUp p).faults = s.faults := by simp [State.bringUp]
@[simp] theorem State.bringUp_tap (s : State) (p : Nat) : (s.bringUp p).tap = s.tap := by simp [State.bringUp]
@[simp] theorem State.bringUp_hostMem (s : State) (p : Nat) : (s.bringUp p).hostMem = s.hostMem := by simp [State.bringUp]
@[simp] theorem State.sendOn_pending (s : State) (i ftype : Nat) (body : Bytes) : (s.sendOn i ftype body).pending = s.pending := rfl
@[simp] theorem State.sendOn_otp (s : State) (i ftype : Nat) (body : Bytes) : (s.sendOn i ftype body).otp = s.otp := rfl
@[simp] theorem State.sendOn_silicon (s : State) (i ftype : Nat) (body : Bytes) : (s.sendOn i ftype body).silicon = s.silicon := rfl
@[simp] theorem State.sendOn_ret (s : State) (i ftype : Nat) (body : Bytes) : (s.sendOn i ftype body).ret = s.ret := rfl
@[simp] theorem State.sendOn_pins (s : State) (i ftype : Nat) (body : Bytes) : (s.sendOn i ftype body).pins = s.pins := rfl
@[simp] theorem State.sendOn_clock (s : State) (i ftype : Nat) (body : Bytes) : (s.sendOn i ftype body).clock = s.clock := rfl
@[simp] theorem State.sendOn_start (s : State) (i ftype : Nat) (body : Bytes) : (s.sendOn i ftype body).start = s.start := rfl
@[simp] theorem State.sendOn_keys (s : State) (i ftype : Nat) (body : Bytes) : (s.sendOn i ftype body).keys = s.keys := rfl
@[simp] theorem State.sendOn_engines (s : State) (i ftype : Nat) (body : Bytes) : (s.sendOn i ftype body).engines = s.engines := rfl
@[simp] theorem State.sendOn_monitors (s : State) (i ftype : Nat) (body : Bytes) : (s.sendOn i ftype body).monitors = s.monitors := rfl
@[simp] theorem State.sendOn_fabric (s : State) (i ftype : Nat) (body : Bytes) : (s.sendOn i ftype body).fabric = s.fabric := rfl
@[simp] theorem State.sendOn_host (s : State) (i ftype : Nat) (body : Bytes) : (s.sendOn i ftype body).host = s.host := rfl
@[simp] theorem State.sendOn_shoal (s : State) (i ftype : Nat) (body : Bytes) : (s.sendOn i ftype body).shoal = s.shoal := rfl
@[simp] theorem State.sendOn_measure (s : State) (i ftype : Nat) (body : Bytes) : (s.sendOn i ftype body).measure = s.measure := rfl
@[simp] theorem State.sendOn_hosting (s : State) (i ftype : Nat) (body : Bytes) : (s.sendOn i ftype body).hosting = s.hosting := rfl
@[simp] theorem State.sendOn_straits (s : State) (i ftype : Nat) (body : Bytes) : (s.sendOn i ftype body).straits = s.straits := rfl
@[simp] theorem State.sendOn_time (s : State) (i ftype : Nat) (body : Bytes) : (s.sendOn i ftype body).time = s.time := rfl
@[simp] theorem State.sendOn_od (s : State) (i ftype : Nat) (body : Bytes) : (s.sendOn i ftype body).od = s.od := rfl
@[simp] theorem State.sendOn_power (s : State) (i ftype : Nat) (body : Bytes) : (s.sendOn i ftype body).power = s.power := rfl
@[simp] theorem State.sendOn_faults (s : State) (i ftype : Nat) (body : Bytes) : (s.sendOn i ftype body).faults = s.faults := rfl
@[simp] theorem State.sendOn_tap (s : State) (i ftype : Nat) (body : Bytes) : (s.sendOn i ftype body).tap = s.tap := rfl
@[simp] theorem State.sendOn_hostMem (s : State) (i ftype : Nat) (body : Bytes) : (s.sendOn i ftype body).hostMem = s.hostMem := rfl
@[simp] theorem State.sendOn_draws (s : State) (i ftype : Nat) (body : Bytes) : (s.sendOn i ftype body).draws = s.draws := rfl
@[simp] theorem State.holdSession_pending (s : State) (k : Nat) (m : ClientHello) (seed : MaskedKey) (reply : Bytes) : (s.holdSession k m seed reply).pending = s.pending := rfl
@[simp] theorem State.holdSession_otp (s : State) (k : Nat) (m : ClientHello) (seed : MaskedKey) (reply : Bytes) : (s.holdSession k m seed reply).otp = s.otp := rfl
@[simp] theorem State.holdSession_silicon (s : State) (k : Nat) (m : ClientHello) (seed : MaskedKey) (reply : Bytes) : (s.holdSession k m seed reply).silicon = s.silicon := rfl
@[simp] theorem State.holdSession_ret (s : State) (k : Nat) (m : ClientHello) (seed : MaskedKey) (reply : Bytes) : (s.holdSession k m seed reply).ret = s.ret := rfl
@[simp] theorem State.holdSession_pins (s : State) (k : Nat) (m : ClientHello) (seed : MaskedKey) (reply : Bytes) : (s.holdSession k m seed reply).pins = s.pins := rfl
@[simp] theorem State.holdSession_clock (s : State) (k : Nat) (m : ClientHello) (seed : MaskedKey) (reply : Bytes) : (s.holdSession k m seed reply).clock = s.clock := rfl
@[simp] theorem State.holdSession_start (s : State) (k : Nat) (m : ClientHello) (seed : MaskedKey) (reply : Bytes) : (s.holdSession k m seed reply).start = s.start := rfl
@[simp] theorem State.holdSession_keys (s : State) (k : Nat) (m : ClientHello) (seed : MaskedKey) (reply : Bytes) : (s.holdSession k m seed reply).keys = s.keys := rfl
@[simp] theorem State.holdSession_engines (s : State) (k : Nat) (m : ClientHello) (seed : MaskedKey) (reply : Bytes) : (s.holdSession k m seed reply).engines = s.engines := rfl
@[simp] theorem State.holdSession_monitors (s : State) (k : Nat) (m : ClientHello) (seed : MaskedKey) (reply : Bytes) : (s.holdSession k m seed reply).monitors = s.monitors := rfl
@[simp] theorem State.holdSession_fabric (s : State) (k : Nat) (m : ClientHello) (seed : MaskedKey) (reply : Bytes) : (s.holdSession k m seed reply).fabric = s.fabric := rfl
@[simp] theorem State.holdSession_host (s : State) (k : Nat) (m : ClientHello) (seed : MaskedKey) (reply : Bytes) : (s.holdSession k m seed reply).host = s.host := rfl
@[simp] theorem State.holdSession_shoal (s : State) (k : Nat) (m : ClientHello) (seed : MaskedKey) (reply : Bytes) : (s.holdSession k m seed reply).shoal = s.shoal := rfl
@[simp] theorem State.holdSession_measure (s : State) (k : Nat) (m : ClientHello) (seed : MaskedKey) (reply : Bytes) : (s.holdSession k m seed reply).measure = s.measure := rfl
@[simp] theorem State.holdSession_hosting (s : State) (k : Nat) (m : ClientHello) (seed : MaskedKey) (reply : Bytes) : (s.holdSession k m seed reply).hosting = s.hosting := rfl
@[simp] theorem State.holdSession_straits (s : State) (k : Nat) (m : ClientHello) (seed : MaskedKey) (reply : Bytes) : (s.holdSession k m seed reply).straits = s.straits := rfl
@[simp] theorem State.holdSession_time (s : State) (k : Nat) (m : ClientHello) (seed : MaskedKey) (reply : Bytes) : (s.holdSession k m seed reply).time = s.time := rfl
@[simp] theorem State.holdSession_od (s : State) (k : Nat) (m : ClientHello) (seed : MaskedKey) (reply : Bytes) : (s.holdSession k m seed reply).od = s.od := rfl
@[simp] theorem State.holdSession_power (s : State) (k : Nat) (m : ClientHello) (seed : MaskedKey) (reply : Bytes) : (s.holdSession k m seed reply).power = s.power := rfl
@[simp] theorem State.holdSession_faults (s : State) (k : Nat) (m : ClientHello) (seed : MaskedKey) (reply : Bytes) : (s.holdSession k m seed reply).faults = s.faults := rfl
@[simp] theorem State.holdSession_tap (s : State) (k : Nat) (m : ClientHello) (seed : MaskedKey) (reply : Bytes) : (s.holdSession k m seed reply).tap = s.tap := rfl
@[simp] theorem State.holdSession_hostMem (s : State) (k : Nat) (m : ClientHello) (seed : MaskedKey) (reply : Bytes) : (s.holdSession k m seed reply).hostMem = s.hostMem := rfl
@[simp] theorem State.holdSession_draws (s : State) (k : Nat) (m : ClientHello) (seed : MaskedKey) (reply : Bytes) : (s.holdSession k m seed reply).draws = s.draws := rfl
@[simp] theorem State.issueCert_pending (s : State) (t : Nat) (pub : Bytes) (k : Signer) (l : List Digest) : (s.issueCert t pub k l).1.pending = s.pending := by simp [State.issueCert]
@[simp] theorem State.issueCert_otp (s : State) (t : Nat) (pub : Bytes) (k : Signer) (l : List Digest) : (s.issueCert t pub k l).1.otp = s.otp := by simp [State.issueCert]
@[simp] theorem State.issueCert_silicon (s : State) (t : Nat) (pub : Bytes) (k : Signer) (l : List Digest) : (s.issueCert t pub k l).1.silicon = s.silicon := by simp [State.issueCert]
@[simp] theorem State.issueCert_ret (s : State) (t : Nat) (pub : Bytes) (k : Signer) (l : List Digest) : (s.issueCert t pub k l).1.ret = s.ret := by simp [State.issueCert]
@[simp] theorem State.issueCert_pins (s : State) (t : Nat) (pub : Bytes) (k : Signer) (l : List Digest) : (s.issueCert t pub k l).1.pins = s.pins := by simp [State.issueCert]
@[simp] theorem State.issueCert_clock (s : State) (t : Nat) (pub : Bytes) (k : Signer) (l : List Digest) : (s.issueCert t pub k l).1.clock = s.clock := by simp [State.issueCert]
@[simp] theorem State.issueCert_keys (s : State) (t : Nat) (pub : Bytes) (k : Signer) (l : List Digest) : (s.issueCert t pub k l).1.keys = s.keys := by simp [State.issueCert]
@[simp] theorem State.issueCert_monitors (s : State) (t : Nat) (pub : Bytes) (k : Signer) (l : List Digest) : (s.issueCert t pub k l).1.monitors = s.monitors := by simp [State.issueCert]
@[simp] theorem State.issueCert_fabric (s : State) (t : Nat) (pub : Bytes) (k : Signer) (l : List Digest) : (s.issueCert t pub k l).1.fabric = s.fabric := by simp [State.issueCert]
@[simp] theorem State.issueCert_host (s : State) (t : Nat) (pub : Bytes) (k : Signer) (l : List Digest) : (s.issueCert t pub k l).1.host = s.host := by simp [State.issueCert]
@[simp] theorem State.issueCert_shoal (s : State) (t : Nat) (pub : Bytes) (k : Signer) (l : List Digest) : (s.issueCert t pub k l).1.shoal = s.shoal := by simp [State.issueCert]
@[simp] theorem State.issueCert_measure (s : State) (t : Nat) (pub : Bytes) (k : Signer) (l : List Digest) : (s.issueCert t pub k l).1.measure = s.measure := by simp [State.issueCert]
@[simp] theorem State.issueCert_hosting (s : State) (t : Nat) (pub : Bytes) (k : Signer) (l : List Digest) : (s.issueCert t pub k l).1.hosting = s.hosting := by simp [State.issueCert]
@[simp] theorem State.issueCert_straits (s : State) (t : Nat) (pub : Bytes) (k : Signer) (l : List Digest) : (s.issueCert t pub k l).1.straits = s.straits := by simp [State.issueCert]
@[simp] theorem State.issueCert_time (s : State) (t : Nat) (pub : Bytes) (k : Signer) (l : List Digest) : (s.issueCert t pub k l).1.time = s.time := by simp [State.issueCert]
@[simp] theorem State.issueCert_causeway (s : State) (t : Nat) (pub : Bytes) (k : Signer) (l : List Digest) : (s.issueCert t pub k l).1.causeway = s.causeway := by simp [State.issueCert]
@[simp] theorem State.issueCert_od (s : State) (t : Nat) (pub : Bytes) (k : Signer) (l : List Digest) : (s.issueCert t pub k l).1.od = s.od := by simp [State.issueCert]
@[simp] theorem State.issueCert_power (s : State) (t : Nat) (pub : Bytes) (k : Signer) (l : List Digest) : (s.issueCert t pub k l).1.power = s.power := by simp [State.issueCert]
@[simp] theorem State.issueCert_faults (s : State) (t : Nat) (pub : Bytes) (k : Signer) (l : List Digest) : (s.issueCert t pub k l).1.faults = s.faults := by simp [State.issueCert]
@[simp] theorem State.issueCert_tap (s : State) (t : Nat) (pub : Bytes) (k : Signer) (l : List Digest) : (s.issueCert t pub k l).1.tap = s.tap := by simp [State.issueCert]
@[simp] theorem State.issueCert_hostMem (s : State) (t : Nat) (pub : Bytes) (k : Signer) (l : List Digest) : (s.issueCert t pub k l).1.hostMem = s.hostMem := by simp [State.issueCert]
@[simp] theorem State.issueDebugCert_pending (s : State) (pub : Bytes) : (s.issueDebugCert pub).pending = s.pending := by simp [State.issueDebugCert]
@[simp] theorem State.issueDebugCert_otp (s : State) (pub : Bytes) : (s.issueDebugCert pub).otp = s.otp := by simp [State.issueDebugCert]
@[simp] theorem State.issueDebugCert_silicon (s : State) (pub : Bytes) : (s.issueDebugCert pub).silicon = s.silicon := by simp [State.issueDebugCert]
@[simp] theorem State.issueDebugCert_ret (s : State) (pub : Bytes) : (s.issueDebugCert pub).ret = s.ret := by simp [State.issueDebugCert]
@[simp] theorem State.issueDebugCert_pins (s : State) (pub : Bytes) : (s.issueDebugCert pub).pins = s.pins := by simp [State.issueDebugCert]
@[simp] theorem State.issueDebugCert_clock (s : State) (pub : Bytes) : (s.issueDebugCert pub).clock = s.clock := by simp [State.issueDebugCert]
@[simp] theorem State.issueDebugCert_monitors (s : State) (pub : Bytes) : (s.issueDebugCert pub).monitors = s.monitors := by simp [State.issueDebugCert]
@[simp] theorem State.issueDebugCert_fabric (s : State) (pub : Bytes) : (s.issueDebugCert pub).fabric = s.fabric := by simp [State.issueDebugCert]
@[simp] theorem State.issueDebugCert_host (s : State) (pub : Bytes) : (s.issueDebugCert pub).host = s.host := by simp [State.issueDebugCert]
@[simp] theorem State.issueDebugCert_shoal (s : State) (pub : Bytes) : (s.issueDebugCert pub).shoal = s.shoal := by simp [State.issueDebugCert]
@[simp] theorem State.issueDebugCert_measure (s : State) (pub : Bytes) : (s.issueDebugCert pub).measure = s.measure := by simp [State.issueDebugCert]
@[simp] theorem State.issueDebugCert_hosting (s : State) (pub : Bytes) : (s.issueDebugCert pub).hosting = s.hosting := by simp [State.issueDebugCert]
@[simp] theorem State.issueDebugCert_straits (s : State) (pub : Bytes) : (s.issueDebugCert pub).straits = s.straits := by simp [State.issueDebugCert]
@[simp] theorem State.issueDebugCert_time (s : State) (pub : Bytes) : (s.issueDebugCert pub).time = s.time := by simp [State.issueDebugCert]
@[simp] theorem State.issueDebugCert_causeway (s : State) (pub : Bytes) : (s.issueDebugCert pub).causeway = s.causeway := by simp [State.issueDebugCert]
@[simp] theorem State.issueDebugCert_od (s : State) (pub : Bytes) : (s.issueDebugCert pub).od = s.od := by simp [State.issueDebugCert]
@[simp] theorem State.issueDebugCert_power (s : State) (pub : Bytes) : (s.issueDebugCert pub).power = s.power := by simp [State.issueDebugCert]
@[simp] theorem State.issueDebugCert_faults (s : State) (pub : Bytes) : (s.issueDebugCert pub).faults = s.faults := by simp [State.issueDebugCert]
@[simp] theorem State.issueDebugCert_tap (s : State) (pub : Bytes) : (s.issueDebugCert pub).tap = s.tap := by simp [State.issueDebugCert]
@[simp] theorem State.issueDebugCert_hostMem (s : State) (pub : Bytes) : (s.issueDebugCert pub).hostMem = s.hostMem := by simp [State.issueDebugCert]
@[simp] theorem State.readyIdevidCert_pending (s : State) : s.readyIdevidCert.pending = s.pending := by simp only [State.readyIdevidCert]; split_ifs <;> simp
@[simp] theorem State.readyIdevidCert_otp (s : State) : s.readyIdevidCert.otp = s.otp := by simp only [State.readyIdevidCert]; split_ifs <;> simp
@[simp] theorem State.readyIdevidCert_silicon (s : State) : s.readyIdevidCert.silicon = s.silicon := by simp only [State.readyIdevidCert]; split_ifs <;> simp
@[simp] theorem State.readyIdevidCert_ret (s : State) : s.readyIdevidCert.ret = s.ret := by simp only [State.readyIdevidCert]; split_ifs <;> simp
@[simp] theorem State.readyIdevidCert_pins (s : State) : s.readyIdevidCert.pins = s.pins := by simp only [State.readyIdevidCert]; split_ifs <;> simp
@[simp] theorem State.readyIdevidCert_clock (s : State) : s.readyIdevidCert.clock = s.clock := by simp only [State.readyIdevidCert]; split_ifs <;> simp
@[simp] theorem State.readyIdevidCert_monitors (s : State) : s.readyIdevidCert.monitors = s.monitors := by simp only [State.readyIdevidCert]; split_ifs <;> simp
@[simp] theorem State.readyIdevidCert_fabric (s : State) : s.readyIdevidCert.fabric = s.fabric := by simp only [State.readyIdevidCert]; split_ifs <;> simp
@[simp] theorem State.readyIdevidCert_host (s : State) : s.readyIdevidCert.host = s.host := by simp only [State.readyIdevidCert]; split_ifs <;> simp
@[simp] theorem State.readyIdevidCert_shoal (s : State) : s.readyIdevidCert.shoal = s.shoal := by simp only [State.readyIdevidCert]; split_ifs <;> simp
@[simp] theorem State.readyIdevidCert_measure (s : State) : s.readyIdevidCert.measure = s.measure := by simp only [State.readyIdevidCert]; split_ifs <;> simp
@[simp] theorem State.readyIdevidCert_hosting (s : State) : s.readyIdevidCert.hosting = s.hosting := by simp only [State.readyIdevidCert]; split_ifs <;> simp
@[simp] theorem State.readyIdevidCert_straits (s : State) : s.readyIdevidCert.straits = s.straits := by simp only [State.readyIdevidCert]; split_ifs <;> simp
@[simp] theorem State.readyIdevidCert_time (s : State) : s.readyIdevidCert.time = s.time := by simp only [State.readyIdevidCert]; split_ifs <;> simp
@[simp] theorem State.readyIdevidCert_causeway (s : State) : s.readyIdevidCert.causeway = s.causeway := by simp only [State.readyIdevidCert]; split_ifs <;> simp
@[simp] theorem State.readyIdevidCert_od (s : State) : s.readyIdevidCert.od = s.od := by simp only [State.readyIdevidCert]; split_ifs <;> simp
@[simp] theorem State.readyIdevidCert_power (s : State) : s.readyIdevidCert.power = s.power := by simp only [State.readyIdevidCert]; split_ifs <;> simp
@[simp] theorem State.readyIdevidCert_faults (s : State) : s.readyIdevidCert.faults = s.faults := by simp only [State.readyIdevidCert]; split_ifs <;> simp
@[simp] theorem State.readyIdevidCert_tap (s : State) : s.readyIdevidCert.tap = s.tap := by simp only [State.readyIdevidCert]; split_ifs <;> simp
@[simp] theorem State.readyIdevidCert_hostMem (s : State) : s.readyIdevidCert.hostMem = s.hostMem := by simp only [State.readyIdevidCert]; split_ifs <;> simp
@[simp] theorem releaseHello_pending (k : Nat) (m : ClientHello) (seed bare : Bytes) (r : State × Option (Bytes × Bytes)) : (releaseHello k m seed bare r).pending = r.1.pending := by unfold releaseHello; split <;> simp
@[simp] theorem releaseHello_otp (k : Nat) (m : ClientHello) (seed bare : Bytes) (r : State × Option (Bytes × Bytes)) : (releaseHello k m seed bare r).otp = r.1.otp := by unfold releaseHello; split <;> simp
@[simp] theorem releaseHello_silicon (k : Nat) (m : ClientHello) (seed bare : Bytes) (r : State × Option (Bytes × Bytes)) : (releaseHello k m seed bare r).silicon = r.1.silicon := by unfold releaseHello; split <;> simp
@[simp] theorem releaseHello_ret (k : Nat) (m : ClientHello) (seed bare : Bytes) (r : State × Option (Bytes × Bytes)) : (releaseHello k m seed bare r).ret = r.1.ret := by unfold releaseHello; split <;> simp
@[simp] theorem releaseHello_pins (k : Nat) (m : ClientHello) (seed bare : Bytes) (r : State × Option (Bytes × Bytes)) : (releaseHello k m seed bare r).pins = r.1.pins := by unfold releaseHello; split <;> simp
@[simp] theorem releaseHello_clock (k : Nat) (m : ClientHello) (seed bare : Bytes) (r : State × Option (Bytes × Bytes)) : (releaseHello k m seed bare r).clock = r.1.clock := by unfold releaseHello; split <;> simp
@[simp] theorem releaseHello_engines (k : Nat) (m : ClientHello) (seed bare : Bytes) (r : State × Option (Bytes × Bytes)) : (releaseHello k m seed bare r).engines = r.1.engines := by unfold releaseHello; split <;> simp
@[simp] theorem releaseHello_monitors (k : Nat) (m : ClientHello) (seed bare : Bytes) (r : State × Option (Bytes × Bytes)) : (releaseHello k m seed bare r).monitors = r.1.monitors := by unfold releaseHello; split <;> simp
@[simp] theorem releaseHello_fabric (k : Nat) (m : ClientHello) (seed bare : Bytes) (r : State × Option (Bytes × Bytes)) : (releaseHello k m seed bare r).fabric = r.1.fabric := by unfold releaseHello; split <;> simp
@[simp] theorem releaseHello_host (k : Nat) (m : ClientHello) (seed bare : Bytes) (r : State × Option (Bytes × Bytes)) : (releaseHello k m seed bare r).host = r.1.host := by unfold releaseHello; split <;> simp
@[simp] theorem releaseHello_shoal (k : Nat) (m : ClientHello) (seed bare : Bytes) (r : State × Option (Bytes × Bytes)) : (releaseHello k m seed bare r).shoal = r.1.shoal := by unfold releaseHello; split <;> simp
@[simp] theorem releaseHello_measure (k : Nat) (m : ClientHello) (seed bare : Bytes) (r : State × Option (Bytes × Bytes)) : (releaseHello k m seed bare r).measure = r.1.measure := by unfold releaseHello; split <;> simp
@[simp] theorem releaseHello_hosting (k : Nat) (m : ClientHello) (seed bare : Bytes) (r : State × Option (Bytes × Bytes)) : (releaseHello k m seed bare r).hosting = r.1.hosting := by unfold releaseHello; split <;> simp
@[simp] theorem releaseHello_straits (k : Nat) (m : ClientHello) (seed bare : Bytes) (r : State × Option (Bytes × Bytes)) : (releaseHello k m seed bare r).straits = r.1.straits := by unfold releaseHello; split <;> simp
@[simp] theorem releaseHello_time (k : Nat) (m : ClientHello) (seed bare : Bytes) (r : State × Option (Bytes × Bytes)) : (releaseHello k m seed bare r).time = r.1.time := by unfold releaseHello; split <;> simp
@[simp] theorem releaseHello_od (k : Nat) (m : ClientHello) (seed bare : Bytes) (r : State × Option (Bytes × Bytes)) : (releaseHello k m seed bare r).od = r.1.od := by unfold releaseHello; split <;> simp
@[simp] theorem releaseHello_power (k : Nat) (m : ClientHello) (seed bare : Bytes) (r : State × Option (Bytes × Bytes)) : (releaseHello k m seed bare r).power = r.1.power := by unfold releaseHello; split <;> simp
@[simp] theorem releaseHello_faults (k : Nat) (m : ClientHello) (seed bare : Bytes) (r : State × Option (Bytes × Bytes)) : (releaseHello k m seed bare r).faults = r.1.faults := by unfold releaseHello; split <;> simp
@[simp] theorem releaseHello_tap (k : Nat) (m : ClientHello) (seed bare : Bytes) (r : State × Option (Bytes × Bytes)) : (releaseHello k m seed bare r).tap = r.1.tap := by unfold releaseHello; split <;> simp
@[simp] theorem releaseHello_hostMem (k : Nat) (m : ClientHello) (seed bare : Bytes) (r : State × Option (Bytes × Bytes)) : (releaseHello k m seed bare r).hostMem = r.1.hostMem := by unfold releaseHello; split <;> simp
@[simp] theorem State.beginSession_pending (s : State) (k : Nat) (m : ClientHello) : (s.beginSession k m).pending = s.pending := by simp [State.beginSession]
@[simp] theorem State.beginSession_otp (s : State) (k : Nat) (m : ClientHello) : (s.beginSession k m).otp = s.otp := by simp [State.beginSession]
@[simp] theorem State.beginSession_silicon (s : State) (k : Nat) (m : ClientHello) : (s.beginSession k m).silicon = s.silicon := by simp [State.beginSession]
@[simp] theorem State.beginSession_ret (s : State) (k : Nat) (m : ClientHello) : (s.beginSession k m).ret = s.ret := by simp [State.beginSession]
@[simp] theorem State.beginSession_pins (s : State) (k : Nat) (m : ClientHello) : (s.beginSession k m).pins = s.pins := by simp [State.beginSession]
@[simp] theorem State.beginSession_clock (s : State) (k : Nat) (m : ClientHello) : (s.beginSession k m).clock = s.clock := by simp [State.beginSession]
@[simp] theorem State.beginSession_monitors (s : State) (k : Nat) (m : ClientHello) : (s.beginSession k m).monitors = s.monitors := by simp [State.beginSession]
@[simp] theorem State.beginSession_fabric (s : State) (k : Nat) (m : ClientHello) : (s.beginSession k m).fabric = s.fabric := by simp [State.beginSession]
@[simp] theorem State.beginSession_host (s : State) (k : Nat) (m : ClientHello) : (s.beginSession k m).host = s.host := by simp [State.beginSession]
@[simp] theorem State.beginSession_shoal (s : State) (k : Nat) (m : ClientHello) : (s.beginSession k m).shoal = s.shoal := by simp [State.beginSession]
@[simp] theorem State.beginSession_measure (s : State) (k : Nat) (m : ClientHello) : (s.beginSession k m).measure = s.measure := by simp [State.beginSession]
@[simp] theorem State.beginSession_hosting (s : State) (k : Nat) (m : ClientHello) : (s.beginSession k m).hosting = s.hosting := by simp [State.beginSession]
@[simp] theorem State.beginSession_straits (s : State) (k : Nat) (m : ClientHello) : (s.beginSession k m).straits = s.straits := by simp [State.beginSession]
@[simp] theorem State.beginSession_time (s : State) (k : Nat) (m : ClientHello) : (s.beginSession k m).time = s.time := by simp [State.beginSession]
@[simp] theorem State.beginSession_od (s : State) (k : Nat) (m : ClientHello) : (s.beginSession k m).od = s.od := by simp [State.beginSession]
@[simp] theorem State.beginSession_power (s : State) (k : Nat) (m : ClientHello) : (s.beginSession k m).power = s.power := by simp [State.beginSession]
@[simp] theorem State.beginSession_faults (s : State) (k : Nat) (m : ClientHello) : (s.beginSession k m).faults = s.faults := by simp [State.beginSession]
@[simp] theorem State.beginSession_tap (s : State) (k : Nat) (m : ClientHello) : (s.beginSession k m).tap = s.tap := by simp [State.beginSession]
@[simp] theorem State.beginSession_hostMem (s : State) (k : Nat) (m : ClientHello) : (s.beginSession k m).hostMem = s.hostMem := by simp [State.beginSession]
@[simp] theorem State.keyCauseway_pending (s : State) (i : Nat) (sig : Bytes) : (s.keyCauseway i sig).pending = s.pending := by simp [State.keyCauseway]
@[simp] theorem State.keyCauseway_otp (s : State) (i : Nat) (sig : Bytes) : (s.keyCauseway i sig).otp = s.otp := by simp [State.keyCauseway]
@[simp] theorem State.keyCauseway_silicon (s : State) (i : Nat) (sig : Bytes) : (s.keyCauseway i sig).silicon = s.silicon := by simp [State.keyCauseway]
@[simp] theorem State.keyCauseway_ret (s : State) (i : Nat) (sig : Bytes) : (s.keyCauseway i sig).ret = s.ret := by simp [State.keyCauseway]
@[simp] theorem State.keyCauseway_pins (s : State) (i : Nat) (sig : Bytes) : (s.keyCauseway i sig).pins = s.pins := by simp [State.keyCauseway]
@[simp] theorem State.keyCauseway_clock (s : State) (i : Nat) (sig : Bytes) : (s.keyCauseway i sig).clock = s.clock := by simp [State.keyCauseway]
@[simp] theorem State.keyCauseway_engines (s : State) (i : Nat) (sig : Bytes) : (s.keyCauseway i sig).engines = s.engines := by simp [State.keyCauseway]
@[simp] theorem State.keyCauseway_monitors (s : State) (i : Nat) (sig : Bytes) : (s.keyCauseway i sig).monitors = s.monitors := by simp [State.keyCauseway]
@[simp] theorem State.keyCauseway_fabric (s : State) (i : Nat) (sig : Bytes) : (s.keyCauseway i sig).fabric = s.fabric := by simp [State.keyCauseway]
@[simp] theorem State.keyCauseway_host (s : State) (i : Nat) (sig : Bytes) : (s.keyCauseway i sig).host = s.host := by simp [State.keyCauseway]
@[simp] theorem State.keyCauseway_shoal (s : State) (i : Nat) (sig : Bytes) : (s.keyCauseway i sig).shoal = s.shoal := by simp [State.keyCauseway]
@[simp] theorem State.keyCauseway_measure (s : State) (i : Nat) (sig : Bytes) : (s.keyCauseway i sig).measure = s.measure := by simp [State.keyCauseway]
@[simp] theorem State.keyCauseway_hosting (s : State) (i : Nat) (sig : Bytes) : (s.keyCauseway i sig).hosting = s.hosting := by simp [State.keyCauseway]
@[simp] theorem State.keyCauseway_straits (s : State) (i : Nat) (sig : Bytes) : (s.keyCauseway i sig).straits = s.straits := by simp [State.keyCauseway]
@[simp] theorem State.keyCauseway_time (s : State) (i : Nat) (sig : Bytes) : (s.keyCauseway i sig).time = s.time := by simp [State.keyCauseway]
@[simp] theorem State.keyCauseway_od (s : State) (i : Nat) (sig : Bytes) : (s.keyCauseway i sig).od = s.od := by simp [State.keyCauseway]
@[simp] theorem State.keyCauseway_power (s : State) (i : Nat) (sig : Bytes) : (s.keyCauseway i sig).power = s.power := by simp [State.keyCauseway]
@[simp] theorem State.keyCauseway_faults (s : State) (i : Nat) (sig : Bytes) : (s.keyCauseway i sig).faults = s.faults := by simp [State.keyCauseway]
@[simp] theorem State.keyCauseway_tap (s : State) (i : Nat) (sig : Bytes) : (s.keyCauseway i sig).tap = s.tap := by simp [State.keyCauseway]
@[simp] theorem State.keyCauseway_hostMem (s : State) (i : Nat) (sig : Bytes) : (s.keyCauseway i sig).hostMem = s.hostMem := by simp [State.keyCauseway]

end Sys2Proof.Machine
end

