-- ==== Sys2Proof/Laws/Ops.lean ====
section
/-! SUPPORT. What the shared operations do, once each: byte strings, lists of like things, measurement registers, a write that
reaches its object, the activity note of a channel, and the starts from ROM. -/

namespace Sys2Proof.Machine

/-! ### Byte strings -/

@[simp] theorem leBytes_length (n x : Nat) : (leBytes n x).length = n := by simp [leBytes]

@[simp] theorem beBytes_length (n x : Nat) : (beBytes n x).length = n := by simp [beBytes]

@[simp] theorem digestBytes_length (d : Digest) : (digestBytes d).length = 48 := by simp [digestBytes]

theorem slice_length (b : Bytes) (off len : Nat) : (slice b off len).length = min len (b.length - off) := by
  simp [slice]

theorem slice_all (b : Bytes) : slice b 0 b.length = b := by simp [slice]

theorem slice_append_left (a b : Bytes) : slice (a ++ b) 0 a.length = a := by simp [slice]

theorem slice_append_right (a b : Bytes) (off len : Nat) : slice (a ++ b) (a.length + off) len = slice b off len := by
  simp only [slice]
  rw [← List.drop_drop, List.drop_left]

/-! ### Lists of like things -/

variable {α : Type}

@[simp] theorem modifyAt_length (l : List α) (i : Nat) (f : α → α) : (modifyAt l i f).length = l.length := by
  simp [modifyAt]

theorem getD_modifyAt_ne (l : List α) {i j : Nat} (f : α → α) (d : α) (h : j ≠ i) :
    (modifyAt l i f).getD j d = l.getD j d := by
  simp [modifyAt, List.getD, Ne.symm h]

theorem getD_modifyAt_same (l : List α) (i : Nat) (f : α → α) (d : α) (h : i < l.length) :
    (modifyAt l i f).getD i d = f (l.getD i d) := by
  simp [modifyAt, List.getD, h]

theorem getD_modifyAt_out (l : List α) (i j : Nat) (f : α → α) (d : α) (h : l.length ≤ i) :
    (modifyAt l i f).getD j d = l.getD j d := by
  by_cases hj : j = i
  · subst hj
    have h1 : (modifyAt l j f)[j]? = none := List.getElem?_eq_none (by simpa using h)
    have h2 : l[j]? = none := List.getElem?_eq_none h
    simp [List.getD, h1, h2]
  · exact getD_modifyAt_ne l f d hj

/-! ### Measurement registers (R149, R151) -/

theorem Measure.extend_mrs (m : Measure) (r : Nat) (d : Bytes) :
    (m.extend r d).mrs = modifyAt m.mrs r fun v => extendValue v d := by
  unfold Measure.extend; dsimp only; split <;> rfl

@[simp] theorem Measure.extend_mrs_length (m : Measure) (r : Nat) (d : Bytes) : (m.extend r d).mrs.length = m.mrs.length := by
  rw [Measure.extend_mrs, modifyAt_length]

theorem State.extendMr_mr_same (s : State) (r : Nat) (d : Bytes) (h : r < s.measure.mrs.length) :
    (s.extendMr r d).mr r = extendValue (s.mr r) d := by
  simp only [State.mr, State.extendMr_measure, Measure.extend_mrs]
  exact getD_modifyAt_same _ _ _ _ h

theorem State.extendMr_mr_ne (s : State) (r k : Nat) (d : Bytes) (h : k ≠ r) : (s.extendMr r d).mr k = s.mr k := by
  simp only [State.mr, State.extendMr_measure, Measure.extend_mrs]
  exact getD_modifyAt_ne _ _ _ h

/-! ### A channel's activity note (R379, R405, R519) -/

/-- A note of activity touches nothing but the session of the channel. -/
theorem State.touch_eq (s : State) (ch : Channel) : ∃ h c, s.touch ch = { s with hosting := h, causeway := c } := by
  unfold State.touch
  split
  · cases ch <;> exact ⟨_, _, rfl⟩
  · exact ⟨_, _, rfl⟩

@[simp] theorem State.touch_pending (s : State) (ch : Channel) : (s.touch ch).pending = s.pending := by
  obtain ⟨_, _, h⟩ := s.touch_eq ch; rw [h]
@[simp] theorem State.touch_otp (s : State) (ch : Channel) : (s.touch ch).otp = s.otp := by
  obtain ⟨_, _, h⟩ := s.touch_eq ch; rw [h]
@[simp] theorem State.touch_ret (s : State) (ch : Channel) : (s.touch ch).ret = s.ret := by
  obtain ⟨_, _, h⟩ := s.touch_eq ch; rw [h]
@[simp] theorem State.touch_silicon (s : State) (ch : Channel) : (s.touch ch).silicon = s.silicon := by
  obtain ⟨_, _, h⟩ := s.touch_eq ch; rw [h]
@[simp] theorem State.touch_pins (s : State) (ch : Channel) : (s.touch ch).pins = s.pins := by
  obtain ⟨_, _, h⟩ := s.touch_eq ch; rw [h]
@[simp] theorem State.touch_clock (s : State) (ch : Channel) : (s.touch ch).clock = s.clock := by
  obtain ⟨_, _, h⟩ := s.touch_eq ch; rw [h]
@[simp] theorem State.touch_start (s : State) (ch : Channel) : (s.touch ch).start = s.start := by
  obtain ⟨_, _, h⟩ := s.touch_eq ch; rw [h]
@[simp] theorem State.touch_keys (s : State) (ch : Channel) : (s.touch ch).keys = s.keys := by
  obtain ⟨_, _, h⟩ := s.touch_eq ch; rw [h]
@[simp] theorem State.touch_engines (s : State) (ch : Channel) : (s.touch ch).engines = s.engines := by
  obtain ⟨_, _, h⟩ := s.touch_eq ch; rw [h]
@[simp] theorem State.touch_monitors (s : State) (ch : Channel) : (s.touch ch).monitors = s.monitors := by
  obtain ⟨_, _, h⟩ := s.touch_eq ch; rw [h]
@[simp] theorem State.touch_fabric (s : State) (ch : Channel) : (s.touch ch).fabric = s.fabric := by
  obtain ⟨_, _, h⟩ := s.touch_eq ch; rw [h]
@[simp] theorem State.touch_host (s : State) (ch : Channel) : (s.touch ch).host = s.host := by
  obtain ⟨_, _, h⟩ := s.touch_eq ch; rw [h]
@[simp] theorem State.touch_shoal (s : State) (ch : Channel) : (s.touch ch).shoal = s.shoal := by
  obtain ⟨_, _, h⟩ := s.touch_eq ch; rw [h]
@[simp] theorem State.touch_measure (s : State) (ch : Channel) : (s.touch ch).measure = s.measure := by
  obtain ⟨_, _, h⟩ := s.touch_eq ch; rw [h]
@[simp] theorem State.touch_straits (s : State) (ch : Channel) : (s.touch ch).straits = s.straits := by
  obtain ⟨_, _, h⟩ := s.touch_eq ch; rw [h]
@[simp] theorem State.touch_time (s : State) (ch : Channel) : (s.touch ch).time = s.time := by
  obtain ⟨_, _, h⟩ := s.touch_eq ch; rw [h]
@[simp] theorem State.touch_od (s : State) (ch : Channel) : (s.touch ch).od = s.od := by
  obtain ⟨_, _, h⟩ := s.touch_eq ch; rw [h]
@[simp] theorem State.touch_power (s : State) (ch : Channel) : (s.touch ch).power = s.power := by
  obtain ⟨_, _, h⟩ := s.touch_eq ch; rw [h]
@[simp] theorem State.touch_faults (s : State) (ch : Channel) : (s.touch ch).faults = s.faults := by
  obtain ⟨_, _, h⟩ := s.touch_eq ch; rw [h]
@[simp] theorem State.touch_tap (s : State) (ch : Channel) : (s.touch ch).tap = s.tap := by
  obtain ⟨_, _, h⟩ := s.touch_eq ch; rw [h]
@[simp] theorem State.touch_hostMem (s : State) (ch : Channel) : (s.touch ch).hostMem = s.hostMem := by
  obtain ⟨_, _, h⟩ := s.touch_eq ch; rw [h]
@[simp] theorem State.touch_draws (s : State) (ch : Channel) : (s.touch ch).draws = s.draws := by
  obtain ⟨_, _, h⟩ := s.touch_eq ch; rw [h]

/-- The mailbox has no session to note. -/
@[simp] theorem State.touch_bar0 (s : State) (tee : Bool) : s.touch (.bar0 tee) = s := by unfold State.touch; split <;> rfl

/-! ### A write that reaches its object -/

/-- A permitted whole write applies the object's effect, or is ignored and counted (R485). -/
theorem State.odRow_of_accepts (s : State) (ch : Channel) (index sub : Nat) (r : Rights) (f : State → Option State)
    (h : s.accepts ch index sub r) : s.odRow ch index sub r f = s.writtenBy ch index sub f := by
  unfold State.accepts State.writeReaches at h
  simp only [Bool.and_eq_true, Bool.not_eq_true'] at h
  obtain ⟨⟨⟨⟨⟨h1, h2⟩, h3⟩, h4⟩, h5⟩, h6⟩ := h
  have h5' : (s.od.channel ch).opened.isSome = false := by
    cases hh : (s.od.channel ch).opened <;> simp_all
  simp [State.odRow, State.odWrite, State.writtenBy, State.applyWrite, h1, h2, h3, h4, h5', h6]
  cases f (s.touch ch) <;> rfl

/-! ### Starts from ROM (R73, R75-R82, R98, R102) -/

/-- MR0 after step 6 of R104, and every other register. -/
theorem Measure.mr_fresh (d e : Bytes) (k : Nat) : ((({} : Measure).extend 0 d).extend 0 e).mrs.getD k 0 =
    if k = 0 then extendValue (extendValue 0 d) e else 0 := by
  simp only [Measure.extend_mrs, modifyAt]
  rcases k with _ | k
  · rfl
  · have : ∀ k, (List.replicate 31 (0 : Digest)).getD k 0 = 0 := by
      intro k; simp only [List.getD, List.getElem?_replicate]; split <;> rfl
    simpa using this k

/-- The checked part of a start on serviceable fuses and clean silicon. -/
theorem State.bootChecked_clean (s : State) (c : StartConds) (hc : cleanStart c)
    (ho : s.otp.drsRevoked = false ∧ s.otp.closed.getLsbD 2 = true) :
    s.bootChecked c = { s with
      measure := (s.measure.extend 0 (digestBytes Config.romDigest)).extend 0 (digestBytes (s.otp.regionDigest.getD 1 0))
      start := { s.start with
        patched := true, drbgUp := true, drbgSeededAt := s.clock.count, power := .standby, phase := .standby
        pufAttempts := min (c.pufFailures + 1) 3 } } := by
  obtain ⟨h2, h3⟩ := ho
  obtain ⟨c1, c2, c3, c4, c5⟩ := hc
  have l3 : ¬ 3 ≤ c.entropyFailures := by omega
  have l4 : ¬ 3 ≤ c.pufFailures := by omega
  unfold State.bootChecked
  simp only [State.extendMr, h2, l3, l4, false_and, if_false, Bool.false_eq_true]
  have h3' : s.otp.closed[2] = true := by simpa using h3
  simp [State.generatesDrs, h3']

/-- The boot stage on serviceable fuses and clean silicon. -/
theorem State.boot_clean (s : State) (c : StartConds) (held : Bool) (hh : held = true → c.tamperRecent = 0) (hc : cleanStart c)
    (ho : s.otp.serviceable) :
    s.boot c held = { s with
      silicon := c
      pins := { s.pins with presentLow := true }
      measure := (s.measure.extend 0 (digestBytes Config.romDigest)).extend 0 (digestBytes (s.otp.regionDigest.getD 1 0))
      start := { s.start with
        eccCorrections := c.eccCorrected, patched := true, drbgUp := true, drbgSeededAt := s.clock.count, power := .standby
        phase := .standby, pufAttempts := min (c.pufFailures + 1) 3, tokensAtStart := s.ret.tokens } } := by
  unfold State.boot
  have h1 := ho.1
  have c1 := hc.1
  have c5 := hc.2.2.2.2
  have hn : ¬ (held = true ∧ c.tamperRecent ≠ 0) := fun h => h.2 (hh h.1)
  simp only [c1, h1, c5, hn, Bool.true_eq_false, ne_eq, not_true_eq_false, if_false]
  rw [State.bootChecked_clean _ _ hc (by exact ⟨ho.2.1, ho.2.2⟩)]

/-- A warm reset on serviceable fuses and clean silicon ends in STANDBY over what it keeps (R102). -/
theorem State.warmReset_clean (s : State) (c : StartConds) (hr : s.resettable = true) (hh : s.start.halt = .tamper → c.tamperRecent = 0)
    (hc : cleanStart c) (ho : s.otp.serviceable) :
    (s.warmReset c).atStandby ∧ s.keptOver (s.warmReset c) ∧ (s.warmReset c).ret = s.ret.afterReset (s.od.session != 0) ∧
      (s.warmReset c).pins.mainValid = s.pins.mainValid ∧ (s.warmReset c).pins.modResetN = s.pins.modResetN := by
  have hh' : (s.start.halt == .tamper) = true → c.tamperRecent = 0 := fun h => hh (by simpa using h)
  simp only [State.warmReset, hr, if_true, State.restart]
  rw [State.boot_clean _ _ _ hh' hc (by exact ho)]
  simp [State.atStandby, State.keptOver, State.volatileClear, State.volatile, State.mr, -List.getD_eq_getElem?_getD,
    Retained.checked, hc.2.2.2.1]
  exact ⟨Measure.mr_fresh _ _ 0, fun k hk => (Measure.mr_fresh _ _ k).trans (if_neg (by omega))⟩

/-! ### Steps -/

/-- A step carries out the front command with the queue's rest. -/
theorem step_cons (c : Instr) (s : State) : step { s with pending := c :: s.pending } = exec c s := rfl

end Sys2Proof.Machine
end

