-- ==== Sys2Proof/Laws/PerInstr.lean ====
section
/-! SUPPORT. One lemma per command for the family named in LAWS.json. -/

namespace Sys2Proof.Laws.NoBits

/-- No word spells the command: the table gives its row no bits. -/
def Statement (i : Instr) : Prop := ∀ nbits w, decodeTableWord nbits w ≠ some i

theorem coldStart (c : StartConds) : Statement (.coldStart c) := fun _ _ h => nomatch h
theorem entropyContinuousFail : Statement .entropyContinuousFail := fun _ _ h => nomatch h
theorem drbgReseed : Statement .drbgReseed := fun _ _ h => nomatch h
theorem mainValid : Statement .mainValid := fun _ _ h => nomatch h
theorem mainLoss (c : StartConds) : Statement (.mainLoss c) := fun _ _ h => nomatch h
theorem stbyLoss : Statement .stbyLoss := fun _ _ h => nomatch h
theorem vhubRamp : Statement .vhubRamp := fun _ _ h => nomatch h
theorem modResetAssert (lowNs : Nat) (recognised : Bool) (c : StartConds) : Statement (.modResetAssert lowNs recognised c) := fun _ _ h => nomatch h
theorem modResetRelease : Statement .modResetRelease := fun _ _ h => nomatch h
theorem warmResetRequest (ch : Channel) (v : Byte) (c : StartConds) : Statement (.warmResetRequest ch v c) := fun _ _ h => nomatch h
theorem tamperFire (src : TamperSource) : Statement (.tamperFire src) := fun _ _ h => nomatch h
theorem hostDelivery (ch : Channel) (addr : BitVec 64) (len : BitVec 32) (img : SetImage) : Statement (.hostDelivery ch addr len img) := fun _ _ h => nomatch h
theorem itemVerified (data : Bytes) (govFail vfabFail : BitVec 12) : Statement (.itemVerified data govFail vfabFail) := fun _ _ h => nomatch h
theorem svnCommit (ch : Channel) (n : Byte) : Statement (.svnCommit ch n) := fun _ _ h => nomatch h
theorem updateCheckDone (items : List Bytes) : Statement (.updateCheckDone items) := fun _ _ h => nomatch h
theorem aliasCommit (ch : Channel) (v : Byte) : Statement (.aliasCommit ch v) := fun _ _ h => nomatch h
theorem idevidCertCopyWrite (ch : Channel) (cert : Bytes) : Statement (.idevidCertCopyWrite ch cert) := fun _ _ h => nomatch h
theorem remaskPass : Statement .remaskPass := fun _ _ h => nomatch h
theorem bindingAdvance (ch : Channel) (v : Byte) (selfTestOk blowOk : Bool) : Statement (.bindingAdvance ch v selfTestOk blowOk) := fun _ _ h => nomatch h
theorem bindingOverlapEnd : Statement .bindingOverlapEnd := fun _ _ h => nomatch h
theorem caStage (ch : Channel) (anchor : Bytes) : Statement (.caStage ch anchor) := fun _ _ h => nomatch h
theorem caStageLapse : Statement .caStageLapse := fun _ _ h => nomatch h
theorem caOverlapEnd : Statement .caOverlapEnd := fun _ _ h => nomatch h
theorem digestStart (j : Fin 8) (d : JobDesc) : Statement (.digestStart j d) := fun _ _ h => nomatch h
theorem digestResult (j : Fin 8) : Statement (.digestResult j) := fun _ _ h => nomatch h
theorem compare (j : Fin 8) (aux : Bytes) : Statement (.compare j aux) := fun _ _ h => nomatch h
theorem extend (j : Fin 8) (mr : Fin 32) (aux : Bytes) : Statement (.extend j mr aux) := fun _ _ h => nomatch h
theorem exportCtx (j : Fin 8) : Statement (.exportCtx j) := fun _ _ h => nomatch h
theorem importCtx (j : Fin 8) (blob : Bytes) : Statement (.importCtx j blob) := fun _ _ h => nomatch h
theorem digestAbort (j : Fin 8) : Statement (.digestAbort j) := fun _ _ h => nomatch h
theorem digestJobDone (j : Fin 8) (bytes : Bytes) : Statement (.digestJobDone j bytes) := fun _ _ h => nomatch h
theorem digestAlarm (busError : Bool) : Statement (.digestAlarm busError) := fun _ _ h => nomatch h
theorem inlineLaneGrant (ferry : Fin 16) : Statement (.inlineLaneGrant ferry) := fun _ _ h => nomatch h
theorem wmac (c : BnCtx) (f : BnFlags) (a b dst : BitVec 12) : Statement (.wmac c f a b dst) := fun _ _ h => nomatch h
theorem lmac (c : BnCtx) (f : BnFlags) (a b dst : BitVec 12) : Statement (.lmac c f a b dst) := fun _ _ h => nomatch h
theorem keyload (c : BnCtx) (dst : BitVec 12) : Statement (.keyload c dst) := fun _ _ h => nomatch h
theorem bnEnd (c : BnCtx) : Statement (.bnEnd c) := fun _ _ h => nomatch h
theorem bnYield : Statement .bnYield := fun _ _ h => nomatch h
theorem bnSealedAccess (c : BnCtx) (word : BitVec 12) : Statement (.bnSealedAccess c word) := fun _ _ h => nomatch h
theorem bnAlarm : Statement .bnAlarm := fun _ _ h => nomatch h
theorem leaseLapse (l : Lease) : Statement (.leaseLapse l) := fun _ _ h => nomatch h
theorem leaseRevoke (by_ : Option Channel) (l : Lease) : Statement (.leaseRevoke by_ l) := fun _ _ h => nomatch h
theorem paceMonitorWindow (die : Fin 12) (readings : List Nat) : Statement (.paceMonitorWindow die readings) := fun _ _ h => nomatch h
theorem beatFloorUpdate : Statement .beatFloorUpdate := fun _ _ h => nomatch h
theorem temperatureSample (die : Fin 13) (readings : List Int) : Statement (.temperatureSample die readings) := fun _ _ h => nomatch h
theorem voltageSample (m : VoltMonitor) (mv : Nat) : Statement (.voltageSample m mv) := fun _ _ h => nomatch h
theorem ballastThresholdReached (core : Fin 1200) (array : Fin 4) : Statement (.ballastThresholdReached core array) := fun _ _ h => nomatch h
theorem ballastThresholdWrite (ch : Channel) (v : Byte) : Statement (.ballastThresholdWrite ch v) := fun _ _ h => nomatch h
theorem nop (core : Fin 1200) : Statement (.nop core) := fun _ _ h => nomatch h
theorem loadw (core : Fin 1200) : Statement (.loadw core) := fun _ _ h => nomatch h
theorem frontStart (core : Fin 1200) (waitBeats : Nat) : Statement (.frontStart core waitBeats) := fun _ _ h => nomatch h
theorem stream (core : Fin 1200) : Statement (.stream core) := fun _ _ h => nomatch h
theorem opacc (core : Fin 1200) : Statement (.opacc core) := fun _ _ h => nomatch h
theorem drain (core : Fin 1200) : Statement (.drain core) := fun _ _ h => nomatch h
theorem arrayOperationStart (core : Fin 1200) (gapBeats : List Nat) : Statement (.arrayOperationStart core gapBeats) := fun _ _ h => nomatch h
theorem arrayFreeze (core : Fin 1200) (draining : Option (Fin 4)) : Statement (.arrayFreeze core draining) := fun _ _ h => nomatch h
theorem vld (core : Fin 1200) : Statement (.vld core) := fun _ _ h => nomatch h
theorem vld48 (core : Fin 1200) : Statement (.vld48 core) := fun _ _ h => nomatch h
theorem vst (core : Fin 1200) : Statement (.vst core) := fun _ _ h => nomatch h
theorem vst48 (core : Fin 1200) : Statement (.vst48 core) := fun _ _ h => nomatch h
theorem vadd (core : Fin 1200) : Statement (.vadd core) := fun _ _ h => nomatch h
theorem vsub (core : Fin 1200) : Statement (.vsub core) := fun _ _ h => nomatch h
theorem vmul (core : Fin 1200) : Statement (.vmul core) := fun _ _ h => nomatch h
theorem vmax (core : Fin 1200) : Statement (.vmax core) := fun _ _ h => nomatch h
theorem vmin (core : Fin 1200) : Statement (.vmin core) := fun _ _ h => nomatch h
theorem vreq (core : Fin 1200) : Statement (.vreq core) := fun _ _ h => nomatch h
theorem vlut (core : Fin 1200) : Statement (.vlut core) := fun _ _ h => nomatch h
theorem vsum (core : Fin 1200) : Statement (.vsum core) := fun _ _ h => nomatch h
theorem vsmax (core : Fin 1200) : Statement (.vsmax core) := fun _ _ h => nomatch h
theorem send (core : Fin 1200) : Statement (.send core) := fun _ _ h => nomatch h
theorem recv (core : Fin 1200) : Statement (.recv core) := fun _ _ h => nomatch h
theorem waitslot (core : Fin 1200) : Statement (.waitslot core) := fun _ _ h => nomatch h
theorem fence (core : Fin 1200) : Statement (.fence core) := fun _ _ h => nomatch h
theorem endStep (core : Fin 1200) : Statement (.endStep core) := fun _ _ h => nomatch h
theorem soundUnitArrive (u : SoundUnit) : Statement (.soundUnitArrive u) := fun _ _ h => nomatch h
theorem noProgressFault (core : Fin 1200) : Statement (.noProgressFault core) := fun _ _ h => nomatch h
theorem planDelivery (ch : Channel) (addr len : BitVec 64) : Statement (.planDelivery ch addr len) := fun _ _ h => nomatch h
theorem planCheck (file : HostFetch) : Statement (.planCheck file) := fun _ _ h => nomatch h
theorem planSwitch (ch : Channel) (v : Byte) : Statement (.planSwitch ch v) := fun _ _ h => nomatch h
theorem planDiscard (ch : Channel) (v : Byte) : Statement (.planDiscard ch v) := fun _ _ h => nomatch h
theorem planAdmission (poisoned : List (Fin 1200)) : Statement (.planAdmission poisoned) := fun _ _ h => nomatch h
theorem spanAdmission (report : SpanReport) : Statement (.spanAdmission report) := fun _ _ h => nomatch h
theorem tideDeparture : Statement .tideDeparture := fun _ _ h => nomatch h
theorem tideFinish : Statement .tideFinish := fun _ _ h => nomatch h
theorem spanWaitExpiry (missing : BitVec 12) : Statement (.spanWaitExpiry missing) := fun _ _ h => nomatch h
theorem sqTailWrite (tee : Bool) (ring : BitVec 16) (v : BitVec 32) : Statement (.sqTailWrite tee ring v) := fun _ _ h => nomatch h
theorem cqHeadWrite (tee : Bool) (ring : BitVec 16) (v : BitVec 32) : Statement (.cqHeadWrite tee ring v) := fun _ _ h => nomatch h
theorem ringConfigWrite (ch : Channel) (cfg : RingCfg) : Statement (.ringConfigWrite ch cfg) := fun _ _ h => nomatch h
theorem ingestModeWrite (ch : Channel) (v : Byte) : Statement (.ingestModeWrite ch v) := fun _ _ h => nomatch h
theorem score (ring : BitVec 16) (entry : BitVec 512) (translated : Bool) : Statement (.score ring entry translated) := fun _ _ h => nomatch h
theorem events (ring : BitVec 16) (entry : BitVec 512) (translated : Bool) : Statement (.events ring entry translated) := fun _ _ h => nomatch h
theorem resubmit (ring : BitVec 16) (entry : BitVec 512) : Statement (.resubmit ring entry) := fun _ _ h => nomatch h
theorem fenceWaitRelease (ring : BitVec 16) : Statement (.fenceWaitRelease ring) := fun _ _ h => nomatch h
theorem recordFetchDone (tag : BitVec 18) (record : Bytes) : Statement (.recordFetchDone tag record) := fun _ _ h => nomatch h
theorem pageRequestResponse (o : PageOwner) (success : Bool) : Statement (.pageRequestResponse o success) := fun _ _ h => nomatch h
theorem priTimeout (o : PageOwner) : Statement (.priTimeout o) := fun _ _ h => nomatch h
theorem atsInvalidation (iova : BitVec 64) (len : BitVec 64) : Statement (.atsInvalidation iova len) := fun _ _ h => nomatch h
theorem completionPost (tag : BitVec 18) (tr : PostTranslation) : Statement (.completionPost tag tr) := fun _ _ h => nomatch h
theorem msixHoldoffExpiry (vec : Fin 2048) : Statement (.msixHoldoffExpiry vec) := fun _ _ h => nomatch h
theorem fenceObjectWrite (tee : Bool) (f : BitVec 12) (v : BitVec 64) : Statement (.fenceObjectWrite tee f v) := fun _ _ h => nomatch h
theorem shoalEventApply (n : Fin 12) : Statement (.shoalEventApply n) := fun _ _ h => nomatch h
theorem shoalSample (tag : BitVec 18) : Statement (.shoalSample tag) := fun _ _ h => nomatch h
theorem shoalSleep (n : Fin 12) : Statement (.shoalSleep n) := fun _ _ h => nomatch h
theorem shoalImageLoad (ch : Channel) (addr len : BitVec 64) : Statement (.shoalImageLoad ch addr len) := fun _ _ h => nomatch h
theorem shoalImageLoaded (img : Option Bytes) : Statement (.shoalImageLoaded img) := fun _ _ h => nomatch h
theorem shoalSnapshot (ch : Channel) (addr len : BitVec 64) : Statement (.shoalSnapshot ch addr len) := fun _ _ h => nomatch h
theorem snapshotCapture : Statement .snapshotCapture := fun _ _ h => nomatch h
theorem evidenceRequest (ch : Channel) (nonce : Bytes) : Statement (.evidenceRequest ch nonce) := fun _ _ h => nomatch h
theorem tenantExtend (ch : Channel) (mr : Byte) (data : Bytes) : Statement (.tenantExtend ch mr data) := fun _ _ h => nomatch h
theorem checkpointInterval : Statement .checkpointInterval := fun _ _ h => nomatch h
theorem checkpointRequest (ch : Channel) (v : Byte) : Statement (.checkpointRequest ch v) := fun _ _ h => nomatch h
theorem checkpointSigned (translated : Bool) : Statement (.checkpointSigned translated) := fun _ _ h => nomatch h
theorem ringControlEnable (tee : Bool) (r : EvRing) (v : Byte) (translated : Bool) : Statement (.ringControlEnable tee r v translated) := fun _ _ h => nomatch h
theorem ringControlHead (tee : Bool) (r : EvRing) (v : BitVec 64) (translated : Bool) : Statement (.ringControlHead tee r v translated) := fun _ _ h => nomatch h
theorem getVersion : Statement .getVersion := fun _ _ h => nomatch h
theorem getCapabilities : Statement .getCapabilities := fun _ _ h => nomatch h
theorem negotiateAlgorithms (offersP384Sha384 : Bool) : Statement (.negotiateAlgorithms offersP384Sha384) := fun _ _ h => nomatch h
theorem getDigests : Statement .getDigests := fun _ _ h => nomatch h
theorem getCertificate (slot : Byte) (offset len : Nat) : Statement (.getCertificate slot offset len) := fun _ _ h => nomatch h
theorem challenge (slot : Byte) (nonce : BitVec 256) : Statement (.challenge slot nonce) := fun _ _ h => nomatch h
theorem getMeasurements (index : Byte) (nonce : BitVec 256) : Statement (.getMeasurements index nonce) := fun _ _ h => nomatch h
theorem chunkGet (seq : Nat) : Statement (.chunkGet seq) := fun _ _ h => nomatch h
theorem keyExchange (exchangeData : Bytes) : Statement (.keyExchange exchangeData) := fun _ _ h => nomatch h
theorem finish (i : Fin 4) (verifyOk : Bool) (heartbeatS : Byte) : Statement (.finish i verifyOk heartbeatS) := fun _ _ h => nomatch h
theorem endSession (i : Fin 4) : Statement (.endSession i) := fun _ _ h => nomatch h
theorem heartbeat (i : Fin 4) : Statement (.heartbeat i) := fun _ _ h => nomatch h
theorem keyUpdate (i : Fin 4) : Statement (.keyUpdate i) := fun _ _ h => nomatch h
theorem vendorDefinedRequest (i : Fin 4) (op : Byte) (h : TuHeader) (data : Bytes) : Statement (.vendorDefinedRequest i op h data) := fun _ _ h => nomatch h
theorem query (i : Fin 4) : Statement (.query i) := fun _ _ h => nomatch h
theorem keyProg (i : Fin 4) (id : IdeKeyId) (key : BitVec 256) : Statement (.keyProg i id key) := fun _ _ h => nomatch h
theorem kSetGo (i : Fin 4) (id : IdeKeyId) : Statement (.kSetGo i id) := fun _ _ h => nomatch h
theorem kSetStop (i : Fin 4) (id : IdeKeyId) : Statement (.kSetStop i id) := fun _ _ h => nomatch h
theorem getTdispVersion (i : Fin 4) : Statement (.getTdispVersion i) := fun _ _ h => nomatch h
theorem getTdispCapabilities (i : Fin 4) : Statement (.getTdispCapabilities i) := fun _ _ h => nomatch h
theorem lockInterfaceRequest (i : Fin 4) : Statement (.lockInterfaceRequest i) := fun _ _ h => nomatch h
theorem getDeviceInterfaceReport (i : Fin 4) : Statement (.getDeviceInterfaceReport i) := fun _ _ h => nomatch h
theorem getDeviceInterfaceState (i : Fin 4) : Statement (.getDeviceInterfaceState i) := fun _ _ h => nomatch h
theorem startInterfaceRequest (i : Fin 4) (nonce : BitVec 256) : Statement (.startInterfaceRequest i nonce) := fun _ _ h => nomatch h
theorem stopInterfaceRequest (i : Fin 4) : Statement (.stopInterfaceRequest i) := fun _ _ h => nomatch h
theorem ideIntegrityFail (stream : Fin 9) : Statement (.ideIntegrityFail stream) := fun _ _ h => nomatch h
theorem clearModelLoad (ch : Channel) (addr len : BitVec 64) : Statement (.clearModelLoad ch addr len) := fun _ _ h => nomatch h
theorem boundBundleLoad (ch : Channel) (addr len : BitVec 64) (head : Option Bytes) : Statement (.boundBundleLoad ch addr len head) := fun _ _ h => nomatch h
theorem modelLoadComplete (slot : Fin 4) (r : ModelResult) : Statement (.modelLoadComplete slot r) := fun _ _ h => nomatch h
theorem consentKeyWrite (ch : Channel) (d : Digest) : Statement (.consentKeyWrite ch d) := fun _ _ h => nomatch h
theorem consentTokenSubmit (ch : Channel) (t : ConsentToken) : Statement (.consentTokenSubmit ch t) := fun _ _ h => nomatch h
theorem consentTokenExpiry (sc : Scope) : Statement (.consentTokenExpiry sc) := fun _ _ h => nomatch h
theorem consentWithdraw (ch : Channel) (v : Byte) : Statement (.consentWithdraw ch v) := fun _ _ h => nomatch h
theorem regionAllocate (ch : Channel) (region : BitVec 16) (stack : Byte) (size : BitVec 32) : Statement (.regionAllocate ch region stack size) := fun _ _ h => nomatch h
theorem regionFree (ch : Channel) (region : BitVec 16) : Statement (.regionFree ch region) := fun _ _ h => nomatch h
theorem scrubSuspend (ch : Channel) (region : BitVec 16) : Statement (.scrubSuspend ch region) := fun _ _ h => nomatch h
theorem scrubResume (ch : Channel) (region : BitVec 16) : Statement (.scrubResume ch region) := fun _ _ h => nomatch h
theorem scrubComplete (t : ScrubTarget) : Statement (.scrubComplete t) := fun _ _ h => nomatch h
theorem scrubReadbackFail (t : ScrubTarget) (mib : Nat) : Statement (.scrubReadbackFail t mib) := fun _ _ h => nomatch h
theorem trainingDone (p : Fin 12) : Statement (.trainingDone p) := fun _ _ h => nomatch h
theorem hello (p : Fin 12) (m : HelloMsg) : Statement (.hello p m) := fun _ _ h => nomatch h
theorem encap (p : Fin 12) (ct : Bytes) : Statement (.encap p ct) := fun _ _ h => nomatch h
theorem confirm (p : Fin 12) (ecdsaOk mldsaOk : Bool) : Statement (.confirm p ecdsaOk mldsaOk) := fun _ _ h => nomatch h
theorem refusedRetry (p : Fin 12) : Statement (.refusedRetry p) := fun _ _ h => nomatch h
theorem dataFrame (p : Fin 12) (f : DataFrame) : Statement (.dataFrame p f) := fun _ _ h => nomatch h
theorem retransmissionExhausted (p : Fin 12) : Statement (.retransmissionExhausted p) := fun _ _ h => nomatch h
theorem straitLinkLoss (p : Fin 12) : Statement (.straitLinkLoss p) := fun _ _ h => nomatch h
theorem epochExchangeStart (p : Fin 12) : Statement (.epochExchangeStart p) := fun _ _ h => nomatch h
theorem epochBound (p : Fin 12) : Statement (.epochBound p) := fun _ _ h => nomatch h
theorem finishMark (p : Fin 12) (m : Mark) : Statement (.finishMark p m) := fun _ _ h => nomatch h
theorem allFinished (p : Fin 12) (m : Mark) : Statement (.allFinished p m) := fun _ _ h => nomatch h
theorem spanFenceUnit (p : Fin 12) (f : BitVec 12) (v : BitVec 64) : Statement (.spanFenceUnit p f v) := fun _ _ h => nomatch h
theorem spanSyncExchange (t1 t2 t3 t4 : Int) (parentHops : Nat) : Statement (.spanSyncExchange t1 t2 t3 t4 parentHops) := fun _ _ h => nomatch h
theorem moduleAddressWrite (ch : Channel) (v : BitVec 16) : Statement (.moduleAddressWrite ch v) := fun _ _ h => nomatch h
theorem timeStepStage (ch : Channel) (cmd : Bytes) : Statement (.timeStepStage ch cmd) := fun _ _ h => nomatch h
theorem timeStepConfirm (ch : Channel) (d : Digest) : Statement (.timeStepConfirm ch d) := fun _ _ h => nomatch h
theorem timeStepApply : Statement .timeStepApply := fun _ _ h => nomatch h
theorem timeStepLapse : Statement .timeStepLapse := fun _ _ h => nomatch h
theorem timePpsSecond : Statement .timePpsSecond := fun _ _ h => nomatch h
theorem timeRefWrite (ch : Channel) (v : Byte) : Statement (.timeRefWrite ch v) := fun _ _ h => nomatch h
theorem timeRefLock : Statement .timeRefLock := fun _ _ h => nomatch h
theorem timeRefRelease : Statement .timeRefRelease := fun _ _ h => nomatch h
theorem sync : Statement .sync := fun _ _ h => nomatch h
theorem announce : Statement .announce := fun _ _ h => nomatch h
theorem delayReq (toMulticast toOwnMac : Bool) (seqId : BitVec 16) : Statement (.delayReq toMulticast toOwnMac seqId) := fun _ _ h => nomatch h
theorem foreignPtpMessage : Statement .foreignPtpMessage := fun _ _ h => nomatch h
theorem readShort (ch : Channel) (h : TuHeader) : Statement (.readShort ch h) := fun _ _ h => nomatch h
theorem writeShort (ch : Channel) (h : TuHeader) (data : Bytes) : Statement (.writeShort ch h data) := fun _ _ h => nomatch h
theorem objectWrite (w : WriteTarget) : Statement (.objectWrite w) := fun _ _ h => nomatch h
theorem readLong (ch : Channel) (h : TuHeader) : Statement (.readLong ch h) := fun _ _ h => nomatch h
theorem writeLong (ch : Channel) (h : TuHeader) (data : Bytes) : Statement (.writeLong ch h data) := fun _ _ h => nomatch h
theorem continueTu (ch : Channel) (h : TuHeader) (data : Bytes) : Statement (.continueTu ch h data) := fun _ _ h => nomatch h
theorem abortTu (ch : Channel) (h : TuHeader) : Statement (.abortTu ch h) := fun _ _ h => nomatch h
theorem odTransferIdle (ch : Channel) : Statement (.odTransferIdle ch) := fun _ _ h => nomatch h
theorem sessionOpen (ch : Channel) : Statement (.sessionOpen ch) := fun _ _ h => nomatch h
theorem sessionClose (ch : Channel) : Statement (.sessionClose ch) := fun _ _ h => nomatch h
theorem identReq (dest : CwDest) : Statement (.identReq dest) := fun _ _ h => nomatch h
theorem cHello (m : ClientHello) : Statement (.cHello m) := fun _ _ h => nomatch h
theorem cFinish (f : CwFrame) (sigOk : Bool) (sigR sigS : BitVec 384) : Statement (.cFinish f sigOk sigR sigS) := fun _ _ h => nomatch h
theorem causewayClose (f : CwFrame) : Statement (.causewayClose f) := fun _ _ h => nomatch h
theorem causewaySessionIdle (i : Fin 8) : Statement (.causewaySessionIdle i) := fun _ _ h => nomatch h
theorem causewayFrameLimit (i : Fin 8) : Statement (.causewayFrameLimit i) := fun _ _ h => nomatch h
theorem fwBegin (f : CwFrame) (len : BitVec 32) : Statement (.fwBegin f len) := fun _ _ h => nomatch h
theorem fwData (f : CwFrame) (offset : BitVec 32) (data : Bytes) (ecdsaOk mldsaOk : Bool) : Statement (.fwData f offset data ecdsaOk mldsaOk) := fun _ _ h => nomatch h
theorem fwEnd (f : CwFrame) : Statement (.fwEnd f) := fun _ _ h => nomatch h
theorem fwTransferStall : Statement .fwTransferStall := fun _ _ h => nomatch h
theorem budget (f : CwFrame) (cap : BitVec 16) (validityMs ident : BitVec 32) : Statement (.budget f cap validityMs ident) := fun _ _ h => nomatch h
theorem budgetLapse : Statement .budgetLapse := fun _ _ h => nomatch h
theorem cosignGrantWrite (ch : Channel) (d : Digest) (expiry : BitVec 64) : Statement (.cosignGrantWrite ch d expiry) := fun _ _ h => nomatch h
theorem vfabSetpointStep (die : Fin 12) (powerW : Nat) : Statement (.vfabSetpointStep die powerW) := fun _ _ h => nomatch h
theorem thermalLoopStep (die : Fin 12) : Statement (.thermalLoopStep die) := fun _ _ h => nomatch h
theorem powerCapStep (moduleW hubW : Nat) (dieW : List Nat) : Statement (.powerCapStep moduleW hubW dieW) := fun _ _ h => nomatch h
theorem watchdogFire (g : Fin 13) (imageEqual : Bool) : Statement (.watchdogFire g imageEqual) := fun _ _ h => nomatch h
theorem governorRestart (g : Fin 13) : Statement (.governorRestart g) := fun _ _ h => nomatch h
theorem dieThermalTrip (die : Fin 12) : Statement (.dieThermalTrip die) := fun _ _ h => nomatch h
theorem hubThermalTrip : Statement .hubThermalTrip := fun _ _ h => nomatch h
theorem vfabCurrentLimit (die : Fin 12) : Statement (.vfabCurrentLimit die) := fun _ _ h => nomatch h
theorem vfabOvercurrentOff (die : Fin 12) : Statement (.vfabOvercurrentOff die) := fun _ _ h => nomatch h
theorem dieOffline (die : Fin 12) : Statement (.dieOffline die) := fun _ _ h => nomatch h
theorem coreFault (core : Fin 1200) : Statement (.coreFault core) := fun _ _ h => nomatch h
theorem coreSwap (die : Fin 12) : Statement (.coreSwap die) := fun _ _ h => nomatch h
theorem hbmUncorrectableRead (stack : Fin 12) (line : Nat) : Statement (.hbmUncorrectableRead stack line) := fun _ _ h => nomatch h
theorem faultRecordExtend (cleared : Bool) : Statement (.faultRecordExtend cleared) := fun _ _ h => nomatch h
theorem lifecycleStage (ch : Channel) (v : Byte) : Statement (.lifecycleStage ch v) := fun _ _ h => nomatch h
theorem lifecycleConfirm (ch : Channel) (v : Byte) (blowOk : Bool) : Statement (.lifecycleConfirm ch v blowOk) := fun _ _ h => nomatch h
theorem bypass : Statement .bypass := fun _ _ h => nomatch h
theorem idcode : Statement .idcode := fun _ _ h => nomatch h
theorem samplePreload (shiftIn : BitVec 12) : Statement (.samplePreload shiftIn) := fun _ _ h => nomatch h
theorem extest : Statement .extest := fun _ _ h => nomatch h
theorem clamp : Statement .clamp := fun _ _ h => nomatch h
theorem highz : Statement .highz := fun _ _ h => nomatch h
theorem tapPrivateInstruction (code : Byte) : Statement (.tapPrivateInstruction code) := fun _ _ h => nomatch h
theorem hbmTrainingComplete (hbmFail : BitVec 12) : Statement (.hbmTrainingComplete hbmFail) := fun _ _ h => nomatch h
theorem pcieLinkUp : Statement .pcieLinkUp := fun _ _ h => nomatch h
theorem snapshotComplete (translated : Bool) : Statement (.snapshotComplete translated) := fun _ _ h => nomatch h
theorem spdmHeartbeatTimeout (i : Fin 4) : Statement (.spdmHeartbeatTimeout i) := fun _ _ h => nomatch h
theorem idevidCertificateReturn (cert : Bytes) : Statement (.idevidCertificateReturn cert) := fun _ _ h => nomatch h
theorem lockedConfigurationChange : Statement .lockedConfigurationChange := fun _ _ h => nomatch h
theorem msixVectorUnmask (a : MsixAccess) : Statement (.msixVectorUnmask a) := fun _ _ h => nomatch h
theorem provisioning (tamperPolicy : BitVec 6) (vendorDebug : Bool) (anchor : Bytes) : Statement (.provisioning tamperPolicy vendorDebug anchor) := fun _ _ h => nomatch h

end Sys2Proof.Laws.NoBits
end

