-- ==== Sys2Proof/Machine/HostReads.lean ====
section
/-! DEFINITION. What the host reads in the BARs: doorbell pages, fences, the control blocks of the evidence rings (R304, R328, R389,
R401). The command table has no row for a read of a BAR, so these are what such a read finds and leaves (log 109). -/

namespace Sys2Proof.Machine

/-- A host read of a BAR: a function that answers, zero and counted outside the TEE stream in CONFIG_LOCKED and RUN (R401). -/
def State.barRead (s : State) (tee : Bool) (f : State → Nat) : State × Nat :=
  if !s.pins.pcieUp || s.host.d3hot then (s, 0)
  else if s.teeBlocked (.bar0 tee) then (s.countTee, 0)
  else (s, f s)

/-- R304: a register of a ring's doorbell page; any access that is not an aligned one of 32 bits, and any other offset, reads zero. -/
def HostPath.doorbell (h : HostPath) (ring offset size : Nat) : Nat :=
  let q := h.ring ring
  if size ≠ 4 then 0
  else if offset = 0x000 then q.sqTail
  else if offset = 0x004 then q.cqHead
  else if offset = 0x008 then q.sqHead
  else if offset = 0x00C then q.cqTail
  else if offset = 0x010 then h.ringState ring
  else 0

/-- A read of `size` octets in BAR2: ring r stands at r x 0x400. -/
def State.readBar2 (s : State) (tee : Bool) (offset size : Nat) : State × Nat :=
  s.barRead tee fun s => s.host.doorbell (offset / 0x400) (offset % 0x400) size

/-- R328: a fence access of any width reads the value's octets at its offset. -/
def HostPath.fenceRead (h : HostPath) (offset size : Nat) : Nat :=
  SMap.get 0 h.fences (offset / 8) / 2 ^ (8 * (offset % 8)) % 2 ^ (8 * size)

/-- STATE of an evidence ring: 0x00 DISABLED, 0x01 ENABLED, 0x02 FULL, 0x03 FAULTED (R389). -/
def EvRingState.code (r : EvRingState) : Nat :=
  if !r.enabled then 0 else if r.faulted then 3 else if r.head + r.depth ≤ r.tail then 2 else 1

/-- R389: a field of a control block, read at its own offset and width; anything else reads zero. -/
def EvRingState.read (r : EvRingState) (offset size : Nat) : Nat :=
  if offset = 0x00 ∧ size = 8 then r.base.toNat
  else if offset = 0x08 ∧ size = 1 then r.log2Depth
  else if offset = 0x09 ∧ size = 1 then (if r.enabled then 1 else 0)
  else if offset = 0x0A ∧ size = 2 then r.vector.toNat
  else if offset = 0x10 ∧ size = 8 then r.head
  else if offset = 0x18 ∧ size = 8 then r.tail
  else if offset = 0x20 ∧ size = 1 then r.code
  else 0

/-- A read of `size` octets in BAR4: fences, the receipt ring at 0x1_0000, the checkpoint ring at 0x1_1000. -/
def State.readBar4 (s : State) (tee : Bool) (offset size : Nat) : State × Nat :=
  s.barRead tee fun s =>
    if offset < 0x8000 then s.host.fenceRead offset size
    else if 0x10000 ≤ offset ∧ offset < 0x10040 then s.measure.receiptRing.read (offset - 0x10000) size
    else if 0x11000 ≤ offset ∧ offset < 0x11040 then s.measure.ckptRing.read (offset - 0x11000) size
    else 0

end Sys2Proof.Machine
end

