-- ==== Sys2Proof/WellFormed.lean ====
section
/-! DEFINITION. Which commands are formed as the manual lays them out: lengths of byte operands, counts of readings and
bounds of fields that their Lean type does not carry. -/

namespace Sys2Proof

/-- A list of byte strings each within a length. -/
def allWithin (n : Nat) (l : List Bytes) : Bool := l.all fun b => b.length ≤ n

/-- An OD value carried in one transfer unit (R508): at most 3,840 B in any channel. -/
def segmentOk (b : Bytes) : Bool := b.length ≤ 3840

/-- Verdicts on a set's head (04, "The firmware set"). -/
def SetImage.wellFormed (m : SetImage) : Bool :=
  m.keyBlock.length ≤ 2112 && m.manifest.length ≤ 448 && m.signature.length ≤ 3456

/-- What a start meets: at most three failures of a kind count (R78, R81). -/
def StartConds.wellFormed (c : StartConds) : Bool := c.pufFailures ≤ 3 && c.entropyFailures ≤ 3

/-- A command whose operands have the sizes the manual gives them. -/
def Instr.wellFormed : Instr → Bool
  | .coldStart c => c.wellFormed
  | .mainLoss c => c.wellFormed
  | .modResetAssert _ _ c => c.wellFormed
  | .warmResetRequest _ _ c => c.wellFormed
  | .hostDelivery _ _ _ img => img.wellFormed
  | .itemVerified data _ _ => data.length ≤ 8388608
  | .updateCheckDone items => items.length = 6 && allWithin 8388608 items
  | .idevidCertCopyWrite _ cert => cert.length ≤ 16384
  | .caStage _ a => a.length = 96
  | .digestStart _ d => decide (1 ≤ d.alg.toNat) && decide (d.alg.toNat ≤ 5)
  | .compare _ aux => aux.length ≤ 65535
  | .extend _ _ aux => aux.length ≤ 65535
  | .importCtx _ blob => blob.length = 328
  | .wmac _ _ a b dst => a.toNat < 0x900 && b.toNat < 0x900 && dst.toNat < 0x900
  | .lmac _ _ a b dst => a.toNat < 0x900 && b.toNat < 0x900 && dst.toNat < 0x900
  | .keyload _ dst => decide (0x800 ≤ dst.toNat) && decide (dst.toNat < 0x900)
  | .paceMonitorWindow _ r => r.length = 16
  | .temperatureSample die r => r.length = if die.val = 12 then 8 else 32
  | .soundUnitArrive u => u.data.length ≤ 256
  | .ringConfigWrite _ c => decide (4 ≤ c.log2Depth.toNat) && decide (c.log2Depth.toNat ≤ 16) && c.stream.toNat < 64
  | .recordFetchDone _ r => r.length ≤ 65536
  | .tenantExtend _ _ d => decide (1 ≤ d.length) && decide (d.length ≤ 256)
  | .evidenceRequest _ n => decide (8 ≤ n.length) && decide (n.length ≤ 64)
  | .keyExchange e => e.length = 96
  | .vendorDefinedRequest _ _ _ d => segmentOk d
  | .consentTokenSubmit _ t => t.raw.length ≤ 8192
  | .boundBundleLoad _ _ _ h => (h.getD []).length ≤ 128 + 4096 * 1280
  | .encap _ ct => ct.length = 1088
  | .hello _ m => m.ecPub.length = 97 && m.kemPub.length = 1184 && m.certMr.length = 9
  | .dataFrame _ f => f.units.all fun u => u.data.length = 256
  | .timeStepStage _ cmd => cmd.length = 24
  | .readShort _ h => h.zero = 0
  | .writeShort _ h d => h.zero = 0 && segmentOk d
  | .writeLong _ h d => h.zero = 0 && segmentOk d
  | .continueTu _ h d => h.zero = 0 && segmentOk d
  | .objectWrite (.od _ _ _ v) => v.length ≤ 65536
  | .objectWrite (.mbHeader _ off b) => off + b.length ≤ 32
  | .objectWrite (.mbData _ off b) => off + b.length ≤ 3840
  | .fwData _ _ d _ _ => d.length ≤ 1280
  | .powerCapStep _ _ d => d.length = 12
  | .provisioning _ _ a => a.length = 96
  | .idevidCertificateReturn c => c.length ≤ 16384
  | .objectWrite _ => true
  | .entropyContinuousFail | .drbgReseed | .mainValid | .stbyLoss | .vhubRamp | .modResetRelease | .tamperFire ..
  | .svnCommit .. | .aliasCommit .. | .remaskPass | .bindingAdvance .. | .bindingOverlapEnd | .caStageLapse | .caOverlapEnd
  | .digestResult .. | .exportCtx .. | .digestAbort .. | .digestJobDone .. | .digestAlarm .. | .inlineLaneGrant ..
  | .bnEnd .. | .bnYield | .bnSealedAccess .. | .bnAlarm | .leaseLapse .. | .leaseRevoke .. | .beatFloorUpdate
  | .voltageSample .. | .ballastThresholdReached .. | .ballastThresholdWrite .. | .nop .. | .loadw .. | .frontStart ..
  | .stream .. | .opacc .. | .drain .. | .arrayOperationStart .. | .arrayFreeze .. | .vld .. | .vld48 .. | .vst ..
  | .vst48 .. | .vadd .. | .vsub .. | .vmul .. | .vmax .. | .vmin .. | .vreq .. | .vlut .. | .vsum .. | .vsmax .. | .send ..
  | .recv .. | .waitslot .. | .fence .. | .endStep .. | .noProgressFault .. | .planDelivery .. | .planCheck ..
  | .planSwitch .. | .planDiscard .. | .planAdmission .. | .spanAdmission .. | .tideDeparture | .tideFinish
  | .spanWaitExpiry .. | .sqTailWrite .. | .cqHeadWrite .. | .ingestModeWrite .. | .score .. | .events .. | .resubmit ..
  | .fenceWaitRelease .. | .pageRequestResponse .. | .priTimeout .. | .atsInvalidation .. | .completionPost ..
  | .msixHoldoffExpiry .. | .fenceObjectWrite .. | .shoalEventApply .. | .shoalSample .. | .shoalSleep ..
  | .shoalImageLoad .. | .shoalImageLoaded .. | .shoalSnapshot .. | .snapshotCapture | .checkpointInterval
  | .checkpointRequest .. | .checkpointSigned .. | .ringControlEnable .. | .ringControlHead .. | .getVersion
  | .getCapabilities | .negotiateAlgorithms .. | .getDigests | .getCertificate .. | .challenge .. | .getMeasurements ..
  | .chunkGet .. | .finish .. | .endSession .. | .heartbeat .. | .keyUpdate .. | .query .. | .keyProg .. | .kSetGo ..
  | .kSetStop .. | .getTdispVersion .. | .getTdispCapabilities .. | .lockInterfaceRequest .. | .getDeviceInterfaceReport ..
  | .getDeviceInterfaceState .. | .startInterfaceRequest .. | .stopInterfaceRequest .. | .ideIntegrityFail ..
  | .clearModelLoad .. | .modelLoadComplete .. | .consentKeyWrite .. | .consentTokenExpiry .. | .consentWithdraw ..
  | .regionAllocate .. | .regionFree .. | .scrubSuspend .. | .scrubResume .. | .scrubComplete .. | .scrubReadbackFail ..
  | .trainingDone .. | .confirm .. | .refusedRetry .. | .retransmissionExhausted .. | .straitLinkLoss ..
  | .epochExchangeStart .. | .epochBound .. | .finishMark .. | .allFinished .. | .spanFenceUnit .. | .spanSyncExchange ..
  | .moduleAddressWrite .. | .timeStepConfirm .. | .timeStepApply | .timeStepLapse | .timePpsSecond | .timeRefWrite ..
  | .timeRefLock | .timeRefRelease | .sync | .announce | .delayReq .. | .foreignPtpMessage | .readLong .. | .abortTu ..
  | .odTransferIdle .. | .sessionOpen .. | .sessionClose .. | .identReq .. | .cHello .. | .cFinish .. | .causewayClose ..
  | .causewaySessionIdle .. | .causewayFrameLimit .. | .fwBegin .. | .fwEnd .. | .fwTransferStall | .budget ..
  | .budgetLapse | .cosignGrantWrite .. | .vfabSetpointStep .. | .thermalLoopStep .. | .watchdogFire ..
  | .governorRestart .. | .dieThermalTrip .. | .hubThermalTrip | .vfabCurrentLimit .. | .vfabOvercurrentOff ..
  | .dieOffline .. | .coreFault .. | .coreSwap .. | .hbmUncorrectableRead .. | .faultRecordExtend .. | .lifecycleStage ..
  | .lifecycleConfirm .. | .bypass | .idcode | .samplePreload .. | .extest | .clamp | .highz | .tapPrivateInstruction ..
  | .hbmTrainingComplete .. | .pcieLinkUp | .snapshotComplete .. | .spdmHeartbeatTimeout .. | .lockedConfigurationChange
  | .msixVectorUnmask .. => true

end Sys2Proof
end

