-- ==== Sys2Proof/Tests/Slice0.lean ====
section
/-! SUPPORT. Tests: the worked cases of the specification, the smoke test of WellFormed, and for every obligation a theorem that
its hypotheses are met by concrete states and operands (`test_hyps_` and the obligation's name). -/

namespace Sys2Proof.Tests

open Sys2Proof Sys2Proof.Machine

set_option Elab.async false

/-! ### Small states -/

/-- Blank fuses: nothing closed, nothing written. -/
def blank : Otp := { closed := 0, helper := [], wrappedDrs := [], tamperT2 := 0, lifecycle := {} }
/-- A die that is on. -/
def litDie : Die :=
  { online := true, vfabOn := true, vioOn := true, vhbmOn := true, setpoint := 700, slack := 700, rate := 3000, floor := 3000
    temperature := 60000 }
/-- READY with the link up, twelve dies on, no session, and a Causeway session of every role (0 Operator to 3 Vendor-Service). -/
def ready : State :=
  { otp := blank
    ret := { timeSet := true }
    clock := { count := 5000000000, device := 7000000000 }
    pins := { stby := true, mainValid := true, presentLow := true, vhub := true, pcieUp := true, rotStatus := 1 }
    start := { power := .ready, phase := .readyOrLater, runtime := true, causewayRuntime := true, step12 := true, drbgUp := true }
    fabric := { dies := List.replicate 12 litDie }
    causeway := { sessions := [{ phase := 2, role := .operator, lastFrame := 4000000000 }, { phase := 2, role := .auditor },
      { phase := 2, role := .custodian }, { phase := 2, role := .vendorService }, {}, {}, {}, {}] } }
/-- The host plane's mailbox and three Causeway sessions. -/
def mb : Channel := .bar0 false
/-- The Operator's session. -/
def opr : Channel := .causeway 0
/-- The Auditor's session. -/
def aud : Channel := .causeway 1
/-- The Custodian's session. -/
def cust : Channel := .causeway 2
/-- The Vendor-Service session. -/
def vend : Channel := .causeway 3
/-- A session open on the host plane. -/
def opened : State := { ready with od := { session := 1, owner := 1 }, start := { ready.start with power := .run } }
/-- No trouble in the silicon. -/
def calm : StartConds := ⟨false, 0, 0, 0, false, 0, 0⟩

/-! ### The start, the supplies, tamper, firmware sets -/

/-- Fuses that pass the integrity check. -/
def fused : Otp := Otp.sealed { blank with lifecycle := ⟨1, 1⟩, closed := 0b111111 }

theorem fused_serviceable : fused.serviceable := by
  have h : ∀ k, k < 6 → fused.regionOk k = true := by
    intro k hk
    have hc : fused.closed.getLsbD k = true := by interval_cases k <;> rfl
    have hd : fused.regionDigest.getD k 0 = sha384 (otpRegionBytes fused k) := by interval_cases k <;> rfl
    simp only [Otp.regionOk, hc, hd, if_true, beq_self_eq_true]
  have h0 : (List.range 6).all fused.regionOk = true := List.all_eq_true.mpr fun k hk => h k (List.mem_range.mp hk)
  refine ⟨?_, by decide +kernel, by decide +kernel⟩
  simp only [Otp.integrityOk, h0]
  decide +kernel

theorem test_hyps_ColdStartReachesStandby :
    ({ otp := fused } : State).start.power = .off ∧ cleanStart calm ∧ fused.serviceable :=
  ⟨rfl, by decide, fused_serviceable⟩

/-- An open session over serviceable fuses. -/
def fusedOpen : State := { opened with otp := fused }

theorem test_hyps_WarmResetsRestart :
    fusedOpen.otp.serviceable ∧ fusedOpen.resettable = true ∧ cleanStart calm ∧ fusedOpen.start.halt ≠ .tamper ∧
    calm.tamperRecent = 0 ∧
    (10000 ≤ 10000 ∨ 1000 ≤ 10000 ∧ false = true) ∧ (10000 ≤ 1000 ∨ 1000 ≤ 1000 ∧ true = true) ∧
    (999 < 1000 ∨ (999 < 10000 ∧ true = false)) ∧ (9999 < 1000 ∨ (9999 < 10000 ∧ false = false)) ∧
    fusedOpen.accepts cust 0x2006 1 .hOpCu ∧ (0xA4 : Byte) ≠ 0xA5 :=
  ⟨fused_serviceable, by decide +kernel⟩

/-- A device in FUSE-HALT. -/
def fuseHalted : State := { ready with start := { ready.start with halt := .fuse } }

theorem test_hyps_TamperClearsAndHalts :
    fuseHalted.start.halt = .fuse ∧
    ready.start.drbgUp = true ∧ ready.start.halt ≠ .fuse ∧ ready.pins.stby = true ∧ ready.start.power ≠ .off ∧
    fusedOpen.start.drbgUp = true ∧ fusedOpen.start.halt ≠ .fuse ∧ fusedOpen.pins.stby = true ∧ fusedOpen.start.power ≠ .off ∧
    fused.closed.getLsbD 4 = true := by decide +kernel

/-- STANDBY. -/
def standing : State := { ready with start := { power := .standby, phase := .standby } }
/-- HBM training. -/
def training : State := { ready with start := { ready.start with power := .start, phase := .training } }

theorem test_hyps_TheStartAdvances :
    ready.start.drbgUp = true ∧ ready.reseedDue = true ∧
    (standing.start.drbgRequests < 2 ^ 20 ∧
      ({ standing with clock := {} } : State).clock.count < standing.start.drbgSeededAt + 1000000000) ∧
    (standing.start.power = .standby ∧ standing.start.phase = .standby ∧ standing.start.halt = .none ∧
      standing.pins.mainValid = true ∧ standing.pins.modResetN = true) ∧
    ({ pins := { modResetN := false } } : State).pins.modResetN = false ∧ ready.pins.vhub = true ∧
    (training.start.phase = .training ∧ 11 < training.fabric.dies.length ∧ (0x800 : BitVec 12).getLsbD 11 = true ∧
      (0x7FF : BitVec 12).getLsbD 11 = false ∧ (0x801 : BitVec 12).getLsbD 0 = true) := by decide +kernel

/-- An item of a manifest (table of chapter 4), its octets and its place. -/
def setItem (t : Nat) (data : Bytes) (offset : Nat) : Bytes :=
  leBytes 1 t ++ leBytes 1 3 ++ leBytes 2 0 ++ leBytes 4 64 ++ leBytes 8 offset ++ digestBytes (sha384 data)
/-- The octets of item `t`. -/
def itemData (t : Nat) : Bytes := List.replicate 64 (BitVec.ofNat 8 t)
/-- A manifest of the six items. -/
def manifest : Bytes :=
  (leBytes 4 0x5541524D ++ leBytes 2 1 ++ leBytes 2 6 ++ leBytes 4 448 ++ leBytes 1 3 ++ leBytes 1 0xB1 ++ leBytes 1 1 ++
    leBytes 1 0 ++ leBytes 8 77 ++ List.replicate 40 0) ++
  ([1, 2, 3, 4, 5, 6].mapIdx fun i t => setItem t (itemData t) (6016 + 64 * i)).flatten
/-- A set with both signatures good. -/
def setImage : SetImage := ⟨[1, 2], manifest, [], true, true, false⟩
/-- Fuses that hold the digest of the set's key block. -/
def anchored : Otp := { fused with anchorPrimary := sha384 [1, 2] }
/-- START, waiting for a set. -/
def awaiting : State := { ready with otp := anchored, start := { runtime := false, power := .start, phase := .awaitSet } }
/-- A set of which `n` items have been verified. -/
def setLoad (n : Nat) : SetLoad := ⟨true, manifestOf manifest, n, 0⟩
/-- The same, with MOD_RESET_N low. -/
def awaitingLow : State := { awaiting with pins := { awaiting.pins with modResetN := false } }
/-- The same, a Causeway delivery begun and its manifest not yet there. -/
def awaitingFw : State :=
  { awaiting with causeway := { awaiting.causeway with fw := some ⟨0, 6400, [], 0, 7000000000, false⟩ } }

theorem test_hyps_HostDeliveryLoads :
    (∀ s ∈ [awaiting, awaitingFw], s.accepts mb 0x2010 1 .host ∧ s.start.phase = .awaitSet ∧ s.up = false ∧
      s.dmaBarred = false ∧ s.loading = false ∧ s.pins.modResetN = true ∧ setCheck s.otp setImage 7000 = 0 ∧
      setCheck s.otp setImage 100 ≠ 0) ∧
    awaiting.fwRunning = false ∧ awaitingFw.fwRunning = true ∧
    (awaitingLow.accepts mb 0x2010 1 .host ∧ awaitingLow.start.phase = .awaitSet ∧ awaitingLow.up = false ∧
      awaitingLow.pins.modResetN = false) ∧
    (manifestOf setImage.manifest).items.length = 6 := by decide +kernel

/-- Six items, the last of the wrong content. -/
def wrongItems : List Bytes := [1, 2, 3, 4, 5, 5].map itemData
/-- START with `n` items verified. -/
def loadingSet (n : Nat) : State :=
  { awaiting with start := { awaiting.start with phase := .loading, load := some (setLoad n), runtime := n != 0 } }
/-- An update of a running device, its items streamed. -/
def updating : State :=
  { ready with start := { ready.start with update := some (setLoad 0) }, host := { ready.host with busMaster := true } }

theorem test_hyps_ItemsAreVerified :
    (∀ n ∈ [0, 4], (loadingSet n).start.load = some (setLoad n) ∧ (setLoad n).done < 5 ∧
      ∃ i ∈ (manifestOf manifest).items, (setLoad n).manifest.items[(setLoad n).done]? = some i ∧
        (loadingSet n).itemArrived (setLoad n) i (itemData (n + 1)) = true ∧ sha384 (itemData (n + 1)) = i.digest) ∧
    ((loadingSet 0).start.runtime = false ∧ ∃ i ∈ (manifestOf manifest).items,
      (setLoad 0).manifest.items[(setLoad 0).done]? = some i ∧
      (loadingSet 0).itemArrived (setLoad 0) i (itemData 9) = true ∧ sha384 (itemData 9) ≠ i.digest) ∧
    updating.start.update = some (setLoad 0) ∧ updating.up = true ∧
    (updating.dmaOk = true ∧ updating.planBefore (setLoad 0).order = false ∧ updating.ret.pendingAlias = none ∧
      15 < updating.measure.mrs.length) ∧
    ((setLoad 0).fromHost = true ∧ ({ updating with pins := {} } : State).dmaOk = false) ∧
    (∀ items ∈ [[1, 2, 3, 4, 5, 6].map itemData, wrongItems],
      (((setLoad 0).manifest.items.zip items).all fun p => updating.itemArrived (setLoad 0) p.1 p.2) = true) ∧
    ([1, 2, 3, 4, 5, 6].map itemData).map sha384 = (setLoad 0).manifest.items.map (·.digest) ∧
    wrongItems.map sha384 ≠ (setLoad 0).manifest.items.map (·.digest) := by decide +kernel

/-- A running device whose set carries SVN 3. -/
def running : State := { ready with start := { ready.start with running := some (manifestOf manifest) } }

theorem test_hyps_FusesAreBlown :
    (running.accepts cust 0x2004 5 .cust ∧ running.up = true ∧
      ∀ n ∈ [0, 3], n ≤ 3 ∧ running.otp.svnValue n < running.svnTarget n ∧ n < running.otp.svn.length ∧
        (running.otp.svn.getD n {}).sound = true) ∧
    (ready.accepts cust 0x2004 5 .cust ∧ ready.svnTarget 3 ≤ ready.otp.svnValue 3) ∧
    (ready.up = true ∧ ready.otp.lifecycleCode = 0 ∧ ready.otp.closed.getLsbD 4 = false ∧ ready.otp.caSlots.head? = some none) ∧
    ({ start := { factory := true } } : State).start.factory = true := by decide +kernel

/-! ### Keys, the digest and big-number engines, leases, monitors -/

/-- An open session with keys of the store and of the wrap lane, and a pending Alias. -/
def keyed : State :=
  { opened with
    keys := { opened.keys with
      store := [(0, some ⟨.root, maskKey [1, 2, 3] 77⟩), (7, some ⟨.bindEc, maskKey (List.replicate 56 5) 9⟩)]
      wkr := some (3, 9), bindPub := [1, 2], aliasPub := [1], wrapSlot := some (maskKey (List.replicate 32 1) 5) }
    ret := { opened.ret with pendingAlias := some [1, 2] } }
/-- An IDevID certificate of the greatest length that a device holds the digest of. -/
def longCert : Bytes := List.replicate 16384 3
/-- The same session with that certificate's digest fused, and its CA slots full. -/
def certified : State :=
  { opened with otp := { blank with
      idevidCertDigest := sha384 longCert, caSlots := List.replicate 8 (some (CaSlot.ofAnchor 0)) } }

theorem test_hyps_KeysAnswerWrites :
    keyed.start.drbgUp = true ∧ keyed.remaskDue = true ∧
    ({ keyed with clock := {} } : State).clock.count < keyed.keys.remaskedAt + keyed.ret.remaskPeriod * 100000 ∧
    (keyed.accepts mb 0x2023 5 .hOpCu ∧ keyed.up = true ∧ keyed.ret.pendingAlias.isSome = true ∧ keyed.aliasExists = true ∧
      keyed.measure.signing = none ∧ keyed.measure.checkpoints.length < 16) ∧
    (opened.accepts cust 0x2023 5 .hOpCu ∧ opened.ret.pendingAlias = none) ∧
    (certified.accepts opr 0x2022 2 .hOpCu ∧ longCert.length ≤ 16384) ∧ sha384 [8] ≠ blank.idevidCertDigest ∧
    (opened.accepts cust 0x7830 1 .cust ∧ (List.replicate 96 (3 : Byte)).length = 96 ∧ opened.otp.freeSlot.isSome = true ∧
      opened.underCurrentCa cust = true) ∧
    (certified.accepts cust 0x7830 1 .cust ∧ certified.otp.freeSlot = none) := by decide +kernel
theorem test_hyps_KeysAnswerWrites_digest : sha384 longCert = certified.otp.idevidCertDigest := rfl

/-- The binding epoch of a session, advanced `n` steps. -/
def bound (n : Nat) : State := { keyed with otp := { blank with epoch := ⟨BitVec.ofNat 64 (2 ^ n - 1), BitVec.ofNat 64 (2 ^ n - 1)⟩ } }
/-- Every overlap at its end. -/
def lapsing : State :=
  { keyed with
    clock := { count := 24 * 3600 * 1000000000 + 5 }
    ret := { bindingAdvancedAt := some 0, bindingOverlap := 0, stagedCa := some (7, 5), caClosedAt := some 0, caOverlap := 0 }
    otp := { blank with caSlots := [some (CaSlot.ofAnchor 0), some (CaSlot.ofAnchor 1)] ++ List.replicate 6 none }
    causeway := { opened.causeway with sessions := modifyAt opened.causeway.sessions 2 fun x => { x with anchorSlot := 1 } } }

theorem test_hyps_BindingAdvancesAndOverlapsEnd :
    (∀ n ∈ [0, 63], (bound n).accepts cust 0x2024 5 .cust ∧ (bound n).otp.epoch.sound = true ∧ (bound n).up = true ∧
      (bound n).otp.epochValue < 64 ∧ (bound n).ret.bindingOverlap ≠ 0) ∧
    ((bound 64).accepts cust 0x2024 5 .cust ∧ (bound 64).otp.epoch.sound = true ∧ 64 ≤ (bound 64).otp.epochValue) ∧
    (lapsing.ret.bindingAdvancedAt.isSome = true ∧ lapsing.bindingOverlapRuns = false ∧
      SMap.wf none lapsing.keys.store = true) ∧
    (lapsing.ret.stagedCa = some (7, 5) ∧ 5 + 24 * 3600 * 1000000000 ≤ lapsing.clock.count) ∧
    (lapsing.ret.caClosedAt.isSome = true ∧ lapsing.caOverlapRuns = false ∧ lapsing.causeway.fw = none ∧
      lapsing.otp.activeSlot ≤ (lapsing.causeway.session 2).anchorSlot ∧ (lapsing.causeway.session 0).phase ≠ 0 ∧
      (lapsing.causeway.session 0).anchorSlot < lapsing.otp.activeSlot) := by decide +kernel

/-- A job of an algorithm over `n` octets. -/
def jobOf (alg : BitVec 4) (withKey : Bool) (n : BitVec 40) : JobDesc := ⟨alg, 7, withKey, false, false, 0, n, 0⟩

theorem test_hyps_DigestJobRuns :
    (∀ j ∈ [0, 7], keyed.engines.jobs.length = 8 ∧ (keyed.engines.job j).state ≠ .absorbing ∧
      opened.engines.jobs.length = 8 ∧ (opened.engines.job j).state ≠ .absorbing) ∧
    (HashAlg.ofCode (jobOf 1 false 0).alg.toNat).isSome = true ∧ ([] : Bytes).length = (jobOf 1 false 0).length.toNat ∧
    ([1] : Bytes).length ≠ (jobOf 1 false 0).length.toNat ∧ (jobOf 1 false 0).toWkr = false ∧
    ((HashAlg.ofCode (jobOf 1 true 1).alg.toNat).map HashAlg.isSha3 = some false ∧
      (keyed.jobKey (jobOf 1 true 1)).isSome = true ∧ ([9] : Bytes).length = (jobOf 1 true 1).length.toNat) ∧
    ([4, 5].any fun c => (HashAlg.ofCode c).map HashAlg.isSha3 == some true) = true ∧
    opened.jobKey (jobOf 1 true 1) = none := by decide +kernel
/-- Channel 0 absorbs a plain job, channel 1 a keyed one, and channel 2 is done. -/
def absorbing : State :=
  { keyed with engines := { keyed.engines with jobs :=
      { state := .absorbing, desc := some (jobOf 2 false 1), ctx := some (HashCtx.init .sha384) } ::
      { state := .absorbing, desc := some (jobOf 1 true 1), ctx := some (HashCtx.initKeyed .sha256 [7]) } ::
      { state := .done, desc := some (jobOf 1 false 1), result := [9] } :: List.replicate 5 {} } }
theorem test_hyps_DigestJobRuns_absorbing :
    absorbing.engines.jobs.length = 8 ∧ (absorbing.engines.job 7).state ≠ .absorbing ∧
    ((absorbing.engines.job 2).state = .done ∧ (absorbing.engines.job 2).desc = some (jobOf 1 false 1)) ∧
    (∀ j ∈ [0, 1], (absorbing.engines.job j).state = .absorbing ∧ (absorbing.engines.job j).ctx.isSome = true ∧
      (absorbing.engines.job j).held = [] ∧ ((absorbing.engines.job j).desc.map fun d => (d.length, d.toWkr)) = some (1, false)) ∧
    HashAlg.isSha3 .sha256 = false := by decide +kernel
theorem test_hyps_DigestJobRuns_contexts :
    (absorbing.engines.job 0).ctx = some (HashCtx.init .sha384) ∧
    (absorbing.engines.job 1).ctx = some (HashCtx.initKeyed .sha256 [7]) := ⟨rfl, rfl⟩

/-- Channel 2 has finished, channel 3 absorbs, and record 42 waits on lane 1. -/
def finished : State :=
  { keyed with engines := { keyed.engines with
      jobs := modifyAt (modifyAt keyed.engines.jobs 3 fun c => { c with state := .absorbing }) 2 fun _ =>
        { state := .done, result := [1, 2], ctx := some (HashCtx.init .sha384) }
      laneQueue := [[], [(5, 42), (1, 3)], [], []] } }

theorem test_hyps_JobOperationsAct :
    finished.engines.jobs.length = 8 ∧ (finished.engines.job 2).state = .done ∧
    ([1, 2] : Bytes).length = (finished.engines.job 2).result.length ∧
    (∀ n ∈ [1, 256], finished.measure.mrs.length = 32 ∧ 1 ≤ (List.replicate n (1 : Byte)).length ∧
      (List.replicate n (1 : Byte)).length ≤ 256 ∧ recordFits 31 (List.replicate n 1) = true ∧
      recordFits 10 (List.replicate n 1) = false) ∧
    256 < (List.replicate 257 (1 : Byte)).length ∧
    ((finished.engines.job 2).ctx.isSome = true ∧ finished.keys.wrapSlot.isSome = true) ∧
    (finished.engines.job 3).state = .absorbing ∧ (finished.engines.job 2).state ≠ .idle ∧
    (finished.engines.job 0).state = .idle ∧ finished.start.load = none ∧
    (finished.engines.laneBusy.length = 4 ∧ finished.engines.laneBusy.getD (5 % 4) none = none ∧
      finished.engines.laneQueue.getD (5 % 4) [] = (5, 42) :: [(1, 3)]) := by decide +kernel

/-- A context that runs alone. -/
def multiplying (c : BnCtx) : State :=
  { keyed with
    engines := { keyed.engines with
      bnRunning := some c
      long := { job := true, acc := 5, words := [(1, BitVec.allOnes 128), (2, 77)], keyPort := some (maskKey [1, 2] 1234567) }
      short := { job := true, acc := 7, words := [(1, BitVec.allOnes 128), (2, 5)], keyPort := some (maskKey [7] 77) } }
    od := { (opened.od.setChannel opr fun c => { c with opened := some ⟨true, 2, 0x2022, 7, 4096, [], 0, 0, false⟩ }) with lock := some (opr, 3) }
    ret := { stackScrub := 0xFFF } }
/-- LONG has done its quantum and SHORT waits. -/
def yielding : State :=
  { keyed with engines := { keyed.engines with
      bnRunning := some .long, longDone := 256, long := { job := true, acc := 3 }, short := { queue := [.fin] } } }

theorem test_hyps_BigNumbersAreExact :
    (∀ c ∈ [BnCtx.long, .short], (multiplying c).engines.bnRunning = some c ∧ ((multiplying c).engines.ctx c).queue = [] ∧
      ((multiplying c).engines.ctx c).job = true ∧ SMap.wf 0 ((multiplying c).engines.ctx c).words = true ∧
      (0x8FF : BitVec 12).toNat < 0x900 ∧ ((multiplying c).engines.ctx c).keyPort.isSome = true ∧
      0x800 ≤ (0x800 : BitVec 12).toNat ∧ (0x8FC : BitVec 12).toNat + 3 ≤ 0x8FF ∧
      (multiplying c).engines.long.queue = [] ∧ (multiplying c).engines.short.queue = [] ∧
      (multiplying c).engines.longYielded = false ∧ (multiplying c).engines.yieldDue = false) ∧
    (yielding.engines.bnRunning = some .long ∧ yielding.engines.longQuantum ≤ yielding.engines.longDone ∧
      yielding.engines.short.queue ≠ [] ∧ yielding.engines.long.queue = [] ∧ yielding.engines.long.job = true) := by
  decide +kernel

theorem test_hyps_LeasesEnd :
    (∀ i : Fin 13, (multiplying .long).leaseHeld (.regulator i) = true ∧ (multiplying .long).leaseOver (.regulator i) = true) ∧
    (∀ i : Fin 12, (multiplying .long).leaseHeld (.scrub i) = true) ∧
    (∀ c ∈ [BnCtx.long, .short], (multiplying c).leaseHeld (.bignum c) = true ∧
      (multiplying c).leaseSuspended (.bignum c) = false ∧ (multiplying c).leaseOver (.bignum c) = true) ∧
    (multiplying .long).od.lock = some (opr, 3) ∧ (multiplying .long).leaseOver .odLock = true ∧
    ({ ready with clock := {} } : State).leaseOver (.regulator 0) = false ∧ opened.leaseHeld (.bignum .long) = false ∧
    (opened.accepts cust 0x3060 3 .cust ∧ opened.leaseHeld (.regulator 12) = true) := by decide +kernel

/-- Sixteen oscillator readings, the lowest valid one 900. -/
def rates : List Nat := [1000, 1001, 1020, 900, 1200, 250, 1000, 999, 998, 1000, 1000, 1000, 1000, 1000, 1000, 1000]
/-- Five readings, one of them out of the band. -/
def readings : List Int := [50000, 51000, 52000, 52500, 200000]

/-- Monitors valid for 10 ms, for 5 ms, and a die that is off. -/
def monitored : State :=
  { ready with fabric := { ready.fabric with dies :=
      { litDie with validSince := some 4990000000, rates := [(4995000000, 900), (4991000000, 950)] } ::
      { litDie with validSince := some 4995000000 } :: {} :: List.replicate 9 litDie } }

theorem test_hyps_MonitorsAndBallast :
    (∀ n ∈ [0, 1, 2, 3], n < monitored.fabric.dies.length) ∧
    ((monitored.fabric.die 0).validSince = some 4990000000 ∧ 4990000000 + 10000000 ≤ monitored.clock.count ∧
      ((monitored.fabric.die 0).rates.filter fun w => decide (monitored.clock.count < w.1 + 10000000)) ≠ []) ∧
    ((monitored.fabric.die 1).validSince = some 4995000000 ∧ monitored.clock.count < 4995000000 + 10000000) ∧
    (monitored.fabric.die 2).online = false ∧ (monitored.fabric.die 3).validSince = none ∧
    (∀ d ∈ ({} : State).fabric.dies, d.online = false ∨ d.vfabOn = false) ∧
    2 = (([50000, 51000] : List Int).filter (sensorValid [50000, 51000])).length ∧
    (∀ n ∈ [0, 11], ready.fabric.dies.length = 12 ∧ (ready.fabric.die n).online = true ∧ (ready.fabric.die n).vfabOn = true) ∧
    (900 ∈ rates ∧ paceValid rates 900 = true) ∧ (∀ x ∈ ([] : List Nat), paceValid [] x = false) ∧
    4 = (readings.filter (sensorValid readings)).length ∧ (([] : List Int).filter (sensorValid [])).length < 4 ∧
    (ready.monitors.ballastActive ≠ 0 ∧ (ready.fabric.core 1199).arrays.length = 4 ∧
      ((ready.fabric.core 1199).arrays.getD 3 {}).quiesced = false) ∧ ready.accepts mb 0x4080 1 .hOpCu := by decide +kernel

/-! ### Arithmetic and cores -/

/-- A word with the given fields: place, width, value. -/
def fieldsOf (l : List (Nat × Nat × Nat)) : Nat := l.foldl (fun t e => t + e.2.2 * 2 ^ e.1) 0
/-- The stream of the small plan: entry 3, over the two last cores. -/
def smallStream : StreamEntry := ⟨3, false, 1, 64, 8, 0, 0, 1, 2, BitVec.ofNat 1200 (2 ^ 1198 + 2 ^ 1199)⟩
/-- A plan of one stream. -/
def smallPlan : PlanInfo := ⟨99, 1, 3, 100, [smallStream], ⟨100, 0, 1000, 1, [100], 0⟩, [], [], none, []⟩
/-- A tide that runs. -/
def smallTide : Tide := ⟨0, 0, 0, true, 0, [], 0, false⟩
/-- A core that issues, its first word before it. -/
def issuing (w : Nat) : Core :=
  { issuing := true, execBase := 0, execLines := 8, lagoon := [(0, { valid := true, data := BitVec.ofNat 512 w })] }
/-- A tide with core 1199 in the given state. -/
def onCore (c : Core) : State :=
  { opened with fabric := { opened.fabric with tide := some smallTide, plan := some smallPlan, cores := [(1199, c)] } }
/-- The same, at a step word. -/
def atWord (w : Nat) : State := onCore (issuing w)
/-- The word of a VEC step (table of chapter 9) with destination 15, sources 15 and 0, line 100 and descriptor 60. -/
def vecWord (op w sign n : Nat) : Nat :=
  fieldsOf [(0, 8, 5), (8, 8, op), (16, 4, 15), (20, 4, 15), (24, 4, 0), (28, 15, 100), (43, 15, 60), (58, 5, w - 1), (63, 1, sign),
    (64, 12, n - 1)]
/-- Its fields. -/
def vecFields (op w : Nat) (sign : Bool) (n : Nat) : VecF := ⟨op, 15, 15, 0, 100, 60, w, sign, n⟩

theorem test_hyps_ArithmeticIsExact :
    1 ≤ 1 ∧ (254 < 255 ∧ (5 : Int) + (254 : Nat) * 2 ^ 0 ≤ 259 ∧ (259 : Int) < 5 + ((254 : Nat) + 1) * 2 ^ 0) ∧
    (4 : Int) < 5 ∧ (5 : Int) + 255 * 2 ^ 0 ≤ 260 ∧
    (2 * (rhe 3 1 * 2 ^ 1 - 3) = 2 ^ 1 ∨ 2 * (rhe 3 1 * 2 ^ 1 - 3) = -(2 ^ 1)) ∧
    (∀ p ∈ [1, 16], 1 ≤ p ∧ p ≤ 16 ∧ ([-5] : List Int).length = [2 ^ p - 1].length ∧ ∀ u ∈ [2 ^ p - 1], u < 2 ^ p) := by decide

theorem test_hyps_StepsIssueInOrder :
    (atWord 0).issuesStep 1199 .nop ∧ (atWord (8 + 9 * 256)).issuesStep 1199 (.waitslot 9) ∧
    (atWord (9 + 15 * 256)).issuesStep 1199 (.fence 15) ∧ (atWord 15).issuesStep 1199 .fin ∧
    (atWord (1 + 1 * 2 ^ 8 + 3 * 2 ^ 10 + 64 * 2 ^ 14)).issuesAlone 1199 (.loadw 1 8 0 64) ∧
    (atWord (fieldsOf [(0, 8, 2), (8, 4, 1), (12, 4, 7), (21, 15, 64), (69, 15, 100)])).issuesAlone 1199
      (.stream ⟨1, 8, false, 0, false, false, 64, 1, 1, 1, 0, 100, 0, 0⟩) ∧
    (atWord (fieldsOf [(0, 8, 3), (8, 2, 1), (12, 15, 64), (27, 15, 66)])).issuesAlone 1199 (.opacc 1 false false 64 66 1) ∧
    (atWord (fieldsOf [(0, 8, 4), (8, 2, 1), (12, 15, 64)])).issuesAlone 1199 (.drain 1 0 64 0) ∧
    ((atWord 0x77).issues 1199 = true ∧ (atWord 0x77).stepAt 1199 = none) ∧ opened.issues 1199 = false := by decide +kernel

/-- A core whose Lagoon holds a requantization descriptor at line 40 and one of softmax at line 60, with tables at line 40. -/
def described (w : Nat) : Core :=
  { issuing w with lagoon := (issuing w).lagoon ++
      [(40, { valid := true, data := BitVec.ofNat 512 (fieldsOf [(0, 32, 77), (32, 8, 19), (40, 8, 11), (48, 1, 1)]) })] ++
      ((List.range 16).map fun k => (41 + k, ({ valid := true, data := BitVec.ofNat 512 k } : Line))) ++
      [(60, { valid := true, data := BitVec.ofNat 512 (40 + 40 * 65536) })] }
/-- A VEC step whose operand line is 40. -/
def vec40 (op : Nat) : Nat :=
  fieldsOf [(0, 8, 5), (8, 8, op), (16, 4, 15), (20, 4, 15), (28, 15, 40), (58, 5, 7), (63, 1, 1)]
/-- Its fields. -/
def fields40 (op : Nat) : VecF := ⟨op, 15, 15, 0, 40, 0, 8, true, 1⟩

theorem test_hyps_VectorLanes :
    (∀ op ∈ [0x10, 0x11, 0x12, 0x13, 0x14, 0x1A, 0x18, 0x19],
      (onCore (described (vec40 op))).issuesAlone 1199 (.vec (fields40 op)) ∧
      (fields40 op).vd < ((onCore (described (vec40 op))).fabric.core 1199).vregs.length ∧
      (((onCore (described (vec40 op))).fabric.core 1199).vreg (fields40 op).va).lanes.length = 128) ∧
    ((described (vec40 0x18)).requant (fields40 0x18).line 128).isSome = true ∧
    ((described (vec40 0x19)).lut (fields40 0x19).line).isSome = true := by decide +kernel

/-- A range is clear of the windows when each of its lines is. -/
theorem clearOf_range {c : Core} {line n : Nat} (h : ∀ i ∈ List.range n, c.inWindow (line + i) = false) : c.clearOf line n := by
  intro k hl hn
  have := h (k - line) (List.mem_range.mpr (by omega))
  rwa [Nat.add_sub_cancel' hl] at this

/-- A core at a VEC step, with the descriptors of `described`. -/
def atVec (op w n : Nat) : Core := described (vecWord op w 0 n)

theorem test_hyps_VectorMemory :
    (∀ op ∈ [0x01, 0x02, 0x03, 0x04, 0x20], ∀ w ∈ [1, 32], ∀ n ∈ [1, 4096],
      (onCore (atVec op w n)).issuesAlone 1199 (.vec (vecFields op w false n)) ∧
      (vecFields op w false n).vd < (atVec op w n).vregs.length ∧ ((atVec op w n).vreg 15).lanes.length = 128 ∧
      ((atVec op w n).lut ((atVec op w n).softmaxTables 60).1).isSome = true ∧
      ((atVec op w n).lut ((atVec op w n).softmaxTables 60).2).isSome = true) ∧
    (∀ v ∈ ((atVec 4 1 1).vreg 15).lanes, (satS 48 v).2 = false) := by decide +kernel
theorem test_hyps_VectorMemory_clear (op w : Nat) :
    (onCore (atVec op w 4096)).fabric.core 1199 = atVec op w 4096 ∧ (atVec op w 4096).clearOf 100 (packedLines 4096 32) :=
  ⟨by rfl, clearOf_range (by
    have h : ∀ i ∈ List.range (packedLines 4096 32), ({ execBase := 0, execLines := 8 } : Core).inWindow (100 + i) = false := by
      decide +kernel
    exact h)⟩

/-- Core 1199 with one operation outstanding and array 2 loaded. -/
def holding (o : CoreStep) (fed : List UnitLine := []) : Core :=
  { described 0 with
    ops := [⟨o, 3, 0, fed⟩]
    arrays := modifyAt (described 0).arrays 3 fun a => { a with shape := .stationary, acc := [(3, 77)], weights := [(0, 1)] } }

theorem test_hyps_ArraysRun :
    (onCore (holding .nop)).fabric.tide.isSome = true ∧ SMap.wf {} (onCore (holding .nop)).fabric.cores = true ∧
    (∀ width ∈ [1, 8], ∀ shape ∈ [0, 1, 2],
      ((onCore (holding (.loadw 3 width shape 41))).fabric.core 1199).ops = [⟨.loadw 3 width shape 41, 3, 0, []⟩] ∧
      3 < (holding (.loadw 3 width shape 41)).arrays.length ∧ 1 ≤ width ∧ width ≤ 8 ∧ shape ≤ 2) ∧
    (((onCore (holding (.opacc 3 true false 41 43 1))).fabric.core 1199).ops = [⟨.opacc 3 true false 41 43 1, 3, 0, []⟩] ∧
      ((holding (.opacc 3 true false 41 43 1)).array 3).shape ≠ .narrows) ∧
    (((onCore (holding (.drain 3 0 200 0))).fabric.core 1199).ops = [⟨.drain 3 0 200 0, 3, 0, []⟩] ∧
      (holding (.drain 3 0 200 0)).arrayFault (.drain 3 0 200 0) = none) ∧
    (((onCore (holding (.stream ⟨8, 8, true, 0, false, false, 41, 2, 1, 1, 0, 300, 0, 0⟩))).fabric.core 1199).ops =
        [⟨.stream ⟨8, 8, true, 0, false, false, 41, 2, 1, 1, 0, 300, 0, 0⟩, 3, 0, []⟩] ∧
      (holding .nop).arrayFault (.stream ⟨8, 8, true, 0, false, false, 41, 2, 1, 1, 0, 300, 0, 0⟩) = none) ∧
    (let f : StreamF := ⟨8, 8, true, 0, false, true, 9, 2, 1, 1, 0, 300, 0, 0⟩
     let fed : List UnitLine := List.replicate f.linesNeeded ⟨0, false, 512⟩
     let c : Core := { holding (.stream f) fed with slots := [⟨9, true, 1198, 0, 0, 0⟩] }
     ((onCore c).fabric.core 1199).ops = [⟨.stream f, 3, 0, fed⟩] ∧ c.arrayFault (.stream f) = none ∧ f.fromSlot = true ∧
      f.linesNeeded ≤ fed.length) ∧
    ((CoreStep.stream ⟨3, 8, true, 0, false, false, 41, 2, 1, 1, 0, 300, 0, 0⟩).isArrayOp = true ∧
      (⟨.stream ⟨3, 8, true, 0, false, false, 41, 2, 1, 1, 0, 300, 0, 0⟩, 3, 0, []⟩ : Issued).fedWhole = true ∧
      (holding .nop).arrayFault (.stream ⟨3, 8, true, 0, false, false, 41, 2, 1, 1, 0, 300, 0, 0⟩) = some 5 ∧
      (onCore (holding .nop)).fabric.dies.length = 12) := by decide +kernel

/-- Core 1199 with slot 9, received or sent. -/
def slotted (receive : Bool) (w : Nat) : Core := { described w with slots := [⟨9, receive, 1198, 0, 0, 0⟩] }
/-- The word of a SEND (6) or RECV (7) of `n` lines over slot 9. -/
def soundWord (op n : Nat) : Nat := fieldsOf [(0, 8, op), (8, 12, 9), (20, 15, 41), (35, 15, n - 1)]
/-- A unit from core 1198 over slot 9 with sequence `q`. -/
def soundUnit (q : Nat) : SoundUnit := ⟨1199, BitVec.ofNat 48 (9 + 2 ^ 12 * q + 2 ^ 32 * 1198), [1, 2], false⟩

/-- A core with that unit under way from core 1198. -/
def flying (c : Core) (held : Bool) : State :=
  let s := onCore c
  { s with fabric := { s.fabric with flight := [⟨1198, soundUnit 0, held⟩] } }
/-- A core whose receive buffer is full. -/
def crowded : Core := { slotted true 0 with recvBuf := List.replicate 64 (soundUnit 7) }
/-- A unit of the Ingest Sequencer, and a core that takes it. -/
def rowUnitOf : SoundUnit := ⟨1199, BitVec.ofNat 48 (9 + 2 ^ 32 * 0x0A00), [], false⟩
def fromSequencer : Core := { described 0 with slots := [⟨9, true, 0x0A00, 0, 0, 0⟩] }
/-- A tide of stream 3 whose core has not progressed for 1 ms. -/
def stuck : State :=
  let s := onCore (slotted true 0)
  { s with fabric := { s.fabric with tide := some { smallTide with rows := [(3, [.nullRow])] } } }

theorem test_hyps_SoundUnitsFlow :
    (∀ n ∈ [1, 5], (onCore (slotted false (soundWord 6 n))).issuesAlone 1199 (.send 9 41 n) ∧
      ((slotted false (soundWord 6 n)).slot 9).map (·.receive) = some false ∧ 1 ≤ n ∧
      (onCore (slotted true (soundWord 7 n))).issuesAlone 1199 (.recv 9 41 n) ∧
      ((slotted true (soundWord 7 n)).slot 9).map (·.receive) = some true ∧ (slotted true (soundWord 7 n)).recvBuf = []) ∧
    (let s := onCore (slotted true 0)
     s.fabric.tide.isSome = true ∧ (soundUnit 0).dst.toNat = 1199 ∧ hbmEndpoint (unitSource (soundUnit 0)) = false ∧
      (slotted true 0).tokenOk (soundUnit 0) = true ∧ (slotted true 0).tokenOk (soundUnit 1) = false ∧ (slotted true 0).ops = [] ∧
      (slotted true 0).recvBuf.length < 64 ∧ s.fabric.dies.length = 12 ∧ s.fabric.inFlight (soundUnit 0) = none ∧
      rowEndpoint (unitSource (soundUnit 0)) = false ∧
      (flying (slotted true 0) false).fabric.inFlight (soundUnit 0) = some ⟨1198, soundUnit 0, false⟩) ∧
    (∀ held ∈ [true, false], (flying crowded held).fabric.inFlight (soundUnit 0) = some ⟨1198, soundUnit 0, held⟩ ∧
      crowded.tokenOk (soundUnit 0) = true ∧ crowded.ops = [] ∧ 64 ≤ crowded.recvBuf.length) ∧
    (rowEndpoint (unitSource rowUnitOf) = true ∧ hbmEndpoint (unitSource rowUnitOf) = false ∧ rowUnitOf.dst.toNat = 1199 ∧
      fromSequencer.tokenOk rowUnitOf = true ∧ fromSequencer.ops = [] ∧ fromSequencer.recvBuf = [] ∧
      (onCore fromSequencer).fabric.inFlight rowUnitOf = none) ∧
    (stuck.fabric.inTide 1199 = true ∧ (slotted true 0).unfinished = true ∧
      (stuck.fabric.core 1199).lastProgress + 1000000 ≤ stuck.clock.count ∧ (stuck.fabric.plan.bind (·.span)) = none ∧
      ({ stuck with clock := {} } : State).clock.count < (stuck.fabric.core 1199).lastProgress + 1000000) ∧
    (3 : Nat) ≠ 5 ∧ (onCore (issuing 0)).fabric.tide = some smallTide := by decide +kernel

/-! ### Plans and tides -/

/-- The stream and its partition, in a plan whose model is loaded. -/
def modelled : State := { opened with hosting := { opened.hosting with models := [(2, [7])] } }
/-- A plan in the given state of staging. -/
def staging (st : StagedState) (p : Option PlanInfo) : State :=
  { modelled with
    fabric := { opened.fabric with staged := some ⟨st, 3, 4, p, 1⟩ }
    host := { opened.host with busMaster := true } }
/-- A span of two modules. -/
def spanOf : SpanInfo := ⟨0, 500000, 2, 0, 9, [9, 8]⟩
/-- A plan with it. -/
def spanPlan : PlanInfo := { smallPlan with span := some spanOf }

theorem test_hyps_PlansAreStaged :
    modelled.sessionOpen = true ∧ modelled.accepts mb 0x4100 1 .host ∧ modelled.fabric.staged = none ∧
    (staging .loading none).sessionOpen = true ∧ (staging .loading none).accepts mb 0x4100 1 .host ∧
    (staging .loading none).fabric.staged = some ⟨.loading, 3, 4, none, 1⟩ ∧
    (staging .loading none).fetchesPlan ⟨.loading, 3, 4, none, 1⟩ = true ∧
    ({ staging .loading none with host := {} } : State).fetchesPlan ⟨.loading, 3, 4, none, 1⟩ = false ∧
    ((staging .checked (some smallPlan)).accepts opr 0x4100 2 .hOpCu ∧ (staging .checked (some smallPlan)).sessionOpen = true ∧
      (staging .checked (some smallPlan)).fabric.staged = some ⟨.checked, 3, 4, some smallPlan, 1⟩) ∧
    StagedState.checked ≠ .loading ∧ (0 : Byte) ≠ 0xA5 ∧ (0 : Byte) ≠ 0x5A := by decide +kernel

theorem test_hyps_PlansAreAdmitted :
    (let s := staging .switchPending (some smallPlan)
     s.fabric.staged = some ⟨.switchPending, 3, 4, some smallPlan, 1⟩ ∧ s.fabric.tide = none ∧ s.measure.mrs.length = 32 ∧
      SMap.wf {} s.fabric.cores = true ∧ smallPlan.span = none ∧ s.recheckCode smallPlan = 0) ∧
    (let s := staging .switchPending (some spanPlan)
     spanPlan.span = some spanOf ∧ s.recheckCode spanPlan = 0 ∧ 0 < spanPlan.cadenceNs ∧
      max s.fabric.spanSwitch (s.spanNow spanOf) ≤ s.spanNow spanOf ∧ 500000 ≤ s.spanNow spanOf ∧
      (s.spanNow spanOf - 500000) % spanPlan.cadenceNs = 0 ∧
      ¬ max s.fabric.spanSwitch (s.spanNow spanOf + 1) ≤ s.spanNow spanOf) ∧
    ({ staging .switchPending (some smallPlan) with hosting := {} } : State).recheckCode smallPlan ≠ 0 := by decide +kernel

/-- A submission of the small plan's stream, its sample taken. -/
def waitingSub (seq : Nat) : Submission := { ring := 1, seq := seq, time := 9, stream := 3, kind := 1, phase := .sampled }
/-- The plan runs, no tide does, and three submissions wait. -/
def departing : State :=
  { modelled with
    fabric := { opened.fabric with plan := some smallPlan }
    host := { opened.host with subs := [(4, some (waitingSub 7)), (9, some (waitingSub 5)), (11, some (waitingSub 9))] } }
/-- The same before the origin of the grid. -/
def early : State := { departing with fabric := { departing.fabric with origin := 10 ^ 12 } }

theorem test_hyps_TidesDepart :
    (({ departing with fabric := { departing.fabric with staged := some ⟨.switchPending, 3, 4, some smallPlan, 1⟩ } } : State).switching
      false).isSome = true ∧
    (departing.fabric.plan = some smallPlan ∧ (departing.switching false).isNone = true ∧ departing.fabric.tide = none ∧ departing.up = true ∧ departing.od.session ≠ 0 ∧
      departing.od.drained = false ∧ departing.tideCores smallPlan ≠ [] ∧
      SMap.wf {} departing.fabric.cores = true ∧
      dueTime departing.fabric.origin smallPlan.cadenceNs departing.fabric.lastTide
        (decide (smallPlan.cert.minFloor * (1000 + departing.ret.margin) < departing.planFloorNow smallPlan * 1000)) ≤
          departing.gridNow ∧
      1198 ∈ departing.tideCores smallPlan ∧ departing.takesPart smallStream = true ∧ smallStream ∈ smallPlan.streams ∧
      (departing.fabric.core 1199).inWindow 5 = false) ∧
    early.gridNow < dueTime early.fabric.origin smallPlan.cadenceNs early.fabric.lastTide true ∧
    (0 < smallStream.rows ∧ 0 < [(4 : Nat)].length) ∧ (([] : List Nat).length ≤ 0 ∧ 0 < smallStream.rows) ∧
    (0 < 1 ∧ 7 ≤ 9 ∧ (9 - 7) % 1 = 0) := by decide +kernel

/-- A tide with one submission in it, its cores done. -/
def finishing : State :=
  { modelled with
    fabric := { opened.fabric with
      plan := some smallPlan, tide := some { smallTide with rows := [(3, [.sub 4])] }
      cores := [(1198, { ended := true }), (1199, { ended := true })]
      staging := (Config.outputUnits smallPlan.image 3 0).map fun tok => ⟨0x0A10, tok, [1, 2], false⟩
      dies := modifyAt opened.fabric.dies 11 fun d => { d with commit := [((3, some 0), 77, { tag := true, data := 5 })] } }
    host := { opened.host with subs := [(4, some { waitingSub 7 with phase := .inTide, tide := some 0 })] } }

theorem test_hyps_TidesFinishAndSpansWait_staged :
    finishing.fabric.outputsStaged smallPlan { smallTide with rows := [(3, [.sub 4])] } = true := by
  simp [Fabric.outputsStaged, finishing, List.zipIdx]

theorem test_hyps_TidesFinishAndSpansWait :
    finishing.fabric.plan = some smallPlan ∧ finishing.fabric.tide = some { smallTide with rows := [(3, [.sub 4])] } ∧
    finishing.od.session = 1 ∧ finishing.start.debugEnd = 0 ∧ smallPlan.span = none ∧
    ((smallPlan.streams.filter fun e => ((finishing.fabric.tide.map fun td => td.rows.map (·.1)).getD []).contains e.stream &&
      !inMask finishing.fabric.halted e.stream).all fun e =>
        (finishing.fabric.coresOf e.stream).all fun i => (finishing.fabric.core i).done) = true ∧
    ((4, some { waitingSub 7 with phase := .inTide, tide := some 0 }) ∈ finishing.host.subs ∧
      smallPlan.entry 3 = some smallStream ∧ rowOf [(3, [.sub 4])] 3 4 = some 0) ∧
    (let s := { finishing with
      fabric := { finishing.fabric with plan := some spanPlan }, clock := { count := 2 ^ 40, device := 2 ^ 40 } }
     s.fabric.plan = some spanPlan ∧ spanPlan.span.isSome = true ∧ s.spanExpired = true ∧
      (spanPlan.mask &&& ~~~s.fabric.halted) ≠ 0 ∧ s.faults.queue.length < 32 ∧ s.faults.overflow = none) := by decide +kernel

/-! ### The host path -/

/-- A ring of sixteen entries on stream 3. -/
def smallRing : Ring :=
  { configured := true, enabled := true, log2Depth := 4, stream := 3, vector := 7, sqBase := 0x10000, cqBase := 0x20000
    sqTail := 3, sqHead := 1, cqHead := 0, cqTail := 5, posted := 21 }
/-- A session whose plan runs, with ring 2 in use, a fence object written and vectors on. -/
def hosted : State :=
  { opened with
    fabric := { opened.fabric with plan := some smallPlan }
    host := { opened.host with
      rings := [(2, smallRing)], busMaster := true, fences := [(8, 4)], msixOn := true, msix := [(7, (5, 6, false))] } }
/-- A configuration of ring `r` (layout of OD 0x5420.01). -/
def ringCfg (r : BitVec 16) (log2 enable : Byte) : RingCfg := ⟨r, log2, 63, 9, enable, 0x3000, 0x4000⟩

theorem test_hyps_HostWritesActOnce :
    (hosted.hostReaches false ∧ SMap.wf {} hosted.host.rings = true ∧ SMap.wf 0 hosted.host.fences = true) ∧
    (∀ v ∈ [0, 15], hosted.doorbellOk 2 v ∧ hosted.notCarriedBy (hosted.host.ring 2).stream = false) ∧
    ¬ hosted.doorbellOk 2 16 ∧ ¬ hosted.doorbellOk 3 0 ∧ hosted.straits.spanFences = false ∧
    (hosted.accepts opr 0x5410 1 .hOpCu ∧ (1 : Byte).toNat < 2 ∧ 2 ≤ (2 : Byte).toNat) ∧
    (hosted.accepts mb 0x5420 1 .host ∧ hosted.od.session = 1 ∧ (∀ l ∈ [4, 16], ringCfgOk (ringCfg 3 l 1) = true) ∧
      (hosted.host.ring 3).enabled = false ∧ (ringCfg 3 4 1).enable ≠ 0 ∧ 
      (hosted.host.ring 2).enabled = true ∧ (ringCfg 2 4 0).enable = 0 ∧ (ringCfg 2 4 1).enable ≠ 0 ∧
      ringCfgOk (ringCfg 3 3 1) = false) := by decide +kernel

/-- A submission queue entry (table of chapter 11). -/
def sqWord (op inputLen count seq : Nat) : BitVec 512 :=
  BitVec.ofNat 512 (fieldsOf [(0, 8, op), (32, 16, count), (64, 32, inputLen), (96, 32, 0xABCD), (128, 64, 0x777000),
    (192, 64, if op = 1 then 0x888000 else 0), (256, 64, seq)])
/-- A parked submission of number 70. -/
def parkedSub : Submission :=
  { ring := 2, seq := 70, time := 9, stream := 3, kind := 1, phase := .posted, parked := true, status := some 5, sample := some []
    firstPosted := true }
/-- A parked submission and one that fetches its record of 33 octets. -/
def submitted : State :=
  { hosted with
    ret := { hosted.ret with nextSeq := 100 }
    engines := { hosted.engines with laneBusy := [none, none, some 1, none] }
    host := { hosted.host with subs := [(0, some parkedSub),
      (1, some { ring := 2, seq := 71, time := 9, stream := 3, kind := 1, inputLen := 33, eventCount := 1 })] } }

theorem test_hyps_EntriesAreSequenced :
    SMap.wf none submitted.host.subs = true ∧
    (submitted.readsEntry 2 (sqWord 1 96 1 0) ∧ (sqEntryOf (sqWord 1 96 1 0).toNat).opcode = 1) ∧
    (submitted.readsEntry 2 (sqWord 2 32 1 0) ∧ (sqEntryOf (sqWord 2 32 1 0).toNat).opcode = 2) ∧
    (submitted.readsEntry 2 (sqWord 3 0 0 70) ∧ (sqEntryOf (sqWord 3 0 0 70).toNat).opcode = 3 ∧
      submitted.host.parkedAs 3 (sqEntryOf (sqWord 3 0 0 70).toNat).seq = some 0 ∧ submitted.host.sub 0 = some parkedSub) ∧
    (submitted.readsEntry 2 (sqWord 3 0 0 75) ∧
      submitted.host.parkedAs 3 (sqEntryOf (sqWord 3 0 0 75).toNat).seq = none) ∧
    (submitted.readsRing 2 = true ∧ submitted.logged = false ∧ (sqEntryOf (sqWord 1 97 1 0).toNat).opcode = 1 ∧
      (malformedCase false (((submitted.fabric.entry 3).map (·.inputMax)).getD 0) (sqWord 1 97 1 0).toNat).isSome = true) ∧
    (∃ q : Ring, q = { smallRing with stop := .fence, heldEntry := some (sqWord 1 33 1 0) } ∧
      ({ submitted.host with rings := [(2, q)] } : HostPath).fenceReached 2 = true) := by
  refine ⟨by decide +kernel, by decide +kernel, by decide +kernel, by decide +kernel, by decide +kernel, by decide +kernel, _, rfl, ?_⟩
  decide +kernel

/-- The record of submission 1 waits for a page. -/
def paging : State :=
  { submitted with host := { submitted.host with pages := [(.record 1, 0)],
                                                 subs := [(1, some { parkedSub with phase := .pageWait })] } }
/-- Thirty-two invalidations are outstanding. -/
def invalidating : State :=
  { submitted with host := { submitted.host with invalidations := List.replicate 32 { iova := 0, len := 4096, waits := [(1, 71)] } } }
/-- A SCORE answer of eight octets. -/
def scored : Submission :=
  { ring := 2, seq := 71, time := 9, stream := 3, kind := 1, cookie := 0xABCD, phase := .answered, status := some 0
    output := some [1, 2, 3, 4, 5, 6, 7, 8], outputAddr := 0x9000, tide := some 4, flags := 2 }
/-- It is owed to the host, whose receipt ring is ready. -/
def answering : State :=
  { submitted with
    host := { submitted.host with subs := [(1, some scored)] }
    measure := { submitted.measure with receiptRing := { base := 0x10000, log2Depth := 4, enabled := true, head := 3, tail := 18 } } }
/-- Vectors 7 deferred and 9 pending. -/
def signalling : State := { hosted with host := { hosted.host with holding := [(7, 4), (2047, 4)], deferred := [7], msixPending := [9] } }

theorem test_hyps_FetchesAndVectors :
    (∃ x, submitted.host.sub 1 = some x ∧ SMap.wf none submitted.host.subs = true ∧ x.phase = .fetching ∧
      submitted.engines.inLane 1 = true ∧ (List.replicate 33 (0 : Byte)).length = x.inputLen ∧ submitted.dmaOk = true) ∧
    (∃ x, paging.host.sub 1 = some x ∧ SMap.wf none paging.host.subs = true ∧
      paging.host.pageOut (.record 1) = true ∧ x.phase = .pageWait ∧
      paging.host.pageTimedOut (.record 1) paging.clock.count = true) ∧
    (∀ p ∈ paging.host.pages, p.1 = .record 1 → (0 : Nat) < p.2 + paging.host.priTimeout * 1000000) ∧
    (paging.host.invalidationsOut.length < 32 ∧ 32 ≤ invalidating.host.invalidationsOut.length) ∧
    SMap.wf 0 signalling.host.msixSent = true ∧
    (signalling.host.holdoffOver 7 signalling.clock.count = true ∧ signalling.host.deferred.contains 7 = true ∧
      signalling.host.msixOn = true ∧ signalling.host.masked 7 = false ∧ signalling.dmaOk = true) ∧
    (signalling.host.holdoffOver 2047 signalling.clock.count = true ∧ signalling.host.deferred.contains 2047 = false) ∧
    (signalling.hostReaches false ∧ signalling.host.msixPending.contains 9 = true ∧
      SMap.wf (0, 0, true) signalling.host.msix = true) :=
  ⟨⟨_, rfl, by decide +kernel⟩, ⟨_, rfl, by decide +kernel⟩, by decide +kernel⟩

theorem test_hyps_CompletionsFollowReceipts :
    answering.host.sub 1 = some scored ∧ SMap.wf none answering.host.subs = true ∧ scored.kind = 1 ∧ scored.status = some 0 ∧
    scored.phase = .answered ∧ scored.owed = [] ∧ scored.output = some [1, 2, 3, 4, 5, 6, 7, 8] ∧ scored.outWritten = false ∧
    scored.outPending = false ∧ scored.receiptNo = none ∧ scored.parked = false ∧ scored.fenceSignal = none ∧
    scored.seq < 2 ^ 64 ∧ scored.time < 2 ^ 64 ∧ scored.cookie < 2 ^ 32 ∧ scored.stream < 64 ∧ answering.dmaOk = true ∧
    answering.host.inOrder scored = true ∧ answering.mayReceipt = true ∧ answering.measure.receipts = [] ∧
    answering.measure.receiptRing.ready = true ∧ answering.ret.receiptsWritten = answering.ret.receiptsMade ∧
    answering.measure.sinceCut + 1 < answering.ret.ckptCount ∧ answering.od.session = 1 ∧ (answering.host.ring 2).cqStop = .none ∧
    (answering.host.ring 2).cqFull = false ∧ scored.outDigested = false ∧
    (answering.engines.laneFree (laneOf 2) || answering.engines.inLane 1) = true ∧
    (({ answering with engines := { answering.engines with laneBusy := [none, none, some 3, none] } } : State).engines.laneFree
      (laneOf 2) || ({ answering with engines := { answering.engines with laneBusy := [none, none, some 3, none] } } : State).engines.inLane
        1) = false ∧
    (scored.answerOf.map fun a => (receiptBytes scored { a with flags := answering.receiptFlags a.flags } answering.chainHead
      (if a.tide.isSome then a.generation else answering.ret.generation)).length) = some 160 ∧
    scored.outputAddr + 8 ≤ answering.measure.receiptRing.slot 160 ∧
    answering.measure.receiptRing.slot 160 + 160 ≤
      (answering.host.ring 2).cqBase.toNat + 32 * (answering.host.ring 2).cqTail := by decide +kernel

/-! ### The Shoal engine -/

/-- What holds of the default and of every entry of a map holds of every value it reads. -/
theorem get_of_all {α : Type} {P : α → Prop} {d : α} (m : SMap α) (h0 : P d) (h : ∀ e ∈ m, P e.2) (k : Nat) : P (SMap.get d m k) := by
  induction m with
  | nil => exact h0
  | cons e m ih =>
    rw [SMap.get_cons]
    split
    · exact h e (List.mem_cons_self ..)
    · exact ih fun e' he => h e' (List.mem_cons_of_mem _ he)

/-- `State.Inv`, computed. -/
def invCheck (s : State) : Bool :=
  decide (s.measure.mrs.length = 32 ∧ s.fabric.dies.length = 12 ∧ s.power.governors.length = 13 ∧ s.straits.ports.length = 12 ∧
    s.od.channels.length = 13 ∧ s.causeway.sessions.length = 8 ∧ s.hosting.sessions.length = 4 ∧ s.hosting.loads.length = 4 ∧
    s.hosting.streamIds.length = 9 ∧ s.engines.jobs.length = 8 ∧ s.engines.laneBusy.length = 4 ∧ s.engines.laneQueue.length = 4 ∧ s.shoal.clusters.length = 12 ∧
    s.otp.svn.length = 4 ∧ s.otp.caSlots.length = 8 ∧ s.ret.stores.length = 4 ∧ s.ret.tokens.length = 3 ∧
    s.ret.portEnable.length = 12) &&
  decide (Memory.wf s.hostMem = true ∧ SMap.wf none s.keys.store = true ∧ SMap.wf 0 s.engines.long.words = true ∧
    SMap.wf 0 s.engines.short.words = true ∧ SMap.wf {} s.fabric.cores = true ∧ SMap.wf {} s.host.rings = true ∧
    SMap.wf 0 s.host.fences = true ∧ SMap.wf none s.host.subs = true ∧ SMap.wf {} s.hosting.ide = true ∧
    SMap.wf (0, 0, true) s.host.msix = true ∧ SMap.wf 0 s.host.msixSent = true ∧ SMap.wf {} s.ret.regions = true) &&
  decide (∀ e ∈ s.fabric.cores, e.2.arrays.length = 4 ∧ SMap.wf {} e.2.lagoon = true) &&
  decide (∀ c ∈ s.shoal.clusters, SMap.wf 0 c.records = true)

theorem inv_of_check {s : State} (h : invCheck s = true) : s.Inv := by
  simp only [invCheck, Bool.and_eq_true, decide_eq_true_eq] at h
  obtain ⟨⟨⟨h1, h2⟩, h3⟩, h4⟩ := h
  have hc : ∀ k, (s.fabric.core k).arrays.length = 4 ∧ SMap.wf {} (s.fabric.core k).lagoon = true :=
    fun k => get_of_all (P := fun c : Core => c.arrays.length = 4 ∧ SMap.wf {} c.lagoon = true) s.fabric.cores ⟨rfl, rfl⟩ h3 k
  have hn : ∀ n, SMap.wf 0 (s.shoal.cluster n).records = true := by
    intro n
    show SMap.wf 0 (s.shoal.clusters.getD n {}).records = true
    by_cases hl : n < s.shoal.clusters.length
    · rw [List.getD_eq_getElem _ _ hl]; exact h4 _ (List.getElem_mem hl)
    · rw [List.getD_eq_default _ _ (by omega)]; rfl
  obtain ⟨a1, a2, a3, a4, a5, a6, a7, a8, a9, a10, a11, a12, a13, a14, a15, a16, a17, a18⟩ := h1
  obtain ⟨b1, b2, b3, b4, b5, b6, b7, b8, b9, b10, b11, b12⟩ := h2
  exact ⟨⟨a1, a2, a3, a4, a5, a6, a7, a8, a9, a10, a11, a12, a13, a14, a15, a16, a17, a18, fun k => (hc k).1⟩,
    b1, b2, b3, b4, b5, b6, b7, b8, b9, b10, b11, b12, hn, fun k => (hc k).2⟩

/-- The cluster of the worked event of chapter 12: neuron 0x01F00D2A with its record, and its two synapses. -/
def workedCluster : Cluster :=
  { neurons := 0x2000000, width := 4, synCount := 9
    table := List.replicate (256 * 5) 0 ++
      padTo 256 (leBytes 4 0xF0000000 ++ leBytes 4 0 ++ leBytes 4 0xC5C10000 ++ List.replicate 180 0 ++ [16])
    records := [(0x01F00D2A, BitVec.ofNat 512 (fieldsOf [(0, 40, 6553600), (320, 48, 108858424365000), (368, 48, 5), (419, 1, 1),
      (424, 24, 110), (448, 28, 7), (476, 9, 2)]))]
    synapses := [(7, BitVec.ofNat 64 (fieldsOf [(0, 32, 0x38123456), (32, 4, 5), (40, 8, 2)])),
      (8, BitVec.ofNat 64 (fieldsOf [(0, 32, 0x10000A10), (32, 4, 0xE), (40, 8, 1)]))] }
/-- An event on it over the channels of `mask`, at a depth. -/
def workedEvent (mask depth : Nat) : ShoalEvent :=
  ⟨0x21F00D2A, mask, true, 40, 1783536424796242000, 41300207, fieldsOf [(16, 8, 3), (24, 2, depth)], false, true⟩
/-- The event waits in the inbox of cluster 4. -/
def eventful (e : ShoalEvent) : State :=
  { opened with
    shoal := { opened.shoal with
      clusters := modifyAt (modifyAt (List.replicate 12 {}) 4 fun _ => { workedCluster with inbox := [e] }) 7 fun _ =>
        { neurons := 0x2000000 } }
    host := { opened.host with watermark := some 41300207 } }
/-- An event of no neuron, in the inbox of cluster 0. -/
def strayEvent : ShoalEvent := { workedEvent 1 0 with nid := 0x7FFFFFFF }
/-- It waits alone. -/
def strayed : State :=
  { opened with shoal := { opened.shoal with clusters := modifyAt (List.replicate 12 {}) 0 fun _ => { inbox := [strayEvent] } } }

theorem eventful_inv : ∀ mask ∈ [0, 1, 255], ∀ depth ∈ [0, 2], (eventful (workedEvent mask depth)).Inv := by
  intro m hm d hd
  apply inv_of_check
  revert m d
  decide +kernel

theorem test_hyps_ShoalEventsApply :
    (∀ mask ∈ [0, 1, 255], ∀ depth ∈ [0, 2], (eventful (workedEvent mask depth)).appliesNext 4 (workedEvent mask depth) ∧
      (eventful (workedEvent mask depth)).shoal.valid (workedEvent mask depth) = true ∧ (workedEvent mask depth).time < 2 ^ 62) ∧
    (workedEvent 0 0).chmask = 0 ∧ (workedEvent 255 2).chmask ≠ 0 ∧
    (strayed.appliesNext 0 strayEvent ∧ strayed.shoal.valid strayEvent = false) ∧
    (let s := eventful (workedEvent 1 0)
     let c := s.shoal.cluster 4
     let w := c.record (nidIndex 0x21F00D2A)
     (bit w 419 && decide (((field w 424 24 : Int) * 65536) ≤
        (satS 40 (c.leakedTo w 1783536424796242000 0 + 40 * 2 ^ c.shift (tcselOf w 0))).1)) = true ∧
      field w 416 3 = 0 ∧ (workedEvent 1 0).depth < 2 ∧ field w 476 9 ≤ 256 ∧ field (workedEvent 1 0).suborder 0 8 = 0 ∧
      field (workedEvent 1 0).suborder 8 8 = 0 ∧ 1 < field w 476 9) := by decide +kernel

/-- A submission of two SAMPLE events, the second of no neuron. -/
def sampling : Submission :=
  { ring := 0, seq := 50, time := 1783536424796242000, stream := 3, kind := 1, phase := .staged, inputDigest := some 4
    eventCount := 2, record := leBytes 32 (0x21F00D2A + 2 ^ 40) ++ leBytes 32 (0x7FFFFFFF + 2 ^ 40) }
/-- Its sample is to be taken. -/
def toSample : State :=
  { opened with
    shoal := { opened.shoal with clusters := modifyAt (List.replicate 12 {}) 4 fun _ => workedCluster }
    host := { opened.host with watermark := some 50, subs := [(3, some sampling)] } }
/-- A small program on cluster 11, and its image. -/
def smallShoal : State :=
  { opened with shoal := { opened.shoal with clusters := modifyAt (List.replicate 12 {}) 11 fun _ =>
      { neurons := 2, width := 4, synCount := 1, table := List.replicate 16384 0, records := [(1, 77)], synapses := [(0, 5)] } } }
/-- An image is to be loaded from host memory. -/
def imaging : State :=
  { opened with shoal := { opened.shoal with load := some (3, 640) }, host := { opened.host with busMaster := true } }
/-- A snapshot is to be taken, and one is to be written out. -/
def snapping (image : Option Bytes) : State :=
  { opened with
    shoal := { opened.shoal with snapshot := some (0x1000, 1000000), image := image }
    host := { opened.host with busMaster := true } }

/-- The same with PRI enabled. -/
def pagedOut : State := { snapping (some [1]) with host := { (snapping (some [1])).host with pri := true } }

theorem test_hyps_SamplesAndImages_inv :
    toSample.Inv ∧ smallShoal.Inv ∧ imaging.Inv ∧ (snapping none).Inv ∧ (snapping (some [1])).Inv ∧ pagedOut.Inv :=
  ⟨inv_of_check (by decide +kernel), inv_of_check (by decide +kernel), inv_of_check (by decide +kernel),
    inv_of_check (by decide +kernel), inv_of_check (by decide +kernel), inv_of_check (by decide +kernel)⟩

theorem test_hyps_SamplesAndImages :
    (toSample.host.sub 3 = some sampling ∧ sampling.unsampled = true ∧ toSample.host.passed sampling.seq = true ∧
      toSample.shoal.clearTo sampling.seq = true ∧ sampling.phase = .staged ∧
      ((List.range sampling.eventCount).map fun k => stampedEvent sampling.record k sampling.time sampling.seq).length = 2) ∧
    (∀ e ∈ toSample.shoal.pending, e.target ≠ 11) ∧
    (smallShoal.accepts mb 0x6001 1 .host ∧ smallShoal.accepts mb 0x6002 1 .host ∧ smallShoal.od.session = 1 ∧
      smallShoal.shoal.planAdmitted = false ∧ smallShoal.shoal.load = none ∧ smallShoal.shoal.snapshot = none) ∧
    ((snapping none).accepts mb 0x6001 1 .host ∧ (snapping none).accepts mb 0x6002 1 .host ∧
      (snapping none).shoal.snapshot.isSome = true) ∧
    imaging.shoal.load = some (3, 640) ∧ imaging.dmaOk = true ∧ ({ imaging with host := {} } : State).dmaOk = false ∧ imaging.imageCode [] 640 ≠ 0 ∧
    ((snapping none).shoal.snapshot = some (0x1000, 1000000) ∧ (snapping none).shoal.image = none ∧
      (snapping none).allCovered = true ∧ (snapping (some [1])).shoal.image = some [1] ∧ (snapping (some [1])).dmaOk = true ∧
      (snapping (some [1])).host.paging .snapshot = false ∧ (snapping (some [1])).host.pri = false ∧
      (pagedOut.dmaOk = true ∧ pagedOut.host.paging .snapshot = false ∧ pagedOut.host.pri = true)) := by decide +kernel
/-- A plan has been admitted. -/
def admitted : State := { smallShoal with shoal := { smallShoal.shoal with planAdmitted := true } }
theorem test_hyps_SamplesAndImages_admitted :
    admitted.accepts mb 0x6001 1 .host ∧ admitted.od.session = 1 ∧ admitted.shoal.planAdmitted = true := by decide +kernel
theorem test_hyps_SamplesAndImages_image :
    imaging.imageCode opened.shoalImage 640 = 0 ∧ (snapping none).shoalImage.length ≤ 1000000 := by
  refine ⟨by decide +kernel, ?_⟩
  have h : opened.shoalImage.length ≤ 1000000 := by decide +kernel
  exact h

/-! ### Evidence, checkpoints, evidence rings -/

theorem test_hyps_EvidenceAndRegisters :
    (keyed.accepts mb 0x2040 1 .all ∧ planeCode mb = 1 ∧ keyed.accepts aud 0x2040 1 .all ∧ planeCode aud = 2) ∧
    (keyed.evidenceServed = true ∧ keyed.conditionNow.debugClass = false ∧ opened.accepts mb 0x2040 1 .all ∧
      opened.evidenceServed = false) ∧
    (∀ n ∈ [8, 64], 8 ≤ (List.replicate n (5 : Byte)).length ∧ (List.replicate n (5 : Byte)).length ≤ 64) ∧
    (List.replicate 7 (5 : Byte)).length < 8 ∧ 64 < (List.replicate 65 (5 : Byte)).length ∧
    (opened.accepts opr 0x2041 1 .hOpCu ∧ opened.measure.mrs.length = 32 ∧
      (∀ m ∈ [(16 : Byte), 31], 16 ≤ m.toNat ∧ m.toNat ≤ 31) ∧
      (∀ n ∈ [1, 256], 1 ≤ (List.replicate n (5 : Byte)).length ∧ (List.replicate n (5 : Byte)).length ≤ 256)) ∧
    (15 : Byte).toNat < 16 ∧ 31 < (32 : Byte).toNat ∧ ([] : Bytes).length = 0 ∧
    256 < (List.replicate 257 (5 : Byte)).length := by decide +kernel

/-- A session with an Alias and three receipts since its last cut. -/
def auditing : State :=
  { opened with
    keys := { opened.keys with aliasPub := [1] }
    measure := { opened.measure with sinceCut := 3, firstSince := 4, ckptNo := 9, receiptRing := { log2Depth := 10, base := 4096 } }
    ret := { opened.ret with receiptsMade := 7 } }
/-- The checkpoint being signed. -/
def smallCut : Cut :=
  { cause := 2, flagsOr := 0, session := 1, no := 9, first := 4, count := 3, time := 8, head := 5, prev := 6, mrd := 0, kid := []
    generation := 0, transition := 0, debug := 0, lastStep := 0 }
/-- It is being signed, and the interval has gone by again. -/
def signingCut : State :=
  { auditing with
    measure := { auditing.measure with signing := some smallCut }
    clock := { count := 9000000000000, device := 5 } }
/-- A receipt ring in use. -/
def ringed : State :=
  { auditing with measure := { auditing.measure with
      receiptRing := { enabled := true, log2Depth := 10, head := 3, tail := 9, faulted := true } } }

theorem test_hyps_CheckpointsAreCut :
    (signingCut.aliasExists = true ∧ signingCut.measure.checkpoints.length < 16 ∧ signingCut.measure.signing = some smallCut ∧
      signingCut.intervalOver = true) ∧
    (let s := { signingCut with measure := auditing.measure }
     s.aliasExists = true ∧ s.measure.checkpoints.length < 16 ∧ s.measure.signing = none ∧ s.intervalOver = true ∧
      s.accepts mb 0x2044 3 .all) ∧
    ({ auditing with measure := { auditing.measure with lastCutAt := auditing.clock.count } } : State).intervalOver = false ∧
    (signingCut.measure.ckptRing.ready = false ∧ signingCut.measure.deferred = none ∧ signingCut.od.session ≠ 2 ∧
      signingCut.keys.committing = false ∧ signingCut.start.debugEnd ≠ 2 ∧ signingCut.hosting.stopping = false) ∧
    (auditing.hostReaches false ∧ auditing.measure.receipts = [] ∧ auditing.measure.checkpoints = [] ∧
      auditing.measure.deferred = none ∧ auditing.od.session ≠ 2 ∧ auditing.keys.committing = false ∧
      auditing.start.debugEnd ≠ 2 ∧ auditing.hosting.stopping = false ∧ (auditing.measure.ring .receipt).enabled = false ∧
      depthOk .receipt (auditing.measure.ring .receipt).log2Depth = true) ∧
    (∀ v ∈ [3, 9], (ringed.measure.ring .receipt).head ≤ v ∧ v ≤ (ringed.measure.ring .receipt).tail) := by decide +kernel

/-! ### SPDM, IDE, TDISP -/

/-- The responder in a phase of its connection, with a large response of 5,000 octets. -/
def responding (phase : Nat) : State :=
  { opened with
    hosting := { opened.hosting with
      spdmPhase := phase, large := List.replicate 5000 7
      sessions := [{ phase := 2, heartbeatS := 1, lastMessage := 3 }, { phase := 1 }, { phase := 2 }, {}] } }
/-- A stream's key slot, named with a Stream ID. -/
def slotId (stream : Fin 9) (sub : Fin 3) (streamId : Byte := 5) : IdeKeyId := ⟨stream, sub, false, false, streamId⟩
/-- All four secured sessions in use, the TDI in a state, and one IDE key going. -/
def secured (x : TdiState) : State :=
  { responding 3 with hosting := { (responding 3).hosting with
      sessions := List.replicate 4 { phase := 2 }, tdi := x, startNonce := some 4
      ide := [(ideKey (slotId 0 0), ⟨some (maskKey [77] 3), true⟩), (ideKey (slotId 2 1), ⟨some (maskKey [78] 3), false⟩)]
      streamIds := [5, 0, 9, 0, 0, 0, 0, 0, 0] } }

/-- A connected responder before item 0. -/
def awaitingDoe : State := { responding 3 with start := { (responding 3).start with runtime := false } }
/-- A connected responder whose Alias is derived. -/
def aliased : State := { responding 3 with keys := keyed.keys }
/-- The base point of P-384, as a requester's exchange data. -/
def exchangeData : Bytes := beBytes 48 p384.gx ++ beBytes 48 p384.gy

theorem test_hyps_SpdmAnswers :
    (∀ p ∈ [1, 2, 3], (responding p).doeUp = true ∧ p ≤ (responding p).hosting.spdmPhase) ∧
    4080 * 1 < (responding 1).hosting.large.length ∧ (awaiting.evidenceServed = false ∧ awaitingDoe.doeUp = true ∧
      awaitingDoe.evidenceServed = false ∧ 3 ≤ awaitingDoe.hosting.spdmPhase) ∧ (2 : Nat) < 3 ∧ (responding 2).hosting.spdmPhase < 3 ∧
    (aliased.doeUp = true ∧ aliased.evidenceServed = true ∧ 3 ≤ aliased.hosting.spdmPhase) ∧
    ((responding 0).doeUp = true ∧ (responding 0).hosting.spdmPhase < 1) ∧ (1 : Byte) ≠ 0 ∧
    32 < (33 : Byte).toNat ∧ (33 : Byte) ≠ 0xFD ∧ (33 : Byte) ≠ 0xFF ∧ 32 < (0xFE : Byte).toNat := by decide +kernel
theorem test_hyps_SpdmAnswers_length (off : Nat) : (slice (responding 3).spdmChain off 4080).length ≤ 4080 := by
  unfold slice; exact List.length_take_le _ _

theorem test_hyps_SecuredSessionsLive :
    ((responding 3).hosting.sessions.length = 4 ∧ (responding 3).securedServed = true ∧ 3 ≤ (responding 3).hosting.spdmPhase ∧
      (responding 3).hosting.sessions.findIdx? (fun x => x.phase == 0) = some 3 ∧
      (ecDecode (4 :: exchangeData)).isSome = true ∧ (ecDecode (4 :: [1, 2])).isNone = true ∧ ((responding 3).spdmSession 1).phase = 1 ∧
      ((responding 3).spdmSession 2).phase = 2 ∧ (responding 3).heartbeatOver 0 = true ∧
      (responding 3).heartbeatOver 3 = false) ∧
    ((secured .run).hosting.sessions.length = 4 ∧ (secured .run).securedServed = true ∧
      (secured .run).hosting.sessions.findIdx? (fun x => x.phase == 0) = none) := by decide +kernel

theorem test_hyps_IdeKeysMove :
    SMap.wf {} (secured .run).hosting.ide = true ∧ (secured .run).hosting.streamIds.length = 9 ∧ (secured .run).inSession 0 ∧
    (secured .run).inSession 3 ∧ ((secured .run).hosting.slot (ideKey (slotId 8 1))).going = false ∧
    ((secured .run).hosting.slot (ideKey (slotId 8 1))).key = none ∧
    (secured .run).hosting.slot (ideKey (slotId 0 0)) = ⟨some (maskKey [77] 3), true⟩ ∧
    (secured .run).hosting.streamIds.getD 0 0 = (slotId 0 0).streamId ∧ (secured .run).hosting.streamIds.getD 0 0 ≠ (slotId 0 0 6).streamId ∧
    (secured .run).hosting.slot (ideKey (slotId 2 1 9)) = ⟨some (maskKey [78] 3), false⟩ ∧
    (secured .run).hosting.streamIds.getD 2 0 = (slotId 2 1 9).streamId ∧
    ((secured .run).hosting.slot (ideKey (slotId 0 0))).going = true ∧ (secured .run).pins.pcieUp = true := by decide +kernel

theorem test_hyps_TdiMoves :
    (∀ x ∈ [TdiState.unlocked, .locked, .run], (secured x).inSession 0 ∧ (secured x).hosting.tdi = x) ∧
    (secured .run).od.session ≠ 0 ∧ (secured .run).od.drained = false ∧ (secured .run).host.receipted = true ∧
    (secured .run).cutFree = true ∧
    (let s := { secured .run with
      keys := { opened.keys with aliasPub := [1] }, measure := { opened.measure with signing := some smallCut } }
     s.inSession 0 ∧ s.od.session ≠ 0 ∧ s.od.drained = false ∧ s.cutFree = false) ∧
    ((secured .locked).hosting.startNonce = some 4 ∧ (secured .locked).hosting.startNonce ≠ some 5) ∧
    (({ secured .run with od := {} } : State).inSession 3 ∧ ({ secured .run with od := {} } : State).od.session = 0) := by decide +kernel

/-! ### Models, consent, regions -/

/-- The head of a bundle of five octets (table of chapter 14), its policy byte and its recipient's key identifier. -/
def bundleHead (policy : Nat) (kid : Bytes) : Bytes :=
  leBytes 4 0x4D424E44 ++ leBytes 2 1 ++ leBytes 2 1 ++ leBytes 8 5 ++ List.replicate 32 0 ++ leBytes 4 0 ++
    [BitVec.ofNat 8 policy, 255, 0, 0] ++ List.replicate 48 9 ++ List.replicate 24 0 ++ kid ++ List.replicate 8 0 ++
    List.replicate 1225 3 ++ List.replicate 31 0
/-- A load of five octets. -/
def loadOf (bnd : Bool) (content : Option MaskedKey) : ModelLoad :=
  { bound := bnd, addr := 4096, len := 5, weights := sha384 [1, 2, 3, 4, 5], content := content }
/-- A session that reads and writes host memory. -/
def reading : State := { opened with host := { opened.host with busMaster := true } }
/-- A bound load whose content key is in its slot. -/
def keyedLoad : State :=
  { reading with hosting := { opened.hosting with loads := [none, none, none, some (loadOf true (some (maskKey (List.replicate 32 4) 5)))] } }
/-- A load in progress in slot 3. -/
def modelLoading (bnd : Bool) : State :=
  { opened with
    hosting := { opened.hosting with loads := [none, none, none, some (loadOf bnd none)] }
    host := { opened.host with busMaster := true } }

theorem test_hyps_ModelsLoad_inv : opened.Inv ∧ reading.Inv ∧ keyedLoad.Inv ∧ (modelLoading true).Inv ∧ (modelLoading false).Inv :=
  ⟨inv_of_check (by decide +kernel), inv_of_check (by decide +kernel), inv_of_check (by decide +kernel), inv_of_check (by decide +kernel), inv_of_check (by decide +kernel)⟩
theorem test_hyps_ModelsLoad :
    (opened.accepts mb 0x5100 1 .host ∧ opened.od.session = 1 ∧ opened.hosting.loads.findIdx? (·.isNone) = some 0 ∧
      ∀ n ∈ [1, 2 ^ 32], modelSizeOk n = true ∧ opened.hosting.storeFull n = false) ∧
    (reading.accepts mb 0x5100 2 .host ∧ reading.od.session = 1 ∧ reading.dmaOk = true ∧ opened.dmaOk = false ∧
      reading.hosting.loads.all (·.isSome) = false ∧ reading.hosting.loads.findIdx? (·.isNone) = some 0 ∧ bundleFormatOk [] 1413 = false ∧
      bundleFormatOk (bundleHead 0 (List.replicate 16 0)) 1413 = true ∧
      bundlePolicyOk reading.otp (bundleHead 0 (List.replicate 16 0)) = false ∧
      bundleFormatOk (bundleHead 255 (List.replicate 16 0)) 1413 = true ∧
      bundlePolicyOk reading.otp (bundleHead 255 (List.replicate 16 0)) = true ∧
      reading.bundleRecipient (bundleHead 255 (List.replicate 16 0)) = none ∧
      bundleFormatOk (bundleHead 255 (kidOf reading.keys.bindPub)) 1413 = true ∧
      bundlePolicyOk reading.otp (bundleHead 255 (kidOf reading.keys.bindPub)) = true ∧
      (reading.bundleRecipient (bundleHead 255 (kidOf reading.keys.bindPub))).isSome = true ∧
      reading.hosting.storeFull (bundleContent (bundleHead 255 (kidOf reading.keys.bindPub))) = false) ∧
    ((modelLoading false).hosting.loads.getD 3 none = some (loadOf false none) ∧ (modelLoading false).dmaOk = true ∧
      (modelLoading true).hosting.loads.getD 3 none = some (loadOf true none) ∧ (modelLoading true).dmaOk = true ∧
      keyedLoad.hosting.loads.getD 3 none = some (loadOf true (some (maskKey (List.replicate 32 4) 5))) ∧ keyedLoad.dmaOk = true ∧
      ({ keyedLoad with host := {} } : State).dmaOk = false ∧
      ({ keyedLoad with hosting := { keyedLoad.hosting with loads := List.replicate 4 (some (loadOf true none)) } } :
        State).hosting.loads.all (·.isSome) = true) := by decide +kernel

/-- A token of a scope with a sequence, valid for one nanosecond. -/
def consentToken (sc : Scope) (seq : BitVec 64) : ConsentToken :=
  { raw := [1, 2], wellFormed := true, keyDigest := 7, sigOk := true, scope := sc, serial := 0, notBefore := 7000000000
    expiry := 7000000001, seq := seq }
/-- A tenant key and a token of every scope, two of them expired. -/
def consented : State :=
  { opened with ret := { opened.ret with
      tenantKey := 7, tokens := [some ⟨1, 8000000000, 5⟩, some ⟨2, 6000000000, 5⟩, some ⟨3, 7000000000, 6⟩], tokenSeq := 4 } }

theorem test_hyps_ConsentIsRecorded_inv : consented.Inv := inv_of_check (by decide +kernel)
theorem test_hyps_ConsentIsRecorded :
    consented.start.condition.debugClass = false ∧ consented.accepts cust 0x2050 1 .cust ∧ (5 : Digest) ≠ consented.ret.tenantKey ∧
    (consented.accepts cust 0x2050 2 ⟨true, false, false, true, true⟩ ∧ (consentToken .profile 5).raw.length ≤ 8192 ∧
      (∀ q ∈ [5, 2 ^ 64 - 1], consented.tokenCode cust (consentToken .profile (BitVec.ofNat 64 q)) = 0) ∧
      consented.tokenCode cust (consentToken .profile 4) ≠ 0) ∧
    (consented.ret.token (scopeIndexOf .profile) = some ⟨1, 8000000000, 5⟩ ∧ consented.now < 8000000000 ∧
      consented.ret.token (scopeIndexOf .vendor) = some ⟨3, 7000000000, 6⟩ ∧ 7000000000 ≤ consented.now) ∧
    (consented.accepts cust 0x2050 6 .hCu ∧ (∀ v ∈ [1, 3], (consented.ret.token (v - 1)).isSome = true)) := by decide +kernel

/-- Region 5 of three MiB on stack 2 in a state. -/
def withRegion (st : RegionState) : State :=
  { opened with ret := { opened.ret with regions := [(5, ⟨2, 0, 3, st, 1⟩)], stackScrub := 0x801 } }
/-- The same, named by the plan that runs. -/
def namedRegion : State :=
  { withRegion .allocated with fabric := { opened.fabric with
      plan := some { smallPlan with regions := [⟨2, 5, true, true⟩] } } }

theorem test_hyps_RegionsScrub_inv :
    (∀ st ∈ [RegionState.allocated, .scrubbing, .suspended, .dark], (withRegion st).Inv) ∧ namedRegion.Inv ∧ opened.Inv :=
  ⟨fun st h => inv_of_check (by revert st; decide +kernel), inv_of_check (by decide +kernel), inv_of_check (by decide +kernel)⟩
/-- The four stores being scrubbed. -/
def storesScrubbing : State := { opened with ret := { opened.ret with stores := List.replicate 4 { state := .scrubbing } } }
theorem test_hyps_RegionsScrub_stores : storesScrubbing.Inv ∧ storesScrubbing.up = true ∧ storesScrubbing.ret.stores.length = 4 ∧
    ∀ x ∈ [ScrubTarget.modelStore, .shoalStore, .planStaging, .windowStore],
      (storesScrubbing.ret.stores.getD (storeIndex x) {}).state = .scrubbing :=
  ⟨inv_of_check (by decide +kernel), by decide +kernel, by decide +kernel, by decide +kernel⟩
theorem fits_one (r : Retained) (k : Nat) (h : r.taken k = []) : r.fits k 0 1 = true := by
  simp [Retained.fits, h, regionSpace]
theorem test_hyps_RegionsScrub :
    (opened.accepts cust 0x5000 1 .hOpCu ∧ opened.od.session = 1 ∧
      (∀ k ∈ [0, 1023], k < 1024 ∧ (opened.ret.region k).state = .free) ∧ (∀ i ∈ [0, 11], i < 12 ∧ opened.ret.taken i = []) ∧
      (∀ i ∈ [0, 11], opened.ret.stackScrub.getLsbD i = false) ∧ 1 ≤ (1 : BitVec 32).toNat) ∧
    (namedRegion.accepts opr 0x5000 5 .hOpCu ∧ namedRegion.regionNamed 5 = true ∧ (withRegion .allocated).regionNamed 5 = false ∧
      ((withRegion .allocated).ret.region 5).state = .allocated) ∧
    ((withRegion .scrubbing).accepts cust 0x5010 1 .cust ∧ ((withRegion .scrubbing).ret.region 5).state = .scrubbing) ∧
    ((withRegion .dark).accepts cust 0x5010 2 .cust ∧ ((withRegion .suspended).ret.region 5).state = .suspended ∧
      ((withRegion .dark).ret.region 5).state = .dark) ∧
    ((withRegion .scrubbing).up = true ∧ ((withRegion .scrubbing).fabric.die 2).online = true) ∧
    (∀ i ∈ [0, 11], (withRegion .scrubbing).ret.stackScrub.getLsbD i = true ∧
      ((withRegion .scrubbing).fabric.die i).online = true) := by decide +kernel

/-! ### Straits -/

/-- Port 11 in a state, in a device of the field, long after its start. -/
def ported (x : Port) : State :=
  { opened with
    otp := { blank with lifecycle := ⟨1, 1⟩ }
    ret := { opened.ret with portEnable := List.replicate 12 1 }
    clock := { opened.clock with count := 10 ^ 17 }
    straits := { opened.straits with ports := (List.replicate 12 {}).set 11 x } }
/-- A HELLO whose MR8 record is `r`. -/
def helloOf (r : BitVec 32) : HelloMsg :=
  { serial := 9, address := 2, port := 4, nonce := 1, ecPub := [1], kemPub := [2], mr8Record := r
    certMr := List.replicate 8 0 ++ [sha384 (List.replicate 48 0 ++ leBytes 4 1)], idevidOkProduction := true
    idevidOkDebug := false, aliasOk := true, raw := [5] }
/-- An agreement as far as it has come. -/
def agreementOf (peer : Option HelloMsg) (kem : Option MaskedKey) (confirm : Bytes := []) : Agreement :=
  ⟨4, maskKey [1] 0, maskKey [2] 0, peer, some (maskKey [3] 0), kem, [4], [5], confirm⟩
/-- A masked secret. -/
def secretOf (b : Byte) : Option MaskedKey := some (maskKey [b] 8)

theorem test_hyps_PortsAgree :
    (∀ st ∈ [PortState.training, .fault], (ported { state := st }).straits.ports.length = 12 ∧
      (ported { state := st }).portLive 11 = true ∧ ((ported { state := st }).port 11).state = st) ∧
    (let s := ported { state := .refused, refusedAt := 10 ^ 17 - 10000000000 }
     s.portLive 11 = true ∧ (s.port 11).state = .refused ∧ (s.port 11).refusedAt + 10000000000 ≤ s.clock.count) ∧
    (let s := ported { state := .refused, refusedAt := 10 ^ 17 - 9999999999 }
     (s.port 11).state = .refused ∧ s.clock.count < (s.port 11).refusedAt + 10000000000) ∧
    (let s := ported { state := .agreeing, agreement := some (agreementOf none none) }
     (s.port 11).agreement = some (agreementOf none none) ∧ (agreementOf none none).peer = none ∧
      s.acceptsPeer (helloOf 1) = true ∧ s.acceptsPeer (helloOf 2) = false) ∧
    ((agreementOf (some (helloOf 1)) none).peer = some (helloOf 1) ∧ (agreementOf (some (helloOf 1)) none).kemFromPeer = none ∧
      (agreementOf (some (helloOf 1)) (secretOf 9) [6]).kemFromPeer = secretOf 9 ∧
      (agreementOf (some (helloOf 1)) (secretOf 9) [6]).confirm ≠ [] ∧ (agreementOf (some (helloOf 1)) (secretOf 9)).confirm = [] ∧
      ((ported { state := .up, agreement := some (agreementOf (some (helloOf 1)) (secretOf 9)) }).port 11).state = .up ∧
      PortState.agreeing ≠ .up ∧ (true && false) = false) ∧
    (let s := ported {}
     let u := { ported {} with otp := { blank with serial := 9 } }
     let a : Agreement := ⟨4, maskKey [1] 0, maskKey [2] 0, none, secretOf 3, secretOf 7, [4], [5], []⟩
     let b : Agreement := ⟨4, maskKey [1] 0, maskKey [2] 0, none, secretOf 7, secretOf 3, [5], [4], []⟩
     (helloOf 1).serial = u.otp.serial ∧ ({ helloOf 1 with serial := 0 } : HelloMsg).serial = s.otp.serial ∧
      s.otp.serial ≠ u.otp.serial ∧ a.sent = b.received ∧ b.sent = a.received ∧ a.epoch = b.epoch ∧
      heldKey a.kemToPeer = [3] ∧ heldKey b.kemToPeer = [7]) := by decide +kernel
/-- Port 11 is UP and awaits COUNTER 5. -/
def framed (next : Option MaskedKey) : State :=
  ported { state := .up, expected := 5, keyRx := secretOf 1, keyTx := secretOf 2, nextRx := next, epochCount := 10 ^ 17 - 1 }
/-- A frame sent under COUNTER 2, asked for again `n` times. -/
def sentFrame (n : Nat) : SentFrame := ⟨2, false, [1, 2], n⟩
/-- The same with `l` unacknowledged and `r` to send again. -/
def sending (l r : List SentFrame) : State :=
  ported { state := .up, expected := 5, keyRx := secretOf 1, keyTx := secretOf 2, epochCount := 10 ^ 17 - 1, txCounter := 3
           unacked := l, resend := r }
/-- A frame. -/
def frameOf (counter : BitVec 64) (mark fec tag : Bool) (us : List FrameUnit) : DataFrame := ⟨counter, mark, 0, false, fec, tag, 3, us⟩

theorem test_hyps_FramesAreChecked :
    (framed none).straits.ports.length = 12 ∧ ((framed none).port 11).state = .up ∧
    ((frameOf 5 false true true []).mark = ((framed none).port 11).rxMark ∧
      (frameOf 5 false true true []).counter.toNat = ((framed none).port 11).expected) ∧
    (frameOf 4 false true true []).counter.toNat ≠ ((framed none).port 11).expected ∧
    ((frameOf 0 true true true []).mark ≠ ((framed none).port 11).rxMark ∧ ((framed none).port 11).pendingRx = none ∧
      ((framed (secretOf 7)).port 11).pendingRx = secretOf 7 ∧ (frameOf 0 true true true []).counter.toNat = 0) ∧
    (let x := (sending [sentFrame 0] []).port 11
     x.resend = [] ∧ (x.acknowledge (frameOf 5 false true true []).ack.toNat).unacked = [sentFrame 0] ∧ x.exhausted = false ∧
      (∀ g ∈ x.unacked, g.fails < 8) ∧ (sentFrame 0).mark = x.txMark ∧ x.unacked.length < 256 ∧
      ((sending [sentFrame 8] []).port 11).exhausted = true ∧ ((sending [] [sentFrame 1]).port 11).resend = [sentFrame 1] ∧
      256 ≤ ((sending (List.replicate 256 (sentFrame 0)) []).port 11).unacked.length) ∧
    ((framed none).pending = [] ∧ (framed none).pins.stby = true ∧
      ({ framed none with clock := ⟨10 ^ 17 + 1, 0⟩ } : State).frameDue 11 = false ∧
      ({ framed none with clock := ⟨10 ^ 17 - 1 + 82, 0⟩ } : State).frameDue 11 = true) ∧
    ((⟨77, 1, 3, 4, [1]⟩ : FrameUnit).kind = 1 ∧ (⟨77, 1, 3, 4, [1]⟩ : FrameUnit).destModule.toNat ≠ (framed none).ret.moduleAddr) ∧
    (((framed none).port 11).agreement = none ∧ ((framed none).port 11).exchangeDue (10 ^ 17) = false ∧ ((framed none).port 11).boundReached (10 ^ 17) = false ∧
      ((framed none).port 11).exchangeDue (10 ^ 17 - 1 + 23 * 3600 * 10 ^ 9) = true ∧
      ((framed none).port 11).epochCount + 24 * 3600 * 1000000000 ≤ 10 ^ 17 - 1 + 24 * 3600 * 10 ^ 9) := by decide +kernel

/-- The middle of three modules in a span, all ports UP. -/
def spanned : State :=
  { opened with
    ret := { opened.ret with moduleAddr := 1 }
    fabric := { opened.fabric with plan := some { smallPlan with span := some ⟨1, 1, 3, 1, 0, [0, 1, 2]⟩ } }
    straits := { opened.straits with ports := List.replicate 12 { state := .up }, spanFences := true } }
/-- The module itself has finished a tide; the others' marks are missing. -/
def awaitingMarks : State :=
  { spanned with fabric := { spanned.fabric with tide := some { smallTide with no := 5 }, ownFinish := some (5, 4000000000) } }
/-- The last tide is finished everywhere. -/
def allDone : State := { spanned with fabric := { spanned.fabric with allFinished := some (5, 4000000000) } }

theorem test_hyps_TheTreeCarries_inv : spanned.Inv ∧ allDone.Inv ∧ opened.Inv ∧ awaitingMarks.Inv :=
  ⟨inv_of_check (by decide +kernel), inv_of_check (by decide +kernel), inv_of_check (by decide +kernel), inv_of_check (by decide +kernel)⟩
theorem test_hyps_TheTreeCarries :
    ((spanned.port 11).state = .up ∧ spanned.lateMark 5 = false ∧ allDone.lateMark 5 = true ∧
      (List.range 12).any spanned.fromParent = true ∧ ∀ p ∈ List.range 12, (spanned.port p).state = .up) ∧
    (spanned.fabric.ownFinish = none ∧ spanned.od.session = 1 ∧ spanned.start.debugEnd = 0 ∧
      awaitingMarks.fabric.ownFinish = some ((5 : BitVec 64).toNat, 4000000000) ∧ (awaitingMarks.port 11).state = .up ∧
      awaitingMarks.lateMark 5 = false ∧ awaitingMarks.od.session = 1 ∧ awaitingMarks.start.debugEnd = 0 ∧ (List.range 12).any awaitingMarks.fromParent = true) ∧
    (spanned.straits.spanFences = true ∧ 3072 ≤ (3072 : BitVec 12).toNat ∧ 3072 ≤ (4095 : BitVec 12).toNat ∧
      SMap.get 0 spanned.host.fences 3072 < 9 ∧ (0 : BitVec 64).toNat ≤ SMap.get 0 spanned.host.fences 3072 ∧
      spanned.treePorts ≠ []) ∧
    (∃ q ∈ spanned.treePorts, sameNeighbour q 11 = false) ∧
    (spanned.fabric.plan.bind (·.span) = some ⟨1, 1, 3, 1, 0, [0, 1, 2]⟩ ∧ 0 ≠ spanned.ret.moduleAddr ∧ spanned.parentUp ⟨1, 1, 3, 1, 0, [0, 1, 2]⟩ = true ∧
      ({ spanned with straits := {} } : State).parentUp ⟨1, 1, 3, 1, 0, [0, 1, 2]⟩ = false) ∧
    (opened.accepts cust 0x7001 1 .hOpCu ∧ opened.spanHeld = false ∧ (0xFFF : BitVec 16).toNat ≤ 0xFFF ∧
      (0xFFFF : BitVec 16).toNat = 0xFFFF) ∧
    (spanned.accepts cust 0x7001 1 .hOpCu ∧ spanned.spanHeld = true) := by decide +kernel
/-- The leases of the span's fences and of a port that has an agreement. -/
theorem test_hyps_LeasesEnd_links :
    (spanned.leaseHeld .spanFences = true ∧ spanned.leaseOver .spanFences = true) ∧
    ((ported { state := .up, agreement := some (agreementOf (some (helloOf 1)) (secretOf 9)) }).leaseHeld (.strait 11) = true ∧
      (ported { state := .up, agreement := some (agreementOf (some (helloOf 1)) (secretOf 9)) }).leaseOver (.strait 11) = true) := by
  decide +kernel

/-! ### Time -/

/-- A time step command (layout of OD 0x7410.01). -/
def stepCommand (mode value applyAt : Nat) : Bytes := leBytes 1 mode ++ List.replicate 7 0 ++ leBytes 8 value ++ leBytes 8 applyAt
/-- A step staged in a session of device time 7 s, confirmed or not. -/
def stepping (c : Bytes) (confirmed : Bool) : State :=
  { opened with time := { opened.time with command := c, staged := true, confirmed := confirmed, status := 1 } }
/-- The plan that runs has a span section. -/
def steppingSpan : State :=
  { stepping (stepCommand 1 0 7000000000) true with fabric := { opened.fabric with plan := some spanPlan } }

theorem test_hyps_TimeStepsApply :
    (opened.accepts cust 0x7410 1 .cust ∧ stepFormOk (stepCommand 2 5 7000000001) = true ∧
      opened.now < stepApplyAt (stepCommand 2 5 7000000001) ∧ stepFormOk (stepCommand 2 5 7000000000) = true ∧
      stepApplyAt (stepCommand 2 5 7000000000) ≤ opened.now ∧ stepFormOk (stepCommand 0 5 8) = false ∧
      stepFormOk (stepCommand 3 5 8) = false) ∧
    (∀ at_ ∈ [7000000001, 67000000000], let s := stepping (stepCommand 1 9 at_) false
      s.accepts aud 0x7410 2 .aud ∧ s.time.staged = true ∧ s.now < stepApplyAt s.time.command ∧
        stepApplyAt s.time.command ≤ s.now + 60000000000 ∧ s.time.confirmed = false) ∧
    (0 : Digest) ≠ sha384 (stepCommand 1 9 7000000001 ++ beBytes 16 0) ∧
    (let s := stepping (stepCommand 1 9000000000 7000000000) true
     s.time.staged = true ∧ s.time.confirmed = true ∧ stepApplyAt s.time.command ≤ s.now ∧ s.stepRefusal = 0 ∧
      s.measure.mrs.length = 32 ∧ s.ret.tokens.length = 3 ∧ s.start.condition.debugClass = false) ∧
    ((steppingSpan.fabric.plan.bind (·.span)).isSome = true ∧ steppingSpan.time.confirmed = true ∧
      stepApplyAt steppingSpan.time.command ≤ steppingSpan.now) ∧
    (let s := stepping (stepCommand 1 6999999999 7000000000) true
     (s.fabric.plan.bind (·.span)).isSome = false ∧ s.od.session ≠ 0 ∧ s.stepResult < s.now) ∧
    (let s := stepping (stepCommand 1 6999999999 7000000000) false
     s.time.staged = true ∧ s.time.confirmed = false ∧ stepApplyAt s.time.command ≤ s.now) := by decide +kernel

/-- TIME_REF has locked 32 us ago, and PTP is enabled. -/
def clocked (pps : Option Nat) : State :=
  { opened with
    ret := { opened.ret with timeRef := 1, ptpEnable := 1 }
    time := { opened.time with refState := 1, lockedAt := some (5000000000 - 32000), lastPps := pps } }

theorem test_hyps_TimeOutputsServe :
    (∀ p ∈ [none, some 4500000000, some 4500000001], (clocked p).timeServed = true ∧ (clocked p).now % 1000000000 = 0 ∧
      (clocked p).time.lastPps ≠ some (clocked p).clock.count) ∧
    (4500000000 + 500000000 ≤ (clocked none).clock.count ∧ (clocked none).clock.count < 4500000001 + 500000000) ∧
    ({} : State).ret.timeSet = false ∧ opened.ret.ptpEnable = 0 ∧
    (opened.accepts opr 0x7420 1 .hOpCu ∧ (3 : Byte).toNat < 4 ∧ 4 ≤ (4 : Byte).toNat) ∧
    ((clocked none).time.refState = 1 ∧ (clocked none).time.lockedAt = some (5000000000 - 32000) ∧
      5000000000 - 32000 + 32000 ≤ (clocked none).clock.count ∧ (clocked none).ret.ptpEnable = 1 ∧
      (true || false) = true) := by decide +kernel

/-! ### The object dictionary -/

/-- The header of a transfer unit: object, TOTAL, OFFSET, SEG_LEN, FLAGS (table of chapter 16), with XID 77. -/
def unitOf (index sub total offset seg flags : Nat) : TuHeader :=
  ⟨BitVec.ofNat 8 sub, BitVec.ofNat 16 index, 77, BitVec.ofNat 32 total, BitVec.ofNat 32 offset, BitVec.ofNat 16 seg,
    BitVec.ofNat 8 flags, 0, 3⟩
/-- An open transfer under XID 77. -/
def openedTu (write : Bool) (index sub : Nat) (data : Bytes) (next total lastTu : Nat) : OpenTransfer :=
  ⟨write, sub, index, 77, total, data, next, lastTu, false⟩
/-- The Operator's channel has a transfer open; a write holds the lock. -/
def transferring (o : OpenTransfer) : State :=
  let s := { opened with od := opened.od.setChannel opr fun c => { c with opened := some o } }
  { s with
    od := { s.od with lock := if o.write then some (opr, s.now) else none }
    ret := { s.ret with lockLease := 1000 } }
/-- Thirty models are listed. -/
def manyModels : State := { opened with hosting := { opened.hosting with models := List.replicate 30 (0, [1]) } }
/-- Another channel holds the lock. -/
def locked : State := { opened with od := { opened.od with lock := some (mb, opened.now) } }

theorem test_hyps_ReadsAnswer :
    (opened.od.channels.length = 13 ∧ opened.asks opr 1 (unitOf 0x3050 1 8 0 0 1) [] ∧
      (opened.touch opr).readsObject opr (unitOf 0x3050 1 8 0 0 1) ∧ (opened.touch opr).openOn opr = none ∧
      ((opened.touch opr).odValue opr 0x3050 1).length ≤ 8) ∧
    (opened.asks opr 1 (unitOf 0x2042 1 8 0 0 1) [] ∧ (opened.touch opr).readsObject opr (unitOf 0x2042 1 8 0 0 1) ∧
      8 < ((opened.touch opr).odValue opr 0x2042 1).length) ∧
    (let s := transferring (openedTu false 0x2042 1 [1, 2] 0 2 4900000000)
     s.od.channels.length = 13 ∧ s.asks opr 1 (unitOf 0x3050 1 8 0 0 1) [] ∧
      (s.touch opr).readsObject opr (unitOf 0x3050 1 8 0 0 1) ∧ ((s.touch opr).openOn opr).isSome = true) ∧
    (opened.asks opr 1 (unitOf 0x1F40 1 8 0 0 1) [] ∧ (opened.touch opr).hasRead opr 0x1F40 1 = false ∧
      (opened.touch opr).notYet 0x1F40 1 = false) ∧
    (opened.asks opr 3 (unitOf 0x2042 1 40 0 0 0) [] ∧ (opened.touch opr).readsObject opr (unitOf 0x2042 1 40 0 0 0) ∧
      (unitOf 0x2042 1 40 0 0 0).offset = 0) ∧
    (manyModels.od.channels.length = 13 ∧ manyModels.asks opr 3 (unitOf 0x5100 4 1400 0 0 0) [] ∧
      (manyModels.touch opr).readsObject opr (unitOf 0x5100 4 1400 0 0 0) ∧
      segLimit opr < (((manyModels.touch opr).odValue opr 0x5100 4).take 1400).length) ∧
    (∀ next ∈ [1280, 2560], let o := openedTu false 0x2042 1 (List.replicate 3000 7) next 3000 4900000000
     let s := transferring o
     s.asks opr 5 (unitOf 0x2042 1 8 next 0 0) [] ∧ (s.touch opr).openOn opr = some o ∧ o.write = false ∧
      o.named (unitOf 0x2042 1 8 next 0 0) = true ∧ (unitOf 0x2042 1 8 next 0 0).offset.toNat = o.next ∧
      s.asks opr 5 (unitOf 0x2042 1 8 0 0 0) [] ∧ o.named (unitOf 0x2042 1 8 0 0 0) = true ∧
      (unitOf 0x2042 1 8 0 0 0).offset.toNat ≠ o.next ∧ o.silent = false) ∧
    (let s := { opened with hosting := { opened.hosting with tdi := .locked } }
     s.channelUp mb = true ∧ s.teeBlocked mb = true) ∧
    (opened.channelUp opr = true ∧ opened.teeBlocked opr = false ∧ opened.tuReaches opr (unitOf 0x2042 1 9 0 0 1) = true ∧
      tuMalformed opr 1 (unitOf 0x2042 1 9 0 0 1) [] = true) := by
  refine ⟨?_, ?_, ?_, ?_, ?_, ?_, ?_, ?_, ?_⟩ <;> decide +kernel

/-- A debug condition of the vendor, with the grant it needs. -/
def vendored : State :=
  { opened with
    otp := { blank with vendorDebug := true }
    start := { opened.start with condition := .vendor }
    causeway := { opened.causeway with
      grant := (5, 10 ^ 18), sessions := opened.causeway.sessions.set 3 { phase := 2, role := .vendorService, certDigest := 5 } } }

theorem test_hyps_WritesApplyWhole :
    (opened.od.channels.length = 13 ∧ opened.asks opr 2 (unitOf 0x4104 1 2 0 2 1) [0xF4, 1] ∧ vendorIndex 0x4104 = false ∧
      opened.writesObject opr (unitOf 0x4104 1 2 0 2 1) ∧ (unitOf 0x4104 1 2 0 2 1).total = 2 ∧
      leNat (segment (unitOf 0x4104 1 2 0 2 1) [0xF4, 1]) ≤ 500) ∧
    (locked.od.channels.length = 13 ∧ locked.asks opr 2 (unitOf 0x4104 1 2 0 2 1) [1, 0] ∧
      (locked.touch opr).writeRight opr 0x4104 1 = true ∧ (locked.touch opr).openOn opr = none ∧
      (locked.touch opr).lockedFor opr 0x4104 1 = true) ∧
    (opened.asks aud 2 (unitOf 0x4104 1 2 0 2 1) [1, 0] ∧ (opened.touch aud).hasWrite aud 0x4104 1 = false ∧
      (opened.touch aud).notYet 0x4104 1 = false) ∧
    (opened.asks opr 4 (unitOf 0x4104 1 3000 0 1000 0) (List.replicate 1000 7) ∧
      opened.writesObject opr (unitOf 0x4104 1 3000 0 1000 0) ∧ (unitOf 0x4104 1 3000 0 1000 0).offset = 0 ∧
      isLast (unitOf 0x4104 1 3000 0 1000 0) = false ∧
      (unitOf 0x4104 1 3000 0 1000 0).segLen.toNat ≤ (unitOf 0x4104 1 3000 0 1000 0).total.toNat) ∧
    (let o := openedTu true 0x4104 1 [1, 2] 0 5 4900000000
     let s := transferring o
     s.od.channels.length = 13 ∧ s.asks opr 5 (unitOf 0x4104 1 5 2 2 0) [3, 4] ∧ (s.touch opr).openOn opr = some o ∧
      o.write = true ∧ o.silent = false ∧ o.named (unitOf 0x4104 1 5 2 2 0) = true ∧
      (unitOf 0x4104 1 5 2 2 0).offset.toNat = o.data.length ∧ isLast (unitOf 0x4104 1 5 2 2 0) = false ∧
      o.data.length + (unitOf 0x4104 1 5 2 2 0).segLen.toNat ≤ o.total ∧
      s.asks opr 6 (unitOf 0x4104 1 5 0 0 0) [] ∧ o.xid = (unitOf 0x4104 1 5 0 0 0).xid.toNat ∧
      s.od.lock = some (opr, s.now)) ∧
    (∀ last ∈ [4000000000, 4000000001], let o := openedTu true 0x4104 1 [1, 2] 0 5 last
     (transferring o).openOn opr = some o) ∧
    (4000000000 + (transferring (openedTu true 0x4104 1 [1, 2] 0 5 4000000000)).ret.lockLease * 1000000 ≤ opened.clock.count ∧
      opened.clock.count < 4000000001 + (transferring (openedTu true 0x4104 1 [1, 2] 0 5 0)).ret.lockLease * 1000000) ∧
    (vendored.od.channels.length = 13 ∧ (∀ i ∈ [0xF000, 0xFFFF], vendorIndex i = true ∧ vendored.writeRight vend i 1 = true ∧
      vendored.lockedFor vend i 1 = false) ∧ vendored.channelUp vend = true ∧ vendored.teeBlocked vend = false ∧
      vendored.openOn vend = none) := by
  refine ⟨?_, ?_, ?_, ?_, ?_, ?_, ?_, ?_⟩ <;> decide +kernel

/-- A secured session is established. -/
def inSecured : State :=
  { opened with hosting := { opened.hosting with sessions := [{ phase := 2 }, {}, {}, { phase := 2 }], spdmPhase := 3 } }

theorem test_hyps_RegistersTake :
    (opened.channelUp cust = true ∧ opened.teeBlocked cust = false ∧ opened.writeRight cust 0x3050 1 = true ∧
      opened.openOn cust = none ∧ opened.lockedOut cust = false) ∧
    (∀ v ∈ [60, 85], ([BitVec.ofNat 8 v] : Bytes).length = 1 ∧ 60 ≤ leNat [BitVec.ofNat 8 v] ∧ leNat [BitVec.ofNat 8 v] ≤ 85) ∧
    (leNat [59] < 60 ∧ 85 < leNat [86] ∧ ([] : Bytes).length ≠ 1) ∧
    (opened.hostReaches false ∧ (8192 : BitVec 64).toNat % 4096 = 0 ∧ (opened.measure.ring .receipt).enabled = false ∧
      SMap.wf (0, 0, true) opened.host.msix = true ∧ ringed.hostReaches false ∧
      (ringed.measure.ring .receipt).enabled = true) ∧
    (opened.pins.pcieUp = true ∧ opened.host.d3hot = false ∧ opened.hosting.tdi = .unlocked ∧
      (secured .locked).pins.pcieUp = true ∧ (secured .locked).hosting.tdi = .locked ∧
      ((secured .locked).host.ats, (secured .locked).host.busMaster) ≠ (true, true)) ∧
    (∀ i : Fin 4, i = 0 ∨ i = 3 → inSecured.inSession i.val ∧ inSecured.hosting.sessions.length = 4 ∧
      inSecured.od.channels.length = 13 ∧ inSecured.asks (.spdm i) (1 : Byte).toNat (unitOf 0x3050 1 8 0 0 1) []) := by decide +kernel

/-- A session with models and a region, an Alias to sign with, and nothing left to drain; with a tide or not. -/
def closing (t : Option Tide) : State :=
  { auditing with
    hosting := { opened.hosting with models := [(5, [1])] }
    ret := { opened.ret with regions := [(5, ⟨2, 0, 3, .allocated, 1⟩)] }
    fabric := { opened.fabric with tide := t } }

theorem test_hyps_SessionsOpenAndClose :
    (ready.accepts mb 0x1400 1 .hCu ∧ ready.openCode = 0 ∧ ready.od.session = 0) ∧
    (opened.accepts mb 0x1400 1 .hCu ∧ opened.openCode ≠ 0) ∧
    ((closing none).accepts mb 0x1400 1 .hCu ∧ (closing none).od.session = 1 ∧ planeCode mb = (closing none).od.owner ∧
      (closing none).host.subs = [] ∧ (closing none).fabric.tide = none ∧ (closing none).aliasExists = true ∧
      (closing none).measure.signing = none ∧ (closing none).measure.checkpoints.length < 16) ∧
    ((closing none).accepts cust 0x1400 1 .hCu ∧ (closing none).roleOf cust = some .custodian) ∧
    ((closing (some smallTide)).accepts mb 0x1400 1 .hCu ∧ (closing (some smallTide)).fabric.tide.isSome = true) ∧
    (let s := { opened with od := { opened.od with owner := 2 } }
     s.accepts mb 0x1400 1 .hCu ∧ s.od.session = 1 ∧ planeCode mb ≠ s.od.owner ∧ s.roleOf mb ≠ some .custodian) := by
  decide +kernel

/-! ### The Causeway -/

/-- A CA slot closed, session 7 set up to the client's turn, session 0 idle and full. -/
def causewayed : State :=
  { opened with
    otp := { blank with caSlots := some (CaSlot.ofAnchor 5) :: List.replicate 7 none }
    ret := { opened.ret with idleLimit := 1, stagedCa := some (9, opened.clock.count) }
    causeway := { opened.causeway with
      sessions := ((opened.causeway.sessions.set 7 { phase := 1, role := .auditor, anchorSlot := 0 }).set 5
        { phase := 1, role := .custodian, anchorSlot := 8, anchor := some 9 }).set 0
        { phase := 2, role := .operator, lastFrame := 4000000000, framesIn := 2 ^ 32 } } }
/-- A frame of a session under a SEQ. -/
def cwFrame (session : Fin 8) (seq : BitVec 64) (intact : Bool := true) (dest : CwDest := .device) : CwFrame :=
  ⟨dest, session, seq, intact⟩
/-- A C-HELLO valid for this nanosecond. -/
def clientHello : ClientHello := ⟨.device, true, true, 0, 7000000000, 7000000000, some .operator, 77, [1]⟩

theorem test_hyps_CausewaySessionsLive :
    causewayed.causeway.sessions.length = 8 ∧ causewayed.causewayUp = true ∧
    ({ causewayed with start := { causewayed.start with halt := .fuse } } : State).start.halt = .fuse ∧
    causewayed.helloCode clientHello = 0 ∧ causewayed.helloCode { clientHello with role := none } ≠ 0 ∧
    (causewayed.hears (cwFrame 7 1) = true ∧ (causewayed.causeway.session 7).phase = 1 ∧
      (causewayed.causeway.session 7).accepts (cwFrame 7 1) = true ∧ (causewayed.causeway.session 7).anchor = none ∧
      causewayed.anchorStands (causewayed.causeway.session 7) = true ∧
      (causewayed.causeway.session 7).accepts (cwFrame 7 2) = false ∧
      (causewayed.causeway.session 7).accepts (cwFrame 7 1 false) = false ∧
      causewayed.hears (cwFrame 7 1 true .broadcast) = false) ∧
    ((causewayed.causeway.session 5).phase = 1 ∧ (causewayed.causeway.session 5).accepts (cwFrame 5 1) = true ∧
      (causewayed.causeway.session 5).anchor = some 9 ∧ causewayed.anchorStands (causewayed.causeway.session 5) = true ∧
      causewayed.otp.freeSlot = some 1 ∧
      ({ causewayed with ret := { causewayed.ret with stagedCa := none } } : State).anchorStands
        (causewayed.causeway.session 5) = false) ∧
    (causewayed.causeway.session 0).accepts (cwFrame 0 (2 ^ 32 + 1)) = true ∧ causewayed.otp.caSlots.length = 8 ∧
    CwDest.device ≠ .other ∧ CwDest.other ≠ .device ∧
    (causewayed.causeway.fw = none ∧ (causewayed.causeway.session 0).phase = 2 ∧
      (causewayed.causeway.session 0).lastFrame + causewayed.ret.idleLimit * 1000000000 ≤ causewayed.clock.count ∧
      2 ^ 32 ≤ (causewayed.causeway.session 0).framesIn ∧ (causewayed.causeway.session 6).phase = 0) ∧
    (causewayed.accepts cust 0x7820 1 .cust ∧
      (BitVec.ofNat 64 (causewayed.now + 8 * 3600 * 1000000000)).toNat ≤ causewayed.now + 8 * 3600 * 1000000000 ∧
      causewayed.now + 8 * 3600 * 1000000000 < (BitVec.ofNat 64 (causewayed.now + 8 * 3600 * 1000000000 + 1)).toNat) := by
  decide +kernel

/-- A firmware transfer of 3,000 octets from session 0. -/
def fwOf (data frames last : Nat) : FwTransfer := ⟨0, 3000, List.replicate data 5, frames, last, false⟩
/-- It is in progress. -/
def fwState (x : FwTransfer) : State := { opened with causeway := { opened.causeway with fw := some x } }
/-- Three budgets, one of them at its end. -/
def budgeted : State :=
  { opened with causeway := { opened.causeway with
      budgets := [⟨0, 5, 2600, 10 ^ 10⟩, ⟨2, 5, 1000, 10 ^ 10⟩, ⟨2, 6, 950, 5000000000⟩] } }

theorem test_hyps_TransfersAndBudgets :
    (opened.hears (cwFrame 0 1) = true ∧ (opened.causeway.session 0).phase = 2 ∧
      (opened.causeway.session 0).accepts (cwFrame 0 1) = true ∧
      roleCommands (opened.causeway.session 0).role = true ∧ opened.deliveryBusy = false ∧
      (33554432 : BitVec 32).toNat ≤ 32 * 1048576) ∧
    (∀ n ∈ [1, 1280], let s := fwState (fwOf 5 15 0)
     s.hears (cwFrame 0 1) = true ∧ (s.causeway.session 0).phase = 2 ∧ (s.causeway.session 0).accepts (cwFrame 0 1) = true ∧ s.deliveryBusy = true ∧ s.causeway.fw = some (fwOf 5 15 0) ∧
      (fwOf 5 15 0).session = 0 ∧ (fwOf 5 15 0).ended = false ∧ (5 : BitVec 32).toNat = (fwOf 5 15 0).data.length ∧ 1 ≤ n ∧
      n ≤ 1280 ∧ (5 : BitVec 32).toNat + n ≤ (fwOf 5 15 0).total ∧ (fwOf 5 15 0).data.length + n < setHeadSize ∧
      ((fwOf 5 15 0).frames + 1) % 16 = 0) ∧
    ((4 : BitVec 32).toNat ≠ (fwOf 5 15 0).data.length ∧ ([] : Bytes).length = 0 ∧
      1280 < (List.replicate 1281 (1 : Byte)).length) ∧
    (fwOf 3000 4 0).data.length = (fwOf 3000 4 0).total ∧
    ((fwOf 5 15 0).lastFrame + 5000000000 ≤ (fwState (fwOf 5 15 0)).clock.count ∧ (fwState (fwOf 5 15 0)).up = true ∧
      (fwState (fwOf 5 15 1)).clock.count < (fwOf 5 15 1).lastFrame + 5000000000) ∧
    (budgeted.hears (cwFrame 0 1) = true ∧ (budgeted.causeway.session 0).phase = 2 ∧
      (budgeted.causeway.session 0).accepts (cwFrame 0 1) = true ∧ (budgeted.causeway.session 1).accepts (cwFrame 1 1) = true ∧
      roleCommands (budgeted.causeway.session 0).role = true ∧ (∀ b ∈ [900, 2600], 900 ≤ b ∧ b ≤ 2600) ∧ (∀ v ∈ [100, 60000], 100 ≤ v ∧ v ≤ 60000) ∧
      (∀ b ∈ [899, 2601], ¬(900 ≤ b ∧ b ≤ 2600)) ∧ (∀ v ∈ [99, 60001], ¬(100 ≤ v ∧ v ≤ 60000)) ∧ (budgeted.causeway.session 1).phase = 2 ∧
      roleCommands (budgeted.causeway.session 1).role = false) := by decide +kernel

/-! ### Power, dies, faults, lifecycle -/

/-- The small plan's die in a state, in a plan of minimum floor 2,000. -/
def powered (d : Die) : State :=
  { opened with fabric := { opened.fabric with
      dies := opened.fabric.dies.set 11 d
      plan := some { smallPlan with cert := ⟨100, 0, 1000, 2000, [100], 0⟩ } } }
/-- The target of R533 in the units of its comparison. -/
def rateTarget (s : State) : Nat := 2000 * (1000 + s.ret.margin) * (1000 + s.ret.headroom)
/-- Every governor in a state, with its firings. -/
def governed (g : Governor) : State := { opened with power := { opened.power with governors := List.replicate 13 g } }

theorem test_hyps_LoopsSetTheRails :
    (opened.fabric.dies.length = 12 ∧ (∀ n ∈ [0, 11], (opened.governor (n + 1)).state = .running ∧
      (opened.fabric.die n).online = true ∧ (opened.fabric.die n).vfabOn = true ∧ opened.fabric.planDie n = false)) ∧
    (let s := powered { litDie with allocation := 100000 }
     let d := s.fabric.die 11
     s.fabric.dies.length = 12 ∧ s.fabric.planDie 11 = true ∧ (s.governor 12).state = .running ∧ d.online = true ∧
      d.vfabOn = true ∧ d.allocation < 101 * 1000 ∧ 97 * 100000 < d.allocation * 98 ∧ 100 * 1000 ≤ d.allocation ∧
      d.allocation * 98 ≤ 98 * 100000) ∧
    (∀ slack ∈ [700, 701], let s := powered { litDie with rate := 0, slack := slack }
     (s.fabric.die 11).rate * 1000000 < rateTarget s ∧
      ((s.fabric.die 11).slack ≤ (s.fabric.die 11).setpoint ↔ slack = 700)) ∧
    (let s := powered { litDie with rate := 2 ^ 20 }
     rateTarget s * 102 < (s.fabric.die 11).rate * 100000000) ∧
    (let s := powered { litDie with rate := (2000 * (1000 + opened.ret.margin) * (1000 + opened.ret.headroom) + 999999) / 1000000 }
     rateTarget s ≤ (s.fabric.die 11).rate * 1000000 ∧ (s.fabric.die 11).rate * 100000000 ≤ rateTarget s * 102) ∧
    ((95000 : Int) ≤ ((powered { litDie with temperature := 95000 }).fabric.die 11).temperature) ∧
    ((opened.ret.thermalTarget : Int) * 1000 + ((1 : Nat) - 1) * 1000 < (opened.ret.thermalTarget : Int) * 1000 + 1000 ∧
      (opened.ret.thermalTarget : Int) * 1000 + 1000 < 95000) ∧
    (60000 : Int) < (opened.ret.thermalTarget : Int) * 1000 - 1000 ∧
    ((governed { state := .restarting }).governor 12).state ≠ .running ∧
    ((opened.governor 0).state = .running ∧ opened.up = true) := by decide +kernel

/-- Die 11's governor has failed; its stream, port and cluster are in use. -/
def failing : State :=
  { powered litDie with
    power := { opened.power with governors := opened.power.governors.set 12 { state := .failed } }
    pins := { opened.pins with vhub := true } }

/-- Die 11 at its trip, 1 ms after a fold-back. -/
def hot : State :=
  powered { litDie with sensors := [105000, 105001, 104000, 103000], foldedAt := some 4999000000 }
/-- The hub at its trip. -/
def hotHub : State := { fusedOpen with monitors := { fusedOpen.monitors with hubSensors := [105000, 105000] } }

theorem test_hyps_BackstopsAct_shapes : hot.shapes ∧ (governed {}).shapes ∧ (governed { state := .restarting }).shapes ∧ failing.shapes :=
  ⟨(inv_of_check (by decide +kernel)).1, (inv_of_check (by decide +kernel)).1, (inv_of_check (by decide +kernel)).1, (inv_of_check (by decide +kernel)).1⟩
theorem test_hyps_BackstopsAct :
    (∀ g ∈ [0, 12], ((governed {}).governor g).state = .running ∧ (governed {}).start.step12 = true ∧
      ((governed {}).governor g).commandAt + 2000000 ≤ (governed {}).clock.count ∧
      (governed {}).clock.count < ((governed { commandAt := 4999000000 }).governor g).commandAt + 2000000 ∧
      (recentFirings ((governed {}).governor g) (governed {}).clock.count).length < 3 ∧
      ((governed { firings := [4999999999, 4000000000] }).governor g).state = .running ∧
      3 ≤ (recentFirings ((governed { firings := [4999999999, 4000000000] }).governor g) (governed {}).clock.count).length ∧
      ((governed { state := .restarting }).governor g).state = .restarting) ∧
    (((failing.fabric.die 11).online = true ∧ tripped (failing.fabric.die 11).sensors = false) ∧
      (tripped [105000, 105001, 104000, 103000] = true ∧ (hot.fabric.die 11).online = true ∧
        tripped (hot.fabric.die 11).sensors = true ∧ (hot.fabric.die 11).foldedAt = some 4999000000 ∧
        4999000000 + 1000000 ≤ hot.clock.count ∧ (4999999999 : Nat) < 4999000000 + 1000000 ∧
        (failing.fabric.die 11).foldedAt = none)) ∧
    ((failing.fabric.die 11).online = true ∧ (failing.governor 12).state = .failed ∧ failing.fabric.tide = none) ∧
    (hotHub.pins.vhub = true ∧ tripped hotHub.monitors.hubSensors = true ∧ hotHub.resettable = true ∧ cleanStart hotHub.silicon) := by decide +kernel
theorem test_hyps_BackstopsAct_hub : hotHub.shapes ∧ hotHub.otp.serviceable :=
  ⟨(inv_of_check (by decide +kernel)).1, fused_serviceable⟩

/-- Swaps due on die 11, spares used up to a place, with a tide or not. -/
def swapping (due used : List Nat) (t : Option Tide) : State :=
  { powered { litDie with swaps := due } with
    fabric := { (powered { litDie with swaps := due }).fabric with tide := t }
    ret := { opened.ret with coreState := used.map fun p => (physKey 11 p, 2) } }

theorem test_hyps_CoresAreSwapped_shapes :
    (swapping [4] [101] (some smallTide)).shapes ∧ (swapping [4] [100, 101, 102, 103] (some smallTide)).shapes ∧
      (swapping [6, 99] [100] none).shapes :=
  ⟨(inv_of_check (by decide +kernel)).1, (inv_of_check (by decide +kernel)).1, (inv_of_check (by decide +kernel)).1⟩
theorem test_hyps_CoresAreSwapped :
    (let s := swapping [4] [101] (some smallTide)
     dieOf 1199 = 11 ∧ (s.fabric.die 11).online = true ∧ (s.fabric.die 11).swaps.contains (1199 % 100) = false ∧
      (s.fabric.die 11).swaps = [4] ∧ (s.fabric.die 11).awaiting 99 = [4, 99] ∧
      (s.fabric.die 11).awaiting 3 = [3, 4] ∧ (s.fabric.die 11).swaps.Pairwise (· ≤ ·) ∧ (s.fabric.die 11).swaps.length < (s.ret.spares 11).length ∧
      s.fabric.tide = some smallTide ∧ s.fabric.streamsOfCore 1199 ≠ []) ∧
    (let s := swapping [4] [100, 101, 102, 103] (some smallTide)
     (s.fabric.die 11).swaps.contains (1199 % 100) = false ∧ s.ret.stateOf 11 (s.ret.physOf 1199) ≠ 2 ∧
      (s.ret.spares 11).length ≤ (s.fabric.die 11).swaps.length ∧ s.fabric.tide.isSome = true) ∧
    (let s := swapping [6, 99] [100] none
     s.fabric.tide = none ∧ (s.governor 12).state = .running ∧ (s.fabric.die 11).online = true ∧
      (s.fabric.die 11).swaps = 6 :: [99] ∧ (s.ret.spares 11).head? = some 101 ∧ 6 < 100 ∧ 100 ≤ 101 ∧
      s.ret.physOf (100 * 11 + 6) ≠ 101) := by decide +kernel

/-- Two records wait, with some lost or none; the last record of stack 11 was at a time. -/
def recorded (overflow : Option (Nat × Nat)) (at_ : Option Nat) : State :=
  { opened with faults := { opened.faults with
      queue := [{ code := 5, unit := 1, time := 0 }, { code := 6, time := 0 }], overflow := overflow
      poisonAt := opened.faults.poisonAt.set 11 at_ } }

theorem test_hyps_FaultsAreRecorded_inv : (recorded none none).Inv ∧ (recorded (some (3, 4)) (some 4000000001)).Inv :=
  ⟨inv_of_check (by decide +kernel), inv_of_check (by decide +kernel)⟩
theorem test_hyps_FaultsAreRecorded :
    2 ^ 29 - 1 < 2 ^ 29 ∧
    ((recorded (some (3, 4)) (some 4000000001)).faults.poisonAt.getD 11 none = some 4000000001 ∧
      (recorded (some (3, 4)) (some 4000000001)).clock.count < 4000000001 + 1000000000) ∧
    ((recorded none none).faults.poisonAt.getD 11 none = none ∧ (recorded none none).faults.overflow = none ∧
      (recorded none none).faults.queue.length < 64) ∧
    (recorded none none).faults.queue = { code := 5, unit := 1, time := 0 } :: [{ code := 6, time := 0 }] ∧
    (recorded (some (3, 4)) none).faults.overflow = some (3, 4) := by decide +kernel

/-- READY with no session in the field; a lifecycle step staged one second ago. -/
def retiring (step : Nat) : State :=
  { ready with otp := { blank with lifecycle := ⟨1, 1⟩ }, faults := { ready.faults with lifecycleStaged := some (step, 4000000000) } }

theorem test_hyps_LifecycleTakesTwo :
    cleanStart (retiring 2).silicon ∧ (retiring 2).otp.lifecycle.sound = true ∧ (retiring 2).accepts cust 0x2003 2 .cust ∧
    (1 : Byte) ≠ 2 ∧ (1 : Byte) ≠ 3 ∧ (4 : Byte) ≠ 3 ∧ (retiring 2).accepts aud 0x2003 3 .aud ∧
    (∀ v ∈ [2, 3], (retiring v).lifecycleVerdict v true = 0) ∧ (retiring 2).lifecycleVerdict 3 true ≠ 0 ∧
    (retiring 3).lifecycleVerdict 3 false ≠ 0 := by decide +kernel

/-! ### The test access port and the block -/

theorem test_hyps_TheTapSelects :
    (opened.tapUp = true ∧ opened.start.condition.debugClass = false) ∧
    (let s := { opened with start := { opened.start with condition := .debug } }
     s.tapUp = true ∧ s.start.condition.debugClass = true ∧ s.up = true) ∧
    ({} : State).tapUp = false := by decide +kernel

theorem test_hyps_StepRunsFrontCommand : ready.pending = [] := rfl
theorem test_hyps_StepKeepsForm :
    ready.Inv ∧ (∃ t, step { ready with pending := [.mainValid] } = .next t) ∧ ∃ t, step ready = .next t :=
  ⟨inv_of_check (by decide +kernel), ⟨_, rfl⟩, ⟨_, rfl⟩⟩
theorem test_hyps_FusesOnlyGrow : ∃ t, step { running with pending := [.svnCommit cust 3] } = .next t := ⟨_, rfl⟩

/-! ### Well-formed commands: one ill-formed term per check -/

/-- A header, with reserved octets. -/
def markedHeader : TuHeader := { unitOf 0x2042 1 8 0 0 0 with zero := 1 }
/-- Octets, a number of them. -/
def zeros (n : Nat) : Bytes := List.replicate n 0
/-- A frame's unit of a length. -/
def flitOf (n : Nat) : FrameUnit := ⟨1, 1, 0, 0, zeros n⟩

theorem test_illFormed_lengths :
    (∀ i ∈ [Instr.caStage mb (zeros 95), .importCtx 0 (zeros 327), .keyExchange (zeros 95), .encap 0 (zeros 1087),
        .timeStepStage mb (zeros 23), .provisioning 0 false (zeros 95), .tenantExtend mb 16 [], .tenantExtend mb 16 (zeros 257),
        .evidenceRequest mb (zeros 7), .evidenceRequest mb (zeros 65), .fwData (cwFrame 0 1) 0 (zeros 1281) true true,
        .soundUnitArrive ⟨0, 0, zeros 257, false⟩, .hello 0 (helloOf 1), .dataFrame 0 (frameOf 0 false true true [flitOf 255]),
        .hostDelivery mb 0 0 { setImage with manifest := zeros 449 }, .vendorDefinedRequest 0 1 (unitOf 0x2042 1 8 0 0 0) (zeros 3841),
        .writeShort mb (unitOf 0x2042 1 8 0 0 0) (zeros 3841), .objectWrite (.mbHeader false 1 (zeros 32)),
        .objectWrite (.mbData false 1 (zeros 3840)), .updateCheckDone []], Instr.wellFormed i = false) := by decide +kernel
theorem test_illFormed_longLengths (i : Instr) :
    i ∈ [Instr.idevidCertCopyWrite mb (zeros 16385), .idevidCertificateReturn (zeros 16385), .compare 0 (zeros 65536),
      .extend 0 0 (zeros 65536), .recordFetchDone 0 (zeros 65537), .itemVerified (zeros 8388609) 0 0,
      .consentTokenSubmit mb { consentToken .debug 1 with raw := zeros 8193 }, .boundBundleLoad mb 0 0 (some (zeros 5243009)),
      .objectWrite (.od mb 0 0 (zeros 65537))] → i.wellFormed = false := by
  intro h
  simp only [List.mem_cons, List.not_mem_nil, or_false] at h
  rcases h with h | h | h | h | h | h | h | h | h <;> subst h <;> simp only [Instr.wellFormed, zeros, List.length_replicate, Option.getD_some] <;> rfl
theorem test_illFormed_fields :
    (∀ i ∈ [Instr.coldStart { calm with pufFailures := 4 }, .mainLoss { calm with entropyFailures := 4 },
        .modResetAssert 0 false { calm with pufFailures := 4 }, .warmResetRequest mb 0 { calm with pufFailures := 4 },
        .digestStart 0 (jobOf 0 false 0), .digestStart 0 (jobOf 6 false 0), .wmac .long ⟨false, false, false, false⟩ 0x900 0 0,
        .lmac .long ⟨false, false, false, false⟩ 0 0x900 0, .keyload .long 0x7FF, .paceMonitorWindow 0 [1],
        .temperatureSample 0 [1], .temperatureSample 12 readings, .ringConfigWrite mb (ringCfg 0 3 1),
        .ringConfigWrite mb { ringCfg 0 4 1 with stream := 64 }, .readShort mb markedHeader, .writeShort mb markedHeader [],
        .writeLong mb markedHeader [], .continueTu mb markedHeader [], .powerCapStep 0 0 []], Instr.wellFormed i = false) ∧
    (∀ i ∈ [Instr.coldStart calm, .caStage mb (zeros 96), .keyload .long 0x800, .ringConfigWrite mb (ringCfg 0 16 1),
        .readShort mb (unitOf 0x2042 1 8 0 0 0), .bypass], Instr.wellFormed i = true) := by decide +kernel

/-! ### The worked cases of the specification -/

/-- A command has answered a next state of which this holds. -/
def leaves (o : Host.Outcome State Fault Refusal) (p : State → Bool) : Bool :=
  match o with
  | .next t => p t
  | _ => false

/-- Case "one bit-serial row" (08): F = -19. -/
theorem test_footOfCase : footValue 0 [3 * -3, -2 * 5] = (-19, false) := by decide
/-- Case "requantisation with ties and saturation" (08). -/
theorem test_requantisationOfCase :
    [2048, 6144, -2048, 91000, 96000].map (fun x => requantise x 1441792 29 0 false 8) =
      [(6, false), (16, false), (0, true), (244, false), (255, true)] := by decide
/-- Case "a sigmoid lookup" (08): y = 37,647. -/
theorem test_lookupOfCase :
    lookup ((List.replicate 256 0).set 132 36843 |>.set 133 37847) (-32768) 8 1229 = 37647 := by decide +kernel
/-- Case "softmax of three scores" (08). -/
theorem test_softmaxOfCase :
    softmax [6144, 2048, -4096]
      ⟨-255 * 256, 8, (List.replicate 256 0).set 255 65536 |>.set 239 24109 |>.set 215 5380⟩
      ⟨0, 23, (List.replicate 256 0).set 115 740910800 |>.set 116 738919105⟩ = ([45198, 16627, 3710], false) := by decide +kernel
/-- Case "a burst neuron crosses its threshold" (12): CH0, LAST_T and the two spikes after the event. -/
theorem test_shoalEventOfCase :
    (leaves (exec (.shoalEventApply 4) (eventful (workedEvent 1 0))) fun t => decide (
      channelOf ((t.shoal.cluster 4).record 0x01F00D2A) 0 = 158574 ∧
         field ((t.shoal.cluster 4).record 0x01F00D2A) 320 48 = 108858424365005 ∧
         (t.shoal.pending.map fun x => (x.nid, x.mag, x.chmask, x.suborder)) =
           [(0x10000A10, -2, 1, 0x01030100), (0x38123456, 5, 2, 0x01030000)])) = true := by decide +kernel
/-- Case "a short write and a long read over the mailbox" (16): OD 0x4104.01 takes 50 and the answer is 0x82 with result 0. -/
theorem test_shortWriteOfCase :
    (leaves (exec (.writeShort mb ⟨1, 0x4104, 7, 2, 0, 2, 1, 0, 0x12⟩ [0x32, 0]) { opened with od := { opened.od with doorbell := 0x11, done := 0x11 } }) fun t => decide (
      t.ret.margin = 50 ∧ t.od.done = 0x12 ∧ t.od.lock = none ∧
         ((t.od.channel mb).response.map fun r => (r.result, r.total)) = some (0, 2))) = true := by decide +kernel
/-- Case "two gaps with the default threshold" (03): 64 ballast beats, then the array quiesces. -/
theorem test_ballastOfCase :
    (leaves (exec (.ballastThresholdReached 0 0) ready) fun t => decide (
      (t.fabric.die 0).ballast = 64 ∧ ((t.fabric.core 0).arrays.getD 0 {}).quiesced = true)) = true := by decide +kernel
/-- A SCORE entry takes the next ingest number and the lowest tag (R18, R311). -/
theorem test_scoreTakesNumber :
    (leaves (exec (.score 2 (sqWord 1 96 1 0) true) submitted) fun t => decide (
      ((t.host.sub 2).map fun x => (x.seq, x.inputLen, x.cookie)) = some (100, 96, 0xABCD) ∧ t.ret.nextSeq = 101 ∧
         (t.host.ring 2).sqHead = 2)) = true := by decide +kernel

/-- The published digests of "abc" (FIPS 180-4, FIPS 202). -/
theorem test_digestsOfAbc :
    beNat (hash .sha384 (ascii "abc")) =
      0xcb00753f45a35e8bb5a03d699ac65007272c32ab0eded1631a8b605a43ff5bed8086072ba1e7cc2358baeca134c825a7 ∧
    beNat (hash .sha256 (ascii "abc")) = 0xba7816bf8f01cfea414140de5dae2223b00361a396177a9cb410ff61f20015ad ∧
    beNat (hash .sha3_256 (ascii "abc")) = 0x3a985da74fe225b2045c172d6bd390bd855f086e3e9d525b46bfe24511431532 := by decide +kernel

/-- P-384: the abscissa of twice the base point (published point-multiplication vectors of the NIST curves). -/
theorem test_doublesBasePoint : (p384.affine (p384.mul 2 p384.base)).map (·.1) =
    some 0x08d999057ba3d2d969260045c55b97f089025959a6f434d651d207d19fb96e9e4fe0e86ebe0e64f85b96a9c75295df61 := by decide +kernel
/-- The prime tests of R168 on published cases: (1001 / 9907) = -1, 2047 = 23 · 89 strongly probable to base 2 and not 3, 5459 the first
strong Lucas pseudoprime. -/
theorem test_primeTestsOfCases :
    (jacobi 100 1001 9907, millerRound 2047 2, millerRound 2047 3, lucasProbable 5459, lucasProbable 5461, lucasProbable 9973) =
      (-1, true, false, true, false, true) := by decide +kernel
/-- Worked values of FIPS 197 (4.2, 5.1.1) and of RFC 8949, appendix A. -/
theorem test_aesAndCborOfCases :
    gmul 0x57 0x83 = 0xC1 ∧ sbox 0x53 = 0xED ∧ invSbox 0xED = 0x53 ∧ cborUint 1000000 = [0x1A, 0x00, 0x0F, 0x42, 0x40] ∧
    cborInt (-1000) = [0x39, 0x03, 0xE7] ∧ cborArr [cborUint 1, cborUint 2, cborUint 3] = [0x83, 1, 2, 3] := by decide +kernel

end Sys2Proof.Tests
end

section
/-! SUPPORT. The fuses (04, "The OTP store"): a sound thermometer as a count, what a blown step leaves, and what a start from ROM may
blow. -/

namespace Sys2Proof.Machine

/-! ### A sound thermometer is a count (R75) -/

/-- A number that shares no bit with its successor has its low bits set and no other. -/
theorem exists_eq_two_pow_sub_one_of_and_succ (x : Nat) (h : x &&& (x + 1) = 0) : ∃ c, x = 2 ^ c - 1 := by
  induction x using Nat.strongRecOn with
  | ind x ih =>
    have hhalf : x / 2 &&& (x + 1) / 2 = 0 := by rw [← Nat.and_div_two, h]
    rcases Nat.even_or_odd' x with ⟨y, rfl | rfl⟩
    · rw [show 2 * y / 2 = y by omega, show (2 * y + 1) / 2 = y by omega, Nat.and_self] at hhalf
      exact ⟨0, by omega⟩
    · rw [show (2 * y + 1) / 2 = y by omega, show (2 * y + 1 + 1) / 2 = y + 1 by omega] at hhalf
      obtain ⟨c, hc⟩ := ih y (by omega) hhalf
      have hpos := Nat.two_pow_pos c
      exact ⟨c + 1, by rw [Nat.pow_succ]; omega⟩

/-- The same of a rail: its steps are those below a number. -/
theorem exists_getLsbD_eq_of_and_succ (a : BitVec 64) (h : a &&& (a + 1) = 0) :
    ∃ c, c ≤ 64 ∧ ∀ k, a.getLsbD k = decide (k < c) := by
  have hlow : a.toNat &&& (a.toNat + 1) = 0 := by
    by_cases hfull : a.toNat + 1 = 2 ^ 64
    · rw [hfull, show a.toNat = 2 ^ 64 - 1 by omega]; rfl
    · have h0 := congrArg BitVec.toNat h
      rwa [BitVec.toNat_and, BitVec.toNat_add, show (1 : BitVec 64).toNat = 1 from rfl, Nat.mod_eq_of_lt (by omega)] at h0
  obtain ⟨c, hc⟩ := exists_eq_two_pow_sub_one_of_and_succ _ hlow
  refine ⟨c, (Nat.pow_le_pow_iff_right (a := 2) (by omega)).1 (by omega), fun k => ?_⟩
  rw [← BitVec.testBit_toNat, hc, Nat.testBit_two_pow_sub_one]

/-- The steps of a sound thermometer are those below a number. -/
theorem Thermo.exists_taken_eq_of_sound (t : Thermo) (h : t.sound = true) :
    ∃ c, c ≤ 64 ∧ ∀ k, t.taken k = decide (k < c) := by
  simp only [Thermo.sound, Bool.and_eq_true, beq_iff_eq] at h
  obtain ⟨hrails, hlow⟩ := h
  obtain ⟨c, hc, hk⟩ := exists_getLsbD_eq_of_and_succ _ hlow
  exact ⟨c, hc, fun k => by rw [Thermo.taken, ← hrails, Bool.and_self, hk]⟩

/-- The numbers below a bound, read until a predicate that holds of the first `c` fails. -/
theorem takeWhile_range {p : Nat → Bool} {c n : Nat} (hc : c ≤ n) (h : ∀ k, k < n → p k = decide (k < c)) :
    (List.range n).takeWhile p = List.range c := by
  obtain ⟨m, rfl⟩ := Nat.exists_eq_add_of_le hc
  rw [List.range_add, List.takeWhile_append_of_pos, List.append_right_eq_self]
  · cases m with
    | zero => rfl
    | succ m => simp [List.range_succ_eq_map, h]
  · intro k hk
    have hk : k < c := List.mem_range.1 hk
    simp [h k (by omega), hk]

theorem Thermo.count_eq_of_taken (t : Thermo) (c : Nat) (hc : c ≤ 64) (h : ∀ k, t.taken k = decide (k < c)) : t.count = c := by
  rw [Thermo.count, takeWhile_range hc fun k _ => h k, List.length_range]

/-- The first step taken makes a count. -/
theorem Thermo.count_pos_of_taken (t : Thermo) (h : t.taken 0 = true) : 1 ≤ t.count := by
  rw [Thermo.count, List.range_succ_eq_map, List.takeWhile_cons, if_pos h]
  simp

/-! ### Steps blown (R129, R556) -/

theorem Thermo.taken_blow (t : Thermo) (j k : Nat) (hj : j < 64) : (t.blow j).taken k = (t.taken k || decide (k = j)) := by
  simp only [Thermo.taken, Thermo.blow, BitVec.getLsbD_or, BitVec.getLsbD_ofNat, Nat.testBit_two_pow]
  by_cases h : k = j
  · simp [h, hj]
  · simp [h, Ne.symm h]

theorem Thermo.raiseTo_succ (t : Thermo) (n : Nat) : t.raiseTo (n + 1) = (t.raiseTo n).blow n := by
  simp [Thermo.raiseTo, List.range_succ]

theorem Thermo.taken_raiseTo (t : Thermo) (n k : Nat) (hn : n ≤ 64) :
    (t.raiseTo n).taken k = (t.taken k || decide (k < n)) := by
  induction n with
  | zero => simp [Thermo.raiseTo]
  | succ n ih =>
    rw [Thermo.raiseTo_succ, Thermo.taken_blow _ _ _ (by omega), ih (by omega), Bool.or_assoc, ← Bool.decide_or]
    simp only [Nat.lt_succ_iff_lt_or_eq]

/-- A sound thermometer raised above its count counts what it was raised to. -/
theorem Thermo.count_raiseTo (t : Thermo) (n : Nat) (hs : t.sound = true) (hlt : t.count < n) (hn : n ≤ 64) :
    (t.raiseTo n).count = n := by
  obtain ⟨c, hc, htaken⟩ := t.exists_taken_eq_of_sound hs
  rw [t.count_eq_of_taken c hc htaken] at hlt
  refine Thermo.count_eq_of_taken _ n hn fun k => ?_
  rw [t.taken_raiseTo n k hn, htaken, ← Bool.decide_or]
  exact decide_eq_decide.2 ⟨fun h => h.elim (·.trans hlt) id, .inr⟩

/-! ### No step is undone -/

@[simp] theorem Thermo.within_refl (t : Thermo) : t.within t := ⟨BitVec.and_self, BitVec.and_self⟩

theorem Thermo.within_trans {t u v : Thermo} (htu : t.within u) (huv : u.within v) : t.within v := by
  obtain ⟨hta, htb⟩ := htu
  obtain ⟨hua, hub⟩ := huv
  exact ⟨by rw [← hta, BitVec.and_assoc, hua], by rw [← htb, BitVec.and_assoc, hub]⟩

theorem bitVec_and_or_self {w : Nat} (a x : BitVec w) : a &&& (a ||| x) = a :=
  BitVec.eq_of_getLsbD_eq fun i _ => by rw [BitVec.getLsbD_and, BitVec.getLsbD_or]; exact inf_sup_self

theorem Thermo.within_blow (t : Thermo) (k : Nat) : t.within (t.blow k) := ⟨bitVec_and_or_self _ _, bitVec_and_or_self _ _⟩

theorem Thermo.within_raiseTo (t : Thermo) (n : Nat) : t.within (t.raiseTo n) := by
  induction n with
  | zero => exact t.within_refl
  | succ n ih => rw [Thermo.raiseTo_succ]; exact Thermo.within_trans ih (Thermo.within_blow _ n)

@[simp] theorem Otp.grownTo_refl (o : Otp) : o.grownTo o :=
  ⟨Thermo.within_refl _, Thermo.within_refl _, Thermo.within_refl _, fun _ => Thermo.within_refl _⟩

theorem Otp.grownTo_raiseSvn (o : Otp) (n v : Nat) : o.grownTo { o with svn := modifyAt o.svn n fun t => t.raiseTo v } := by
  refine ⟨Thermo.within_refl _, Thermo.within_refl _, Thermo.within_refl _, fun k => ?_⟩
  by_cases hk : k = n ∧ n < o.svn.length
  · obtain ⟨rfl, hlen⟩ := hk
    rw [getD_modifyAt_same _ _ _ _ hlen]
    exact Thermo.within_raiseTo _ v
  · have hsame : (modifyAt o.svn n fun t => t.raiseTo v).getD k {} = o.svn.getD k {} := by
      by_cases hkn : k = n
      · exact getD_modifyAt_out _ _ _ _ _ (by omega)
      · exact getD_modifyAt_ne _ _ _ hkn
    rw [hsame]
    exact Thermo.within_refl _

/-! ### SVN counters (R84, R90) -/

/-- A counter raised above its value, over a sound thermometer, reads what it was raised to. -/
theorem Otp.svnValue_raiseSvn_same (o : Otp) (n v : Nat) (hlen : n < o.svn.length) (hs : (o.svn.getD n {}).sound = true)
    (hlt : o.svnValue n < v) (hv : v ≤ 64) :
    ({ o with svn := modifyAt o.svn n fun t => t.raiseTo v } : Otp).svnValue n = v := by
  rw [Otp.svnValue, getD_modifyAt_same _ _ _ _ hlen]
  exact Thermo.count_raiseTo _ v hs hlt hv

theorem Otp.svnValue_raiseSvn_ne (o : Otp) (n v k : Nat) (h : k ≠ n) :
    ({ o with svn := modifyAt o.svn n fun t => t.raiseTo v } : Otp).svnValue k = o.svnValue k := by
  rw [Otp.svnValue, getD_modifyAt_ne _ _ _ h, Otp.svnValue]

theorem foldl_min_le (l : List Nat) (a : Nat) : l.foldl min a ≤ a := by
  induction l generalizing a with
  | nil => exact Nat.le_refl a
  | cons x l ih => exact (ih _).trans (Nat.min_le_left a x)

/-- No counter is raised past its 64 steps. -/
theorem State.svnTarget_le (s : State) (n : Nat) : s.svnTarget n ≤ 64 := by
  unfold State.svnTarget
  split
  · omega
  · exact foldl_min_le _ 64

/-! ### What a start from ROM may blow (R82, R100) -/

/-- The fuses after a start: those before it, those of tamper at T2, or those of the factory's first start. -/
def Otp.startBlows (o p : Otp) : Prop := p = o ∨ p = o.takeLifecycle 3 ∨ ∃ h w, p = { o with helper := h, wrappedDrs := w }

theorem State.tamperAt_startBlows {o : Otp} (s : State) (mask level : Nat) (ho : s.otp = o) :
    o.startBlows (s.tamperAt mask level).otp := by
  subst ho
  simp only [State.tamperAt]
  split
  · exact .inr (.inl rfl)
  · exact .inl rfl

theorem State.drsGenerated_startBlows {o : Otp} (s : State) (ho : s.otp = o) :
    o.startBlows (if s.generatesDrs then s.generateDrs else s).otp := by
  subst ho
  split
  · exact .inr (.inr ⟨_, _, rfl⟩)
  · exact .inl rfl

theorem State.bootChecked_startBlows {o : Otp} (s : State) (c : StartConds) (ho : s.otp = o) :
    o.startBlows (s.bootChecked c).otp := by
  subst ho
  unfold State.bootChecked
  extract_lets
  split
  · exact .inl rfl
  · split
    · exact .inl rfl
    · split
      · exact .inl rfl
      · exact State.drsGenerated_startBlows _ rfl

theorem State.boot_startBlows {o : Otp} (s : State) (c : StartConds) (held : Bool) (ho : s.otp = o) :
    o.startBlows (s.boot c held).otp := by
  subst ho
  unfold State.boot
  extract_lets
  split
  · exact .inl rfl
  · split
    · exact State.tamperAt_startBlows _ _ _ rfl
    · split
      · exact .inl rfl
      · exact State.bootChecked_startBlows _ c rfl

theorem State.warmReset_startBlows (s : State) (c : StartConds) : s.otp.startBlows (s.warmReset c).otp := by
  unfold State.warmReset
  split
  · exact State.boot_startBlows _ c _ rfl
  · exact .inl rfl

/-- A start blows nothing in regions 0, 1, 4 and 6, and closes no region. -/
theorem Otp.startBlows.leaves {o p : Otp} (h : o.startBlows p) :
    p.closed = o.closed ∧ p.tamperT2 = o.tamperT2 ∧ p.vendorDebug = o.vendorDebug ∧ p.caSlots = o.caSlots := by
  obtain rfl | rfl | ⟨_, _, rfl⟩ := h <;> exact ⟨rfl, rfl, rfl, rfl⟩

theorem Otp.startBlows.lifecycle_taken {o p : Otp} (h : o.startBlows p) (k : Nat) (hk : o.lifecycle.taken k = true) :
    p.lifecycle.taken k = true := by
  obtain rfl | rfl | ⟨_, _, rfl⟩ := h
  · exact hk
  · rw [Otp.takeLifecycle, Thermo.taken_raiseTo _ _ _ (by omega), hk, Bool.true_or]
  · exact hk

theorem Otp.lifecycleCode_pos_of_taken (o : Otp) (h : o.lifecycle.taken 0 = true) : 1 ≤ o.lifecycleCode :=
  Nat.le_min.2 ⟨o.lifecycle.count_pos_of_taken h, by omega⟩

end Sys2Proof.Machine
end

section
/-! The rows that blow fuses: SVN counters, provisioning and the factory's certificate (04, "SVN counters"; 21). -/

namespace Sys2Proof.Machine

/-! ### What a channel's activity note leaves of the start -/

@[simp] theorem State.touch_up (s : State) (ch : Channel) : (s.touch ch).up = s.up := by
  rw [State.up, State.touch_start, State.up]
@[simp] theorem State.touch_svnTarget (s : State) (ch : Channel) (n : Nat) : (s.touch ch).svnTarget n = s.svnTarget n := by
  rw [State.svnTarget, State.touch_start, State.svnTarget]

/-! ### SVN_COMMIT (R90-R92) -/

/-- R90: the write raises its counter to the lowest SVN of the running set's items of that counter. -/
theorem exec_svnCommit_of_raises (s : State) (ch : Channel) (n : Byte) (ha : s.accepts ch 0x2004 5 .cust) (hn : n.toNat ≤ 3)
    (hup : s.up = true) (hlt : s.otp.svnValue n.toNat < s.svnTarget n.toNat) :
    exec (.svnCommit ch n) s = .next { s.touch ch with
      otp := { s.otp with svn := modifyAt s.otp.svn n.toNat fun t => t.raiseTo (s.svnTarget n.toNat) } } := by
  change Host.Outcome.next (s.odRow ch 0x2004 5 .cust fun s => s.writeSvnCommit n) = _
  rw [State.odRow_of_accepts _ _ _ _ _ _ ha, State.writtenBy, State.writeSvnCommit, if_neg (by omega)]
  simp only [State.touch_up, State.touch_otp, State.touch_svnTarget, hup, hlt, and_self, if_true]

/-- R91: a write that would not raise the counter, or in another power state, is recorded and blows nothing. -/
theorem exec_svnCommit_of_not_raises (s : State) (ch : Channel) (n : Byte) (ha : s.accepts ch 0x2004 5 .cust) (hn : n.toNat ≤ 3)
    (hno : ¬(s.up = true ∧ s.otp.svnValue n.toNat < s.svnTarget n.toNat)) :
    exec (.svnCommit ch n) s = .next { s.touch ch with start := { s.start with setResult := 0x05 } } := by
  change Host.Outcome.next (s.odRow ch 0x2004 5 .cust fun s => s.writeSvnCommit n) = _
  rw [State.odRow_of_accepts _ _ _ _ _ _ ha, State.writtenBy, State.writeSvnCommit, if_neg (by omega)]
  simp only [State.touch_up, State.touch_otp, State.touch_svnTarget, State.touch_start, hno, if_false]

/-! ### PROVISIONING (R557) -/

/-- The fuses that the provisioning station leaves to the start that follows. -/
def Otp.provisioned (o : Otp) (pol : BitVec 6) (vd : Bool) (anchor : Bytes) : Otp :=
  let p := { o with tamperT2 := pol, vendorDebug := vd, closed := o.closed ||| 0b010000 }
  ({ p with
    regionDigest := modifyAt p.regionDigest 4 fun _ => sha384 (otpRegionBytes p 4)
    caSlots := modifyAt p.caSlots 0 fun _ => some (CaSlot.ofAnchor (BitVec.ofNat 768 (beNat anchor))) } : Otp).takeLifecycle 1

theorem exec_provisioning_of_blank (s : State) (pol : BitVec 6) (vd : Bool) (anchor : Bytes)
    (h : s.up = true ∧ s.otp.lifecycleCode = 0 ∧ s.otp.closed.getLsbD 4 = false ∧ s.otp.caSlots.head? = some none) :
    exec (.provisioning pol vd anchor) s =
      .next ({ s with otp := s.otp.provisioned pol vd anchor } : State).internalReset :=
  congrArg Host.Outcome.next (if_pos h)

theorem Otp.provisioned_lifecycle_taken (o : Otp) (pol : BitVec 6) (vd : Bool) (anchor : Bytes) :
    (o.provisioned pol vd anchor).lifecycle.taken 0 = true := by
  rw [Otp.provisioned, Otp.takeLifecycle, Thermo.taken_raiseTo _ _ _ (by omega)]
  exact Bool.or_true _

theorem Otp.provisioned_caSlots_head (o : Otp) (pol : BitVec 6) (vd : Bool) (anchor : Bytes)
    (h : o.caSlots.head? = some none) :
    (o.provisioned pol vd anchor).caSlots.head? = some (some (CaSlot.ofAnchor (BitVec.ofNat 768 (beNat anchor)))) := by
  obtain ⟨l, hl⟩ := List.head?_eq_some_iff.1 h
  change (modifyAt o.caSlots 0 _).head? = _
  rw [hl]
  rfl

theorem Otp.provisioned_closed (o : Otp) (pol : BitVec 6) (vd : Bool) (anchor : Bytes) :
    (o.provisioned pol vd anchor).closed.getLsbD 4 = true := by
  change (o.closed ||| 0b010000#6).getLsbD 4 = true
  rw [BitVec.getLsbD_or]
  exact Bool.or_true _

/-- Settles O7: each row's fuses are those its rule names; over a start that follows, no step of them is lost. -/
theorem fusesAreBlown : Obligations.FusesAreBlown := by
  refine ⟨fun s ch n ha hn => ?_, fun s pol vd anchor hup hblank hopen hslot => ?_, fun s cert hfactory => ?_⟩
  · by_cases hraise : s.up = true ∧ s.otp.svnValue n.toNat < s.svnTarget n.toNat
    · obtain ⟨hup, hlt⟩ := hraise
      refine ⟨_, exec_svnCommit_of_raises s ch n ha hn hup hlt, s.otp.grownTo_raiseSvn _ _, s.touch_keys ch, s.touch_measure ch,
        fun _ _ hlen hsound => ⟨?_, fun k hk => s.otp.svnValue_raiseSvn_ne _ _ k hk⟩, ?_⟩
      · exact s.otp.svnValue_raiseSvn_same _ _ hlen hsound hlt (s.svnTarget_le _)
      · rintro (hdown | hle)
        · rw [hup] at hdown; cases hdown
        · omega
    · refine ⟨_, exec_svnCommit_of_not_raises s ch n ha hn hraise, ?_, s.touch_keys ch, s.touch_measure ch,
        fun hup hlt => absurd ⟨hup, hlt⟩ hraise, fun _ => ⟨s.touch_otp ch, rfl⟩⟩
      rw [State.touch_otp]
      exact s.otp.grownTo_refl
  · have hstart : (s.otp.provisioned pol vd anchor).startBlows
        ({ s with otp := s.otp.provisioned pol vd anchor } : State).internalReset.otp :=
      State.warmReset_startBlows { s with otp := s.otp.provisioned pol vd anchor } _
    obtain ⟨hclosed, hpol, hvd, hca⟩ := hstart.leaves
    refine ⟨_, exec_provisioning_of_blank s pol vd anchor ⟨hup, hblank, hopen, hslot⟩, ?_, hpol, hvd, ?_, ?_⟩
    · rw [hclosed]
      exact s.otp.provisioned_closed pol vd anchor
    · exact Otp.lifecycleCode_pos_of_taken _
        (hstart.lifecycle_taken 0 (s.otp.provisioned_lifecycle_taken pol vd anchor))
    · rw [hca]
      exact s.otp.provisioned_caSlots_head pol vd anchor hslot
  · exact ⟨_, congrArg Host.Outcome.next (if_pos hfactory), rfl, rfl, rfl, rfl⟩

end Sys2Proof.Machine
end

section
/-! A host delivery in START (04, "The firmware set"; R83, R84, R93, R94, R610). -/

namespace Sys2Proof.Machine

/-! ### What a channel's activity note leaves of a delivery's conditions -/

@[simp] theorem State.touch_dmaBarred (s : State) (ch : Channel) : (s.touch ch).dmaBarred = s.dmaBarred := by
  unfold State.touch
  split
  · cases ch <;> rfl
  · rfl
@[simp] theorem State.touch_fwRunning (s : State) (ch : Channel) : (s.touch ch).fwRunning = s.fwRunning := by
  unfold State.touch
  split
  · cases ch <;> rfl
  · rfl
@[simp] theorem State.touch_loading (s : State) (ch : Channel) : (s.touch ch).loading = s.loading := by
  rw [State.loading, State.touch_start, State.loading]

/-! ### The checks of the manifest stage (R83, R84) -/

/-- Code 0 leaves no branch of the checks but the last. -/
theorem setCheck_eq_zero {o : Otp} {img : SetImage} {len : Nat} (h : setCheck o img len = 0) :
    img.fetchFault = false ∧ sha384 img.keyBlock = (if leField img.manifest 15 1 = 1 then o.anchorSecondary else o.anchorPrimary) ∧
      img.ecdsaOk = true ∧ img.mldsaOk = true ∧ svnOk o img.manifest = true := by
  unfold setCheck at h
  extract_lets anchor at h
  split_ifs at h with hfetch hkey hecdsa hmldsa hformat hgrade hsvn hsizes
  exact ⟨eq_false_of_ne_true hfetch, not_not.1 hkey, by simpa using hecdsa, by simpa using hmldsa, by simpa using hsvn⟩

theorem svnValue_le_of_svnOk {o : Otp} {m : Bytes} (h : svnOk o m = true) :
    ∀ i ∈ (manifestOf m).items, o.svnValue (svnCounterOf i.type) ≤ i.svn := by
  simpa [svnOk] using h

/-! ### The head of a host's delivery arrives (R83, R86, R94, R610) -/

/-- The boot stage with the manifest of an accepted host delivery: the load begins, in its place among those F0 was asked for. -/
def State.takeSet (s : State) (m : Manifest) : State :=
  { s.takeF0 with start := { s.start with
      load := some ⟨true, m, 0, s.host.f0Requests + 1⟩, phase := .loading, running := some m, source := 1 } }

@[simp] theorem State.takeSet_otp (s : State) (m : Manifest) : (s.takeSet m).otp = s.otp := rfl
@[simp] theorem State.takeSet_measure (s : State) (m : Manifest) : (s.takeSet m).measure = s.measure := rfl
@[simp] theorem State.takeSet_ret (s : State) (m : Manifest) : (s.takeSet m).ret = s.ret := rfl
@[simp] theorem State.takeSet_fwRunning (s : State) (m : Manifest) : (s.takeSet m).fwRunning = s.fwRunning := rfl
@[simp] theorem State.takeSet_start (s : State) (m : Manifest) : (s.takeSet m).start = { s.start with
    load := some ⟨true, m, 0, s.host.f0Requests + 1⟩, phase := .loading, running := some m, source := 1 } := rfl

theorem State.deliver_of_busy (s : State) (fromHost : Bool) (len : Nat) (img : SetImage)
    (h : s.loading = true ∨ s.pins.modResetN = false) : s.deliver fromHost len img = s.refuseBusy := by
  rw [State.deliver, if_pos]
  simpa using h

theorem State.deliver_of_refused (s : State) (fromHost : Bool) (len : Nat) (img : SetImage) (hup : s.up = false)
    (hidle : s.loading = false) (hreset : s.pins.modResetN = true) (hcode : setCheck s.otp img len ≠ 0) :
    s.deliver fromHost len img = s.refuseSet (setCheck s.otp img len) := by
  simp [State.deliver, hup, hidle, hreset, hcode]

theorem State.deliver_of_accepted (s : State) (len : Nat) (img : SetImage) (hup : s.up = false)
    (hidle : s.loading = false) (hreset : s.pins.modResetN = true) (hcode : setCheck s.otp img len = 0) :
    s.deliver true len img = (s.takeSet (manifestOf img.manifest)).refuseOther true := by
  have hup' : s.takeF0.up = false := hup
  simp only [State.deliver, hidle, hreset, hcode, Bool.not_true, Bool.or_self, Bool.false_eq_true, if_false, beq_self_eq_true,
    Bool.and_self, if_true, hup', State.takeSet]
  rfl

theorem State.refuseOther_of_idle (s : State) (h : s.fwRunning = false) : s.refuseOther true = s := by
  simp [State.refuseOther, h]

theorem State.refuseOther_of_running (s : State) (h : s.fwRunning = true) :
    s.refuseOther true = ({ s with causeway := { s.causeway with fw := none } } : State).refuseBusy := by
  simp [State.refuseOther, h]

/-! ### HOST_DELIVERY -/

/-- Address and length of a host delivery, recorded (R93). -/
def State.announce (s : State) (addr : BitVec 64) (len : BitVec 32) : State :=
  { s with start := { s.start with delivery := (addr, len) } }

@[simp] theorem State.announce_otp (s : State) (addr : BitVec 64) (len : BitVec 32) : (s.announce addr len).otp = s.otp := rfl
@[simp] theorem State.announce_pins (s : State) (addr : BitVec 64) (len : BitVec 32) : (s.announce addr len).pins = s.pins := rfl
@[simp] theorem State.announce_ret (s : State) (addr : BitVec 64) (len : BitVec 32) : (s.announce addr len).ret = s.ret := rfl
@[simp] theorem State.announce_host (s : State) (addr : BitVec 64) (len : BitVec 32) : (s.announce addr len).host = s.host := rfl
@[simp] theorem State.announce_measure (s : State) (addr : BitVec 64) (len : BitVec 32) :
    (s.announce addr len).measure = s.measure := rfl
@[simp] theorem State.announce_start (s : State) (addr : BitVec 64) (len : BitVec 32) :
    (s.announce addr len).start = { s.start with delivery := (addr, len) } := rfl
@[simp] theorem State.announce_up (s : State) (addr : BitVec 64) (len : BitVec 32) : (s.announce addr len).up = s.up := rfl
@[simp] theorem State.announce_loading (s : State) (addr : BitVec 64) (len : BitVec 32) :
    (s.announce addr len).loading = s.loading := rfl
@[simp] theorem State.announce_dmaBarred (s : State) (addr : BitVec 64) (len : BitVec 32) :
    (s.announce addr len).dmaBarred = s.dmaBarred := rfl
@[simp] theorem State.announce_fwRunning (s : State) (addr : BitVec 64) (len : BitVec 32) :
    (s.announce addr len).fwRunning = s.fwRunning := rfl

theorem State.writeHostDelivery_eq (s : State) (addr : BitVec 64) (len : BitVec 32) (img : SetImage) :
    s.writeHostDelivery addr len img = some (if s.dmaBarred then (s.announce addr len).refuseBusy
      else if s.up || s.start.phase == .awaitSet || s.start.phase == .loading
        then (s.announce addr len).deliver true len.toNat img else (s.announce addr len).refuseBusy) := rfl

section
variable (s : State) (ch : Channel) (addr : BitVec 64) (len : BitVec 32) (img : SetImage)

/-- While the boot stage waits, a delivery under barred DMA is busy, and another reaches the checks. -/
theorem exec_hostDelivery_of_accepts (ha : s.accepts ch 0x2010 1 .host) (hphase : s.start.phase = .awaitSet) :
    exec (.hostDelivery ch addr len img) s = .next
      (if s.dmaBarred then ((s.touch ch).announce addr len).refuseBusy
        else ((s.touch ch).announce addr len).deliver true len.toNat img) := by
  change Host.Outcome.next (s.odRow ch 0x2010 1 .host fun s => s.writeHostDelivery addr len img) = _
  rw [State.odRow_of_accepts _ _ _ _ _ _ ha, State.writtenBy, State.writeHostDelivery_eq]
  simp only [State.touch_dmaBarred, State.touch_start, hphase, beq_self_eq_true, Bool.or_true, Bool.true_or, if_true]

theorem exec_hostDelivery_of_busy (ha : s.accepts ch 0x2010 1 .host) (hphase : s.start.phase = .awaitSet)
    (h : s.dmaBarred = true ∨ s.loading = true ∨ s.pins.modResetN = false) :
    exec (.hostDelivery ch addr len img) s = .next ((s.touch ch).announce addr len).refuseBusy := by
  rw [exec_hostDelivery_of_accepts s ch addr len img ha hphase]
  split
  · rfl
  · next hbarred => rw [State.deliver_of_busy _ _ _ _ (by simpa using h.resolve_left hbarred)]

variable (ha : s.accepts ch 0x2010 1 .host) (hphase : s.start.phase = .awaitSet) (hup : s.up = false)
  (hdma : s.dmaBarred = false) (hidle : s.loading = false) (hreset : s.pins.modResetN = true)
include ha hphase hup hdma hidle hreset

theorem exec_hostDelivery_of_refused (hcode : setCheck s.otp img len.toNat ≠ 0) :
    exec (.hostDelivery ch addr len img) s =
      .next (((s.touch ch).announce addr len).refuseSet (setCheck s.otp img len.toNat)) := by
  rw [exec_hostDelivery_of_accepts s ch addr len img ha hphase, hdma,
    State.deliver_of_refused _ _ _ _ (by simpa using hup) (by simpa using hidle) (by simpa using hreset) (by simpa using hcode)]
  simp

theorem exec_hostDelivery_of_accepted (hcode : setCheck s.otp img len.toNat = 0) :
    exec (.hostDelivery ch addr len img) s =
      .next ((((s.touch ch).announce addr len).takeSet (manifestOf img.manifest)).refuseOther true) := by
  rw [exec_hostDelivery_of_accepts s ch addr len img ha hphase, hdma,
    State.deliver_of_accepted _ _ _ (by simpa using hup) (by simpa using hidle) (by simpa using hreset) (by simpa using hcode)]
  simp

end

/-- Settles O5: the write is busy, refused with the code of its checks, or accepted, and acceptance is the last of the checks. -/
theorem hostDeliveryLoads : Obligations.HostDeliveryLoads := by
  refine ⟨fun s ch addr len img ha hphase hup => ?_, fun o img len hcode => ?_⟩
  · by_cases hbusy : s.dmaBarred = true ∨ s.loading = true ∨ s.pins.modResetN = false
    · have hclear : ¬(s.dmaBarred = false ∧ s.loading = false ∧ s.pins.modResetN = true) := by
        rintro ⟨hdma, hidle, hreset⟩
        simp [hdma, hidle, hreset] at hbusy
      refine ⟨_, exec_hostDelivery_of_busy s ch addr len img ha hphase hbusy, rfl, by simp, by simp,
        fun hdma hidle hreset => (hclear ⟨hdma, hidle, hreset⟩).elim, fun hdma hidle hreset => (hclear ⟨hdma, hidle, hreset⟩).elim,
        fun _ => ?_⟩
      simp [State.refuseBusy]
    · obtain ⟨hdma, hidle, hreset⟩ : s.dmaBarred = false ∧ s.loading = false ∧ s.pins.modResetN = true := by
        simpa using hbusy
      by_cases hcode : setCheck s.otp img len.toNat = 0
      · have hexec := exec_hostDelivery_of_accepted s ch addr len img ha hphase hup hdma hidle hreset hcode
        cases hfw : s.fwRunning with
        | false =>
          rw [State.refuseOther_of_idle _ (by simpa using hfw)] at hexec
          refine ⟨_, hexec, rfl, by simp, by simp, fun _ _ _ _ => ?_, fun _ _ _ h => absurd hcode h,
            fun h => absurd h hbusy⟩
          simp
        | true =>
          rw [State.refuseOther_of_running _ (by simpa using hfw)] at hexec
          refine ⟨_, hexec, rfl, by simp, by simp, fun _ _ _ _ => ?_, fun _ _ _ h => absurd hcode h,
            fun h => absurd h hbusy⟩
          simp [State.refuseBusy]
      · refine ⟨_, exec_hostDelivery_of_refused s ch addr len img ha hphase hup hdma hidle hreset hcode, rfl, by simp,
          by simp, fun _ _ _ h => absurd h hcode, fun _ _ _ _ => ?_, fun h => absurd h hbusy⟩
        simp [State.refuseSet]
  · obtain ⟨hfetch, hkey, hecdsa, hmldsa, hsvn⟩ := setCheck_eq_zero hcode
    refine ⟨hecdsa, hmldsa, hfetch, svnValue_le_of_svnOk hsvn, ?_⟩
    split at hkey
    · exact .inr hkey
    · exact .inl hkey

end Sys2Proof.Machine
end

section
/-! The job channels of the digest engine (06): what START, RESULT and the end of the stream make of a channel, and the frame of
every one of them: the channel alone (R141, R142, R144, R145). -/

namespace Sys2Proof.Machine

/-! ### One channel written -/

theorem State.modJob_job_same (s : State) {j : Nat} (f : JobChannel → JobChannel) (h : j < s.engines.jobs.length) :
    (s.modJob j f).engines.job j = f (s.engines.job j) := getD_modifyAt_same _ _ _ _ h

theorem State.modJob_job_ne (s : State) {j k : Nat} (f : JobChannel → JobChannel) (h : k ≠ j) :
    (s.modJob j f).engines.job k = s.engines.job k := getD_modifyAt_ne _ _ _ h

/-! ### START (R141, R145, R146) -/

section
variable {d : JobDesc} {a : HashAlg} (ha : HashAlg.ofCode d.alg.toNat = some a)
include ha

theorem startJob_of_plain (key : Option Bytes) (hk : d.keyed = false) :
    startJob d key = { desc := some d, state := .absorbing, ctx := some (HashCtx.init a) } := by
  simp [startJob, ha, hk]

theorem startJob_of_keyed (k : Bytes) (hk : d.keyed = true) (h3 : a.isSha3 = false) :
    startJob d (some k) =
      { desc := some d, state := .absorbing, ctx := some (HashCtx.initKeyed a k), hmacSlot := true } := by
  simp [startJob, ha, hk, h3]

theorem startJob_of_keyed_sha3 (key : Option Bytes) (hk : d.keyed = true) (h3 : a.isSha3 = true) :
    startJob d key = ({ desc := some d } : JobChannel).fail 2 := by
  simp [startJob, ha, hk, h3]

theorem startJob_of_no_key (hk : d.keyed = true) (h3 : a.isSha3 = false) :
    startJob d none = ({ desc := some d } : JobChannel).fail 3 := by
  simp [startJob, ha, hk, h3]

end

/-- START on a channel that does not absorb makes it what the descriptor and its key say. -/
theorem exec_digestStart_job {s : State} {j : Fin 8} (d : JobDesc) (hlen : s.engines.jobs.length = 8)
    (h : (s.engines.job j.val).state ≠ .absorbing) :
    ∃ f, exec (.digestStart j d) s = .next (s.modJob j.val f) ∧
      (s.modJob j.val f).engines.job j.val = startJob d (s.jobKey d) :=
  ⟨_, rfl, by rw [s.modJob_job_same _ (by omega), if_neg h]⟩

/-! ### RESULT (R142) -/

/-- What a RESULT that came too early leaves: zeros read, EARLY set and counted. -/
def State.readEarly (s : State) (j : Nat) : State :=
  let t := s.modJob j fun c => { c with early := true, resultOut := List.replicate 48 0 }
  { t with engines := { t.engines with early := bump s.engines.early } }

theorem exec_digestResult_of_absorbing {s : State} {j : Fin 8} (h : (s.engines.job j.val).state = .absorbing) :
    exec (.digestResult j) s = .next (s.readEarly j.val) := by
  show execDigestResult j s = _
  simp only [execDigestResult, h]
  rfl

theorem exec_digestResult_of_done {s : State} {j : Fin 8} {d : JobDesc} (h : (s.engines.job j.val).state = .done)
    (hd : (s.engines.job j.val).desc = some d) (hw : d.toWkr = false) :
    exec (.digestResult j) s = .next (s.modJob j.val fun c => { c with resultOut := c.result }) := by
  show execDigestResult j s = _
  simp [execDigestResult, h, hd, hw]

/-! ### The stream ends (R141, R143, R144) -/

section
variable {s : State} {j : Fin 8} {d : JobDesc} {c : HashCtx} {m : Bytes}
  (habs : (s.engines.job j.val).state = .absorbing) (hd : (s.engines.job j.val).desc = some d)
  (hc : (s.engines.job j.val).ctx = some c)
include habs hd hc

/-- Exactly LENGTH octets: the job is done with the close of what its context absorbed. -/
theorem exec_digestJobDone_of_length (hm : m.length = d.length.toNat) (hw : d.toWkr = false)
    (hheld : (s.engines.job j.val).held = []) :
    exec (.digestJobDone j m) s = .next (s.modJob j.val fun x =>
      { x with state := .done, consumed := d.length.toNat, ctx := some (c.absorb m), result := (c.absorb m).close, held := [],
               passed := if d.pass then m else [] }) := by
  show Host.Outcome.next (s.finishJob j.val m) = _
  simp [State.finishJob, habs, hd, hc, hm, hw, hheld]

/-- Any other number of octets: the job fails with ERR_LENGTH. -/
theorem exec_digestJobDone_of_not_length (hm : m.length ≠ d.length.toNat) :
    exec (.digestJobDone j m) s =
      .next (s.modJob j.val fun x => { x.fail 4 with consumed := min d.length.toNat m.length }) := by
  show Host.Outcome.next (s.finishJob j.val m) = _
  simp [State.finishJob, habs, hd, hc, hm]

end

/-- Settles O10: each row writes its channel alone, with the value that the lemma of its case gives. -/
theorem digestJobRuns : Obligations.DigestJobRuns := by
  intro s j hlen
  have hj : j.val < s.engines.jobs.length := by omega
  refine ⟨fun d hready => ?start, fun habs => ?early, fun d hdone hd hw => ?result,
    fun d c m habs hd hc => ⟨fun hm hw hheld => ?finish, fun hm => ?short⟩, ?abort⟩
  case start =>
    obtain ⟨f, hexec, hjob⟩ := exec_digestStart_job d hlen hready
    refine ⟨_, hexec, rfl, fun k hk => s.modJob_job_ne f hk, fun a ha hk => ?_, fun a k ha hk h3 hkey => ?_,
      fun a ha hk h3 => ?_, fun a ha hk h3 hkey => ?_⟩
    · rw [hjob, startJob_of_plain ha _ hk]
    · rw [hjob, hkey, startJob_of_keyed ha k hk h3]
    · rw [hjob, startJob_of_keyed_sha3 ha _ hk h3]
      exact ⟨rfl, rfl⟩
    · rw [hjob, hkey, startJob_of_no_key ha hk h3]
      exact ⟨rfl, rfl⟩
  case early =>
    have hjob : (s.readEarly j.val).engines.job j.val =
        { s.engines.job j.val with early := true, resultOut := List.replicate 48 0 } := s.modJob_job_same _ hj
    refine ⟨_, exec_digestResult_of_absorbing habs, ?_, ?_, ?_, rfl, rfl, rfl⟩ <;> rw [hjob]
    exact habs
  case result =>
    refine ⟨_, exec_digestResult_of_done hdone hd hw, ?_, ?_, rfl, rfl⟩ <;> rw [s.modJob_job_same _ hj]
    exact hdone
  case finish =>
    refine ⟨_, exec_digestJobDone_of_length habs hd hc hm hw hheld, ?_, rfl, rfl, fun k hk => s.modJob_job_ne _ hk,
      fun a ha => ?_, fun a k ha _ => ?_⟩ <;> rw [s.modJob_job_same _ hj]
    · rw [ha, hash]
    · rw [ha, hmac]
  case short =>
    refine ⟨_, exec_digestJobDone_of_not_length habs hd hc hm, ?_, ?_, ?_, rfl⟩ <;> rw [s.modJob_job_same _ hj] <;> rfl
  case abort =>
    exact ⟨_, rfl, s.modJob_job_same _ hj, fun k hk => s.modJob_job_ne _ hk, rfl⟩

end Sys2Proof.Machine
end

section
/-! The length of a wrapped key (RFC 5649): the blob of EXPORT (06, "Export of a context"; R152) is as long as the wrap key's last
round key lets it be. -/

namespace Sys2Proof.Machine

/-! ### AES-256 in octets -/

@[simp] theorem xorBytes_length (a b : Bytes) : (xorBytes a b).length = min a.length b.length := List.length_zipWith

@[simp] theorem shiftRows_length (b : Bytes) : (shiftRows b).length = 16 := by simp [shiftRows]

@[simp] theorem aesKeys_length (key : Bytes) : (aesKeys key).length = 15 := by simp [aesKeys]

/-- What the last round key adds, whatever the block. -/
def lastRoundKey (key : Bytes) : Bytes := (aesKeys key).getD 14 []

/-- The last step of the cipher cuts a block of 16 octets to the octets of the last round key. -/
theorem aesEnc_length (key block : Bytes) : (aesEnc key block).length = min 16 (lastRoundKey key).length := by
  unfold aesEnc lastRoundKey
  split
  case h_1 hkeys => simpa [hkeys] using aesKeys_length key
  case h_2 k0 ks hkeys => simp [hkeys]

/-! ### The wrap process in octets -/

/-- Octets of a register that the wrap process has written. -/
def wrappedLen (key : Bytes) : Nat := min 16 (lastRoundKey key).length - 8

theorem wrapStep_lengths (key : Bytes) (t : Nat) (a r : Bytes) :
    (wrapStep key t a r).1.length = 8 ∧ (wrapStep key t a r).2.length = wrappedLen key := by
  simp [wrapStep, aesEnc_length, wrappedLen]

/-- Step `i` of pass `j` of the wrap process, over `n` registers. -/
def wrapAt (key : Bytes) (n j : Nat) (s : Bytes × List Bytes) (i : Nat) : Bytes × List Bytes :=
  let x := wrapStep key (n * j + i + 1) s.1 (s.2.getD i [])
  (x.1, s.2.set i x.2)

/-- One pass of the wrap process. -/
def wrapPass (key : Bytes) (n : Nat) (s : Bytes × List Bytes) (j : Nat) : Bytes × List Bytes :=
  (List.range n).foldl (wrapAt key n j) s

theorem wrapBlocks_eq (key a : Bytes) (rs : List Bytes) :
    wrapBlocks key a rs = (List.range 6).foldl (wrapPass key rs.length) (a, rs) := rfl

/-- The first `m` registers have been written, and A has 8 octets. -/
def WrittenTo (key : Bytes) (n m : Nat) (s : Bytes × List Bytes) : Prop :=
  s.1.length = 8 ∧ s.2.length = n ∧ ∀ i, i < m → (s.2.getD i []).length = wrappedLen key

theorem writtenTo_wrapAt {key : Bytes} {n m : Nat} {s : Bytes × List Bytes} (j : Nat) (hm : m < n)
    (h : WrittenTo key n m s) : WrittenTo key n (m + 1) (wrapAt key n j s m) := by
  obtain ⟨_, hn, hwritten⟩ := h
  obtain ⟨hfst, hsnd⟩ := wrapStep_lengths key (n * j + m + 1) s.1 (s.2.getD m [])
  refine ⟨hfst, by simpa [wrapAt] using hn, fun i hi => ?_⟩
  by_cases him : i = m
  · subst him
    simpa [wrapAt, hn, hm] using hsnd
  · simpa [wrapAt, Ne.symm him] using hwritten i (by omega)

theorem writtenTo_wrapPass {key : Bytes} {n : Nat} {s : Bytes × List Bytes} (j : Nat) (h : WrittenTo key n 0 s) :
    WrittenTo key n n (wrapPass key n s j) := by
  have hreached : ∀ m, m ≤ n → WrittenTo key n m ((List.range m).foldl (wrapAt key n j) s) := by
    intro m hm
    induction m with
    | zero => exact h
    | succ m ih =>
      rw [List.range_succ, List.foldl_append]
      exact writtenTo_wrapAt j (by omega) (ih (by omega))
  exact hreached n (Nat.le_refl n)

theorem WrittenTo.zero {key : Bytes} {n m : Nat} {s : Bytes × List Bytes} (h : WrittenTo key n m s) : WrittenTo key n 0 s :=
  let ⟨hfst, hnum, _⟩ := h
  ⟨hfst, hnum, fun _ hi => absurd hi (Nat.not_lt_zero _)⟩

/-- The last of the six passes writes every register. -/
theorem writtenTo_wrapBlocks (key a : Bytes) (rs : List Bytes) (ha : a.length = 8) :
    WrittenTo key rs.length rs.length (wrapBlocks key a rs) := by
  have hpasses : ∀ p, WrittenTo key rs.length 0 ((List.range p).foldl (wrapPass key rs.length) (a, rs)) := by
    intro p
    induction p with
    | zero => exact ⟨ha, rfl, fun _ hi => absurd hi (Nat.not_lt_zero _)⟩
    | succ p ih =>
      rw [List.range_succ, List.foldl_append]
      exact (writtenTo_wrapPass p ih).zero
  rw [wrapBlocks_eq, List.range_succ, List.foldl_append]
  exact writtenTo_wrapPass 5 (hpasses 5)

theorem flatten_length_of_forall {l : List Bytes} {k : Nat} (h : ∀ b ∈ l, b.length = k) : l.flatten.length = l.length * k := by
  rw [List.length_flatten, List.sum_eq_card_nsmul _ k (by simpa using h), List.length_map, smul_eq_mul]

/-- A blob is A and, for each semi-block of a plaintext of more than one, what a step leaves of a register. -/
theorem kwWrap_length (key plain : Bytes) (h : 8 < plain.length) :
    (kwWrap key plain).length = 8 + (plain.length + 7) / 8 * wrappedLen key := by
  have hblocks : (semiBlocks plain).length = (plain.length + 7) / 8 := by simp [semiBlocks]
  unfold kwWrap
  split
  case h_1 r hr =>
    rw [hr, List.length_singleton] at hblocks
    omega
  case h_2 rs _ =>
    obtain ⟨hfst, hnum, hlens⟩ := writtenTo_wrapBlocks key (wrapAiv plain.length) (semiBlocks plain) (by simp [wrapAiv])
    have hall : ∀ b ∈ (wrapBlocks key (wrapAiv plain.length) (semiBlocks plain)).2, b.length = wrappedLen key :=
      List.forall_mem_iff_forall_getElem.2 fun i hi => by simpa [hi] using hlens i (by omega)
    rw [List.length_append, flatten_length_of_forall hall, hfst, hnum, hblocks]

theorem exportPlain_length (c : HashCtx) (remaining : Nat) : (exportPlain c remaining).length = 320 := by
  have hfit : ∀ b : Bytes, (fit 320 b).length = 320 := fun b => by
    simp only [fit, padTo, List.length_take, List.length_append, List.length_replicate]
    omega
  unfold exportPlain
  dsimp only
  split <;> exact hfit _

/-! ### The key schedule -/

/-- A wrap key of no octets has empty round keys, so the registers come out empty. -/
theorem wrappedLen_nil : wrappedLen [] = 0 := by decide

theorem rotateLeft_length (b : Bytes) (n : Nat) : (b.rotateLeft n).length = b.length := by
  unfold List.rotateLeft
  dsimp only
  split
  · rfl
  · rw [List.length_append, Nat.add_comm, ← List.length_append, List.take_append_drop]

theorem keyWordNext_length (i : Nat) (rev : List Bytes) (hlen : 8 ≤ rev.length) (h : ∀ b ∈ rev, b.length = 4) :
    (keyWordNext i rev).length = 4 := by
  have hword : ∀ k, k < 8 → (rev.getD k []).length = 4 := fun k hk => by
    rw [List.getD_eq_getElem _ _ (by omega)]
    exact h _ (List.getElem_mem _)
  have hprev : (rev.headD []).length = 4 := by rw [List.headD_eq_getD]; exact hword 0 (by omega)
  unfold keyWordNext
  dsimp only
  rw [xorBytes_length, hword 7 (by omega)]
  split
  · simp [hprev, rotateLeft_length, -List.headD_eq_head?_getD]
  · split <;> simp [hprev, -List.headD_eq_head?_getD]

/-- The words of the schedule, newest first, after `n` steps. -/
def keyWords (key : Bytes) (n : Nat) : List Bytes :=
  (List.range n).foldl (fun rev k => keyWordNext (k + 8) rev :: rev) ((List.range 8).map fun i => slice key (4 * i) 4).reverse

theorem lastRoundKey_eq (key : Bytes) : lastRoundKey key = (((keyWords key 52).reverse.drop 56).take 4).flatten := rfl

theorem keyWords_lengths {key : Bytes} (h : 32 ≤ key.length) (n : Nat) :
    (keyWords key n).length = 8 + n ∧ ∀ b ∈ keyWords key n, b.length = 4 := by
  induction n with
  | zero =>
    refine ⟨by simp [keyWords], fun b hb => ?_⟩
    obtain ⟨i, hi, rfl⟩ := List.mem_map.1 (List.mem_reverse.1 hb)
    have := List.mem_range.1 hi
    rw [slice_length]
    omega
  | succ n ih =>
    obtain ⟨hlen, hwords⟩ := ih
    have hnext : keyWords key (n + 1) = keyWordNext (n + 8) (keyWords key n) :: keyWords key n := by
      simp only [keyWords, List.range_succ, List.foldl_append, List.foldl_cons, List.foldl_nil]
    rw [hnext]
    exact ⟨by simp only [List.length_cons]; omega,
      List.forall_mem_cons.2 ⟨keyWordNext_length _ _ (by omega) hwords, hwords⟩⟩

/-- A key of 32 octets, or the first 32 of a longer one, leaves registers of 8. -/
theorem wrappedLen_of_key {key : Bytes} (h : 32 ≤ key.length) : wrappedLen key = 8 := by
  obtain ⟨hlen, hwords⟩ := keyWords_lengths h 52
  have hlast : ∀ b ∈ ((keyWords key 52).reverse.drop 56).take 4, b.length = 4 := fun b hb =>
    hwords b (List.mem_reverse.1 (List.mem_of_mem_drop (List.mem_of_mem_take hb)))
  rw [wrappedLen, lastRoundKey_eq, flatten_length_of_forall hlast, List.length_take, List.length_drop, List.length_reverse, hlen]
  decide

end Sys2Proof.Machine
end

section
/-! EXPORT of a context (06; R119, R152), and the wrap key on which the length of its blob rests. -/

namespace Sys2Proof.Machine

/-- EXPORT on a finished job writes the blob of its context. -/
theorem exec_exportCtx_of_done {s : State} {j : Fin 8} {c : HashCtx} {k : MaskedKey}
    (h : (s.engines.job j.val).state = .done) (hc : (s.engines.job j.val).ctx = some c) (hk : s.keys.wrapSlot = some k) :
    exec (.exportCtx j) s = .next (s.modJob j.val fun x => { x with exportOut := kwWrap k.key (exportPlain c 0) }) := by
  show Host.Outcome.next (s.jobOp j.val .exportCtx) = _
  simp [State.jobOp, State.runHeld, State.exportJob, h, hc, hk]

section
variable {s t : State} {j : Fin 8} {c : HashCtx} {k : MaskedKey} (hj : j.val < s.engines.jobs.length)
  (h : (s.engines.job j.val).state = .done) (hc : (s.engines.job j.val).ctx = some c) (hk : s.keys.wrapSlot = some k)
  (ht : exec (.exportCtx j) s = .next t)
include hj h hc hk ht

/-- The blob of the 320 octets of a context: A and 40 registers, each as the wrap key leaves it. -/
theorem exportOut_length_of_exportCtx : (t.engines.job j.val).exportOut.length = 8 + 40 * wrappedLen k.key := by
  obtain rfl := Host.Outcome.next.inj ((exec_exportCtx_of_done h hc hk).symm.trans ht)
  rw [s.modJob_job_same _ hj]
  dsimp only
  rw [kwWrap_length _ _ (by rw [exportPlain_length]; decide), exportPlain_length]

/-- Under a wrap key as long as R111's Sealing key the blob has the 328 octets of R152. -/
theorem exportOut_length_of_exportCtx_of_key (hkey : 32 ≤ k.key.length) : (t.engines.job j.val).exportOut.length = 328 := by
  rw [exportOut_length_of_exportCtx hj h hc hk ht, wrappedLen_of_key hkey]

end

/-- Channel 0 has finished, and the wrap slot holds a key of no octets. -/
def doneUnderEmptyKey : State :=
  { engines := { jobs := { state := .done, ctx := some (HashCtx.init .sha256) } :: List.replicate 7 {} }
    keys := { wrapSlot := some ⟨0, 0, 0⟩ } }

/-- Refutes O11: its clause on EXPORT asks for 328 octets under every wrap key, and under one of no octets, in `doneUnderEmptyKey`, the
blob has 8. Of a key of 32 octets or more the clause is true (`exportOut_length_of_exportCtx_of_key`). -/
theorem not_jobOperationsAct : ¬ Obligations.JobOperationsAct := by
  rintro ⟨hjobs, -⟩
  obtain ⟨hdone, -⟩ := hjobs doneUnderEmptyKey 0 rfl
  obtain ⟨-, -, -, -, hexport⟩ := hdone rfl
  obtain ⟨t, ht, hlen, -⟩ := hexport _ _ rfl rfl
  have hshort := exportOut_length_of_exportCtx (by decide) rfl rfl rfl ht
  rw [hlen, MaskedKey.key, List.take_zero, wrappedLen_nil] at hshort
  exact absurd hshort (by decide)

end Sys2Proof.Machine
end

section
/-! Facts of a core at work: values in two's complement, sparse maps of a function, a core written in the fabric, and an
operation that runs alone on its core (07, 08, 09). -/

namespace Sys2Proof.Machine

/-! ### Values (08, Formats) -/

/-- A value within the signed range of `w` bits is what its code reads as. -/
theorem signed_twos {w : Nat} {v : Int} (hw : 1 ≤ w) (hlo : -2 ^ (w - 1) ≤ v) (hhi : v < 2 ^ (w - 1)) :
    signed w (twos w v) = v := by
  obtain ⟨n, rfl⟩ := Nat.exists_eq_add_of_le' hw
  have hpow : (2 : Int) ^ (n + 1) = 2 * 2 ^ n := by ring
  rw [Nat.add_sub_cancel] at hlo hhi
  have hcast : ((2 ^ n : Nat) : Int) = 2 ^ n := by push_cast; rfl
  simp only [signed, twos, Nat.add_sub_cancel, hpow]
  by_cases hneg : v < 0
  · have hmod : v % (2 * 2 ^ n) = v + 2 * 2 ^ n := by
      rw [← Int.add_emod_right, Int.emod_eq_of_lt (by omega) (by omega)]
    rw [hmod, if_neg (by omega), Int.toNat_of_nonneg (by omega), Int.add_sub_cancel]
  · rw [Int.emod_eq_of_lt (by omega) (by omega), if_pos (by omega), Int.toNat_of_nonneg (by omega)]

/-- The same of a latch of `w` bits that holds the code. -/
theorem signed_ofNat_twos {w : Nat} {v : Int} (hw : 1 ≤ w) (hlo : -2 ^ (w - 1) ≤ v) (hhi : v < 2 ^ (w - 1)) :
    signed w (BitVec.ofNat w (twos w v)).toNat = v := by
  have hpow : (0 : Int) < 2 ^ w := by positivity
  have hfit : twos w v < 2 ^ w := by
    have hlt := Int.emod_lt_of_pos v hpow
    have hnonneg := Int.emod_nonneg v hpow.ne'
    have hcast : ((2 ^ w : Nat) : Int) = 2 ^ w := by push_cast; rfl
    unfold twos
    omega
  rw [BitVec.toNat_ofNat, Nat.mod_eq_of_lt hfit, signed_twos hw hlo hhi]

/-- A packed signed value of `w` bits lies within its range. -/
theorem packedAt_signed_mem (v i : Nat) {w : Nat} (hw : 1 ≤ w) :
    -2 ^ (w - 1) ≤ packedAt v i w true ∧ packedAt v i w true < 2 ^ (w - 1) := by
  obtain ⟨n, rfl⟩ := Nat.exists_eq_add_of_le' hw
  have hlt : field v (i * (n + 1)) (n + 1) < 2 * 2 ^ n := by
    rw [← Nat.pow_succ']
    exact Nat.mod_lt _ (Nat.two_pow_pos _)
  have hpow : (2 : Int) ^ (n + 1) = 2 * 2 ^ n := by ring
  have hcast : ((2 ^ n : Nat) : Int) = 2 ^ n := by push_cast; rfl
  simp only [packedAt, signed, if_true, Nat.add_sub_cancel, hpow]
  split <;> omega

/-- A weight of 1 to 8 bits, sign-extended to the octet of its latch (R180). -/
theorem signed_latch_packedAt (v i : Nat) {w : Nat} (hw : 1 ≤ w) (hw8 : w ≤ 8) :
    signed 8 (BitVec.ofNat 8 (twos 8 (packedAt v i w true))).toNat = packedAt v i w true := by
  obtain ⟨hlo, hhi⟩ := packedAt_signed_mem v i hw
  have hle : (2 : Int) ^ (w - 1) ≤ 2 ^ (8 - 1) := pow_le_pow_right₀ (by omega) (by omega)
  exact signed_ofNat_twos (by omega) (by omega) (by omega)

/-- R223: what saturation leaves lies within its range. -/
theorem satS_mem {w : Nat} (v : Int) : -2 ^ (w - 1) ≤ (satS w v).1 ∧ (satS w v).1 < 2 ^ (w - 1) := by
  have hpos : (0 : Int) < 2 ^ (w - 1) := by positivity
  simp only [satS]
  split
  · exact ⟨by omega, by omega⟩
  · split
    · exact ⟨by omega, by omega⟩
    · exact ⟨by omega, by omega⟩

/-! ### A list or a sparse map of a function, an element updated -/

theorem getD_map_range {α : Type} (f : Nat → α) {n i : Nat} (d : α) (h : i < n) : ((List.range n).map f).getD i d = f i := by
  simp [h]

theorem SMap.get_ofFn {α : Type} [DecidableEq α] (d : α) (f : Nat → α) {n i : Nat} (h : i < n) :
    SMap.get d (SMap.ofFn d n f) i = f i := by
  have hlist : ∀ l : List Nat, i ∈ l ∨ f i = d →
      SMap.get d (l.filterMap fun k => if f k = d then none else some (k, f k)) i = f i := by
    intro l
    induction l with
    | nil => intro hi; simpa using hi.elim (fun hmem => nomatch hmem) Eq.symm
    | cons k l ih =>
      intro hi
      rw [List.mem_cons] at hi
      rw [List.filterMap_cons]
      by_cases hk : f k = d
      · simp only [if_pos hk]
        exact ih (hi.elim (fun hi => hi.elim (fun hik => .inr (hik ▸ hk)) .inl) .inr)
      · simp only [if_neg hk, SMap.get_cons]
        split
        · next hki => rw [hki]
        · next hki => exact ih (hi.imp_left fun hi => hi.resolve_left (Ne.symm hki))
  exact hlist _ (.inl (List.mem_range.2 h))

/-- What an update leaves of every element it leaves of each element of the list. -/
theorem getD_modifyAt_proj {α β : Type} (p : α → β) (l : List α) (i k : Nat) (f : α → α) (d : α) (hf : ∀ x, p (f x) = p x) :
    p ((modifyAt l i f).getD k d) = p (l.getD k d) := by
  by_cases hk : k = i
  · subst hk
    by_cases hlen : k < l.length
    · rw [getD_modifyAt_same _ _ _ _ hlen, hf]
    · rw [getD_modifyAt_out _ _ _ _ _ (by omega)]
  · rw [getD_modifyAt_ne _ _ _ hk]

/-! ### A core in the fabric -/

theorem Fabric.core_setCore_ne (f : Fabric) (c : Core) {i k : Nat} (h : k ≠ i) : (f.setCore i c).core k = f.core k :=
  SMap.get_set_ne _ _ _ h

/-- A written core reads as written: the map is canonical, or the core is not a resting one. -/
theorem Fabric.core_setCore_same (f : Fabric) (c : Core) (i : Nat) (h : SMap.wf {} f.cores = true ∨ c ≠ {}) :
    (f.setCore i c).core i = c := by
  obtain hwf | hc := h
  · exact SMap.get_set_same _ _ _ _ hwf
  · rw [Fabric.setCore, Fabric.core, SMap.set, if_neg hc, SMap.get_insert, if_pos rfl]

theorem Fabric.core_modCore (f : Fabric) (i k : Nat) (g : Core → Core) (hwf : SMap.wf {} f.cores = true) :
    (f.modCore i g).core k = if k = i then g (f.core i) else f.core k := by
  by_cases h : k = i
  · rw [if_pos h, h]; exact f.core_setCore_same _ i (.inl hwf)
  · rw [if_neg h]; exact f.core_setCore_ne _ h

/-! ### Arrays of a core -/

theorem Core.array_modArray_same (c : Core) {a : Nat} (g : ArrayState → ArrayState) (h : a < c.arrays.length) :
    (c.modArray a g).array a = g (c.array a) := getD_modifyAt_same _ _ _ _ h

theorem Core.array_modArray_ne (c : Core) {a k : Nat} (g : ArrayState → ArrayState) (h : k ≠ a) :
    (c.modArray a g).array k = c.array k := getD_modifyAt_ne _ _ _ h

theorem Core.shape_array_default (a : Nat) : (({} : Core).array a).shape = .empty := by
  match a with
  | 0 | 1 | 2 | 3 | _ + 4 => rfl

/-! ### An operation that runs alone on its core -/

/-- The device after an operation ran to its end on a core: what it left is put into the fabric, and a counter of the die moves. -/
def State.completed (s : State) (core : Nat) (x : CoreFx) (g : Die → Die) : State :=
  { s with fabric :=
      (s.fabric.applyFx core { x with core := { x.core with lastProgress := s.clock.count } }).modDie (dieOf core) g }

section
variable (s : State) (core : Nat) (x : CoreFx) (g : Die → Die)

theorem State.onlyCore_completed : s.onlyCore (s.completed core x g) core :=
  ⟨fun _ hk => s.fabric.core_setCore_ne _ hk, rfl⟩

variable {s} {x} (h : SMap.wf {} s.fabric.cores = true ∨ ({ x.core with lastProgress := s.clock.count } : Core) ≠ {})
include h

theorem State.core_completed :
    (s.completed core x g).fabric.core core = { x.core with lastProgress := s.clock.count } :=
  s.fabric.core_setCore_same _ core h

end

/-- The only operation of a core starts, leaves no fault and no operation: nothing waits for it. -/
theorem State.started_nil (s : State) (core : Nat) (run : CoreFx → CoreFx) {x : CoreFx}
    (hx : run { core := { s.fabric.core core with ops := [] } } = x) (hfault : x.fault = none) (hops : x.core.ops = []) :
    s.started core [] run =
      { s with fabric := s.fabric.applyFx core { x with core := { x.core with lastProgress := s.clock.count } } } := by
  have hsettle : x.settle core = x := by
    rw [CoreFx.settle, hops]
    change { x with core := { x.core with ops := [] } } = x
    rw [← hops]
  simp only [State.started, hx, hfault, Option.isSome_none, Bool.false_eq_true, if_false, hsettle, State.applyFx]

/-- The only operation of a core is ready when it is of the kind. -/
theorem Core.firstReady_singleton (c : Core) (p : Issued → Bool) (o : Issued) (h : p o = true) :
    c.firstReady p [] [o] = some (o, []) := by
  have hfree : c.blocked [] o = false := rfl
  simp [Core.firstReady, h, hfree]

end Sys2Proof.Machine
end

section
/-! The matrix arrays (07): fronts, outer products, drains and streams on the arrays of a core, and the array plan fault. -/

namespace Sys2Proof.Machine

/-! ### What a row leaving by the drain path keeps (R183, R187, R211) -/

/-- What a row at the feet of an array leaves of it. -/
def ArrayState.latches (r : ArrayState) : Shape × SMap Byte × SMap (BitVec 24) × Nat := (r.shape, r.weights, r.acc, r.updates)

theorem ArrayState.latches_eq_iff (r : ArrayState) (shape : Shape) (weights : SMap Byte) (acc : SMap (BitVec 24)) (updates : Nat) :
    r.latches = (shape, weights, acc, updates) ↔ r.shape = shape ∧ r.weights = weights ∧ r.acc = acc ∧ r.updates = updates := by
  simp only [ArrayState.latches, Prod.mk.injEq]

/-- From one core to the other the queue, the current mask and what the arrays hold stand, but for their feet. -/
structure Core.LatchesKept (c d : Core) : Prop where
  ops : d.ops = c.ops
  curMask : d.curMask = c.curMask
  length : d.arrays.length = c.arrays.length
  latches : ∀ a, (d.array a).latches = (c.array a).latches

theorem Core.LatchesKept.refl (c : Core) : c.LatchesKept c := ⟨rfl, rfl, rfl, fun _ => rfl⟩

theorem Core.LatchesKept.trans {c d e : Core} (hcd : c.LatchesKept d) (hde : d.LatchesKept e) : c.LatchesKept e :=
  ⟨hde.ops.trans hcd.ops, hde.curMask.trans hcd.curMask, hde.length.trans hcd.length,
    fun a => (hde.latches a).trans (hcd.latches a)⟩

theorem Core.latchesKept_modArray (c : Core) (a : Nat) (g : ArrayState → ArrayState) (hg : ∀ r, (g r).latches = r.latches) :
    c.LatchesKept (c.modArray a g) :=
  ⟨rfl, rfl, modifyAt_length _ _ _, fun _ => getD_modifyAt_proj _ _ _ _ _ _ hg⟩

theorem Core.latchesKept_finishRow (c : Core) (arrays : List Nat) (per : Nat) (vals : List Int) :
    c.LatchesKept (c.finishRow arrays per vals) :=
  List.foldlRecOn _ _ (.refl c) fun d hd p _ => hd.trans (d.latchesKept_modArray p.2 _ fun _ => rfl)

theorem Core.latchesKept_handOff (c : Core) (arrays : List Nat) : c.LatchesKept (c.handOff arrays) :=
  List.foldlRecOn _ _ (.refl c) fun d hd a _ => hd.trans (d.latchesKept_modArray a _ fun _ => rfl)

theorem Core.latchesKept_awaken (c : Core) (arrays : List Nat) : c.LatchesKept (c.awaken arrays) :=
  List.foldlRecOn _ _ (.refl c) fun d hd a _ => hd.trans (d.latchesKept_modArray a _ fun _ => rfl)

theorem Core.latchesKept_writeBits (c : Core) (i n v : Nat) (tag : Nat → Bool) : c.LatchesKept (c.writeBits i n v tag).1 := by
  refine List.foldlRecOn (motive := fun r : Core × Nat => c.LatchesKept r.1) _ _ (.refl c) fun r hr _ _ => hr.trans ?_
  simp only [Core.writeLine]
  split
  · exact .refl _
  · exact ⟨rfl, rfl, rfl, fun _ => rfl⟩

/-- The same of what operations leave, with no plan fault come or gone. -/
def CoreFx.LatchesKept (x y : CoreFx) : Prop := y.fault = x.fault ∧ x.core.LatchesKept y.core

theorem CoreFx.LatchesKept.refl (x : CoreFx) : x.LatchesKept x := ⟨rfl, .refl _⟩

theorem CoreFx.LatchesKept.trans {x y z : CoreFx} (hxy : x.LatchesKept y) (hyz : y.LatchesKept z) : x.LatchesKept z :=
  ⟨hyz.1.trans hxy.1, hxy.2.trans hyz.2⟩

theorem CoreFx.latchesKept_deliverRow (x : CoreFx) (core dest dst per m : Nat) (q : Option Requant) (partner : BitVec 16)
    (g : GangRow) : x.LatchesKept (x.deliverRow core dest dst per m q partner g) := by
  unfold CoreFx.deliverRow
  dsimp only
  split
  case h_1 => exact ⟨rfl, x.core.latchesKept_writeBits _ _ _ _⟩
  case h_2 => exact ⟨rfl, x.core.latchesKept_writeBits _ _ _ _⟩
  case h_3 => exact ⟨rfl, ⟨rfl, rfl, rfl, fun _ => rfl⟩⟩

theorem CoreFx.latchesKept_drainRow (x : CoreFx) (core : Nat) (arrays : List Nat) (dest dst per m : Nat) (q : Option Requant)
    (partner : BitVec 16) (g : GangRow) : x.LatchesKept (x.drainRow core arrays dest dst per m q partner g) := by
  have hfinish : x.LatchesKept (x.modCore fun c => c.finishRow arrays per g.vals) :=
    ⟨rfl, x.core.latchesKept_finishRow arrays per g.vals⟩
  have hdeliver := hfinish.trans (CoreFx.latchesKept_deliverRow _ core dest dst per m q partner g)
  exact hdeliver.trans ⟨rfl, Core.latchesKept_handOff _ arrays⟩

/-- A STREAM takes the array mask; beyond that its rows leave by the drain path. -/
theorem CoreFx.latchesKept_runStream (x : CoreFx) (core : Nat) (f : StreamF) (fed : List UnitLine) :
    (x.modCore fun c => { c with curMask := BitVec.ofNat 4 f.mask }).LatchesKept (x.runStream core f fed) :=
  List.foldlRecOn _ _ (.refl _) fun y hy _ _ => hy.trans (y.latchesKept_drainRow _ _ _ _ _ _ _ _ _)

/-- A DRAIN zeroes the accumulators and the update count; beyond that its rows leave by the drain path (R193). -/
theorem CoreFx.latchesKept_runDrain (x : CoreFx) (core a dest dst dparam : Nat) :
    (x.modCore fun c => c.modArray a fun r => { r with acc := [], rowSat := 0, accTag := false, updates := 0 }).LatchesKept
      (x.runDrain core a dest dst dparam) :=
  List.foldlRecOn _ _ (.refl _) fun y hy _ _ => hy.trans (y.latchesKept_drainRow _ _ _ _ _ _ _ _ _)

theorem CoreFx.latches_runDrain (x : CoreFx) (core : Nat) {a : Nat} (dest dst dparam : Nat) (ha : a < x.core.arrays.length) :
    ((x.runDrain core a dest dst dparam).core.array a).latches = ((x.core.array a).shape, (x.core.array a).weights, [], 0) := by
  obtain ⟨-, hkept⟩ := x.latchesKept_runDrain core a dest dst dparam
  exact (hkept.latches a).trans (congrArg ArrayState.latches (x.core.array_modArray_same _ ha))

/-! ### Weights loaded (R180, R181, R195, R196) -/

/-- The latch of a cell holds, sign-extended, the value that the lines pack for it. -/
theorem signed_get_loadedWeights (v : Nat) {width : Nat} (hw : 1 ≤ width) (hw8 : width ≤ 8) (shape : Nat) {r col : Nat} (hr : r < 128)
    (hcol : col < 128) :
    signed 8 (SMap.get (0 : Byte) (loadedWeights v width shape) (128 * r + col)).toNat =
      if shape = 0 then packedAt v (128 * r + col) width true
      else if shape = 1 then packedAt v (512 * (r % 32) + 128 * (r / 32) + col) width true
      else if r = col then packedAt v r width true else 0 := by
  have hdiv : (128 * r + col) / 128 = r := by omega
  have hmod : (128 * r + col) % 128 = col := by omega
  rw [loadedWeights, SMap.get_ofFn _ _ (by omega)]
  simp only [hdiv, hmod]
  split
  · exact signed_latch_packedAt v _ hw hw8
  · split
    · exact signed_latch_packedAt v _ hw hw8
    · split
      · exact signed_latch_packedAt v _ hw hw8
      · rfl

section
variable (x : CoreFx) {a : Nat} (width shape src : Nat)

theorem CoreFx.array_runLoadw_same (ha : a < x.core.arrays.length) :
    (x.runLoadw a width shape src).core.array a = { x.core.array a with
      shape := if shape = 1 then .narrows else .stationary
      weights := loadedWeights (x.core.linesNat src (loadLines width shape)) width shape
      wTag := x.core.linesTag src (loadLines width shape) } := Core.array_modArray_same _ _ ha

theorem CoreFx.array_runLoadw_ne {k : Nat} (hk : k ≠ a) : (x.runLoadw a width shape src).core.array k = x.core.array k :=
  Core.array_modArray_ne _ _ hk

theorem CoreFx.weight_runLoadw (ha : a < x.core.arrays.length) (hw : 1 ≤ width) (hw8 : width ≤ 8) {r col : Nat} (hr : r < 128)
    (hcol : col < 128) :
    ((x.runLoadw a width shape src).core.array a).weight r col =
      (let v := x.core.linesNat src (loadLines width shape)
       if shape = 0 then packedAt v (128 * r + col) width true
       else if shape = 1 then packedAt v (512 * (r % 32) + 128 * (r / 32) + col) width true
       else if r = col then packedAt v r width true else 0) := by
  rw [ArrayState.weight, x.array_runLoadw_same width shape src ha]
  dsimp only
  rw [signed_get_loadedWeights _ hw hw8 shape hr hcol]

/-- A core with a loaded array is not a resting one. -/
theorem CoreFx.runLoadw_core_ne_default (ha : a < x.core.arrays.length) (l : Nat) :
    ({ (x.runLoadw a width shape src).core with lastProgress := l } : Core) ≠ {} := by
  intro hrest
  have hshape : ((x.runLoadw a width shape src).core.array a).shape = .empty :=
    (congrArg (fun c : Core => (c.array a).shape) hrest).trans (Core.shape_array_default a)
  rw [x.array_runLoadw_same width shape src ha] at hshape
  dsimp only at hshape
  split at hshape <;> cases hshape

end

/-- FRONT_START with a queued LOADW alone: the front runs to its end, and the core is what the run leaves. -/
theorem exec_frontStart_loadw (s : State) (core : Fin 1200) (wait : Nat) {a width shape src idx : Nat}
    (htide : s.fabric.tide.isSome = true) (hops : (s.fabric.core core.val).ops = [⟨.loadw a width shape src, idx, 0, []⟩])
    (ha : a < (s.fabric.core core.val).arrays.length) :
    ∃ t, exec (.frontStart core wait) s = .next t ∧ s.onlyCore t core.val ∧ t.fabric.core core.val =
      { (({ core := { s.fabric.core core.val with ops := [] } } : CoreFx).runLoadw a width shape src).core with
        lastProgress := s.clock.count } := by
  have hready := (s.fabric.core core.val).firstReady_singleton (fun o => o.step.isFront) ⟨.loadw a width shape src, idx, 0, []⟩ rfl
  refine ⟨s.completed core.val _ fun d => { d with frontWait := bumpBy wait d.frontWait }, ?_, s.onlyCore_completed _ _ _,
    State.core_completed _ _ (.inr (CoreFx.runLoadw_core_ne_default _ width shape src ha _))⟩
  show execFrontStart core wait s = _
  simp only [execFrontStart, htide, if_true, hops, hready]
  rw [State.started_nil s core.val _ rfl rfl rfl]
  rfl

/-! ### Outer products (R190, R192, R229) -/

/-- The array and the saturations after `u` updates, as an OPACC makes them. -/
def Core.opaccUpdates (c : Core) (a : Nat) (asg bsg : Bool) (asrc bsrc u : Nat) : ArrayState × Nat :=
  (List.range u).foldl (fun acc k =>
    let s := acc.1.update (c.opaccRow asrc k asg) (c.opaccRow bsrc k bsg)
      (c.linesTag (asrc + 2 * k) 2 || c.linesTag (bsrc + 2 * k) 2)
    (s.1, acc.2 + s.2)) (c.array a, 0)

theorem CoreFx.array_runOpacc_same (x : CoreFx) {a : Nat} (asg bsg : Bool) (asrc bsrc u : Nat) (ha : a < x.core.arrays.length) :
    (x.runOpacc a asg bsg asrc bsrc u).core.array a = (x.core.opaccUpdates a asg bsg asrc bsrc u).1 :=
  Core.array_modArray_same _ _ ha

theorem Core.opaccUpdates_succ (c : Core) (a : Nat) (asg bsg : Bool) (asrc bsrc u : Nat) :
    (c.opaccUpdates a asg bsg asrc bsrc (u + 1)).1 =
      ((c.opaccUpdates a asg bsg asrc bsrc u).1.update (c.opaccRow asrc u asg) (c.opaccRow bsrc u bsg)
        (c.linesTag (asrc + 2 * u) 2 || c.linesTag (bsrc + 2 * u) 2)).1 := by
  rw [Core.opaccUpdates, List.range_succ, List.foldl_append]
  rfl

/-- R192: every update counts. -/
theorem Core.updates_opaccUpdates (c : Core) (a : Nat) (asg bsg : Bool) (asrc bsrc u : Nat) :
    (c.opaccUpdates a asg bsg asrc bsrc u).1.updates = (c.array a).updates + u := by
  induction u with
  | zero => rfl
  | succ u ih => rw [Core.opaccUpdates_succ, ArrayState.update, ih]; rfl

/-- R229: an update adds the product of its row's and its column's operand in every cell, saturated to 24 bits. -/
theorem ArrayState.acc_update (arr : ArrayState) (x y : List Int) (tag : Bool) {r col : Nat} (hr : r < 128) (hcol : col < 128) :
    signed 24 (SMap.get (0 : BitVec 24) (arr.update x y tag).1.acc (128 * r + col)).toNat =
      (satS 24 (signed 24 (SMap.get (0 : BitVec 24) arr.acc (128 * r + col)).toNat + x.getD r 0 * y.getD col 0)).1 := by
  have hdiv : (128 * r + col) / 128 = r := by omega
  have hmod : (128 * r + col) % 128 = col := by omega
  rw [ArrayState.update, SMap.get_ofFn _ _ (by omega), getD_map_range _ _ (by omega), hdiv, hmod, cellUpdate]
  obtain ⟨hlo, hhi⟩ := satS_mem (w := 24) (signed 24 (SMap.get (0 : BitVec 24) arr.acc (128 * r + col)).toNat +
    x.getD r 0 * y.getD col 0)
  exact signed_ofNat_twos (by omega) hlo hhi

theorem Core.acc_opaccUpdates_one (c : Core) (a : Nat) (asg bsg : Bool) (asrc bsrc : Nat) {r col : Nat} (hr : r < 128)
    (hcol : col < 128) :
    signed 24 (SMap.get (0 : BitVec 24) (c.opaccUpdates a asg bsg asrc bsrc 1).1.acc (128 * r + col)).toNat =
      (satS 24 (signed 24 (SMap.get (0 : BitVec 24) (c.array a).acc (128 * r + col)).toNat +
        packedAt (c.linesNat asrc 2) r 8 asg * packedAt (c.linesNat bsrc 2) col 8 bsg)).1 := by
  rw [Core.opaccUpdates_succ, ArrayState.acc_update _ _ _ _ hr hcol, Core.opaccRow, Core.opaccRow, getD_map_range _ _ hr,
    getD_map_range _ _ hcol]
  rfl

/-! ### ARRAY_OPERATION_START (R199, R201, R202, R204) -/

theorem Issued.fedWhole_stream {f : StreamF} {idx landed : Nat} {fed : List UnitLine}
    (h : f.fromSlot = true → f.linesNeeded ≤ fed.length) : (⟨.stream f, idx, landed, fed⟩ : Issued).fedWhole = true := by
  cases hslot : f.fromSlot with
  | false => simp [Issued.fedWhole, hslot]
  | true => simp [Issued.fedWhole, hslot, h hslot]

/-- A core whose arrays have run again, with nothing queued: what an array operation starts on. -/
def Core.readied (c : Core) (arrays : List Nat) : Core := ({ c with ops := [] } : Core).awaken arrays

theorem Core.awaken_eq (c : Core) (arrays : List Nat) : ∃ l, c.awaken arrays = { c with arrays := l } :=
  List.foldlRecOn (motive := fun d : Core => ∃ l, d = { c with arrays := l }) _ _ ⟨_, rfl⟩ <| by
    rintro _ ⟨l, rfl⟩ a _
    exact ⟨_, rfl⟩

theorem Core.readied_eq (c : Core) (arrays : List Nat) : ∃ l, c.readied arrays = { c with ops := [], arrays := l } :=
  Core.awaken_eq { c with ops := [] } arrays

theorem Core.length_readied (c : Core) (arrays : List Nat) : (c.readied arrays).arrays.length = c.arrays.length :=
  (Core.latchesKept_awaken { c with ops := [] } arrays).length

theorem Core.latches_readied (c : Core) (arrays : List Nat) (a : Nat) : ((c.readied arrays).array a).latches = (c.array a).latches :=
  (Core.latchesKept_awaken { c with ops := [] } arrays).latches a

@[simp] theorem Core.ops_readied (c : Core) (arrays : List Nat) : (c.readied arrays).ops = [] := by
  obtain ⟨_, h⟩ := c.readied_eq arrays; rw [h]
@[simp] theorem Core.lagoon_readied (c : Core) (arrays : List Nat) : (c.readied arrays).lagoon = c.lagoon := by
  obtain ⟨_, h⟩ := c.readied_eq arrays; rw [h]
@[simp] theorem Core.linesNat_readied (c : Core) (arrays : List Nat) (i n : Nat) :
    (c.readied arrays).linesNat i n = c.linesNat i n := by
  obtain ⟨_, h⟩ := c.readied_eq arrays; rw [h]; rfl
@[simp] theorem Core.destOk_readied (c : Core) (arrays : List Nat) (dest dst dparam rows v : Nat) :
    (c.readied arrays).destOk dest dst dparam rows v = c.destOk dest dst dparam rows v := by
  obtain ⟨_, h⟩ := c.readied_eq arrays; rw [h]; rfl
@[simp] theorem Core.slot_readied (c : Core) (arrays : List Nat) (sl : Nat) : (c.readied arrays).slot sl = c.slot sl := by
  obtain ⟨_, h⟩ := c.readied_eq arrays; rw [h]; rfl
@[simp] theorem Core.shape_array_readied (c : Core) (arrays : List Nat) (a : Nat) :
    ((c.readied arrays).array a).shape = (c.array a).shape :=
  congrArg Prod.fst (c.latches_readied arrays a)

@[simp] theorem Core.arrayShapeOk_readied (c : Core) (arrays : List Nat) (a : Nat) :
    (c.readied arrays).arrayShapeOk a = c.arrayShapeOk a := by
  simp only [Core.arrayShapeOk, Core.shape_array_readied]
@[simp] theorem Core.shapeOk_readied (c : Core) (arrays : List Nat) (f : StreamF) : (c.readied arrays).shapeOk f = c.shapeOk f := by
  simp only [Core.shapeOk, Core.shape_array_readied]

/-- Whether an operation fits is not changed by its start. -/
theorem Core.arrayFault_readied (c : Core) (arrays : List Nat) (o : CoreStep) :
    (c.readied arrays).arrayFault o = c.arrayFault o := by
  cases o
  case stream f => simp only [Core.arrayFault, Core.shapeOk_readied, Core.destOk_readied, Core.slot_readied]
  case opacc a _ _ _ _ _ => simp only [Core.arrayFault, Core.arrayShapeOk_readied]
  case drain a dest dst dp => simp only [Core.arrayFault, Core.arrayShapeOk_readied, Core.destOk_readied]
  all_goals rfl

section
variable (s : State) (core : Fin 1200) (gap : List Nat) {o : CoreStep} {idx : Nat} {fed : List UnitLine}
  (htide : s.fabric.tide.isSome = true) (hops : (s.fabric.core core.val).ops = [⟨o, idx, 0, fed⟩])
  (hkind : o.isArrayOp = true) (hfed : (⟨o, idx, 0, fed⟩ : Issued).fedWhole = true)
include htide hops hkind hfed

/-- An array operation alone on its core that fits runs to its end: the core is what the run leaves, and nothing waits on it. -/
theorem exec_arrayOperationStart_of_fits (hwf : SMap.wf {} s.fabric.cores = true)
    (hfits : (s.fabric.core core.val).arrayFault o = none) {x : CoreFx}
    (hx : ({ core := (s.fabric.core core.val).readied (stepArrays o) } : CoreFx).runArrayOp core.val ⟨o, idx, 0, fed⟩ = x)
    (hfault : x.fault = none) (hdone : x.core.ops = []) :
    ∃ t, exec (.arrayOperationStart core gap) s = .next t ∧ s.onlyCore t core.val ∧ t.host = s.host ∧ t.measure = s.measure ∧
      t.fabric.core core.val = { x.core with lastProgress := s.clock.count } := by
  have hready := (s.fabric.core core.val).firstReady_singleton (fun o => o.step.isArrayOp && o.fedWhole) ⟨o, idx, 0, fed⟩
    (by rw [Bool.and_eq_true]; exact ⟨hkind, hfed⟩)
  let n := ballastBeats (s.fabric.core core.val) (stepArrays o) gap s.monitors.ballastActive
  refine ⟨s.completed core.val x fun d => { d with ballast := bumpBy n d.ballast }, ?_, s.onlyCore_completed _ _ _, rfl, rfl,
    State.core_completed _ _ (.inl hwf)⟩
  show execArrayOperationStart core gap s = _
  simp only [execArrayOperationStart, htide, if_true, hops, hready, hfits]
  rw [State.started_nil s core.val _ hx hfault hdone]
  rfl

/-- One that does not fit leaves the queue and is a plan fault. -/
theorem exec_arrayOperationStart_of_fault {code : Nat} (hcode : (s.fabric.core core.val).arrayFault o = some code) :
    exec (.arrayOperationStart core gap) s =
      .next (({ s with fabric := s.fabric.modCore core.val fun c => { c with ops := [] } } : State).coreFail core.val code idx) := by
  have hready := (s.fabric.core core.val).firstReady_singleton (fun o => o.step.isArrayOp && o.fedWhole) ⟨o, idx, 0, fed⟩
    (by rw [Bool.and_eq_true]; exact ⟨hkind, hfed⟩)
  show execArrayOperationStart core gap s = _
  simp only [execArrayOperationStart, htide, if_true, hops, hready, hcode]

end

/-! ### A plan fault's reach (R202, R291) -/

/-- The fabric of a voided tide: its dies, its canonical map of cores, and each core's arrays and Lagoon stand. -/
structure Fabric.WorkAbandoned (f g : Fabric) : Prop where
  dies : g.dies = f.dies
  wf : SMap.wf {} g.cores = true
  arrays : ∀ k, (g.core k).arrays = (f.core k).arrays
  lagoon : ∀ k, (g.core k).lagoon = (f.core k).lagoon

/-- Cores that lose operations or their issue keep arrays and Lagoon. -/
theorem Fabric.workAbandoned_modCore {f g : Fabric} (h : f.WorkAbandoned g) (i : Nat) (u : Core → Core)
    (harrays : ∀ c, (u c).arrays = c.arrays) (hlagoon : ∀ c, (u c).lagoon = c.lagoon) : f.WorkAbandoned (g.modCore i u) := by
  refine ⟨h.dies, SMap.wf_set _ _ _ _ h.wf, fun k => ?_, fun k => ?_⟩ <;> rw [g.core_modCore i k u h.wf] <;> split
  · next hk => rw [harrays, hk, h.arrays]
  · exact h.arrays k
  · next hk => rw [hlagoon, hk, h.lagoon]
  · exact h.lagoon k

theorem State.workAbandoned_voidStreams (s : State) (l : List Nat) (hwf : SMap.wf {} s.fabric.cores = true) :
    s.fabric.WorkAbandoned (s.voidStreams l).fabric := by
  have hself : s.fabric.WorkAbandoned s.fabric := ⟨rfl, hwf, fun _ => rfl, fun _ => rfl⟩
  unfold State.voidStreams
  split
  · exact hself
  · obtain ⟨hdies, hcores, harrays, hlagoon⟩ :=
      List.foldlRecOn (motive := fun g => s.fabric.WorkAbandoned g) (l.flatMap s.fabric.coresOf)
        (fun f i => f.modCore i Core.abandon) hself
        fun g hg i _ => Fabric.workAbandoned_modCore hg i Core.abandon (fun _ => rfl) fun _ => rfl
    exact ⟨hdies, hcores, harrays, hlagoon⟩

section
variable (s : State) (core step : Nat) (hwf : SMap.wf {} s.fabric.cores = true)
include hwf

/-- A plan fault leaves every array and every line of every core. -/
theorem State.core_coreFail (code k : Nat) : ((s.coreFail core code step).fabric.core k).arrays = (s.fabric.core k).arrays ∧
    ((s.coreFail core code step).fabric.core k).lagoon = (s.fabric.core k).lagoon := by
  have hvoid := State.workAbandoned_voidStreams { s with fabric := s.fabric.modDie (dieOf core) fun d =>
    if code = 5 then { d with arrayFaults := bump d.arrayFaults } else { d with coreFaults := bump d.coreFaults } }
    (s.fabric.streamsOfCore core) hwf
  exact ⟨hvoid.arrays k, hvoid.lagoon k⟩

/-- Beyond its counter a plan fault leaves each die its record alone. -/
theorem State.dies_coreFail (code : Nat) : ∃ r : Die → PlanFaultRec, (s.coreFail core code step).fabric.dies =
    modifyAt (modifyAt s.fabric.dies (dieOf core) fun d =>
        if code = 5 then { d with arrayFaults := bump d.arrayFaults } else { d with coreFaults := bump d.coreFaults })
      (dieOf core) fun d => { d with lastPlanFault := r d } := by
  have hvoid := State.workAbandoned_voidStreams { s with fabric := s.fabric.modDie (dieOf core) fun d =>
    if code = 5 then { d with arrayFaults := bump d.arrayFaults } else { d with coreFaults := bump d.coreFaults } }
    (s.fabric.streamsOfCore core) hwf
  exact ⟨_, congrArg (fun l => modifyAt l (dieOf core) _) hvoid.dies⟩

/-- Code 5 counts on the die of its core and adds no ballast there (R202, R220). -/
theorem State.die_coreFail_array (hdie : dieOf core < s.fabric.dies.length) :
    ((s.coreFail core 5 step).fabric.die (dieOf core)).arrayFaults = bump (s.fabric.die (dieOf core)).arrayFaults ∧
      ((s.coreFail core 5 step).fabric.die (dieOf core)).ballast = (s.fabric.die (dieOf core)).ballast := by
  obtain ⟨r, hdies⟩ := s.dies_coreFail core step hwf 5
  simp only [Fabric.die]
  rw [hdies, getD_modifyAt_same _ _ _ _ (by rwa [modifyAt_length]), getD_modifyAt_same _ _ _ _ hdie]
  exact ⟨rfl, rfl⟩

end

/-- Settles O19: a front and an operation that fits leave what their run leaves of the core, and a misfit is a plan fault, which
reaches no array and no line. -/
theorem arraysRun : Obligations.ArraysRun := by
  refine ⟨fun s core wait a width shape src idx htide hops ha hw hw8 _ => ?front, fun s core gap idx htide hwf =>
    ⟨fun a asg bsg p q u hops ha hshape => ?opacc, fun a dest dst dp hops ha hfits => ?drain,
      fun f fed hops hfits hfed => ?stream, fun o fed hops hkind hfed hmisfit => ?misfit⟩⟩
  case front =>
    let x : CoreFx := { core := { s.fabric.core core.val with ops := [] } }
    obtain ⟨t, hexec, honly, hcore⟩ := exec_frontStart_loadw s core wait htide hops ha
    have harray : ∀ k, (t.fabric.core core.val).array k = (x.runLoadw a width shape src).core.array k :=
      fun k => by rw [hcore]; rfl
    have hloaded := (harray a).trans (x.array_runLoadw_same width shape src ha)
    refine ⟨t, hexec, honly, by rw [hcore]; rfl, by rw [hcore]; rfl, congrArg ArrayState.shape hloaded,
      (congrArg ArrayState.acc hloaded :), fun k hk => ?_, fun r col hr hcol => ?_⟩
    · exact (harray k).trans (x.array_runLoadw_ne width shape src hk)
    · rw [harray]
      exact x.weight_runLoadw width shape src ha hw hw8 hr hcol
  case opacc =>
    let x : CoreFx := { core := (s.fabric.core core.val).readied [a] }
    have hfits : (s.fabric.core core.val).arrayFault (.opacc a asg bsg p q u) = none := if_pos (bne_iff_ne.2 hshape)
    obtain ⟨t, hexec, honly, -, -, hcore⟩ := exec_arrayOperationStart_of_fits s core gap htide hops rfl rfl hwf hfits
      (x := x.runOpacc a asg bsg p q u) (by simp only [CoreFx.runArrayOp, stepArrays, Core.arrayFault_readied, hfits]; rfl) rfl
      (Core.ops_readied _ _)
    have hadded : (t.fabric.core core.val).array a = (x.core.opaccUpdates a asg bsg p q u).1 := by
      rw [hcore]
      exact x.array_runOpacc_same asg bsg p q u ((Core.length_readied _ _).symm ▸ ha)
    obtain ⟨-, -, hacc, hupdates⟩ := (ArrayState.latches_eq_iff _ _ _ _ _).1 ((s.fabric.core core.val).latches_readied [a] a)
    refine ⟨t, hexec, honly, by rw [hcore]; exact Core.ops_readied _ _, ?_, by rw [hcore]; exact Core.lagoon_readied _ _, ?_⟩
    · rw [hadded, Core.updates_opaccUpdates, hupdates]
    · rintro rfl r col hr hcol
      rw [hadded, Core.acc_opaccUpdates_one _ _ _ _ _ _ hr hcol, hacc, Core.linesNat_readied, Core.linesNat_readied]
  case drain =>
    let x : CoreFx := { core := (s.fabric.core core.val).readied [a] }
    obtain ⟨hfault, hkept⟩ := x.latchesKept_runDrain core.val a dest dst dp
    have hdone := hkept.ops.trans (Core.ops_readied _ _)
    obtain ⟨t, hexec, -, hhost, hmeasure, hcore⟩ := exec_arrayOperationStart_of_fits s core gap htide hops rfl rfl hwf hfits
      (x := x.runDrain core.val a dest dst dp)
      (by simp only [CoreFx.runArrayOp, stepArrays, Core.arrayFault_readied, hfits]; rfl) hfault hdone
    obtain ⟨-, hweights, hacc, hupdates⟩ := (ArrayState.latches_eq_iff _ _ _ _ _).1
      (x.latches_runDrain core.val dest dst dp ((Core.length_readied _ _).symm ▸ ha))
    obtain ⟨-, hstood, -, -⟩ := (ArrayState.latches_eq_iff _ _ _ _ _).1 ((s.fabric.core core.val).latches_readied [a] a)
    refine ⟨t, hexec, ?_, ?_, ?_, ?_, hhost, hmeasure⟩ <;> rw [hcore]
    exacts [hdone, hacc, hupdates, hweights.trans hstood]
  case stream =>
    let x : CoreFx := { core := (s.fabric.core core.val).readied (maskArrays f.mask) }
    obtain ⟨hfault, hkept⟩ := x.latchesKept_runStream core.val f fed
    have hdone := hkept.ops.trans (Core.ops_readied _ _)
    obtain ⟨t, hexec, -, hhost, hmeasure, hcore⟩ := exec_arrayOperationStart_of_fits s core gap htide hops rfl
      (Issued.fedWhole_stream hfed) hwf hfits (x := x.runStream core.val f fed)
      (by simp only [CoreFx.runArrayOp, stepArrays, Core.arrayFault_readied, hfits]; rfl) hfault hdone
    refine ⟨t, hexec, ?_, ?_, fun a => ?_, hhost, hmeasure⟩ <;> rw [hcore]
    · exact hdone
    · exact hkept.curMask
    · obtain ⟨-, hweights, hacc, -⟩ := (ArrayState.latches_eq_iff _ _ _ _ _).1
        ((hkept.latches a).trans ((s.fabric.core core.val).latches_readied (maskArrays f.mask) a))
      exact ⟨hweights, hacc⟩
  case misfit =>
    let u : State := { s with fabric := s.fabric.modCore core.val fun c => { c with ops := [] } }
    have hu : SMap.wf {} u.fabric.cores = true := SMap.wf_set _ _ _ _ hwf
    have hcore : u.fabric.core core.val = { s.fabric.core core.val with ops := [] } :=
      s.fabric.core_setCore_same _ core.val (.inl hwf)
    obtain ⟨harrays, hlagoon⟩ := u.core_coreFail core.val idx hu 5 core.val
    rw [hcore] at harrays hlagoon
    refine ⟨_, exec_arrayOperationStart_of_fault s core gap htide hops hkind hfed hmisfit, hlagoon, fun hdies => ?_,
      fun a => congrArg (fun l : List ArrayState => (l.getD a {}).acc) harrays⟩
    have hdie : core.val / 100 < u.fabric.dies.length := by
      change core.val / 100 < s.fabric.dies.length
      omega
    exact u.die_coreFail_array core.val idx hu hdie

end Sys2Proof.Machine
end

section
/-! Integer arithmetic (08): saturation, rounding to nearest even, lookups, and the sum of a foot over bit planes. -/

namespace Sys2Proof.Machine

/-! ### Saturation (R223) -/

/-- A value clamped to `lo..hi`, and whether that changed it: what both saturations do. -/
def clampTag (lo hi v : Int) : Int × Bool := if hi < v then (hi, true) else if v < lo then (lo, true) else (v, false)

theorem satS_eq_clampTag (w : Nat) (v : Int) : satS w v = clampTag (-(2 ^ (w - 1))) (2 ^ (w - 1) - 1) v := rfl

theorem satU_eq_clampTag (w : Nat) (v : Int) : satU w v = clampTag 0 (2 ^ w - 1) v := rfl

/-- The value inside the range, the nearest bound outside it, and a tag exactly when they differ. -/
theorem clampTag_spec {lo hi : Int} (h : lo ≤ hi) (v : Int) :
    lo ≤ (clampTag lo hi v).1 ∧ (clampTag lo hi v).1 ≤ hi ∧ ((clampTag lo hi v).2 = false ↔ (clampTag lo hi v).1 = v) ∧
      (lo ≤ v → v ≤ hi → (clampTag lo hi v).1 = v) ∧ (v < lo → (clampTag lo hi v).1 = lo) ∧
      (hi < v → (clampTag lo hi v).1 = hi) := by
  by_cases habove : hi < v
  · rw [clampTag, if_pos habove]
    exact ⟨h, le_rfl, by simp [habove.ne], fun _ hle => absurd hle habove.not_ge, fun hbelow => by omega, fun _ => rfl⟩
  · by_cases hbelow : v < lo
    · rw [clampTag, if_neg habove, if_pos hbelow]
      exact ⟨le_rfl, h, by simp [hbelow.ne'], fun hle => absurd hle hbelow.not_ge, fun _ => rfl, fun hgt => absurd hgt habove⟩
    · rw [clampTag, if_neg habove, if_neg hbelow]
      exact ⟨not_lt.1 hbelow, not_lt.1 habove, iff_of_true rfl rfl, fun _ _ => rfl,
        fun hlt => absurd hlt hbelow, fun hgt => absurd hgt habove⟩

/-! ### Rounding to nearest even (R232) -/

/-- What rounding can do: down where the remainder is at most one half, up where it is at least one half, and at one half to
the even quotient. -/
theorem rhe_cases (p : Int) (s : Nat) :
    (rhe p s = p / 2 ^ s ∧ 2 * (p % 2 ^ s) ≤ 2 ^ s ∧ (2 * (p % 2 ^ s) = 2 ^ s → rhe p s % 2 = 0)) ∨
      (rhe p s = p / 2 ^ s + 1 ∧ 2 ^ s ≤ 2 * (p % 2 ^ s) ∧ (2 * (p % 2 ^ s) = 2 ^ s → rhe p s % 2 = 0)) := by
  by_cases hs : s = 0
  · subst hs
    simp [rhe]
  · have hrem : p - p / 2 ^ s * 2 ^ s = p % 2 ^ s := by rw [Int.emod_def, mul_comm]
    simp only [rhe, if_neg hs, hrem]
    split <;> omega

/-- How far rounding moves: down by the remainder or up by what it lacks of 2^s. -/
theorem rhe_mul_sub (p : Int) (s : Nat) :
    (rhe p s = p / 2 ^ s → rhe p s * 2 ^ s - p = -(p % 2 ^ s)) ∧
      (rhe p s = p / 2 ^ s + 1 → rhe p s * 2 ^ s - p = 2 ^ s - p % 2 ^ s) := by
  have hdiv := Int.mul_ediv_add_emod p (2 ^ s)
  exact ⟨fun h => by rw [h]; linarith, fun h => by rw [h]; linarith⟩

/-- The rounded value is a nearest multiple of 2^s, and the even one where two are as near. -/
theorem rhe_nearest_even (p : Int) (s : Nat) :
    2 * (rhe p s * 2 ^ s - p) ≤ 2 ^ s ∧ -(2 ^ s) ≤ 2 * (rhe p s * 2 ^ s - p) ∧
      (2 * (rhe p s * 2 ^ s - p) = 2 ^ s ∨ 2 * (rhe p s * 2 ^ s - p) = -(2 ^ s) → rhe p s % 2 = 0) := by
  have hpos : (0 : Int) < 2 ^ s := by positivity
  have hnonneg := Int.emod_nonneg p hpos.ne'
  have hlt := Int.emod_lt_of_pos p hpos
  obtain ⟨hdown, hup⟩ := rhe_mul_sub p s
  obtain ⟨hq, hhalf, heven⟩ | ⟨hq, hhalf, heven⟩ := rhe_cases p s
  · rw [hdown hq]
    omega
  · rw [hup hq]
    omega

/-- Rounding stays at or above every multiple of 2^s that the value reaches. -/
theorem le_rhe {n p : Int} {s : Nat} (h : n * 2 ^ s ≤ p) : n ≤ rhe p s := by
  have hquot : n ≤ p / 2 ^ s := (Int.le_ediv_iff_mul_le (by positivity)).2 h
  obtain ⟨hq, -⟩ | ⟨hq, -⟩ := rhe_cases p s <;> omega

/-- Rounding stays at or below every multiple of 2^s that bounds the value. -/
theorem rhe_le {n p : Int} {s : Nat} (h : p ≤ n * 2 ^ s) : rhe p s ≤ n := by
  have hpos : (0 : Int) < 2 ^ s := by positivity
  obtain ⟨hq, -⟩ | ⟨hq, hhalf, -⟩ := rhe_cases p s
  · rw [hq]
    exact Int.ediv_le_of_le_mul hpos h
  · have hlt : p / 2 ^ s * 2 ^ s < n * 2 ^ s := by
      have hdiv := Int.mul_ediv_add_emod p (2 ^ s)
      linarith
    rw [hq]
    exact lt_of_mul_lt_mul_right hlt hpos.le

/-- A step of `d` taken by the fraction `f` of 2^k lies between none and the whole of it. -/
theorem rhe_mul_mem {f : Int} {k : Nat} (d : Int) (hf : 0 ≤ f) (hfk : f ≤ 2 ^ k) :
    min 0 d ≤ rhe (d * f) k ∧ rhe (d * f) k ≤ max 0 d := by
  obtain hd | hd := le_total 0 d
  · rw [min_eq_left hd, max_eq_right hd]
    exact ⟨le_rhe (by rw [zero_mul]; exact mul_nonneg hd hf), rhe_le (mul_le_mul_of_nonneg_left hfk hd)⟩
  · rw [min_eq_right hd, max_eq_left hd]
    exact ⟨le_rhe (mul_le_mul_of_nonpos_left hfk hd), rhe_le (by rw [zero_mul]; exact mul_nonpos_of_nonpos_of_nonneg hd hf)⟩

/-! ### Lookups (R233, R234) -/

theorem lookup_of_lt (t : List Int) {x0 x : Int} (k : Nat) (h : x < x0) : lookup t x0 k x = t.getD 0 0 :=
  if_pos (by omega)

theorem lookup_of_le (t : List Int) {x0 x : Int} {k : Nat} (h : x0 + 255 * 2 ^ k ≤ x) : lookup t x0 k x = t.getD 255 0 := by
  have hpos : (0 : Int) < 2 ^ k := by positivity
  have hlast : 255 ≤ (x - x0) / 2 ^ k := (Int.le_ediv_iff_mul_le hpos).2 (by omega)
  simp only [lookup]
  rw [if_neg (by omega), if_pos (by omega)]

/-- Inside the domain a lookup interpolates between entry `i` and the next. -/
theorem lookup_of_mem (t : List Int) {x0 x : Int} {k i : Nat} (hi : i < 255) (hlo : x0 + i * 2 ^ k ≤ x)
    (hhi : x < x0 + (i + 1) * 2 ^ k) :
    lookup t x0 k x = t.getD i 0 + rhe ((t.getD (i + 1) 0 - t.getD i 0) * (x - x0 - i * 2 ^ k)) k := by
  have hpos : (0 : Int) < 2 ^ k := by positivity
  have hstart : (0 : Int) ≤ i * 2 ^ k := by positivity
  have hcell : (x - x0) / 2 ^ k = i := (Int.ediv_eq_iff_of_pos hpos).2 ⟨by linarith, by linarith⟩
  simp only [lookup, hcell, Int.toNat_natCast]
  rw [if_neg (by omega), if_neg (by omega)]

/-- R234: inside the domain a lookup lies between its two entries. -/
theorem lookup_mem (t : List Int) {x0 x : Int} {k i : Nat} (hi : i < 255) (hlo : x0 + i * 2 ^ k ≤ x)
    (hhi : x < x0 + (i + 1) * 2 ^ k) :
    min (t.getD i 0) (t.getD (i + 1) 0) ≤ lookup t x0 k x ∧ lookup t x0 k x ≤ max (t.getD i 0) (t.getD (i + 1) 0) := by
  obtain ⟨hmin, hmax⟩ := rhe_mul_mem (t.getD (i + 1) 0 - t.getD i 0) (f := x - x0 - i * 2 ^ k) (k := k) (by linarith) (by linarith)
  rw [lookup_of_mem t hi hlo hhi]
  omega

/-! ### A foot's sum over bit planes (R227) -/

theorem bit_eq_decide (u b : Nat) : bit u b = decide (u / 2 ^ b % 2 = 1) := by
  rw [bit, field, Nat.shiftRight_eq_div_pow, pow_one]

/-- The weight of plane `b` of a `p`-bit activation: k_b · 2^b. -/
def planeWeight (isSigned : Bool) (p b : Nat) : Int := (if isSigned = true ∧ b = p - 1 then (-1 : Int) else 1) * 2 ^ b

/-- The value a `p`-bit code stands for. -/
def codeValue (isSigned : Bool) (p u : Nat) : Int := if isSigned then signed p u else (u : Int)

/-- Bit `b` of a code, as a number. -/
def bitValue (u b : Nat) : Int := if bit u b then 1 else 0

/-- A code is its low bits and its top bit. -/
theorem cast_mod_two_pow_succ (u n : Nat) : ((u % 2 ^ (n + 1) : Nat) : Int) = (u % 2 ^ n : Nat) + 2 ^ n * bitValue u n := by
  have hbit : bitValue u n = (u / 2 ^ n % 2 : Nat) := by
    simp only [bitValue, bit_eq_decide, decide_eq_true_eq]
    split <;> omega
  rw [Nat.mod_pow_succ, hbit]
  push_cast
  rfl

/-- The low `n` bits of a code are the sum of its planes. -/
theorem cast_mod_two_pow_eq_sum (u n : Nat) :
    ((u % 2 ^ n : Nat) : Int) = ((List.range n).map fun b => 2 ^ b * bitValue u b).sum := by
  induction n with
  | zero => simp [Nat.mod_one]
  | succ n ih => rw [cast_mod_two_pow_succ, ih, List.sum_range_succ]

/-- A code in two's complement is its low bits less its top bit. -/
theorem signed_succ_eq {u n : Nat} (h : u < 2 ^ (n + 1)) : signed (n + 1) u = (u % 2 ^ n : Nat) - 2 ^ n * bitValue u n := by
  have hcode := cast_mod_two_pow_succ u n
  rw [Nat.mod_eq_of_lt h] at hcode
  have hpow : (2 : Int) ^ (n + 1) = 2 * 2 ^ n := by ring
  have hlow : u % 2 ^ n < 2 ^ n := Nat.mod_lt _ (Nat.two_pow_pos n)
  have hcast : ((2 ^ n : Nat) : Int) = 2 ^ n := by push_cast; rfl
  simp only [signed, Nat.add_sub_cancel, hpow]
  unfold bitValue at hcode ⊢
  split at hcode <;> split <;> omega

/-- The value of a code is the weighted sum of its planes, the top plane of a signed one negative. -/
theorem codeValue_eq_sum (isSigned : Bool) {p u : Nat} (hp : 1 ≤ p) (h : u < 2 ^ p) :
    codeValue isSigned p u = ((List.range p).map fun b => planeWeight isSigned p b * bitValue u b).sum := by
  obtain ⟨n, rfl⟩ := Nat.exists_eq_add_of_le' hp
  have hlow : ((List.range n).map fun b => planeWeight isSigned (n + 1) b * bitValue u b).sum = ((u % 2 ^ n : Nat) : Int) := by
    rw [cast_mod_two_pow_eq_sum]
    refine congrArg List.sum (List.map_congr_left fun b hb => ?_)
    have hne : b ≠ n := (List.mem_range.1 hb).ne
    simp [planeWeight, hne]
  rw [List.sum_range_succ, hlow]
  cases isSigned with
  | false =>
    have hcode := cast_mod_two_pow_succ u n
    rw [Nat.mod_eq_of_lt h] at hcode
    simpa [codeValue, planeWeight] using hcode
  | true =>
    simp only [codeValue, planeWeight, if_true, signed_succ_eq h, Nat.add_sub_cancel, and_self]
    ring

/-- The sum of the products of a row is the weighted sum of its plane sums. -/
theorem sum_products_eq_sum_planes (isSigned : Bool) {p : Nat} (hp : 1 ≤ p) (ws : List Int) (codes : List Nat)
    (hcodes : ∀ u ∈ codes, u < 2 ^ p) :
    (List.zipWith (fun w u => w * codeValue isSigned p u) ws codes).sum =
      ((List.range p).map fun b =>
        planeWeight isSigned p b * (List.zipWith (fun w u => if bit u b then w else 0) ws codes).sum).sum := by
  induction ws generalizing codes with
  | nil => simp
  | cons w ws ih =>
    cases codes with
    | nil => simp
    | cons u codes =>
      obtain ⟨hu, hrest⟩ := List.forall_mem_cons.1 hcodes
      have hproduct : w * codeValue isSigned p u =
          ((List.range p).map fun b => planeWeight isSigned p b * if bit u b then w else 0).sum := by
        rw [codeValue_eq_sum isSigned hp hu, ← List.sum_map_mul_left]
        refine congrArg List.sum (List.map_congr_left fun b _ => ?_)
        rw [mul_left_comm, bitValue, mul_ite, mul_one, mul_zero]
      simp only [List.zipWith_cons_cons, List.sum_cons, mul_add, List.sum_map_add]
      rw [hproduct, ih codes hrest]

/-- A foot saturates the carry plus the sum of its products, once. -/
theorem footValue_eq (carry : Int) (products : List Int) : footValue carry products = satS 48 (carry + products.sum) := by
  rw [footValue, List.foldl_eq_apply_foldr (init := 0), List.sum_eq_foldr]

/-- Settles O15, each clause by the lemma of its operation; the foot by the exchange of the sum over rows with the one over bit
planes. -/
theorem arithmeticIsExact : Obligations.ArithmeticIsExact := by
  refine ⟨⟨fun w v _ => ?_, fun p s => ?_, fun t _ _ _ _ hi hlo hhi => lookup_mem t hi hlo hhi,
    fun t _ _ k h => lookup_of_lt t k h, fun t _ _ _ h => lookup_of_le t h⟩, fun p isSigned carry ws codes hp _ _ hcodes => ?_⟩
  · have hhalf : (0 : Int) < 2 ^ (w - 1) := by positivity
    have hwhole : (0 : Int) < 2 ^ w := by positivity
    obtain ⟨hlo, hhi, htag, hin, hbelow, habove⟩ := clampTag_spec (show -(2 ^ (w - 1)) ≤ (2 ^ (w - 1) - 1 : Int) by omega) v
    rw [satS_eq_clampTag, satU_eq_clampTag]
    exact ⟨hlo, hhi, htag, hin, hbelow, habove, clampTag_spec (show 0 ≤ (2 ^ w - 1 : Int) by omega) v⟩
  · obtain ⟨hle, hge, heven⟩ := rhe_nearest_even p s
    exact ⟨hle, hge, fun htie _ => heven htie⟩
  · rw [footValue_eq]
    exact congrArg (fun sum => satS 48 (carry + sum)) (sum_products_eq_sum_planes isSigned hp ws codes hcodes)

end Sys2Proof.Machine
end

section
/-! Plans from delivery to SWITCH-PENDING (10, "Delivery and checks"; R272-R276). -/

namespace Sys2Proof.Machine

@[simp] theorem State.touch_sessionOpen (s : State) (ch : Channel) : (s.touch ch).sessionOpen = s.sessionOpen := by
  rw [State.sessionOpen, State.touch_od, State.sessionOpen]

/-! ### Delivery (R272, R301) -/

section
variable {s : State} {ch : Channel} (addr len : BitVec 64) (hopen : s.sessionOpen = true) (ha : s.accepts ch 0x4100 1 .host)
include hopen ha

/-- In a session, a delivery that reaches its object does what the touched state stages. -/
theorem exec_planDelivery_of_accepts : exec (.planDelivery ch addr len) s = .next ((s.touch ch).stagePlan addr len) := by
  change Host.Outcome.next (s.odRow ch 0x4100 1 .host fun s => s.writePlanDelivery addr len) = _
  rw [State.odRow_of_accepts _ _ _ _ _ _ ha, State.writtenBy, State.writePlanDelivery, State.touch_sessionOpen, if_pos hopen]

theorem exec_planDelivery_of_none (hstaged : s.fabric.staged = none) : exec (.planDelivery ch addr len) s =
    .next { (s.touch ch).takeF0 with
      fabric := { s.fabric with staged := some ⟨.loading, addr, len, none, s.host.f0Requests + 1⟩ } } := by
  rw [exec_planDelivery_of_accepts addr len hopen ha]
  simp only [State.stagePlan, State.takeF0, State.touch_fabric, State.touch_host, hstaged]

theorem exec_planDelivery_of_staged (hstaged : s.fabric.staged ≠ none) : exec (.planDelivery ch addr len) s =
    .next { s.touch ch with fabric := { s.fabric with refusal := 0x0D, refused := bump s.fabric.refused } } := by
  rw [exec_planDelivery_of_accepts addr len hopen ha]
  obtain ⟨p, hp⟩ := Option.ne_none_iff_exists'.1 hstaged
  simp only [State.stagePlan, State.touch_fabric, hp]

end

/-! ### The end of the fetch (R273-R275, R315, R318) -/

theorem exec_planCheck_of_not_fetching {s : State} {p : Staged} (f : HostFetch) (hstaged : s.fabric.staged = some p)
    (h : s.fetchesPlan p = false) : exec (.planCheck f) s = .next s := by
  change execPlanCheck f s = _
  simp only [execPlanCheck, hstaged, h, Bool.false_eq_true, if_false]

theorem exec_planCheck_of_fetching {s : State} {p : Staged} (f : HostFetch) (hstaged : s.fabric.staged = some p)
    (h : s.fetchesPlan p = true) : exec (.planCheck f) s = .next (s.planFetched p f) := by
  change execPlanCheck f s = _
  simp only [execPlanCheck, hstaged, h, if_true]

/-- A whole file: CHECKED where the code of its length and its checks is zero, else refused with that code. -/
theorem State.planFetched_bytes (s : State) (p : Staged) (b : Bytes) {code : Nat}
    (hcode : (if b.length = p.len.toNat then s.planCode b else 0x01) = code) :
    s.planFetched p (.bytes b) = if code = 0
      then { s with fabric := { s.fabric with staged := some { p with state := .checked, info := some (planInfo b) } } }
      else s.refusePlan code := by
  simp only [State.planFetched, hcode]
  cases code <;> rfl

/-! ### The command (R276) -/

theorem exec_planSwitch_of_accepts {s : State} {ch : Channel} (hopen : s.sessionOpen = true)
    (ha : s.accepts ch 0x4100 2 .hOpCu) (v : Byte) :
    exec (.planSwitch ch v) s = .next (s.writtenBy ch 0x4100 2 fun s => s.planCommand v) := by
  change Host.Outcome.next (s.odRow ch 0x4100 2 .hOpCu fun s => s.writePlanSwitch v) = _
  rw [State.odRow_of_accepts _ _ _ _ _ _ ha]
  simp only [State.writtenBy, State.writePlanSwitch, State.touch_sessionOpen, hopen, if_true]

/-- The two commands write one object. -/
theorem exec_planDiscard_eq (s : State) (ch : Channel) (v : Byte) : exec (.planDiscard ch v) s = exec (.planSwitch ch v) s := rfl

section
variable {s : State} {p : Staged} (hstaged : s.fabric.staged = some p)
include hstaged

theorem State.planCommand_switch (hchecked : p.state = .checked) : s.planCommand 0xA5 =
    some { s with fabric := { s.fabric with staged := some { p with state := .switchPending } } } := by
  simp [State.planCommand, hstaged, hchecked]

theorem State.planCommand_discard (hloaded : p.state ≠ .loading) : s.planCommand 0x5A =
    some { s with fabric := { s.fabric with staged := none } } := by
  simp [State.planCommand, hstaged, hloaded]

theorem State.planCommand_other {v : Byte} (hswitch : v ≠ 0xA5) (hdiscard : v ≠ 0x5A) : s.planCommand v = none := by
  simp only [State.planCommand, hstaged, hswitch, hdiscard, false_and, if_false]

end

/-- Settles O21, each write and each end of the fetch by the lemma of its case. -/
theorem plansAreStaged : Obligations.PlansAreStaged := by
  refine fun s ch addr len v hopen => ⟨?delivery, ?check, ?command⟩
  case delivery => exact fun ha => ⟨exec_planDelivery_of_none addr len hopen ha, exec_planDelivery_of_staged addr len hopen ha⟩
  case check =>
    refine fun i k f hstaged => ⟨exec_planCheck_of_not_fetching f hstaged, fun hfetch => ⟨fun b => ⟨planInfo b, rfl, ?_⟩,
      exec_planCheck_of_fetching .error hstaged hfetch, exec_planCheck_of_fetching .refused hstaged hfetch⟩⟩
    rw [exec_planCheck_of_fetching _ hstaged hfetch, State.planFetched_bytes _ _ _ rfl]
    rfl
  case command =>
    intro p ha hstaged
    have htouched : (s.touch ch).fabric.staged = some p := by rw [State.touch_fabric, hstaged]
    have hexec (w : Byte) := exec_planSwitch_of_accepts hopen ha w
    refine ⟨fun hchecked => ?_, fun hloaded => ?_, fun hswitch hdiscard => ?_⟩
    · rw [hexec, State.writtenBy, State.planCommand_switch htouched hchecked, State.touch_fabric]
    · rw [exec_planDiscard_eq, hexec, State.writtenBy, State.planCommand_discard htouched hloaded, State.touch_fabric]
    · rw [exec_planDiscard_eq, hexec, State.writtenBy, State.planCommand_other htouched hswitch hdiscard]
      exact ⟨rfl, rfl⟩

end Sys2Proof.Machine
end

section
/-! Many cores of the fabric written in turn, and the points of a grid: what admission (R246, R277-R281) and departure (R213, R244,
R288) share. -/

namespace Sys2Proof.Machine

/-! ### Many keys of a map written -/

section
variable {α : Type} [DecidableEq α]

theorem SMap.wf_foldl_modify (d : α) (u : Nat → α → α) (l : List Nat) {m : SMap α} (hw : SMap.wf d m = true) :
    SMap.wf d (l.foldl (fun m i => SMap.modify d m i (u i)) m) = true :=
  List.foldlRecOn (motive := fun m => SMap.wf d m = true) l _ hw fun _ hm i _ => SMap.wf_modify d _ i (u i) hm

/-- Each listed key is updated; an update that is its own repetition may be listed more than once. -/
theorem SMap.get_foldl_modify (d : α) {u : Nat → α → α} (hu : ∀ i x, u i (u i x) = u i x) (l : List Nat) {m : SMap α}
    (hw : SMap.wf d m = true) (k : Nat) :
    SMap.get d (l.foldl (fun m i => SMap.modify d m i (u i)) m) k =
      if k ∈ l then u k (SMap.get d m k) else SMap.get d m k := by
  induction l generalizing m with
  | nil => rfl
  | cons i l ih =>
    rw [List.foldl_cons, ih (SMap.wf_modify d m i (u i) hw), SMap.get_modify d m i (u i) k hw]
    by_cases hik : i = k
    · subst hik
      simp [hu]
    · simp [hik, Ne.symm hik]

end

theorem SMap.get_of_not_key {α : Type} (d : α) {m : SMap α} {k : Nat} (h : k ∉ m.map Prod.fst) : SMap.get d m k = d := by
  induction m with
  | nil => rfl
  | cons e m ih =>
    obtain ⟨hne, hrest⟩ := not_or.1 (List.mem_cons.not.1 h)
    rw [SMap.get_cons, if_neg (Ne.symm hne), ih hrest]

/-- A map restricted to keys of one kind reads the default at every other key. -/
theorem SMap.get_filter {α : Type} (d : α) (p : Nat → Bool) (m : SMap α) (k : Nat) :
    SMap.get d (m.filter fun e => p e.1) k = if p k then SMap.get d m k else d := by
  induction m with
  | nil => simp
  | cons e m ih =>
    obtain ⟨i, v⟩ := e
    by_cases hik : i = k
    · subst hik
      cases hp : p i <;> simp [hp, SMap.get_cons, ih]
    · cases hp : p i <;> simp [hp, SMap.get_cons, hik, ih]

/-! ### Many cores written -/

theorem Fabric.foldl_modCore_eq (l : List Nat) (u : Nat → Core → Core) (f : Fabric) :
    l.foldl (fun g i => g.modCore i (u i)) f =
      { f with cores := l.foldl (fun m i => SMap.modify {} m i (u i)) f.cores } := by
  induction l generalizing f with
  | nil => rfl
  | cons i l ih => exact ih (f.modCore i (u i))

/-! ### Grid points (R280) -/

theorem gridAtOrAfter_eq (origin cadence t : Nat) :
    gridAtOrAfter origin cadence t = origin + cadence * ((t - origin) ⌈/⌉ cadence) := by
  unfold gridAtOrAfter
  split
  · next h => rw [Nat.sub_eq_zero_of_le h, zero_ceilDiv, mul_zero, add_zero]
  · rw [Nat.ceilDiv_eq_add_pred_div, mul_comm]

/-- The grid point at or after a time is the least of the grid's points that are. -/
theorem isLeast_gridAtOrAfter (origin t : Nat) {cadence : Nat} (hc : 0 < cadence) :
    IsLeast {g | t ≤ g ∧ origin ≤ g ∧ (g - origin) % cadence = 0} (gridAtOrAfter origin cadence t) := by
  rw [gridAtOrAfter_eq origin cadence t]
  refine ⟨⟨?_, Nat.le_add_right _ _, by simp⟩, fun g ⟨ht, horigin, hgrid⟩ => ?_⟩
  · have hceil : t - origin ≤ cadence * ((t - origin) ⌈/⌉ cadence) := le_smul_ceilDiv hc
    omega
  · obtain ⟨n, hn⟩ := Nat.dvd_of_mod_eq_zero hgrid
    have hle : (t - origin) ⌈/⌉ cadence ≤ n := (ceilDiv_le_iff_le_smul hc).2 (by rw [smul_eq_mul]; omega)
    have hmul := Nat.mul_le_mul_left cadence hle
    omega

end Sys2Proof.Machine
end

section
/-! Admission of a plan at a tide boundary (10, "Admission"; R246, R277-R281, R293, R295, R297). -/

namespace Sys2Proof.Machine

/-! ### The windows written (R278, R279) -/

theorem Fabric.writeWindows_eq (f : Fabric) (p : PlanInfo) (models : List (Digest × Bytes)) :
    f.writeWindows p models = { f with
      cores := p.cores.foldl (fun m i => SMap.modify {} m i fun _ => (p.windowsOf models i).core) f.cores
      windows := p.cores.foldl (fun m i => SMap.modify {} m i fun _ => p.windowsOf models i) [] } := by
  suffices h : ∀ (l : List Nat) (f : Fabric),
      l.foldl (fun f i => { f with
        cores := SMap.set {} f.cores i (p.windowsOf models i).core
        windows := SMap.set {} f.windows i (p.windowsOf models i) }) f =
      { f with
        cores := l.foldl (fun m i => SMap.modify {} m i fun _ => (p.windowsOf models i).core) f.cores
        windows := l.foldl (fun m i => SMap.modify {} m i fun _ => p.windowsOf models i) f.windows } from
    h p.cores { f with windows := [] }
  intro l
  induction l with
  | nil => exact fun _ => rfl
  | cons i l ih => exact fun f => ih _

section
variable {f : Fabric} {p : PlanInfo} (models : List (Digest × Bytes)) {i : Nat} (hi : i ∈ p.cores)
include hi

theorem Fabric.get_cores_writeWindows (hwf : SMap.wf {} f.cores = true) :
    SMap.get {} (f.writeWindows p models).cores i = (p.windowsOf models i).core := by
  rw [Fabric.writeWindows_eq]
  have hget := SMap.get_foldl_modify {} (u := fun i _ => (p.windowsOf models i).core) (fun _ _ => rfl) p.cores hwf i
  rw [if_pos hi] at hget
  dsimp only
  exact hget

theorem Fabric.get_windows_writeWindows : SMap.get {} (f.writeWindows p models).windows i = p.windowsOf models i := by
  rw [Fabric.writeWindows_eq]
  have hget := SMap.get_foldl_modify {} (u := fun i _ => p.windowsOf models i) (fun _ _ => rfl) p.cores (m := []) rfl i
  rw [if_pos hi] at hget
  dsimp only
  exact hget

end

/-! ### The plan taken (R277-R281, R293) -/

section
variable (s : State) (p : PlanInfo)

@[simp] theorem State.haltPoisoned_nil : s.haltPoisoned [] = s := rfl

/-- Where no window was poisoned, the fabric holds the new windows, the plan and its grid. -/
theorem State.takePlan_fabric : (s.takePlan p []).fabric = { s.fabric with
    cores := (s.fabric.writeWindows p s.hosting.models).cores, windows := (s.fabric.writeWindows p s.hosting.models).windows
    plan := some p, staged := none, origin := s.gridOrigin p, skipped := s.fabric.skippedAt s.gridNow, gridNext := s.gridOrigin p
    lastTide := none, halted := s.fabric.halted &&& ~~~p.mask, dark := s.fabric.dark &&& ~~~p.mask
    marks := [], allFinished := none, ownFinish := none } := by
  simp only [State.takePlan, State.haltPoisoned_nil, State.extendMr_fabric, Fabric.writeWindows_eq]

theorem State.core_takePlan {i : Nat} (hi : i ∈ p.cores) (hwf : SMap.wf {} s.fabric.cores = true) :
    (s.takePlan p []).fabric.core i = (p.windowsOf s.hosting.models i).core := by
  rw [Fabric.core, State.takePlan_fabric]
  dsimp only
  exact Fabric.get_cores_writeWindows _ hi hwf

theorem State.window_takePlan {i : Nat} (hi : i ∈ p.cores) :
    SMap.get {} (s.takePlan p []).fabric.windows i = p.windowsOf s.hosting.models i := by
  rw [State.takePlan_fabric]
  dsimp only
  exact Fabric.get_windows_writeWindows _ hi

theorem State.takePlan_otp : (s.takePlan p []).otp = s.otp := by
  simp only [State.takePlan, State.haltPoisoned_nil, State.extendMr_otp]
theorem State.takePlan_keys : (s.takePlan p []).keys = s.keys := by
  simp only [State.takePlan, State.haltPoisoned_nil, State.extendMr_keys]
theorem State.takePlan_measure : (s.takePlan p []).measure = s.measure.extend 9 (eventRecord 1 p.digest s.now) := by
  simp only [State.takePlan, State.haltPoisoned_nil, State.extendMr_measure, State.now]

theorem State.mr_takePlan (k : Nat) : (s.takePlan p []).mr k = (s.extendMr 9 (eventRecord 1 p.digest s.now)).mr k := by
  rw [State.mr, State.takePlan_measure, State.mr, State.extendMr_measure]

theorem eventRecord_one (d : Digest) (time : Nat) : eventRecord 1 d time = [0x01] ++ digestBytes d ++ leBytes 8 time := rfl

theorem State.mr_nine_takePlan (hlen : s.measure.mrs.length = 32) : (s.takePlan p []).mr 9 =
    sha384 (digestBytes (s.mr 9) ++ ([0x01] ++ digestBytes p.digest ++ leBytes 8 s.now)) := by
  rw [State.mr_takePlan, State.extendMr_mr_same _ _ _ (by omega), extendValue, eventRecord_one]

theorem State.mr_takePlan_ne {k : Nat} (h : k ≠ 9) : (s.takePlan p []).mr k = s.mr k := by
  rw [State.mr_takePlan, State.extendMr_mr_ne _ _ _ _ h]

theorem roundUpUs_spec (t : Nat) : t ≤ roundUpUs t ∧ roundUpUs t % 1000 = 0 := by
  unfold roundUpUs
  omega

/-- The grid of an ordinary plan starts on a whole microsecond, not before now (R280). -/
theorem State.gridOrigin_spec (hspan : p.span = none) : s.now ≤ s.gridOrigin p ∧ s.gridOrigin p % 1000 = 0 := by
  simp only [State.gridOrigin, hspan]
  obtain ⟨hle, hwhole⟩ := roundUpUs_spec (s.now + Config.freeDelay s.draws % 400001)
  exact ⟨(Nat.le_add_right _ _).trans hle, hwhole⟩

theorem State.gridOrigin_of_span {sp : SpanInfo} (hspan : p.span = some sp) : s.gridOrigin p = sp.epoch := by
  simp only [State.gridOrigin, hspan]

end

/-! ### The boundary (R277, R297) -/

theorem State.admission_of_passed {s : State} {p : PlanInfo} (poisoned : List Nat) (h : s.recheckCode p = 0) :
    s.admission p poisoned = s.takePlan p poisoned := by
  simp only [State.admission, h]

theorem State.admission_of_failed {s : State} {p : PlanInfo} (poisoned : List Nat) (h : s.recheckCode p ≠ 0) :
    s.admission p poisoned = s.refusePlan (s.recheckCode p) := by
  unfold State.admission
  split
  · next hzero => exact absurd hzero h
  · rfl

section
variable {s : State} {a l : BitVec 64} {k : Nat} {p : PlanInfo}
  (hstaged : s.fabric.staged = some ⟨.switchPending, a, l, some p, k⟩) (htide : s.fabric.tide = none)
include hstaged htide

theorem State.switching_of_pending {isSpan : Bool} (h : p.span.isSome = isSpan) : s.switching isSpan = some p := by
  simp [State.switching, hstaged, htide, h]

theorem exec_planAdmission_of_pending (hspan : p.span = none) : exec (.planAdmission []) s = .next (s.admission p []) := by
  change execPlanAdmission [] s = _
  have hswitch : s.switching false = some p := State.switching_of_pending hstaged htide (by rw [hspan]; rfl)
  simp only [execPlanAdmission, hswitch, List.map_nil]

variable {sp : SpanInfo} (hspan : p.span = some sp) (reported : Nat)
include hspan

theorem exec_spanAdmission_of_pending : exec (.spanAdmission ⟨[], reported⟩) s =
    .next (if s.atSpanPoint p sp reported then s.admission p [] else s) := by
  change execSpanAdmission ⟨[], reported⟩ s = _
  have hswitch : s.switching true = some p := State.switching_of_pending hstaged htide (by rw [hspan]; rfl)
  simp only [execSpanAdmission, hswitch, hspan, List.map_nil]

end

/-- The span's time is the first grid point at or after the switch time and the last report (R297). -/
theorem State.atSpanPoint_iff {s : State} {p : PlanInfo} (sp : SpanInfo) (reported : Nat) (hc : 0 < p.cadenceNs) :
    s.atSpanPoint p sp reported = true ↔
      IsLeast {g | max s.fabric.spanSwitch reported ≤ g ∧ sp.epoch ≤ g ∧ (g - sp.epoch) % p.cadenceNs = 0} (s.spanNow sp) := by
  rw [State.atSpanPoint, beq_iff_eq]
  have hleast := isLeast_gridAtOrAfter sp.epoch (max s.fabric.spanSwitch reported) hc
  exact ⟨fun h => h ▸ hleast, hleast.unique⟩

/-- Settles O22: what a passed recheck takes is the same at both kinds of boundary; the span's boundary is its first grid point. -/
theorem plansAreAdmitted : Obligations.PlansAreAdmitted := by
  intro s a l k p hstaged htide hlen hwf admitted
  have htaken : admitted (s.takePlan p []) := by
    refine ⟨?_, ?_, ?_, s.mr_nine_takePlan p hlen, fun _ => s.mr_takePlan_ne p, ?_, s.takePlan_otp p, s.takePlan_keys p,
      fun _ hi => ⟨s.core_takePlan p hi hwf, s.window_takePlan p hi⟩⟩ <;> rw [State.takePlan_fabric]
  have horigin : (s.takePlan p []).fabric.origin = s.gridOrigin p := by rw [State.takePlan_fabric]
  refine ⟨fun hspan hpassed => ?plan, ?span, fun hspan hfailed => ?failed⟩
  case plan =>
    refine ⟨_, ?_, htaken, horigin ▸ s.gridOrigin_spec p hspan⟩
    rw [exec_planAdmission_of_pending hstaged htide hspan, State.admission_of_passed _ hpassed]
  case span =>
    intro sp hspan hpassed reported hc first
    have hpoint := State.atSpanPoint_iff sp reported hc (s := s)
    rw [exec_spanAdmission_of_pending hstaged htide hspan]
    refine ⟨fun hfirst hleast => ⟨_, ?_, htaken, horigin.trans (s.gridOrigin_of_span p hspan)⟩, fun hnot => ?_⟩
    · rw [if_pos (hpoint.2 ⟨hfirst, hleast⟩), State.admission_of_passed _ hpassed]
    · rw [if_neg fun h => hnot (hpoint.1 h).1]
  case failed =>
    rw [exec_planAdmission_of_pending hstaged htide hspan, State.admission_of_failed _ hfailed]
    rfl

end Sys2Proof.Machine
end

section
/-! The departure of a tide (10, "Departure", "Pace and lateness"; R213, R244, R277, R280, R282-R290). -/

namespace Sys2Proof.Machine

/-! ### Cores cleared (R213, R244) -/

theorem Core.clearArrays_clearArrays (c : Core) : c.clearArrays.clearArrays = c.clearArrays := by
  simp [Core.clearArrays]

theorem Core.clearArrays_default : ({} : Core).clearArrays = {} := rfl

theorem Core.depart_clearArrays (c : Core) (takes : Bool) (count : Nat) : c.clearArrays.depart takes count = c.depart takes count := by
  simp only [Core.depart, Core.clearArrays_clearArrays]
  rfl

theorem Core.depart_depart (c : Core) (takes : Bool) (count : Nat) :
    (c.depart takes count).depart takes count = c.depart takes count := by
  simp [Core.depart, Core.keepWindows, Core.clearArrays, Core.inWindow]

/-- After a departure a core holds the lines of its windows and no other (R244). -/
theorem Core.line_depart (c : Core) (takes : Bool) (count l : Nat) :
    (c.depart takes count).line l = if c.inWindow l then c.line l else {} :=
  SMap.get_filter ({} : Line) c.inWindow c.lagoon l

/-- Every array of the device cleared. -/
def Fabric.clearAll (f : Fabric) : Fabric := f.cores.foldl (fun g e => g.modCore e.1 Core.clearArrays) f

theorem Fabric.clearAll_eq (f : Fabric) : f.clearAll = { f with
    cores := (f.cores.map Prod.fst).foldl (fun m i => SMap.modify {} m i Core.clearArrays) f.cores } := by
  rw [Fabric.clearAll, ← Fabric.foldl_modCore_eq, List.foldl_map]

theorem Fabric.clearForTide_eq (f : Fabric) (p : PlanInfo) (takes : List Nat) (count : Nat) :
    f.clearForTide p takes count = { f.clearAll with
      cores := p.cores.foldl (fun m i => SMap.modify {} m i fun c => c.depart (takes.contains i) count) f.clearAll.cores } :=
  Fabric.foldl_modCore_eq p.cores (fun i c => c.depart (takes.contains i) count) f.clearAll

section
variable {f : Fabric} (hwf : SMap.wf {} f.cores = true)
include hwf

theorem Fabric.get_clearAll (k : Nat) : SMap.get {} f.clearAll.cores k = (f.core k).clearArrays := by
  have hget := SMap.get_foldl_modify {} (u := fun _ => Core.clearArrays) (fun _ => Core.clearArrays_clearArrays)
    (f.cores.map Prod.fst) hwf k
  rw [Fabric.clearAll_eq]
  refine hget.trans ?_
  split
  · rfl
  · next hk => rw [Fabric.core, SMap.get_of_not_key _ hk, Core.clearArrays_default]

theorem Fabric.get_clearForTide (p : PlanInfo) (takes : List Nat) (count k : Nat) :
    SMap.get {} (f.clearForTide p takes count).cores k =
      if k ∈ p.cores then (f.core k).depart (takes.contains k) count else (f.core k).clearArrays := by
  have hclear : SMap.wf {} f.clearAll.cores = true := by
    rw [Fabric.clearAll_eq]
    exact SMap.wf_foldl_modify _ _ _ hwf
  have hget := SMap.get_foldl_modify {} (u := fun i (c : Core) => c.depart (takes.contains i) count)
    (fun _ c => c.depart_depart _ _) p.cores hclear k
  rw [Fabric.get_clearAll hwf, Core.depart_clearArrays] at hget
  rw [Fabric.clearForTide_eq]
  dsimp only
  exact hget

end

/-! ### Cores that take part (R290, R572) -/

theorem getLsbD_foldl_partition (l : List StreamEntry) (m : BitVec 1200) (i : Nat) :
    (l.foldl (fun acc e => acc ||| e.partition) m).getLsbD i = (m.getLsbD i || l.any fun e => e.partition.getLsbD i) := by
  induction l generalizing m with
  | nil => simp
  | cons e l ih => rw [List.foldl_cons, ih, BitVec.getLsbD_or, List.any_cons, Bool.or_assoc]

theorem PlanInfo.mem_cores (p : PlanInfo) (i : Nat) :
    i ∈ p.cores ↔ i < 1200 ∧ ∃ e ∈ p.streams, e.partition.getLsbD i = true := by
  simp [PlanInfo.cores, getLsbD_foldl_partition]

theorem State.mem_tideCores (s : State) (p : PlanInfo) (i : Nat) :
    i ∈ s.tideCores p ↔ i < 1200 ∧ ∃ e ∈ p.streams, s.takesPart e = true ∧ e.partition.getLsbD i = true := by
  simp [State.tideCores, getLsbD_foldl_partition]

theorem State.mem_cores_of_mem_tideCores {s : State} {p : PlanInfo} {i : Nat} (h : i ∈ s.tideCores p) : i ∈ p.cores := by
  obtain ⟨hlt, e, he, _, hbit⟩ := (s.mem_tideCores p i).1 h
  exact (p.mem_cores i).2 ⟨hlt, e, he, hbit⟩

/-! ### Slots (R283, R284) -/

section
variable (e : StreamEntry) (tags : List Nat)

theorem slotsFor_length : (slotsFor e tags).length = e.rows := by
  simp [slotsFor]

theorem getElem?_slotsFor_of_lt {k : Nat} (hrow : k < e.rows) (htag : k < tags.length) :
    (slotsFor e tags)[k]? = some (.sub (tags.getD k 0)) := by
  rw [slotsFor, List.getElem?_append_left (by simp; omega)]
  simp [hrow, htag]

theorem getElem?_slotsFor_of_le {k : Nat} (htag : tags.length ≤ k) (hrow : k < e.rows) :
    (slotsFor e tags)[k]? = some (if e.level then .padding else .nullRow) := by
  have hused : (tags.take e.rows).length = tags.length := by simp; omega
  rw [slotsFor, List.getElem?_append_right (by simp; omega), List.getElem?_replicate, List.length_map, hused, if_pos (by omega)]

end

/-! ### What a departure writes and leaves (R282-R290) -/

section
variable (s : State) (p : PlanInfo) (floor : Nat) (paced : Bool)

theorem State.departTide_plan : (s.departTide p floor paced).fabric.plan = s.fabric.plan := by
  simp only [State.departTide, Fabric.clearForTide_eq, Fabric.clearAll_eq]

theorem State.departTide_cores :
    (s.departTide p floor paced).fabric.cores = (s.fabric.clearForTide p (s.tideCores p) s.clock.count).cores := by
  simp only [State.departTide]

theorem State.core_departTide (hwf : SMap.wf {} s.fabric.cores = true) (k : Nat) :
    (s.departTide p floor paced).fabric.core k =
      if k ∈ p.cores then (s.fabric.core k).depart ((s.tideCores p).contains k) s.clock.count
      else (s.fabric.core k).clearArrays := by
  rw [Fabric.core, State.departTide_cores, Fabric.get_clearForTide hwf]

theorem State.core_departTide_of_takes (hwf : SMap.wf {} s.fabric.cores = true) {i : Nat} (hi : i ∈ s.tideCores p) :
    (s.departTide p floor paced).fabric.core i = (s.fabric.core i).depart true s.clock.count := by
  rw [State.core_departTide s p floor paced hwf, if_pos (State.mem_cores_of_mem_tideCores hi), List.contains_iff_mem.2 hi]

theorem State.departTide_tideCount : (s.departTide p floor paced).fabric.tideCount = s.fabric.tideCount + 1 := by
  simp only [State.departTide]
theorem State.departTide_power :
    (s.departTide p floor paced).start.power = if s.start.power = .ready then .run else s.start.power := by
  simp only [State.departTide]
theorem State.departTide_ballastActive : (s.departTide p floor paced).monitors.ballastActive = s.monitors.ballast := by
  simp only [State.departTide]
theorem State.departTide_measure : (s.departTide p floor paced).measure = s.measure := by
  simp only [State.departTide]
theorem State.departTide_ret : (s.departTide p floor paced).ret = s.ret := by
  simp only [State.departTide]

theorem State.departTide_tide : ∃ td, (s.departTide p floor paced).fabric.tide = some td ∧ td.no = s.fabric.tideCount ∧
    td.depart = s.now ∧ td.paced = paced ∧ td.voided = 0 ∧
    td.rows = (p.streams.filter s.takesPart).map fun e => (e.stream, slotsFor e (s.host.slotOrder e.stream)) := by
  simp only [State.departTide]
  exact ⟨_, rfl, rfl, rfl, rfl, rfl, rfl⟩

end

/-- The rows of a departing tide are those of the streams that take part. -/
theorem State.mem_tideRows {s : State} {p : PlanInfo} {r : Nat × List RowFill} :
    r ∈ (p.streams.filter s.takesPart).map (fun e => (e.stream, slotsFor e (s.host.slotOrder e.stream))) ↔
      ∃ e ∈ p.streams, s.takesPart e = true ∧ r = (e.stream, slotsFor e (s.host.slotOrder e.stream)) := by
  simp only [List.mem_map, List.mem_filter, and_assoc, eq_comm]

/-! ### When a departure happens (R277, R287, R288) -/

/-- The next tide of a plan is paced (R287). -/
def State.nextPaced (s : State) (p : PlanInfo) : Bool := pacedBy (s.planFloorNow p) p.cert.minFloor s.ret.margin

/-- When it is due (R288). -/
def State.nextDue (s : State) (p : PlanInfo) : Nat := dueTime s.fabric.origin p.cadenceNs s.fabric.lastTide (s.nextPaced p)

section
variable {s : State} {p : PlanInfo} (hplan : s.fabric.plan = some p) (htide : s.fabric.tide = none)
include hplan htide

theorem exec_tideDeparture_of_plan : exec .tideDeparture s = .next
    (if (s.switching false).isNone ∧ s.up ∧ s.od.session ≠ 0 ∧ s.od.drained = false ∧ (s.tideCores p).isEmpty = false ∧
        s.nextDue p ≤ s.gridNow
      then s.departTide p (s.planFloorNow p) (s.nextPaced p) else s) := by
  change execTideDeparture s = _
  simp only [execTideDeparture, hplan, htide]
  rfl

theorem exec_tideDeparture_of_waiting (h : (s.switching false).isSome = true) : exec .tideDeparture s = .next s := by
  rw [exec_tideDeparture_of_plan hplan htide]
  refine congrArg Host.Outcome.next (if_neg fun ⟨hnone, _⟩ => ?_)
  rw [Option.isNone_iff_eq_none.1 hnone] at h
  cases h

theorem exec_tideDeparture_of_early (h : s.gridNow < s.nextDue p) : exec .tideDeparture s = .next s := by
  rw [exec_tideDeparture_of_plan hplan htide]
  exact congrArg Host.Outcome.next (if_neg fun ⟨_, _, _, _, _, hdue⟩ => h.not_ge hdue)

theorem exec_tideDeparture_of_due (hup : s.up = true) (hsession : s.od.session ≠ 0) (hdrained : s.od.drained = false)
    (htakes : s.tideCores p ≠ []) (hnone : (s.switching false).isNone = true) (hdue : s.nextDue p ≤ s.gridNow) :
    exec .tideDeparture s = .next (s.departTide p (s.planFloorNow p) (s.nextPaced p)) := by
  rw [exec_tideDeparture_of_plan hplan htide]
  exact congrArg Host.Outcome.next (if_pos ⟨hnone, hup, hsession, hdrained, by simpa using htakes, hdue⟩)

end

/-- Settles O23: each core by the lemma of its part in the plan, the slots by their count, the due time by the grid's least point. -/
theorem tidesDepart : Obligations.TidesDepart := by
  refine ⟨?departure, fun e tags => ⟨slotsFor_length e tags, fun _ => getElem?_slotsFor_of_lt e tags,
    fun _ => getElem?_slotsFor_of_le e tags⟩, ?due⟩
  case departure =>
    intro s p hplan htide hup hsession hdrained htakes hwf paced cleared
    refine ⟨exec_tideDeparture_of_waiting hplan htide, fun hnone hdue => ?_, exec_tideDeparture_of_early hplan htide⟩
    obtain ⟨td, htd, hno, hdepart, hpaced, hvoided, hrows⟩ := s.departTide_tide p (s.planFloorNow p) (s.nextPaced p)
    refine ⟨_, td, exec_tideDeparture_of_due hplan htide hup hsession hdrained htakes hnone hdue, htd, hno, hdepart, hpaced,
      hvoided, s.departTide_tideCount p _ _, s.departTide_plan p _ _, fun e he hpart => ?row, fun r hr => ?stream,
      fun i hi => ?takes, fun i hi => ?plan, fun k hk => ?other, s.departTide_power p _ _, s.departTide_ballastActive p _ _,
      s.departTide_measure p _ _, s.departTide_ret p _ _⟩
    case row =>
      rw [hrows]
      exact State.mem_tideRows.2 ⟨e, he, hpart, rfl⟩
    case stream =>
      rw [hrows] at hr
      obtain ⟨e, he, hpart, rfl⟩ := State.mem_tideRows.1 hr
      exact ⟨e, he, hpart, rfl⟩
    case takes =>
      rw [s.core_departTide_of_takes p _ _ hwf hi]
      exact ⟨rfl, rfl, rfl, Bool.true_and _⟩
    case plan =>
      rw [s.core_departTide p _ _ hwf, if_pos hi]
      refine ⟨rfl, fun hout => ?_, (s.fabric.core i).line_depart _ _⟩
      rw [List.contains_eq_mem, decide_eq_false hout]
      rfl
    case other =>
      rw [s.core_departTide p _ _ hwf, if_neg hk]
      rfl
  case due =>
    intro origin cadence next fin hc _ _
    obtain ⟨⟨hfin, horigin, hgrid⟩, hleast⟩ := isLeast_gridAtOrAfter origin fin hc
    refine ⟨⟨hfin, horigin, hgrid, fun g ho hg hf => hleast ⟨hf, ho, hg⟩⟩, rfl, fun b => ?_, rfl⟩
    cases b <;> rfl

end Sys2Proof.Machine
end

section
/-! What the host writes of its own path: doorbells, ring configurations, fences and the ingest mode (11; R21, R304-R307, R310, R325,
R328, R401, R504). -/

namespace Sys2Proof.Machine

/-! ### A ring written -/

theorem HostPath.ring_modRing_same (h : HostPath) (r : Nat) (g : Ring → Ring) (hwf : SMap.wf {} h.rings = true) :
    (h.modRing r g).ring r = g (h.ring r) := SMap.get_set_same _ _ _ _ hwf

theorem HostPath.ring_modRing_ne (h : HostPath) {r k : Nat} (g : Ring → Ring) (hk : k ≠ r) :
    (h.modRing r g).ring k = h.ring k := SMap.get_modify_ne _ _ _ hk

/-! ### A host access that reaches the device (R401) -/

theorem State.mmio_of_hostReaches {s : State} {tee : Bool} (h : s.hostReaches tee) (f : State → State) : s.mmio tee f = f s := by
  obtain ⟨hup, hd0, htee⟩ := h
  simp [State.mmio, hup, hd0, htee]

/-! ### Doorbells (R294, R304, R305, R310, R325) -/

theorem State.not_doorbellOk_iff (s : State) (r v : Nat) :
    ¬ s.doorbellOk r v ↔ s.host.disabled r = true ∨ (s.host.ring r).depth ≤ v := by
  rw [not_and_or, Bool.not_eq_false, not_lt]

theorem State.sqTail_of_doorbellOk {s : State} {r v : Nat} (hok : s.doorbellOk r v)
    (hcarried : s.notCarriedBy (s.host.ring r).stream = false) :
    s.sqTail r v = { s with host := s.host.modRing r fun q => q.tail v } := by
  refine (if_neg fun hbad => (s.not_doorbellOk_iff r v).2 hbad hok).trans (if_neg ?_)
  exact ne_true_of_eq_false hcarried

theorem State.cqHead_of_doorbellOk {s : State} {r v : Nat} (hok : s.doorbellOk r v) :
    s.cqHead r v = { s with host := s.host.modRing r fun _ =>
      { s.host.ring r with
        cqHead := v, cqStop := if ({ s.host.ring r with cqHead := v } : Ring).cqFull then .full else .none } } :=
  if_neg fun hbad => (s.not_doorbellOk_iff r v).2 hbad hok

theorem State.sqTail_of_not_doorbellOk {s : State} {r v : Nat} (hbad : ¬ s.doorbellOk r v) :
    s.sqTail r v = { s with host := s.host.countIgnored } := if_pos ((s.not_doorbellOk_iff r v).1 hbad)

theorem State.cqHead_of_not_doorbellOk {s : State} {r v : Nat} (hbad : ¬ s.doorbellOk r v) :
    s.cqHead r v = { s with host := s.host.countIgnored } := if_pos ((s.not_doorbellOk_iff r v).1 hbad)

section
variable {s : State} {tee : Bool} (hreach : s.hostReaches tee)
include hreach

theorem exec_sqTailWrite_of_hostReaches (ring : BitVec 16) (v : BitVec 32) :
    exec (.sqTailWrite tee ring v) s = .next (s.sqTail ring.toNat v.toNat) :=
  congrArg Host.Outcome.next (State.mmio_of_hostReaches hreach _)

theorem exec_cqHeadWrite_of_hostReaches (ring : BitVec 16) (v : BitVec 32) :
    exec (.cqHeadWrite tee ring v) s = .next (s.cqHead ring.toNat v.toNat) :=
  congrArg Host.Outcome.next (State.mmio_of_hostReaches hreach _)

/-! ### Fences (R328) -/

theorem exec_fenceObjectWrite_of_hostReaches (hspan : s.straits.spanFences = false) (f : BitVec 12) (w : BitVec 64) :
    exec (.fenceObjectWrite tee f w) s = .next { s with host := s.host.raiseFence f.toNat w.toNat } := by
  change Host.Outcome.next (s.mmio tee fun s => s.writeFence f.toNat w.toNat none) = _
  rw [State.mmio_of_hostReaches hreach]
  refine congrArg Host.Outcome.next (if_neg fun ⟨_, _, hheld⟩ => ?_)
  exact ne_true_of_eq_false hspan hheld

end

theorem HostPath.get_fences_raiseFence (h : HostPath) (f v k : Nat) (hwf : SMap.wf 0 h.fences = true) :
    SMap.get 0 (h.raiseFence f v).fences k = if f = k then max v (SMap.get 0 h.fences f) else SMap.get 0 h.fences k :=
  SMap.get_modify _ _ _ _ _ hwf

/-! ### The ingest mode (R21) -/

section
variable {s : State} {ch : Channel} (ha : s.accepts ch 0x5410 1 .hOpCu)
include ha

theorem exec_ingestModeWrite_of_lt {m : Byte} (hm : m.toNat < 2) :
    exec (.ingestModeWrite ch m) s = .next { s.touch ch with host := { s.host with mode := m.toNat } } := by
  change Host.Outcome.next (s.odRow ch 0x5410 1 .hOpCu fun s => s.writeIngestModeWrite m) = _
  rw [State.odRow_of_accepts _ _ _ _ _ _ ha, State.writtenBy, State.writeIngestModeWrite, if_pos hm, State.touch_host]

theorem exec_ingestModeWrite_of_le {m : Byte} (hm : 2 ≤ m.toNat) :
    exec (.ingestModeWrite ch m) s = .next ((s.touch ch).ignoreWrite 0x5410 1) := by
  change Host.Outcome.next (s.odRow ch 0x5410 1 .hOpCu fun s => s.writeIngestModeWrite m) = _
  rw [State.odRow_of_accepts _ _ _ _ _ _ ha, State.writtenBy, State.writeIngestModeWrite, if_neg hm.not_gt]

end

/-! ### Ring configurations (R306, R307, R504) -/

section
variable {s : State} {cfg : RingCfg}

/-- R307, as log 43 reads it: of an enabled ring a write clears the enable and nothing else, or is counted. -/
theorem State.configureRing_of_enabled (hon : (s.host.ring cfg.ring.toNat).enabled = true) :
    s.configureRing cfg = some { s with host :=
      if cfg.enable = 0 then s.host.modRing cfg.ring.toNat fun q => { q with enabled := false } else s.host.countIgnored } := by
  rw [State.configureRing, if_pos hon]
  split <;> rfl

theorem State.configureRing_of_enabling (hoff : (s.host.ring cfg.ring.toNat).enabled = false) (hok : ringCfgOk cfg = true)
    (hopen : s.od.session = 1) :
    s.configureRing cfg = some { s with host := s.host.modRing cfg.ring.toNat fun q => q.configure cfg } := by
  simp [State.configureRing, hoff, hok, hopen]

theorem State.configureRing_of_not_ok (hoff : (s.host.ring cfg.ring.toNat).enabled = false) (hbad : ringCfgOk cfg = false) :
    s.configureRing cfg = none := by
  simp [State.configureRing, hoff, hbad]

theorem exec_ringConfigWrite_of_accepts {ch : Channel} (ha : s.accepts ch 0x5420 1 .host) :
    exec (.ringConfigWrite ch cfg) s = .next (s.writtenBy ch 0x5420 1 fun s => s.configureRing cfg) :=
  congrArg Host.Outcome.next (State.odRow_of_accepts _ _ _ _ _ _ ha)

end

theorem Ring.configure_of_enable (q : Ring) {cfg : RingCfg} (hen : cfg.enable ≠ 0) :
    q.configure cfg =
      { configured := true, enabled := true, log2Depth := cfg.log2Depth.toNat, stream := cfg.stream.toNat, vector := cfg.vector,
        sqBase := cfg.sqBase, cqBase := cfg.cqBase } := if_neg hen

/-- Settles O25: each write by the lemma of its row, each ring and fence by what a map reads after a write. -/
theorem hostWritesActOnce : Obligations.HostWritesActOnce := by
  intro s tee ring v hreach hrings hfences
  refine ⟨?sqTail, ?cqHead, ?badDoorbell, ?fence, ?ingestMode, ?ringConfig⟩
  case sqTail =>
    intro hok hcarried
    refine ⟨_, exec_sqTailWrite_of_hostReaches hreach ring v, ?_⟩
    rw [State.sqTail_of_doorbellOk hok hcarried, HostPath.ring_modRing_same _ _ _ hrings]
    exact ⟨rfl, rfl, fun k hk => s.host.ring_modRing_ne _ hk, rfl⟩
  case cqHead =>
    intro hok
    refine ⟨_, exec_cqHeadWrite_of_hostReaches hreach ring v, ?_⟩
    rw [State.cqHead_of_doorbellOk hok, HostPath.ring_modRing_same _ _ _ hrings]
    exact ⟨rfl, rfl, fun k hk => s.host.ring_modRing_ne _ hk, rfl⟩
  case badDoorbell =>
    intro hbad
    rw [exec_sqTailWrite_of_hostReaches hreach, exec_cqHeadWrite_of_hostReaches hreach, State.sqTail_of_not_doorbellOk hbad,
      State.cqHead_of_not_doorbellOk hbad]
    exact ⟨rfl, rfl⟩
  case fence =>
    intro f w hspan
    have hget := fun k => s.host.get_fences_raiseFence f.toNat w.toNat k hfences
    refine ⟨_, exec_fenceObjectWrite_of_hostReaches hreach hspan f w, ?_, fun k hk => ?_, rfl⟩
    · rw [hget, if_pos rfl, max_comm]
    · rw [hget, if_neg hk.symm]
  case ingestMode =>
    exact fun ch m ha => ⟨fun hm => ⟨_, exec_ingestModeWrite_of_lt ha hm, rfl, s.touch_od ch⟩, exec_ingestModeWrite_of_le ha⟩
  case ringConfig =>
    intro ch cfg ha
    have htouched : (s.touch ch).host.ring cfg.ring.toNat = s.host.ring cfg.ring.toNat := by rw [State.touch_host]
    have hexec := exec_ringConfigWrite_of_accepts (cfg := cfg) ha
    rw [State.writtenBy] at hexec
    refine ⟨fun hoff hok hopen hen => ?enabling, fun hon hdis => ?disabling, fun hon hen => ?counted, fun hoff hbad => ?ignored⟩
    case enabling =>
      rw [hexec, State.configureRing_of_enabling (by rw [htouched, hoff]) hok (by rw [State.touch_od, hopen]), State.touch_host]
      refine ⟨_, rfl, ?_⟩
      rw [HostPath.ring_modRing_same _ _ _ hrings, Ring.configure_of_enable _ hen]
      exact ⟨rfl, rfl, rfl, rfl, rfl, rfl, rfl, fun k hk => s.host.ring_modRing_ne _ hk⟩
    case disabling =>
      rw [hexec, State.configureRing_of_enabled (by rw [htouched, hon]), if_pos hdis, State.touch_host]
      exact ⟨_, rfl, HostPath.ring_modRing_same _ _ _ hrings⟩
    case counted =>
      rw [hexec, State.configureRing_of_enabled (by rw [htouched, hon]), if_neg hen, State.touch_host]
      rfl
    case ignored =>
      rw [hexec, State.configureRing_of_not_ok (by rw [htouched, hoff]) hbad]

end Sys2Proof.Machine
end

section
/-! The words of a neuron record and of a spike (12, "Rules"; R338, R344, R346-R348, R350, R351): fields of a packed word, channels
within 40 bits, and what one event makes of a record. -/

namespace Sys2Proof.Machine

/-! ### Fields of a packed word -/

theorem shiftRight_add_two_pow_mul {a n : Nat} (ha : a < 2 ^ n) (b : Nat) : (a + 2 ^ n * b) >>> n = b := by
  rw [Nat.shiftRight_eq_div_pow, Nat.add_mul_div_left _ _ (Nat.two_pow_pos n), Nat.div_eq_of_lt ha, Nat.zero_add]

theorem add_two_pow_mul_lt {a b n m : Nat} (ha : a < 2 ^ n) (hb : b < 2 ^ m) : a + 2 ^ n * b < 2 ^ (n + m) :=
  calc a + 2 ^ n * b < 2 ^ n * (b + 1) := by rw [Nat.mul_succ]; omega
    _ ≤ 2 ^ (n + m) := by rw [Nat.pow_add]; exact Nat.mul_le_mul_left _ hb

theorem field_lt (w lo len : Nat) : field w lo len < 2 ^ len := Nat.mod_lt _ (Nat.two_pow_pos len)

theorem field_of_lt {a n : Nat} (ha : a < 2 ^ n) : field a 0 n = a := Nat.mod_eq_of_lt ha

/-- A field below the join of two words is the lower word's. -/
theorem field_add_two_pow_mul_low {lo len n : Nat} (h : lo + len ≤ n) (a b : Nat) :
    field (a + 2 ^ n * b) lo len = field a lo len := by
  obtain ⟨r, rfl⟩ := Nat.exists_eq_add_of_le h
  have hjoin : a + 2 ^ (lo + len + r) * b = a + 2 ^ lo * (2 ^ len * (2 ^ r * b)) := by ring
  simp only [field, Nat.shiftRight_eq_div_pow]
  rw [hjoin, Nat.add_mul_div_left _ _ (Nat.two_pow_pos lo), Nat.add_mul_mod_self_left]

/-- A field above the join is the upper word's. -/
theorem field_add_two_pow_mul_high {a n : Nat} (ha : a < 2 ^ n) (b lo len : Nat) :
    field (a + 2 ^ n * b) (n + lo) len = field b lo len := by
  rw [field, Nat.shiftRight_add, shiftRight_add_two_pow_mul ha, field]

/-! ### A record packed (R338) -/

theorem twos_lt (w : Nat) (v : Int) : twos w v < 2 ^ w := by
  have hpow : (0 : Int) < 2 ^ w := by positivity
  rw [twos, Int.toNat_lt (Int.emod_nonneg v hpow.ne')]
  push_cast
  exact Int.emod_lt_of_pos v hpow

theorem pack8_cons (v : Int) (l : List Int) : packRecord.pack8 (v :: l) = twos 40 v + 2 ^ 40 * packRecord.pack8 l := rfl

theorem pack8_lt (l : List Int) : packRecord.pack8 l < 2 ^ (40 * l.length) := by
  induction l with
  | nil => exact Nat.one_pos
  | cons v l ih =>
    rw [pack8_cons, List.length_cons, Nat.mul_succ, Nat.add_comm (40 * _)]
    exact add_two_pow_mul_lt (twos_lt 40 v) ih

theorem field_pack8 (l : List Int) {k : Nat} (hk : k < l.length) : field (packRecord.pack8 l) (40 * k) 40 = twos 40 (l.getD k 0) := by
  induction l generalizing k with
  | nil => exact absurd hk (Nat.not_lt_zero k)
  | cons v l ih =>
    rw [pack8_cons]
    cases k with
    | zero => rw [field_add_two_pow_mul_low (Nat.le_refl 40), field_of_lt (twos_lt 40 v), List.getD_cons_zero]
    | succ k =>
      rw [Nat.mul_succ, Nat.add_comm (40 * k), field_add_two_pow_mul_high (twos_lt 40 v), List.getD_cons_succ]
      exact ih (Nat.lt_of_succ_lt_succ hk)

theorem pack8_lt_two_pow_320 {l : List Int} (hlen : l.length = 8) : packRecord.pack8 l < 2 ^ 320 :=
  (pack8_lt l).trans_eq (by rw [hlen])

/-- Parts side by side in a word are so many joins. -/
theorem sum_of_parts (a b c d e n m l : Nat) :
    a + b * 2 ^ n + c * 2 ^ (n + m) + d * 2 ^ (n + m + l) + e * 2 ^ (n + m + l + 1) =
      a + 2 ^ n * (b + 2 ^ m * (c + 2 ^ l * (d + 2 ^ 1 * e))) := by ring

section
variable {w : Nat} {ch : List Int} {last : Nat} {tag : Bool} (hw : w < 2 ^ 512) (hlen : ch.length = 8)
include hw hlen

/-- A packed record as the joins of its parts: channels, LAST_T, bits [419:368], TAG and what lies above it. -/
theorem toNat_packRecord : (packRecord w ch last tag).toNat =
    packRecord.pack8 ch + 2 ^ 320 * (last % 2 ^ 48 + 2 ^ 48 * (field w 368 52 + 2 ^ 52 * (tag.toNat + 2 ^ 1 * (w >>> 421)))) := by
  have htag : (if tag then 2 ^ 420 else 0) = tag.toNat * 2 ^ (320 + 48 + 52) := by
    generalize 2 ^ (320 + 48 + 52) = p
    cases tag <;> simp
  have hhigh : w >>> 421 < 2 ^ 91 := by
    rw [Nat.shiftRight_eq_div_pow]
    exact Nat.div_lt_of_lt_mul hw
  have hfit := add_two_pow_mul_lt (pack8_lt_two_pow_320 hlen) (add_two_pow_mul_lt (Nat.mod_lt last (Nat.two_pow_pos 48))
    (add_two_pow_mul_lt (field_lt w 368 52) (add_two_pow_mul_lt (n := 1) (Bool.toNat_lt tag) hhigh)))
  rw [packRecord, htag, sum_of_parts _ _ _ _ _ 320 48 52, BitVec.toNat_ofNat]
  exact Nat.mod_eq_of_lt hfit

theorem channelOf_packRecord {k : Nat} (hk : k < 8) (hlo : -2 ^ 39 ≤ ch.getD k 0) (hhi : ch.getD k 0 < 2 ^ 39) :
    channelOf (packRecord w ch last tag).toNat k = ch.getD k 0 := by
  rw [channelOf, toNat_packRecord hw hlen, field_add_two_pow_mul_low (by omega), field_pack8 _ (hlen.symm ▸ hk)]
  exact signed_twos (by decide) hlo hhi

theorem lastT_packRecord : field (packRecord w ch last tag).toNat 320 48 = last % 2 ^ 48 := by
  rw [toNat_packRecord hw hlen, field_add_two_pow_mul_high (n := 320) (lo := 0) (pack8_lt_two_pow_320 hlen),
    field_add_two_pow_mul_low (Nat.le_refl 48)]
  exact Nat.mod_mod _ _

theorem setup_packRecord : field (packRecord w ch last tag).toNat 368 52 = field w 368 52 := by
  rw [toNat_packRecord hw hlen, field_add_two_pow_mul_high (n := 320) (lo := 48) (pack8_lt_two_pow_320 hlen),
    field_add_two_pow_mul_high (n := 48) (lo := 0) (Nat.mod_lt _ (Nat.two_pow_pos 48)),
    field_add_two_pow_mul_low (Nat.le_refl 52), field_of_lt (field_lt w 368 52)]

theorem shiftRight_420_packRecord : (packRecord w ch last tag).toNat >>> 420 = tag.toNat + 2 ^ 1 * (w >>> 421) := by
  rw [toNat_packRecord hw hlen, show 420 = 320 + (48 + 52) from rfl, Nat.shiftRight_add, Nat.shiftRight_add,
    shiftRight_add_two_pow_mul (pack8_lt_two_pow_320 hlen), shiftRight_add_two_pow_mul (Nat.mod_lt _ (Nat.two_pow_pos 48)),
    shiftRight_add_two_pow_mul (field_lt w 368 52)]

theorem tag_packRecord : bit (packRecord w ch last tag).toNat 420 = tag := by
  rw [bit, field, shiftRight_420_packRecord hw hlen]
  cases tag <;> simp [Nat.add_mul_mod_self_left]

theorem above_packRecord : (packRecord w ch last tag).toNat >>> 421 = w >>> 421 := by
  rw [Nat.shiftRight_add _ 420 1, shiftRight_420_packRecord hw hlen, shiftRight_add_two_pow_mul (Bool.toNat_lt tag)]

end

theorem Cluster.record_lt (c : Cluster) (i : Nat) : c.record i < 2 ^ 512 := by
  rw [Cluster.record]
  split
  · exact Nat.pow_lt_pow_right (by decide) (by decide)
  · exact BitVec.isLt _

/-! ### Leak (R346, R347) -/

theorem leNat_lt (b : Bytes) : leNat b < 256 ^ b.length := by
  induction b with
  | nil => exact Nat.one_pos
  | cons x b ih =>
    have hx := x.isLt
    rw [leNat, List.length_cons, Nat.pow_succ]
    omega

theorem Cluster.decay_lt (c : Cluster) (entry i : Nat) : c.decay entry i < 2 ^ 32 :=
  calc c.decay entry i < 256 ^ (slice c.table (256 * entry + 4 * i) 4).length := leNat_lt _
    _ ≤ 256 ^ 4 := Nat.pow_le_pow_right (by decide) (List.length_take_le _ _)

/-- R347: leak shrinks towards zero; what a channel can hold it can hold leaked. -/
theorem Cluster.leak_mem (c : Cluster) (entry delta : Nat) {v : Int} (hv : -2 ^ 39 ≤ v ∧ v < 2 ^ 39) :
    -2 ^ 39 ≤ c.leak entry delta v ∧ c.leak entry delta v < 2 ^ 39 := by
  rw [Cluster.leak]
  induction List.range 48 generalizing v with
  | nil => exact hv
  | cons i l ih =>
    rw [List.foldl_cons]
    refine ih ?_
    split
    · have hdecay := c.decay_lt entry i
      have hmem := rhe_mul_mem (k := 32) v (Int.natCast_nonneg (c.decay entry i)) (by exact_mod_cast hdecay.le)
      omega
    · exact hv

theorem Cluster.leakedTo_mem (c : Cluster) (w t k : Nat) : -2 ^ 39 ≤ c.leakedTo w t k ∧ c.leakedTo w t k < 2 ^ 39 :=
  c.leak_mem _ _ (by rw [channelOf, Nat.mul_comm]; exact packedAt_signed_mem w k (w := 40) (by decide))

/-! ### One event on its record (R348, R350) -/

/-- Steps 1 and 3 of R348 on channel `k`: leaked to the event's tick, the scaled magnitude added where the mask has it; whether that
saturated. -/
def Cluster.addedTo (c : Cluster) (e : ShoalEvent) (k : Nat) : Int × Bool :=
  let w := c.record (nidIndex e.nid)
  if bit e.chmask k then satS 40 (c.leakedTo w e.time k + e.mag * 2 ^ c.shift (tcselOf w k)) else (c.leakedTo w e.time k, false)

/-- R350: the threshold of a record, in the format of its channels. -/
def thresholdOf (w : Nat) : Int := (field w 424 24 : Int) * 65536

/-- R350: the watched channel has reached the threshold. -/
def Cluster.fires (c : Cluster) (e : ShoalEvent) : Bool :=
  let w := c.record (nidIndex e.nid)
  bit w 419 && decide (thresholdOf w ≤ (c.addedTo e (field w 416 3)).1)

/-- Step 4 of R348: TAG after the event. -/
def Cluster.tagAfter (c : Cluster) (e : ShoalEvent) : Bool :=
  bit (c.record (nidIndex e.nid)) 420 || e.tag || (List.range 8).any fun k => (c.addedTo e k).2

/-- Channel `k` after the event: below depth 2 a crossing takes the threshold off the watched channel. -/
def Cluster.channelAfter (c : Cluster) (e : ShoalEvent) (k : Nat) : Int :=
  let w := c.record (nidIndex e.nid)
  if c.fires e = true ∧ e.depth < 2 ∧ k = field w 416 3 then (c.addedTo e k).1 - thresholdOf w else (c.addedTo e k).1

theorem mapIdx_map_range {α β : Type} (f : Nat → α) (g : Nat → α → β) (n : Nat) :
    ((List.range n).map f).mapIdx g = (List.range n).map fun k => g k (f k) := by
  apply List.ext_getElem <;> simp

theorem modify_map_range {α : Type} (f : Nat → α) (g : α → α) (n i : Nat) :
    ((List.range n).map f).modify i g = (List.range n).map fun k => if k = i then g (f k) else f k := by
  apply List.ext_getElem
  · simp
  · intro k hk hk'
    simp [List.getElem_modify, eq_comm]

section
variable (c : Cluster) (e : ShoalEvent)

theorem Cluster.added_eq :
    ((c.leaked (c.record (nidIndex e.nid)) e.time).mapIdx fun k v =>
      if bit e.chmask k then satS 40 (v + e.mag * 2 ^ c.shift (tcselOf (c.record (nidIndex e.nid)) k)) else (v, false)) =
      (List.range 8).map (c.addedTo e) := mapIdx_map_range _ _ _

theorem Cluster.crossed_eq :
    (bit (c.record (nidIndex e.nid)) 419 && decide ((field (c.record (nidIndex e.nid)) 424 24 : Int) * 65536 ≤
      (((List.range 8).map (c.addedTo e)).map (·.1)).getD (field (c.record (nidIndex e.nid)) 416 3) 0)) = c.fires e := by
  have hwatch : field (c.record (nidIndex e.nid)) 416 3 < 8 := field_lt _ 416 3
  rw [List.map_map, getD_map_range _ _ hwatch]
  rfl

theorem Cluster.applyEvent_spikes : (c.applyEvent e).spikes =
    if (c.fires e && decide (e.depth < 2)) = true then
      (List.range (field (c.record (nidIndex e.nid)) 476 9)).map fun j =>
        spikeOf e (SMap.get 0 c.synapses (field (c.record (nidIndex e.nid)) 448 28 + j)) c.width j (c.tagAfter e)
    else [] := by
  simp only [Cluster.applyEvent, Cluster.added_eq, Cluster.crossed_eq, List.any_map]
  rfl

theorem Cluster.length_applyEvent_spikes (hfires : c.fires e = true) (hdepth : e.depth < 2) :
    (c.applyEvent e).spikes.length = field (c.record (nidIndex e.nid)) 476 9 := by
  simp [Cluster.applyEvent_spikes, hfires, hdepth]

theorem Cluster.spikeOf_mem_spikes (hfires : c.fires e = true) (hdepth : e.depth < 2) {j : Nat}
    (hj : j < field (c.record (nidIndex e.nid)) 476 9) :
    spikeOf e (SMap.get 0 c.synapses (field (c.record (nidIndex e.nid)) 448 28 + j)) c.width j (c.tagAfter e) ∈
      (c.applyEvent e).spikes := by
  rw [Cluster.applyEvent_spikes, if_pos (by simp [hfires, hdepth])]
  exact List.mem_map_of_mem (List.mem_range.2 hj)

theorem Cluster.applyEvent_crossed2 : (c.applyEvent e).crossed2 = (c.fires e && decide (2 ≤ e.depth)) := by
  simp only [Cluster.applyEvent, Cluster.added_eq, Cluster.crossed_eq]

theorem Cluster.applyEvent_record : (c.applyEvent e).record =
    packRecord (c.record (nidIndex e.nid)) ((List.range 8).map (c.channelAfter e))
      (max (field (c.record (nidIndex e.nid)) 320 48) (tickOf e.time)) (c.tagAfter e) := by
  have hchannels : (if (c.fires e && decide (e.depth < 2)) = true then
      (((List.range 8).map (c.addedTo e)).map (·.1)).modify (field (c.record (nidIndex e.nid)) 416 3)
        fun v => v - (field (c.record (nidIndex e.nid)) 424 24 : Int) * 65536
      else ((List.range 8).map (c.addedTo e)).map (·.1)) = (List.range 8).map (c.channelAfter e) := by
    rw [List.map_map, modify_map_range]
    split
    · next hcross =>
      obtain ⟨hfires, hdepth⟩ := Bool.and_eq_true_iff.1 hcross
      simp [Cluster.channelAfter, hfires, of_decide_eq_true hdepth, thresholdOf]
    · next hcross =>
      refine List.map_congr_left fun k _ => (if_neg ?_).symm
      rintro ⟨hfires, hdepth, -⟩
      exact hcross (Bool.and_eq_true_iff.2 ⟨hfires, decide_eq_true hdepth⟩)
  simp only [Cluster.applyEvent, Cluster.added_eq, Cluster.crossed_eq, List.any_map, hchannels]
  rfl

/-- R348: an event leaves each channel within its 40 bits. -/
theorem Cluster.addedTo_mem (k : Nat) : -2 ^ 39 ≤ (c.addedTo e k).1 ∧ (c.addedTo e k).1 < 2 ^ 39 := by
  rw [Cluster.addedTo]
  split
  · exact satS_mem _
  · exact c.leakedTo_mem _ _ _

theorem Cluster.channelAfter_mem (k : Nat) : -2 ^ 39 ≤ c.channelAfter e k ∧ c.channelAfter e k < 2 ^ 39 := by
  have hadded := c.addedTo_mem e k
  rw [Cluster.channelAfter]
  split
  · next hcross =>
    obtain ⟨hfires, -, rfl⟩ := hcross
    obtain ⟨-, hreached⟩ := Bool.and_eq_true_iff.1 hfires
    have hreached := of_decide_eq_true hreached
    have hthresh : 0 ≤ thresholdOf (c.record (nidIndex e.nid)) := by unfold thresholdOf; omega
    omega
  · exact hadded

/-- R348, R350: the record after the event, field by field. -/
theorem Cluster.applyEvent_fields (htime : e.time < 2 ^ 62) :
    (∀ k, k < 8 → channelOf (c.applyEvent e).record.toNat k = c.channelAfter e k) ∧
    field (c.applyEvent e).record.toNat 320 48 = max (field (c.record (nidIndex e.nid)) 320 48) (tickOf e.time) ∧
    bit (c.applyEvent e).record.toNat 420 = c.tagAfter e ∧
    field (c.applyEvent e).record.toNat 368 52 = field (c.record (nidIndex e.nid)) 368 52 ∧
    (c.applyEvent e).record.toNat >>> 421 = c.record (nidIndex e.nid) >>> 421 := by
  have hw := c.record_lt (nidIndex e.nid)
  have hlen : ((List.range 8).map (c.channelAfter e)).length = 8 := by simp
  rw [Cluster.applyEvent_record]
  refine ⟨fun k hk => ?_, ?_, tag_packRecord hw hlen, setup_packRecord hw hlen, above_packRecord hw hlen⟩
  · have hget := getD_map_range (c.channelAfter e) 0 hk
    obtain ⟨hlo, hhi⟩ := c.channelAfter_mem e k
    rw [channelOf_packRecord hw hlen hk (by rw [hget]; exact hlo) (by rw [hget]; exact hhi), hget]
  · have hlast := field_lt (c.record (nidIndex e.nid)) 320 48
    have htick : tickOf e.time < 2 ^ 48 := by unfold tickOf; omega
    rw [lastT_packRecord hw hlen]
    exact Nat.mod_eq_of_lt (max_lt hlast htick)

end

/-! ### Spikes (R344, R351) -/

/-- R351: the spike of entry `j` one depth on, in the place that depth has in the sub-order, which the emitting event leaves zero. -/
theorem spikeOf_suborder {e : ShoalEvent} {j : Nat} (syn : BitVec 64) (width : Nat) (tag : Bool) (hj : j < 256) (hdepth : e.depth < 2)
    (hlow : field e.suborder 0 8 = 0) (hmid : e.depth = 0 → field e.suborder 8 8 = 0) :
    (spikeOf e syn width j tag).depth = e.depth + 1 ∧
    field (spikeOf e syn width j tag).suborder 16 8 = field e.suborder 16 8 ∧
    (if e.depth = 0 then field (spikeOf e syn width j tag).suborder 8 8 = j % 256
      else field (spikeOf e syn width j tag).suborder 0 8 = j % 256) := by
  have hsub : (spikeOf e syn width j tag).suborder =
    field e.suborder 0 24 + (e.depth + 1) * 2 ^ 24 + (if e.depth + 1 = 1 then j * 2 ^ 8 else j) := rfl
  rw [ShoalEvent.depth, hsub]
  generalize e.depth = d at *
  simp only [field, Nat.shiftRight_eq_div_pow] at *
  obtain rfl | rfl : d = 0 ∨ d = 1 := by omega
  · have hmid := hmid rfl
    simp only [Nat.zero_add, if_true]
    omega
  · simp only [Nat.reduceAdd, OfNat.ofNat_ne_one, one_ne_zero, if_false]
    omega

end Sys2Proof.Machine
end

section
/-! Events on their way (12, "Model", "Rules"; R316, R317, R331, R355, R356, R358): what moves between inboxes and the relay, what
forwarding brings, and that no event is lost. -/

namespace Sys2Proof.Machine

/-! ### Events move -/

/-- The two engines differ only in inboxes, relay, holds, sleep and inbox refusals. -/
structure Shoal.Moved (h g : Shoal) : Prop where
  frame : g = { h with clusters := g.clusters, relay := g.relay, relayHeld := g.relayHeld, inboxFull := g.inboxFull }
  cluster : ∀ m, g.cluster m = { h.cluster m with inbox := (g.cluster m).inbox, asleep := (g.cluster m).asleep }
  length : g.clusters.length = h.clusters.length

namespace Shoal.Moved

variable {h g k : Shoal}

theorem refl (h : Shoal) : h.Moved h := ⟨rfl, fun _ => rfl, rfl⟩

theorem trans (hg : h.Moved g) (gk : g.Moved k) : h.Moved k where
  frame := gk.frame.trans (by rw [hg.frame])
  cluster m := (gk.cluster m).trans (by rw [hg.cluster m])
  length := gk.length.trans hg.length

theorem of_modifyAt (h : Shoal) (n : Nat) (f : Cluster → Cluster)
    (hf : ∀ c, f c = { c with inbox := (f c).inbox, asleep := (f c).asleep }) :
    h.Moved { h with clusters := modifyAt h.clusters n f } where
  frame := rfl
  length := modifyAt_length _ _ _
  cluster m := by
    simp only [Shoal.cluster]
    by_cases hm : m = n ∧ n < h.clusters.length
    · obtain ⟨rfl, hlen⟩ := hm
      rw [getD_modifyAt_same _ _ _ _ hlen]
      exact hf _
    · have hstands : (modifyAt h.clusters n f).getD m {} = h.clusters.getD m {} := by
        by_cases hmn : m = n
        · exact getD_modifyAt_out _ _ _ _ _ (by omega)
        · exact getD_modifyAt_ne _ _ _ hmn
      rw [hstands]

theorem record (hg : h.Moved g) (m i : Nat) : (g.cluster m).record i = (h.cluster m).record i := by
  rw [hg.cluster m]
  rfl

theorem applyEvent (hg : h.Moved g) (m : Nat) (e : ShoalEvent) : (g.cluster m).applyEvent e = (h.cluster m).applyEvent e := by
  rw [hg.cluster m]
  rfl

theorem valid (hg : h.Moved g) (e : ShoalEvent) : g.valid e = h.valid e := by
  rw [Shoal.valid, hg.cluster (nidCluster e.nid)]
  rfl

theorem applied (hg : h.Moved g) : g.applied = h.applied := by rw [hg.frame]
theorem spikes (hg : h.Moved g) : g.spikes = h.spikes := by rw [hg.frame]
theorem depth2 (hg : h.Moved g) : g.depth2 = h.depth2 := by rw [hg.frame]
theorem invalid (hg : h.Moved g) : g.invalid = h.invalid := by rw [hg.frame]

end Shoal.Moved

theorem Shoal.moved_release (h : Shoal) (n : Nat) : h.Moved (h.release n) := ⟨rfl, fun _ => rfl, rfl⟩

theorem Shoal.moved_take (h : Shoal) (e : ShoalEvent) : h.Moved (h.take e) := by
  rw [Shoal.take]
  split
  · exact .of_modifyAt _ _ _ fun _ => rfl
  · exact ⟨rfl, fun _ => rfl, rfl⟩

theorem Shoal.moved_enter (h : Shoal) (e : ShoalEvent) : h.Moved (h.enter e) := by
  rw [Shoal.enter]
  split
  · exact .of_modifyAt _ _ _ fun _ => rfl
  · exact ⟨rfl, fun _ => rfl, rfl⟩

/-! ### No event is lost (R356) -/

theorem ShoalEvent.target_lt (e : ShoalEvent) : e.target < 12 := by
  rw [ShoalEvent.target]
  split <;> omega

theorem Shoal.mem_pending_iff (h : Shoal) (x : ShoalEvent) : x ∈ h.pending ↔ (∃ m, x ∈ (h.cluster m).inbox) ∨ x ∈ h.relay := by
  rw [Shoal.pending, List.mem_append, List.mem_flatMap]
  refine or_congr_left ⟨?_, ?_⟩
  · rintro ⟨c, hc, hx⟩
    obtain ⟨m, hm, rfl⟩ := List.mem_iff_getElem.1 hc
    refine ⟨m, ?_⟩
    rwa [Shoal.cluster, List.getD_eq_getElem _ _ hm]
  · rintro ⟨m, hx⟩
    rw [Shoal.cluster] at hx
    by_cases hm : m < h.clusters.length
    · rw [List.getD_eq_getElem _ _ hm] at hx
      exact ⟨_, List.getElem_mem hm, hx⟩
    · rw [List.getD_eq_default _ _ (by omega)] at hx
      exact nomatch hx

/-- Events of an engine whose twelve clusters stand have moved on, and every one waiting still waits. -/
structure Shoal.Carried (h g : Shoal) : Prop extends h.Moved g where
  keeps : h.clusters.length = 12 → ∀ x ∈ h.pending, x ∈ g.pending

theorem Shoal.Carried.refl (h : Shoal) : h.Carried h := ⟨.refl h, fun _ _ hx => hx⟩

theorem Shoal.Carried.trans {h g k : Shoal} (hg : h.Carried g) (gk : g.Carried k) : h.Carried k :=
  ⟨hg.toMoved.trans gk.toMoved, fun hlen x hx => gk.keeps (hg.length.trans hlen) x (hg.keeps hlen x hx)⟩

theorem Shoal.cluster_modifyAt_target {h : Shoal} (hlen : h.clusters.length = 12) (e : ShoalEvent) (f : Cluster → Cluster) :
    (modifyAt h.clusters e.target f).getD e.target {} = f (h.cluster e.target) :=
  getD_modifyAt_same _ _ _ _ (hlen ▸ e.target_lt)

/-- An event that enters waits in its inbox or in the relay, and so does every other (R355). -/
theorem Shoal.mem_pending_enter {h : Shoal} (hlen : h.clusters.length = 12) (e : ShoalEvent) {x : ShoalEvent}
    (hx : x = e ∨ x ∈ h.pending) : x ∈ (h.enter e).pending := by
  rw [Shoal.mem_pending_iff] at hx ⊢
  rw [Shoal.enter]
  split
  · obtain rfl | ⟨m, hm⟩ | hrelay := hx
    · refine .inl ⟨x.target, ?_⟩
      rw [Shoal.cluster, Shoal.cluster_modifyAt_target hlen]
      exact List.mem_append_right _ List.mem_cons_self
    · refine .inl ⟨m, ?_⟩
      by_cases hme : m = e.target
      · subst hme
        rw [Shoal.cluster, Shoal.cluster_modifyAt_target hlen]
        exact List.mem_append_left _ hm
      · rw [Shoal.cluster, getD_modifyAt_ne _ _ _ hme]
        exact hm
    · exact .inr hrelay
  · obtain rfl | hinbox | hrelay := hx
    · exact .inr (List.mem_append_right _ List.mem_cons_self)
    · exact .inl hinbox
    · exact .inr (List.mem_append_left _ hrelay)

theorem Shoal.carried_enter (h : Shoal) (e : ShoalEvent) : h.Carried (h.enter e) :=
  ⟨h.moved_enter e, fun hlen _ hx => Shoal.mem_pending_enter hlen e (.inr hx)⟩

theorem Shoal.carried_refused (h : Shoal) (l : List Nat) : h.Carried { h with inboxFull := l } :=
  ⟨⟨rfl, fun _ => rfl, rfl⟩, fun _ _ hx => hx⟩

theorem Shoal.carried_deliver (h : Shoal) (e : ShoalEvent) : h.Carried (h.deliver e) :=
  (h.carried_refused _).trans (Shoal.carried_enter _ e)

theorem Shoal.mem_pending_deliver {h : Shoal} (hlen : h.clusters.length = 12) (e : ShoalEvent) : e ∈ (h.deliver e).pending := by
  refine Shoal.mem_pending_enter ?_ e (.inl rfl)
  exact hlen

section
variable {put : Shoal → ShoalEvent → Shoal} (hcarried : ∀ (h : Shoal) (e : ShoalEvent), h.Carried (put h e))
include hcarried

theorem Shoal.carried_foldl (l : List ShoalEvent) (h : Shoal) : h.Carried (l.foldl put h) := by
  induction l generalizing h with
  | nil => exact .refl h
  | cons e l ih => exact (hcarried h e).trans (ih _)

/-- Each of a list of events put in its place waits. -/
theorem Shoal.mem_pending_foldl (hmem : ∀ {h : Shoal}, h.clusters.length = 12 → ∀ e, e ∈ (put h e).pending) (l : List ShoalEvent)
    {h : Shoal} (hlen : h.clusters.length = 12) {x : ShoalEvent} (hx : x ∈ l) : x ∈ (l.foldl put h).pending := by
  induction l generalizing h with
  | nil => exact nomatch hx
  | cons e l ih =>
    have hput : (put h e).clusters.length = 12 := (hcarried h e).length.trans hlen
    obtain rfl | hx := List.mem_cons.1 hx
    · exact (Shoal.carried_foldl hcarried l _).keeps hput _ (hmem hlen _)
    · exact ih hput hx

end

/-- R356: events leave the relay for inboxes with room, and none is lost. -/
theorem Shoal.carried_drainRelay (h : Shoal) : h.Carried h.drainRelay := by
  have hemptied : h.Moved { h with relay := [] } := ⟨rfl, fun _ => rfl, rfl⟩
  have hfold := Shoal.carried_foldl Shoal.carried_enter h.relay { h with relay := [] }
  refine ⟨hemptied.trans hfold.toMoved, fun hlen x hx => ?_⟩
  obtain hinbox | hrelay := (h.mem_pending_iff x).1 hx
  · exact hfold.keeps hlen x ((Shoal.mem_pending_iff _ x).2 (.inl hinbox))
  · refine Shoal.mem_pending_foldl Shoal.carried_enter (fun hlen e => Shoal.mem_pending_enter hlen e (.inl rfl)) h.relay ?_ hrelay
    exact hlen

/-! ### Forwarding (R316, R317, R331, R358) -/

/-- Forwarding has run: submissions and the Shoal engine alone are touched, and the engine only by events on their way. -/
structure State.Forwarded (s t : State) : Prop where
  only : s.onlyShoal t
  carried : s.shoal.Carried t.shoal

theorem State.Forwarded.of_carried (s : State) (p : HostPath) {g : Shoal} (hg : s.shoal.Carried g) :
    s.Forwarded { s with host := p, shoal := g } := ⟨rfl, hg⟩

theorem State.Forwarded.of_host (s : State) (p : HostPath) : s.Forwarded { s with host := p } := .of_carried s p (.refl _)

theorem State.Forwarded.trans {s t u : State} (hst : s.Forwarded t) (htu : t.Forwarded u) : s.Forwarded u :=
  ⟨htu.only.trans (by rw [hst.only]), hst.carried.trans htu.carried⟩

theorem State.forwarded_forwardEvents (s : State) (tag : Nat) (x : Submission) (fuel k : Nat) :
    s.Forwarded (s.forwardEvents tag x fuel k).1 := by
  induction fuel generalizing s k with
  | zero => exact .of_host s _
  | succ fuel ih =>
    simp only [State.forwardEvents]
    split
    · exact (State.Forwarded.of_carried s _ (s.shoal.carried_deliver _)).trans (ih _ _)
    · refine State.Forwarded.trans (t := if _ then s else _) ?_ (.of_host _ _)
      split
      · exact .of_host s _
      · exact .of_carried s _ (s.shoal.carried_refused _)

theorem State.forwarded_forwardFrom (l : List (Nat × Submission)) (s : State) : s.Forwarded (s.forwardFrom l) := by
  induction l generalizing s with
  | nil => exact .of_host s _
  | cons p l ih =>
    obtain ⟨tag, x⟩ := p
    simp only [State.forwardFrom]
    split
    · exact (State.Forwarded.of_host s _).trans (ih _)
    · split
      · exact .of_host s _
      · have hevents := (State.Forwarded.of_host s (s.host.passBelow x.seq)).trans
          (State.forwarded_forwardEvents _ tag x (x.eventCount - x.forwarded) x.forwarded)
        split
        · exact (hevents.trans (.of_host _ _)).trans (ih _)
        · exact hevents

theorem State.forwarded_pump (s : State) : s.Forwarded s.pump := by
  have hforward : s.Forwarded s.forward := by
    rw [State.forward]
    split
    · exact .of_host s _
    · exact State.forwarded_forwardFrom _ s
  exact hforward.trans (.of_host _ _)

end Sys2Proof.Machine
end

section
/-! SHOAL_EVENT_APPLY (12; R345-R351, R365): the three ways an event acts, and the frame of the records. -/

namespace Sys2Proof.Machine

/-! ### What an event does to the engine -/

/-- R348, R350: what an event that updates leaves on its cluster: its record, and the counters. -/
def Shoal.updated (h : Shoal) (e : ShoalEvent) (r : Applied) : Shoal :=
  { h with
    applied := bumpAt h.applied e.target
    clusters := modifyAt h.clusters e.target fun c => c.write (nidIndex e.nid) r.record
    saturated := modifyAt h.saturated e.target (bumpBy r.sats)
    spikes := modifyAt h.spikes e.target (bumpBy r.spikes.length)
    depth2 := if r.crossed2 then bumpAt h.depth2 e.target else h.depth2 }

theorem Shoal.length_updated (h : Shoal) (e : ShoalEvent) (r : Applied) : (h.updated e r).clusters.length = h.clusters.length :=
  modifyAt_length _ _ _

section
variable {h : Shoal} {e : ShoalEvent}

theorem Shoal.act_of_invalid (hvalid : h.valid e = false) :
    h.act e = { h.take e with invalid := bumpAt h.invalid e.target } := by
  simp only [Shoal.act, (h.moved_take e).valid, hvalid, Bool.false_eq_true, if_false, (h.moved_take e).invalid]

theorem Shoal.act_of_probe (hvalid : h.valid e = true) (hmask : e.chmask = 0) :
    h.act e = { h.take e with applied := bumpAt h.applied e.target } := by
  simp only [Shoal.act, (h.moved_take e).valid, hvalid, if_true, hmask, (h.moved_take e).applied]

theorem Shoal.act_of_masked (hvalid : h.valid e = true) (hmask : e.chmask ≠ 0) :
    h.act e = ((h.cluster e.target).applyEvent e).spikes.foldl Shoal.deliver
      ((h.take e).updated e ((h.cluster e.target).applyEvent e)) := by
  simp only [Shoal.act, (h.moved_take e).valid, hvalid, if_true, hmask, if_false, Shoal.updated]
  rw [← (h.moved_take e).applyEvent]
  rfl

end

/-! ### A record written (R578) -/

theorem Cluster.record_write_same (c : Cluster) (i : Nat) (w : BitVec 512) (hwf : SMap.wf 0 c.records = true) :
    (c.write i w).record i = w.toNat := by
  rw [Cluster.record, Cluster.write, if_neg (by simp)]
  exact congrArg BitVec.toNat (SMap.get_set_same _ _ _ _ hwf)

theorem Cluster.record_write_ne (c : Cluster) {i j : Nat} (w : BitVec 512) (hj : j ≠ i) : (c.write i w).record j = c.record j := by
  simp [Cluster.record, Cluster.write, SMap.get_set_ne _ _ _ hj, hj]

section
variable (h : Shoal) {e : ShoalEvent} (r : Applied) {n : Nat} (htarget : e.target = n)
include htarget

theorem Shoal.record_updated_same (hlen : n < h.clusters.length) (hwf : SMap.wf 0 (h.cluster n).records = true) :
    ((h.updated e r).cluster n).record (nidIndex e.nid) = r.record.toNat := by
  subst htarget
  rw [Shoal.updated, Shoal.cluster, getD_modifyAt_same _ _ _ _ hlen]
  exact Cluster.record_write_same _ _ _ hwf

theorem Shoal.record_updated_ne {m j : Nat} (hne : m ≠ n ∨ j ≠ nidIndex e.nid) :
    ((h.updated e r).cluster m).record j = (h.cluster m).record j := by
  subst htarget
  obtain hm | hj := hne
  · rw [Shoal.updated, Shoal.cluster, getD_modifyAt_ne _ _ _ hm]
    rfl
  · exact getD_modifyAt_proj (fun c : Cluster => c.record j) _ _ _ _ _ fun c => c.record_write_ne _ hj

end

/-! ### The counters (R350, R365) -/

theorem Shoal.depth2_updated (h : Shoal) (c : Cluster) (e : ShoalEvent) :
    (h.updated e (c.applyEvent e)).depth2 =
      if c.fires e = true ∧ 2 ≤ e.depth then bumpAt h.depth2 e.target else h.depth2 := by
  simp [Shoal.updated, Cluster.applyEvent_crossed2]

theorem Shoal.spikes_updated (h : Shoal) {c : Cluster} {e : ShoalEvent} (hfires : c.fires e = true) (hdepth : e.depth < 2) :
    (h.updated e (c.applyEvent e)).spikes =
      modifyAt h.spikes e.target (bumpBy (field (c.record (nidIndex e.nid)) 476 9)) := by
  rw [Shoal.updated, c.length_applyEvent_spikes e hfires hdepth]

/-! ### The row -/

theorem exec_shoalEventApply_of_appliesNext {s : State} {n : Fin 12} {e : ShoalEvent} (hnext : s.appliesNext n.val e) :
    ∃ t, exec (.shoalEventApply n) s = .next t ∧ s.onlyShoal t ∧ ((s.shoal.release n.val).act e).Carried t.shoal := by
  obtain ⟨hnext, -, hmay, hroom⟩ := hnext
  have hpump := State.forwarded_pump { s with shoal := ((s.shoal.release n.val).act e).drainRelay }
  refine ⟨_, ?_, hpump.only, (Shoal.carried_drainRelay _).trans hpump.carried⟩
  change execShoalEventApply n s = _
  simp only [execShoalEventApply, hnext, hmay, hroom, if_true, Bool.false_eq_true, if_false]

/-- An event that updates takes effect on its record and the counters, and every spike that it emits then waits (R348, R351, R356). -/
theorem exec_shoalEventApply_of_masked {s : State} {n : Fin 12} {e : ShoalEvent} (hnext : s.appliesNext n.val e)
    (hlen : s.shoal.clusters.length = 12) (hvalid : s.shoal.valid e = true) (hmask : e.chmask ≠ 0) :
    ∃ t h, exec (.shoalEventApply n) s = .next t ∧ s.onlyShoal t ∧ s.shoal.Moved h ∧
      (h.updated e ((s.shoal.cluster n.val).applyEvent e)).Carried t.shoal ∧
      ∀ x ∈ ((s.shoal.cluster n.val).applyEvent e).spikes, x ∈ t.shoal.pending := by
  obtain ⟨t, hexec, honly, hcarried⟩ := exec_shoalEventApply_of_appliesNext hnext
  obtain ⟨-, htarget, -, -⟩ := hnext
  have hreleased := s.shoal.moved_release n.val
  have htaken := hreleased.trans (Shoal.moved_take _ e)
  have hdelivered := Shoal.carried_foldl Shoal.carried_deliver ((s.shoal.cluster n.val).applyEvent e).spikes
    (((s.shoal.release n.val).take e).updated e ((s.shoal.cluster n.val).applyEvent e))
  have htwelve := (Shoal.length_updated _ e ((s.shoal.cluster n.val).applyEvent e)).trans (htaken.length.trans hlen)
  rw [Shoal.act_of_masked ((hreleased.valid e).trans hvalid) hmask, hreleased.applyEvent, htarget] at hcarried
  refine ⟨t, _, hexec, honly, htaken, hdelivered.trans hcarried, fun x hx => ?_⟩
  exact hcarried.keeps (hdelivered.length.trans htwelve) x
    (Shoal.mem_pending_foldl Shoal.carried_deliver Shoal.mem_pending_deliver _ htwelve hx)

/-- Settles O29: the row is the act of the event, then events on their way, which change no record and are not lost. Each of the three
ways an event acts has its lemma, and so has each word that an update leaves. -/
theorem shoalEventsApply : Obligations.ShoalEventsApply := by
  intro s n e hinv hnext c i w added watch thresh fires tag
  obtain ⟨⟨-, -, -, -, -, -, -, -, -, -, -, -, hlen, -⟩, ⟨-, -, -, -, -, -, -, -, -, -, -, -, hrecords, -⟩⟩ := hinv
  have ⟨_, htarget, _, _⟩ := hnext
  have hreleased := s.shoal.moved_release n.val
  have htaken := hreleased.trans (Shoal.moved_take _ e)
  refine ⟨fun hvalid => ?invalid, fun hvalid hmask => ?probe, fun hvalid hmask htime => ?update⟩
  case invalid =>
    obtain ⟨t, hexec, honly, hcarried⟩ := exec_shoalEventApply_of_appliesNext hnext
    rw [Shoal.act_of_invalid ((hreleased.valid e).trans hvalid)] at hcarried
    refine ⟨t, hexec, honly, fun m j => (hcarried.record m j).trans (htaken.record m j), ?_,
      hcarried.applied.trans htaken.applied, hcarried.spikes.trans htaken.spikes⟩
    rw [hcarried.invalid, hreleased.invalid, htarget]
  case probe =>
    obtain ⟨t, hexec, honly, hcarried⟩ := exec_shoalEventApply_of_appliesNext hnext
    rw [Shoal.act_of_probe ((hreleased.valid e).trans hvalid) hmask] at hcarried
    exact ⟨t, hexec, honly, fun m j => (hcarried.record m j).trans (htaken.record m j), hcarried.invalid.trans htaken.invalid,
      hcarried.spikes.trans htaken.spikes⟩
  case update =>
    obtain ⟨t, h, hexec, honly, hmoved, hcarried, hwaits⟩ := exec_shoalEventApply_of_masked hnext hlen hvalid hmask
    have hrecord : (t.shoal.cluster n.val).record i = (c.applyEvent e).record.toNat := by
      rw [hcarried.record]
      refine Shoal.record_updated_same h _ htarget (by rw [hmoved.length, hlen]; exact n.isLt) ?_
      rw [hmoved.cluster]
      exact hrecords n.val
    refine ⟨t, hexec, honly, fun m j hne => ?_, hcarried.invalid.trans hmoved.invalid, ?_,
      fun hfires hdepth hcount hlow hmid j hj => ?_, ?_, fun hfires hdepth => ?_⟩
    · rw [hcarried.record, Shoal.record_updated_ne h _ htarget hne, hmoved.record]
    · rw [hrecord]
      exact c.applyEvent_fields e htime
    · obtain ⟨hnewDepth, hposition, hfanout⟩ := spikeOf_suborder (SMap.get 0 c.synapses (field w 448 28 + j)) c.width (c.tagAfter e)
        (Nat.lt_of_lt_of_le hj hcount) hdepth hlow hmid
      exact ⟨_, hwaits _ (c.spikeOf_mem_spikes e hfires hdepth hj), rfl, rfl, rfl, rfl, rfl, rfl, hnewDepth, rfl, hposition, hfanout⟩
    · rw [hcarried.depth2, Shoal.depth2_updated, hmoved.depth2, htarget]
      rfl
    · rw [hcarried.spikes, Shoal.spikes_updated h hfires hdepth, hmoved.spikes, htarget]

end Sys2Proof.Machine
end

section
/-! Evidence and the tenant registers (13, "Evidence", "Measurement registers"; R127, R172, R366, R369-R377, R395). -/

namespace Sys2Proof.Machine

/-! ### What a channel's activity note leaves of evidence -/

@[simp] theorem State.touch_claims (s : State) (ch : Channel) (nonce : Bytes) : (s.touch ch).claims nonce = s.claims nonce := by
  obtain ⟨_, _, htouch⟩ := s.touch_eq ch
  rw [htouch]
  rfl
@[simp] theorem State.touch_evidenceKey (s : State) (ch : Channel) : (s.touch ch).evidenceKey = s.evidenceKey := by
  obtain ⟨_, _, htouch⟩ := s.touch_eq ch
  rw [htouch]
  rfl
@[simp] theorem State.touch_evidenceServed (s : State) (ch : Channel) : (s.touch ch).evidenceServed = s.evidenceServed := by
  obtain ⟨_, _, htouch⟩ := s.touch_eq ch
  rw [htouch]
  rfl
@[simp] theorem State.touch_conditionNow (s : State) (ch : Channel) : (s.touch ch).conditionNow = s.conditionNow := by
  obtain ⟨_, _, htouch⟩ := s.touch_eq ch
  rw [htouch]
  rfl

/-! ### Signatures (R170-R173) -/

/-- R172: what is released verifies. -/
theorem State.verifies_of_sign {s : State} {k : Signer} {mEc mMl : Bytes} {sig : Bytes × Bytes}
    (h : (s.sign k mEc mMl).2 = some sig) : k.verifies mEc mMl sig = true := by
  simp only [State.sign] at h
  split_ifs at h with hfirst hsecond
  · exact Option.some.inj h ▸ hfirst
  · exact Option.some.inj h ▸ hsecond

/-- What is released depends on the free values alone. -/
theorem State.sign_snd_congr {s t : State} (h : s.draws = t.draws) (k : Signer) (mEc mMl : Bytes) :
    (s.sign k mEc mMl).2 = (t.sign k mEc mMl).2 := by
  simp only [State.sign, h]
  split_ifs <;> rfl

/-- Signing touches nothing but the engines, the free values drawn and the count of DRBG requests. -/
theorem State.sign_eq (s : State) (k : Signer) (mEc mMl : Bytes) : ∃ e n d, (s.sign k mEc mMl).1 =
    { s with engines := e, draws := n, start := { s.start with drbgRequests := d } } := by
  simp only [State.sign]
  split_ifs <;> exact ⟨_, _, _, rfl⟩

/-! ### The IDevID certificate under the test root (R558) -/

/-- Issuing a certificate is signing it. -/
theorem State.issueCert_eq (s : State) (type : Nat) (pub : Bytes) (issuer : Signer) (mrs : List Digest) :
    ∃ e n d, (s.issueCert type pub issuer mrs).1 =
      { s with engines := e, draws := n, start := { s.start with drbgRequests := d } } := by
  rw [State.issueCert, State.signCose]
  exact s.sign_eq _ _ _

/-- Before the certificate is served it is issued at most: a signature, and the place it is held in. -/
theorem State.readyIdevidCert_eq (s : State) : ∃ e n d c, s.readyIdevidCert =
    { s with
      engines := e, draws := n, start := { s.start with drbgRequests := d }
      keys := { s.keys with debugIdevidCert := c } } := by
  rw [State.readyIdevidCert]
  split_ifs
  · obtain ⟨e, n, d, hissued⟩ := s.issueCert_eq 1 s.idevidPubNow ⟨debugRootSeeds.1, debugRootSeeds.2⟩ []
    rw [State.issueDebugCert, hissued]
    exact ⟨e, n, d, _, rfl⟩
  · exact ⟨_, _, _, _, rfl⟩

theorem State.readyIdevidCert_of_not_debugClass {s : State} (h : s.conditionNow.debugClass = false) : s.readyIdevidCert = s := by
  simp [State.readyIdevidCert, h]

@[simp] theorem State.readyIdevidCert_claims (s : State) (nonce : Bytes) : s.readyIdevidCert.claims nonce = s.claims nonce := by
  obtain ⟨_, _, _, _, hready⟩ := s.readyIdevidCert_eq
  rw [hready]
  rfl
@[simp] theorem State.readyIdevidCert_evidenceKey (s : State) : s.readyIdevidCert.evidenceKey = s.evidenceKey := by
  obtain ⟨_, _, _, _, hready⟩ := s.readyIdevidCert_eq
  rw [hready]
  rfl
@[simp] theorem State.readyIdevidCert_keys_store (s : State) : s.readyIdevidCert.keys.store = s.keys.store := by
  obtain ⟨_, _, _, _, hready⟩ := s.readyIdevidCert_eq
  rw [hready]

/-! ### The token (R371, R395) -/

/-- What the two signatures of evidence are over. -/
def Signer.evidenceMessage (k : Signer) (alg : Int) (c : Claims) : Bytes := sigStructure alg (kidOf k.pub) (encodeClaims c)

/-- The octets of a token: tag 61 around the claims, signed. -/
def Signer.tokenBytes (k : Signer) (unprotected : Bytes) (c : Claims) (sig : Bytes × Bytes) : Bytes :=
  cborTag 61 (coseSign unprotected (encodeClaims c) (kidOf k.pub) sig.1 sig.2)

/-- The two signatures of the evidence of this instant, where they are released. -/
def State.evidenceSig (s : State) (nonce : Bytes) : Option (Bytes × Bytes) :=
  (s.sign s.evidenceKey (s.evidenceKey.evidenceMessage algEs384 (s.claims nonce))
    (s.evidenceKey.evidenceMessage algMlDsa65 (s.claims nonce))).2

/-- The unprotected header of a token: the certificates it carries. -/
def State.evidenceHeader (s : State) : Bytes := cborMap [(-70100, cborArr s.evidenceCerts)]

/-- A token is the signed claims of this instant, unless it is longer than the bound of R395. -/
theorem State.token_snd (s : State) (nonce : Bytes) : (s.token nonce).2 =
    (s.readyIdevidCert.evidenceSig nonce).bind fun sig =>
      let b := s.evidenceKey.tokenBytes s.readyIdevidCert.evidenceHeader (s.claims nonce) sig
      if b.length ≤ 65536 then some (s.claims nonce, b) else none := by
  have htoken : (s.token nonce).2 =
      ((s.readyIdevidCert.evidenceSig nonce).map fun sig => (s.readyIdevidCert.claims nonce,
        s.readyIdevidCert.evidenceKey.tokenBytes s.readyIdevidCert.evidenceHeader (s.readyIdevidCert.claims nonce) sig)).filter
          fun t => decide (t.2.length ≤ tokenMax) := by
    simp only [State.token, State.signCose, Option.map_map]
    rfl
  rw [htoken, State.readyIdevidCert_claims, State.readyIdevidCert_evidenceKey]
  cases s.readyIdevidCert.evidenceSig nonce with
  | none => rfl
  | some sig =>
    simp only [Option.map_some, Option.filter_some, Option.bind_some, decide_eq_true_eq]
    rfl

/-- R172, R371, R395: a token that is left holds the claims of this instant, is within the bound, and its signatures verify. -/
theorem State.token_verifies {s : State} {nonce b : Bytes} {c : Claims} (h : (s.token nonce).2 = some (c, b)) :
    c = s.claims nonce ∧ b.length ≤ 65536 ∧ ∃ u sig, b = s.evidenceKey.tokenBytes u c sig ∧
      s.evidenceKey.verifies (s.evidenceKey.evidenceMessage algEs384 c) (s.evidenceKey.evidenceMessage algMlDsa65 c) sig = true := by
  rw [State.token_snd] at h
  obtain ⟨sig, hsig, hb⟩ := Option.bind_eq_some_iff.1 h
  obtain ⟨hlen, hcb⟩ := Option.ite_none_right_eq_some.1 hb
  obtain ⟨rfl, rfl⟩ := Prod.mk.inj (Option.some.inj hcb)
  have hverifies := State.verifies_of_sign hsig
  rw [State.readyIdevidCert_claims, State.readyIdevidCert_evidenceKey] at hverifies
  exact ⟨rfl, hlen, _, sig, rfl, hverifies⟩

/-! ### A token kept for the plane that asked (R376) -/

section
variable (s : State) (ch : Channel) (r : Option (Claims × Bytes))

/-- The mailbox and the SPDM sessions are the host plane. -/
theorem State.keepToken_of_host (h : planeCode ch = 1) :
    (s.keepToken ch r).measure.tokenH = r ∧ (s.keepToken ch r).measure.tokenC = s.measure.tokenC := by
  cases ch with
  | bar0 => exact ⟨rfl, rfl⟩
  | spdm => exact ⟨rfl, rfl⟩
  | causeway => cases h

theorem State.keepToken_of_causeway (h : planeCode ch = 2) :
    (s.keepToken ch r).measure.tokenC = r ∧ (s.keepToken ch r).measure.tokenH = s.measure.tokenH := by
  cases ch with
  | bar0 => cases h
  | spdm => cases h
  | causeway => exact ⟨rfl, rfl⟩

@[simp] theorem State.keepToken_mrs : (s.keepToken ch r).measure.mrs = s.measure.mrs := by cases ch <;> rfl
@[simp] theorem State.keepToken_keys : (s.keepToken ch r).keys = s.keys := by cases ch <;> rfl
@[simp] theorem State.keepToken_ret : (s.keepToken ch r).ret = s.ret := by cases ch <;> rfl

end

/-! ### A token made (R371, R376) -/

section
variable (s : State) (ch : Channel) (nonce : Bytes)

@[simp] theorem State.token_measure : (s.token nonce).1.measure = s.measure := by simp [State.token]
@[simp] theorem State.token_keys_store : (s.token nonce).1.keys.store = s.keys.store := by simp [State.token]
@[simp] theorem State.token_ret : (s.token nonce).1.ret = s.ret := by simp [State.token]

theorem State.makeToken_eq : s.makeToken ch nonce = (s.token nonce).1.keepToken ch (s.token nonce).2 := rfl

theorem State.makeToken_of_host (h : planeCode ch = 1) :
    (s.makeToken ch nonce).measure.tokenH = (s.token nonce).2 ∧ (s.makeToken ch nonce).measure.tokenC = s.measure.tokenC := by
  have hkept := (s.token nonce).1.keepToken_of_host ch (s.token nonce).2 h
  rwa [← State.makeToken_eq, State.token_measure] at hkept

theorem State.makeToken_of_causeway (h : planeCode ch = 2) :
    (s.makeToken ch nonce).measure.tokenC = (s.token nonce).2 ∧ (s.makeToken ch nonce).measure.tokenH = s.measure.tokenH := by
  have hkept := (s.token nonce).1.keepToken_of_causeway ch (s.token nonce).2 h
  rwa [← State.makeToken_eq, State.token_measure] at hkept

@[simp] theorem State.makeToken_mrs : (s.makeToken ch nonce).measure.mrs = s.measure.mrs := by simp [State.makeToken_eq]
@[simp] theorem State.makeToken_keys_store : (s.makeToken ch nonce).keys.store = s.keys.store := by simp [State.makeToken_eq]
@[simp] theorem State.makeToken_ret : (s.makeToken ch nonce).ret = s.ret := by simp [State.makeToken_eq]

end

/-! ### EVIDENCE_REQUEST (R127, R373, R376) -/

section
variable {s : State} {ch : Channel} {nonce : Bytes} (ha : s.accepts ch 0x2040 1 .all)
include ha

theorem exec_evidenceRequest_of_served (h : 8 ≤ nonce.length ∧ nonce.length ≤ 64 ∧ s.evidenceServed = true) :
    exec (.evidenceRequest ch nonce) s = .next ((s.touch ch).makeToken ch nonce) := by
  change Host.Outcome.next (s.odRow ch 0x2040 1 .all fun s => s.writeEvidenceRequest ch nonce) = _
  rw [State.odRow_of_accepts _ _ _ _ _ _ ha, State.writtenBy, State.writeEvidenceRequest, State.touch_evidenceServed, if_pos h]

theorem exec_evidenceRequest_of_not_served (h : ¬(8 ≤ nonce.length ∧ nonce.length ≤ 64 ∧ s.evidenceServed = true)) :
    exec (.evidenceRequest ch nonce) s = .next ((s.touch ch).ignoreWrite 0x2040 1) := by
  change Host.Outcome.next (s.odRow ch 0x2040 1 .all fun s => s.writeEvidenceRequest ch nonce) = _
  rw [State.odRow_of_accepts _ _ _ _ _ _ ha, State.writtenBy, State.writeEvidenceRequest, State.touch_evidenceServed, if_neg h]

end

/-! ### TENANT_EXTEND (R366, R369) -/

section
variable {s : State} {ch : Channel} {mr : Byte} {data : Bytes} (ha : s.accepts ch 0x2041 1 .hOpCu)
include ha

theorem exec_tenantExtend_of_mem (h : 16 ≤ mr.toNat ∧ mr.toNat ≤ 31 ∧ 1 ≤ data.length ∧ data.length ≤ 256) :
    exec (.tenantExtend ch mr data) s = .next ((s.touch ch).extendMr mr.toNat data) := by
  change Host.Outcome.next (s.odRow ch 0x2041 1 .hOpCu fun s => s.writeTenantExtend mr data) = _
  rw [State.odRow_of_accepts _ _ _ _ _ _ ha, State.writtenBy, State.writeTenantExtend, if_pos h]

theorem exec_tenantExtend_of_not_mem (h : ¬(16 ≤ mr.toNat ∧ mr.toNat ≤ 31 ∧ 1 ≤ data.length ∧ data.length ≤ 256)) :
    exec (.tenantExtend ch mr data) s = .next ((s.touch ch).ignoreWrite 0x2041 1) := by
  change Host.Outcome.next (s.odRow ch 0x2041 1 .hOpCu fun s => s.writeTenantExtend mr data) = _
  rw [State.odRow_of_accepts _ _ _ _ _ _ ha, State.writtenBy, State.writeTenantExtend, if_neg h]

end

@[simp] theorem State.touch_mr (s : State) (ch : Channel) (k : Nat) : (s.touch ch).mr k = s.mr k := by
  rw [State.mr, State.touch_measure, State.mr]

/-- Settles O31: the row leaves the token made in the state after the channel's note, whose claims and key are those of the state
before it; a tenant register is extended as every register is. -/
theorem evidenceAndRegisters : Obligations.EvidenceAndRegisters := by
  refine ⟨fun s ch nonce ha => ?_, fun s ch mr data ha hregs => ⟨fun hlo hhi hmin hmax => ?extended, fun hnot => ?outside⟩⟩
  intro k under token
  refine ⟨fun hmin hmax hserved => ?served, fun hnot => ?ignored⟩
  case served =>
    refine ⟨_, ((s.touch ch).token nonce).2, exec_evidenceRequest_of_served ha ⟨hmin, hmax, hserved⟩, fun hplane => ?host,
      fun hplane => ?causeway, fun c b hr => ?verifies, fun hdebug => ?released,
      ⟨rfl, rfl, rfl, rfl, rfl, rfl, rfl, rfl, rfl, rfl, rfl⟩, ?registers, ?store, ?retained⟩
    case host =>
      rw [← s.touch_measure ch]
      exact State.makeToken_of_host _ _ _ hplane
    case causeway =>
      rw [← s.touch_measure ch]
      exact State.makeToken_of_causeway _ _ _ hplane
    case verifies =>
      have hverifies := State.token_verifies hr
      rwa [State.touch_claims, State.touch_evidenceKey] at hverifies
    case released =>
      have hready : (s.touch ch).readyIdevidCert = s.touch ch :=
        State.readyIdevidCert_of_not_debugClass (by rw [State.touch_conditionNow, hdebug])
      have hsig : (s.touch ch).evidenceSig nonce =
          (s.sign k (under algEs384 (s.claims nonce)) (under algMlDsa65 (s.claims nonce))).2 := by
        rw [State.evidenceSig, State.touch_claims, State.touch_evidenceKey]
        exact State.sign_snd_congr (s.touch_draws ch) _ _ _
      rw [State.token_snd, hready, hsig, State.touch_claims, State.touch_evidenceKey]
      dsimp only
      cases (s.sign k (under algEs384 (s.claims nonce)) (under algMlDsa65 (s.claims nonce))).2 with
      | none => rfl
      | some sig => exact ⟨_, rfl⟩
    case registers =>
      rw [State.makeToken_mrs, State.touch_measure]
    case store =>
      rw [State.makeToken_keys_store, State.touch_keys]
    case retained =>
      rw [State.makeToken_ret, State.touch_ret]
  case ignored =>
    refine exec_evidenceRequest_of_not_served ha fun ⟨hmin, hmax, hserved⟩ => ?_
    obtain hshort | hlong | hearly := hnot
    · omega
    · omega
    · rw [hserved] at hearly
      cases hearly
  case extended =>
    have hin : mr.toNat < (s.touch ch).measure.mrs.length := by
      rw [State.touch_measure]
      omega
    refine ⟨_, exec_tenantExtend_of_mem ha ⟨hlo, hhi, hmin, hmax⟩, ?_, fun j hne => ?_, ?_, ?_, ?_⟩
    · rw [State.extendMr_mr_same _ _ _ hin, State.touch_mr, extendValue]
    · rw [State.extendMr_mr_ne _ _ _ _ hne, State.touch_mr]
    · rw [State.extendMr_ret, State.touch_ret]
    · rw [State.extendMr_keys, State.touch_keys]
    · rw [State.extendMr_od, State.touch_od]
  case outside =>
    exact exec_tenantExtend_of_not_mem ha (by omega)

end Sys2Proof.Machine
end

section
/-! A key as two shares (R117): what the shares of a key of up to 64 octets carry. -/

namespace Sys2Proof.Machine

/-! ### Octets and the number they spell -/

theorem leBytes_succ (n x : Nat) : leBytes (n + 1) x = BitVec.ofNat 8 x :: leBytes n (x / 256) := by
  simp only [leBytes, List.range_succ_eq_map, List.map_cons, List.map_map]
  refine congrArg₂ List.cons rfl (List.map_congr_left fun i _ => congrArg (BitVec.ofNat 8) ?_)
  rw [Nat.mul_succ, Nat.add_comm, Nat.shiftRight_add, Nat.shiftRight_eq_div_pow x]

theorem leBytes_leNat (b : Bytes) : leBytes b.length (leNat b) = b := by
  induction b with
  | nil => rfl
  | cons x b ih =>
    have hx : x.toNat < 256 := x.isLt
    have hlow : BitVec.ofNat 8 (x.toNat + 256 * leNat b) = x := by
      apply BitVec.eq_of_toNat_eq
      rw [BitVec.toNat_ofNat]
      omega
    rw [List.length_cons, leBytes_succ, leNat, hlow, show (x.toNat + 256 * leNat b) / 256 = leNat b by omega, ih]

theorem beBytes_beNat (b : Bytes) : beBytes b.length (beNat b) = b := by
  rw [beBytes, beNat, ← List.length_reverse, leBytes_leNat, List.reverse_reverse]

theorem beNat_lt (b : Bytes) : beNat b < 256 ^ b.length := by
  rw [beNat, ← List.length_reverse]
  exact leNat_lt _

/-! ### The shares of a key -/

/-- R117: the shares of a key of up to 64 octets carry it, under every mask. -/
theorem key_maskKey {k : Bytes} (hk : k.length ≤ 64) (mask : BitVec 512) : (maskKey k mask).key = k := by
  have hlen : ((padTo 64 k).take 64).length = 64 := by
    rw [List.length_take, padTo, List.length_append, List.length_replicate]
    omega
  have hlt := beNat_lt ((padTo 64 k).take 64)
  have hword : (keyWord k).toNat = beNat ((padTo 64 k).take 64) := by
    rw [hlen] at hlt
    rw [keyWord, BitVec.toNat_ofNat, show 512 = 8 * 64 from rfl, Nat.pow_mul]
    exact Nat.mod_eq_of_lt hlt
  have hbytes : beBytes 64 (keyWord k).toNat = (padTo 64 k).take 64 := by
    have h := beBytes_beNat ((padTo 64 k).take 64)
    rwa [hlen, ← hword] at h
  rw [MaskedKey.key, maskKey, ← BitVec.xor_assoc, BitVec.xor_self, BitVec.zero_xor, hbytes, List.take_take,
    Nat.min_eq_left hk, padTo, List.take_left]

end Sys2Proof.Machine
end

section
/-! IDE keys and streams (14, "PCIe link security"; R117, R397-R399). -/

namespace Sys2Proof.Machine

/-! ### A message of a secured session (R405) -/

/-- The state in which an established session's message acts: the heartbeat period starts again. -/
def State.heardOn (s : State) (i : Nat) : State := s.modSession i fun x => { x with lastMessage := s.clock.count }

theorem State.secured_of_inSession {s : State} {i : Nat} (h : s.inSession i) (f : State → State) :
    s.secured i f = f (s.heardOn i) := if_pos h

/-- An answer in a session, whatever it leaves in the responder. -/
theorem State.answeredBy_heardOn (s : State) (i : Nat) (h : Hosting) (code : Nat) (body : Bytes) :
    s.answeredBy (({ s.heardOn i with hosting := h } : State).respond code body) code body := ⟨rfl, rfl⟩

/-! ### Consumer slots (R397, R398) -/

section
variable {h g : Hosting} {k : Nat} {x : IdeSlot} (hset : g.ide = SMap.set {} h.ide k x)
include hset

theorem Hosting.slot_same_of_ide_set (hwf : SMap.wf {} h.ide = true) : g.slot k = x := by
  rw [Hosting.slot, hset, SMap.get_set_same _ _ _ _ hwf]

theorem Hosting.slot_ne_of_ide_set : ∀ j, j ≠ k → g.slot j = h.slot j := by
  intro j hj
  rw [Hosting.slot, hset, SMap.get_set_ne _ _ _ hj, Hosting.slot]

end

theorem State.programKey_ide (s : State) (id : IdeKeyId) (key : BitVec 256) : (s.programKey id key).hosting.ide =
    SMap.set {} s.hosting.ide (ideKey id) ⟨some (maskKey (beBytes 32 key.toNat) (Config.drbg s.draws)), false⟩ := rfl

/-- A stop clears the slot; of the rest only the Insecure state may end. -/
theorem Hosting.stopSet_eq (h : Hosting) (id : IdeKeyId) :
    ∃ v, h.stopSet id = { h.setSlot (ideKey id) {} with insecure := v } := by
  unfold Hosting.stopSet
  dsimp only
  split_ifs
  · exact ⟨_, rfl⟩
  · exact ⟨_, rfl⟩

/-! ### The messages of IDE_KM -/

section
variable {s : State} {i : Fin 4} (hsession : s.inSession i.val)
include hsession

theorem exec_query_of_inSession : exec (.query i) s =
    .next ((s.heardOn i).respond 0x01 (leBytes 4 ideCapability ++ leBytes 2 s.hosting.secure)) := by
  change Host.Outcome.next (s.secured _ _) = _
  rw [State.secured_of_inSession hsession]
  rfl

variable {id : IdeKeyId}

theorem exec_keyProg_of_idle (key : BitVec 256) (hidle : (s.hosting.slot (ideKey id)).going = false) :
    exec (.keyProg i id key) s = .next (((s.heardOn i).programKey id key).respond 0x03 [0]) := by
  change Host.Outcome.next (s.secured _ _) = _
  rw [State.secured_of_inSession hsession]
  exact congrArg Host.Outcome.next (if_neg (ne_true_of_eq_false hidle))

theorem exec_keyProg_of_going (key : BitVec 256) (hgoing : (s.hosting.slot (ideKey id)).going = true) :
    exec (.keyProg i id key) s = .next ((s.heardOn i).respond 0x03 [4]) := by
  change Host.Outcome.next (s.secured _ _) = _
  rw [State.secured_of_inSession hsession]
  exact congrArg Host.Outcome.next (if_pos hgoing)

/-- K_SET_GO, by whether a key is there under the message's Stream ID. -/
theorem exec_kSetGo_of_inSession {ok : Bool} (hok : ((s.hosting.slot (ideKey id)).key.isSome &&
      s.hosting.streamIds.getD id.stream.val 0 == id.streamId) = ok) :
    exec (.kSetGo i id) s = .next (({ s.heardOn i with
      hosting := if ok then (s.heardOn i).hosting.setSlot (ideKey id) { s.hosting.slot (ideKey id) with going := true }
        else (s.heardOn i).hosting } : State).respond 0x06 [if ok then 0 else 4]) := by
  change Host.Outcome.next (s.secured _ _) = _
  rw [State.secured_of_inSession hsession, ← hok]
  rfl

theorem exec_kSetStop_of_inSession : exec (.kSetStop i id) s =
    .next (({ s.heardOn i with hosting := (s.heardOn i).hosting.stopSet id } : State).respond 0x06 [0]) := by
  change Host.Outcome.next (s.secured _ _) = _
  rw [State.secured_of_inSession hsession]

end

/-! ### An integrity failure (R399, R403) -/

theorem getLsbD_or_two_pow (v : BitVec 9) (st : Fin 9) (k : Nat) :
    (v ||| BitVec.ofNat 9 (2 ^ st.val)).getLsbD k = (v.getLsbD k || decide (st.val = k)) := by
  have hst := st.isLt
  rw [BitVec.getLsbD_or, BitVec.getLsbD_ofNat, Nat.testBit_two_pow]
  by_cases hk : st.val = k
  · simp [hk ▸ hst]
  · simp [hk]

/-- Settles O35: each message acts on its own slot after the session's timer has restarted, and a key that enters leaves the WKR as
shares that carry it. -/
theorem ideKeysMove : Obligations.IdeKeysMove := by
  intro s i id hwf hids others
  refine ⟨fun hsession => ⟨?query, fun key hidle => ?program, fun m g hslot hid => ?go, fun hbad => ?refused,
    fun key hgoing => ?busy, ?stop⟩, fun st hup => ?fail⟩
  case query => exact ⟨_, exec_query_of_inSession hsession, s.answeredBy_heardOn i _ _ _⟩
  case program =>
    have hset := (s.heardOn i).programKey_ide id key
    refine ⟨_, maskKey (beBytes 32 key.toNat) (Config.drbg s.draws), exec_keyProg_of_idle hsession key hidle, rfl, rfl,
      Hosting.slot_same_of_ide_set hset hwf, key_maskKey ?_ _, getD_modifyAt_same _ _ _ _ ?_,
      Hosting.slot_ne_of_ide_set hset, rfl⟩
    · rw [beBytes_length]
      omega
    · exact id.stream.isLt.trans_eq hids.symm
  case go =>
    refine ⟨_, exec_kSetGo_of_inSession hsession (ok := true) ?_, s.answeredBy_heardOn i _ _ _,
      (Hosting.slot_same_of_ide_set rfl hwf).trans ?_, Hosting.slot_ne_of_ide_set rfl, rfl⟩
    · rw [hslot, hid]
      exact beq_self_eq_true _
    · rw [hslot]
  case refused =>
    refine ⟨_, exec_kSetGo_of_inSession hsession (ok := false) ?_, s.answeredBy_heardOn i _ _ _, rfl⟩
    obtain hkey | hid := hbad
    · rw [hkey]
      rfl
    · rw [beq_false_of_ne hid, Bool.and_false]
  case busy => exact ⟨_, exec_keyProg_of_going hsession key hgoing, s.answeredBy_heardOn i _ _ _, rfl⟩
  case stop =>
    obtain ⟨v, hstop⟩ := (s.heardOn i).hosting.stopSet_eq id
    refine ⟨_, exec_kSetStop_of_inSession hsession, s.answeredBy_heardOn i _ _ _, ?_⟩
    rw [hstop]
    exact ⟨Hosting.slot_same_of_ide_set rfl hwf, Hosting.slot_ne_of_ide_set (x := {}) rfl, rfl⟩
  case fail =>
    refine ⟨_, congrArg Host.Outcome.next (if_pos hup), rfl, ?_, fun k hk => ?_, rfl, rfl⟩
    · simp only [getLsbD_or_two_pow, decide_true, Bool.or_true]
    · simp only [getLsbD_or_two_pow, decide_eq_false (Ne.symm hk), Bool.or_false]

end Sys2Proof.Machine
end

section
/-! Consent tokens (14, "Consent"; R418-R424). -/

namespace Sys2Proof.Machine

/-! ### What a channel's activity note leaves of consent -/

@[simp] theorem State.touch_now (s : State) (ch : Channel) : (s.touch ch).now = s.now := by
  rw [State.now, State.touch_clock, State.now]

/-- A note of activity leaves of a Causeway session everything but its timer and its frame counts. -/
theorem State.touch_session_proj {β : Type} (p : CwSession → β)
    (hp : ∀ x t m n, p { x with lastFrame := t, framesIn := m, framesOut := n } = p x) (s : State) (ch : Channel) (k : Nat) :
    p ((s.touch ch).causeway.session k) = p (s.causeway.session k) := by
  unfold State.touch
  split_ifs
  · cases ch with
    | bar0 => rfl
    | spdm => rfl
    | causeway => exact getD_modifyAt_proj p _ _ _ _ _ fun _ => hp _ _ _ _
  · rfl

@[simp] theorem State.touch_grant (s : State) (ch : Channel) : (s.touch ch).causeway.grant = s.causeway.grant := by
  unfold State.touch
  split_ifs
  · cases ch <;> rfl
  · rfl

theorem State.touch_vendorChannel (s : State) (ch : Channel) : (s.touch ch).vendorChannel ch = s.vendorChannel ch := by
  cases ch with
  | bar0 => rfl
  | spdm => rfl
  | causeway i =>
    simp only [State.vendorChannel, State.cosigned, State.touch_now, State.touch_grant,
      State.touch_session_proj CwSession.role fun _ _ _ _ => rfl, State.touch_session_proj CwSession.certDigest fun _ _ _ _ => rfl]

theorem State.touch_tokenCode (s : State) (ch : Channel) (tk : ConsentToken) :
    (s.touch ch).tokenCode ch tk = s.tokenCode ch tk := by
  simp only [State.tokenCode, State.touch_vendorChannel, State.touch_ret, State.touch_otp, State.touch_now]

/-! ### A scope without its token -/

/-- R421: the one token in force of a scope replaced, or gone. -/
def Retained.setToken (r : Retained) (k : Nat) (x : Option TokenInForce) : Retained :=
  { r with tokens := modifyAt r.tokens k fun _ => x }

theorem Retained.token_setToken_same (r : Retained) {k : Nat} (x : Option TokenInForce) (hk : k < r.tokens.length) :
    (r.setToken k x).token k = x := getD_modifyAt_same _ _ _ _ hk

theorem Retained.token_setToken_ne (r : Retained) (k : Nat) (x : Option TokenInForce) :
    ∀ j, j ≠ k → (r.setToken k x).token j = r.token j := fun _ hj => getD_modifyAt_ne _ _ _ hj

theorem Retained.token_setToken_none (r : Retained) (k : Nat) : (r.setToken k none).token k = none := by
  by_cases hk : k < r.tokens.length
  · exact r.token_setToken_same none hk
  · rw [Retained.token, List.getD_eq_default]
    rw [Retained.setToken, modifyAt_length]
    omega

/-- Taking away a token that is not there changes nothing. -/
theorem Retained.setToken_none_of_none {r : Retained} {k : Nat} (h : r.token k = none) : r.setToken k none = r := by
  have htokens : (modifyAt r.tokens k fun _ => none) = r.tokens := by
    refine List.ext_getElem? fun j => ?_
    rw [modifyAt, List.getElem?_modify]
    split_ifs with hj
    · rw [Retained.token, List.getD_eq_getElem?_getD, hj] at h
      cases hget : r.tokens[j]? with
      | none => rfl
      | some x =>
        rw [hget, Option.getD_some] at h
        rw [h]
        rfl
    · exact Option.map_id'
  rw [Retained.setToken, htokens]

/-! ### A token ends (R423, R424) -/

section
variable {s : State} (hsealed : s.start.condition.debugClass = false)
include hsealed

/-- Outside a debug-class start the end of a token is its record and its removal, and nothing else follows. -/
theorem State.endToken_of_some {k : Nat} {tk : TokenInForce} (htk : s.ret.token k = some tk) (code : Nat) : s.endToken k code =
    { s with
      measure := s.measure.extend 12 (eventRecord code tk.digest s.now)
      ret := s.ret.setToken k none } := by
  have hstays : ¬(s.start.condition.scopeIndex = some k ∧ s.start.condition.debugClass = true ∧ s.start.debugEnd = 0) := by
    rintro ⟨-, hdebug, -⟩
    rw [hsealed] at hdebug
    cases hdebug
  rw [State.endToken]
  simp only [htk]
  exact if_neg hstays

/-- The same, whether or not the scope had a token. -/
theorem State.endToken_eq (k code : Nat) : ∃ m, s.endToken k code = { s with measure := m, ret := s.ret.setToken k none } := by
  cases htk : s.ret.token k with
  | none =>
    refine ⟨s.measure, ?_⟩
    rw [Retained.setToken_none_of_none htk, State.endToken]
    simp only [htk]
  | some tk => exact ⟨_, State.endToken_of_some hsealed htk code⟩

/-- What a reader of the registers and of the tokens sees of a token's end. -/
theorem State.endToken_recorded {k : Nat} {tk : TokenInForce} (htk : s.ret.token k = some tk) (hlen : s.measure.mrs.length = 32)
    (code : Nat) : (s.endToken k code).ret.token k = none ∧ (∀ j, j ≠ k → (s.endToken k code).ret.token j = s.ret.token j) ∧
      (s.endToken k code).mr 12 = extendValue (s.mr 12) (eventRecord code tk.digest s.now) ∧ (s.endToken k code).start = s.start := by
  rw [State.endToken_of_some hsealed htk]
  exact ⟨s.ret.token_setToken_none k, s.ret.token_setToken_ne k none, State.extendMr_mr_same s 12 _ (by omega), rfl⟩

/-- R418: a new key withdraws the tokens of all three scopes. -/
theorem State.endTokens_eq (code : Nat) : ∃ m, ((s.endToken 0 code).endToken 1 code).endToken 2 code =
    { s with measure := m, ret := ((s.ret.setToken 0 none).setToken 1 none).setToken 2 none } := by
  obtain ⟨m0, h0⟩ := State.endToken_eq hsealed 0 code
  obtain ⟨m1, h1⟩ := State.endToken_eq (s := s.endToken 0 code) (by rw [h0]; exact hsealed) 1 code
  obtain ⟨m2, h2⟩ := State.endToken_eq (s := (s.endToken 0 code).endToken 1 code) (by rw [h1, h0]; exact hsealed) 2 code
  exact ⟨m2, by rw [h2, h1, h0]⟩

end

theorem Retained.token_withdrawn (r : Retained) {k : Nat} (hk : k < 3) :
    (((r.setToken 0 none).setToken 1 none).setToken 2 none).token k = none := by
  obtain rfl | rfl | rfl : k = 0 ∨ k = 1 ∨ k = 2 := by omega
  · rw [Retained.token_setToken_ne _ _ _ _ (by omega), Retained.token_setToken_ne _ _ _ _ (by omega),
      Retained.token_setToken_none]
  · rw [Retained.token_setToken_ne _ _ _ _ (by omega), Retained.token_setToken_none]
  · exact Retained.token_setToken_none _ _

/-! ### CONSENT_KEY_WRITE (R418) -/

section
variable {s : State} {ch : Channel} {d : Digest} (ha : s.accepts ch 0x2050 1 .cust)
include ha

theorem exec_consentKeyWrite_of_same (hd : d = s.ret.tenantKey) : exec (.consentKeyWrite ch d) s = .next (s.touch ch) := by
  change Host.Outcome.next (s.odRow ch 0x2050 1 .cust fun s => s.writeConsentKeyWrite d) = _
  rw [State.odRow_of_accepts _ _ _ _ _ _ ha, State.writtenBy, State.writeConsentKeyWrite]
  subst hd
  simp only [State.touch_ret, if_true]
  rw [← s.touch_ret ch]

theorem exec_consentKeyWrite_of_new (hd : d ≠ s.ret.tenantKey) : exec (.consentKeyWrite ch d) s =
    .next (((({ s.touch ch with ret := { s.ret with tenantKey := d } } : State).endToken 0 3).endToken 1 3).endToken 2 3) := by
  change Host.Outcome.next (s.odRow ch 0x2050 1 .cust fun s => s.writeConsentKeyWrite d) = _
  rw [State.odRow_of_accepts _ _ _ _ _ _ ha, State.writtenBy, State.writeConsentKeyWrite]
  simp only [State.touch_ret, Ne.symm hd, if_false]

end

/-! ### CONSENT_TOKEN_SUBMIT (R419-R422) -/

/-- Code 0 is left where every check of R420 passes. -/
theorem State.tokenCode_eq_zero {s : State} {ch : Channel} {tk : ConsentToken} (h : s.tokenCode ch tk = 0) :
    tk.wellFormed = true ∧ tk.sigOk = true ∧ tk.keyDigest = s.ret.tenantKey ∧ tk.serial = s.otp.serial ∧
      tk.notBefore ≤ s.now ∧ s.now < tk.expiry ∧ s.ret.tokenSeq < tk.seq.toNat := by
  unfold State.tokenCode at h
  split_ifs at h with hform hsig hserial htime hseq hvendor
  simp only [Bool.or_eq_true, Bool.not_eq_true', bne_iff_ne, not_or, Bool.not_eq_false, not_not] at hform
  obtain ⟨hwell, hkey⟩ := hform
  exact ⟨hwell, by simpa using hsig, hkey, not_not.1 hserial, by omega, by omega, by omega⟩

section
variable {s : State} {ch : Channel} {tk : ConsentToken} (ha : s.accepts ch 0x2050 2 ⟨true, false, false, true, true⟩)
  (hlen : tk.raw.length ≤ 8192)
include ha hlen

theorem exec_consentTokenSubmit_of_zero (hcode : s.tokenCode ch tk = 0) :
    exec (.consentTokenSubmit ch tk) s = .next ((s.touch ch).acceptToken tk) := by
  change Host.Outcome.next (s.odRow ch 0x2050 2 _ fun s => s.writeConsentTokenSubmit ch tk) = _
  rw [State.odRow_of_accepts _ _ _ _ _ _ ha, State.writtenBy, State.writeConsentTokenSubmit, if_neg (by omega),
    State.touch_tokenCode, hcode]
  rfl

theorem exec_consentTokenSubmit_of_ne_zero (hcode : s.tokenCode ch tk ≠ 0) : exec (.consentTokenSubmit ch tk) s =
    .next { s.touch ch with hosting := { (s.touch ch).hosting with tokenResult := s.tokenCode ch tk } } := by
  change Host.Outcome.next (s.odRow ch 0x2050 2 _ fun s => s.writeConsentTokenSubmit ch tk) = _
  rw [State.odRow_of_accepts _ _ _ _ _ _ ha, State.writtenBy, State.writeConsentTokenSubmit, if_neg (by omega),
    State.touch_tokenCode]
  cases hc : s.tokenCode ch tk with
  | zero => exact absurd hc hcode
  | succ n => rfl

end

theorem State.acceptToken_ret (s : State) (tk : ConsentToken) : (s.acceptToken tk).ret =
    { s.ret.setToken (scopeIndexOf tk.scope) (some ⟨tk.seq.toNat, tk.expiry, sha384 tk.raw⟩) with tokenSeq := tk.seq.toNat } := rfl

theorem State.acceptToken_mr_twelve {s : State} (tk : ConsentToken) (hlen : s.measure.mrs.length = 32) :
    (s.acceptToken tk).mr 12 = extendValue (s.mr 12) (1 :: digestBytes (sha384 tk.raw) ++ leBytes 8 s.now) :=
  State.extendMr_mr_same s 12 _ (by omega)

theorem scopeIndexOf_lt (sc : Scope) : scopeIndexOf sc < 3 := by cases sc <;> decide

/-! ### CONSENT_TOKEN_EXPIRY and CONSENT_WITHDRAW (R423, R424) -/

section
variable {s : State} {sc : Scope} {tk : TokenInForce} (htk : s.ret.token (scopeIndexOf sc) = some tk)
include htk

theorem exec_consentTokenExpiry_of_expired (h : tk.expiry ≤ s.now) :
    exec (.consentTokenExpiry sc) s = .next (s.endToken (scopeIndexOf sc) 2) := by
  change execConsentTokenExpiry sc s = _
  simp only [execConsentTokenExpiry, htk, h, if_true]

theorem exec_consentTokenExpiry_of_early (h : s.now < tk.expiry) : exec (.consentTokenExpiry sc) s = .next s := by
  change execConsentTokenExpiry sc s = _
  simp only [execConsentTokenExpiry, htk, Nat.not_le.2 h, if_false]

end

theorem exec_consentWithdraw_of_some {s : State} {ch : Channel} {v : Byte} {tk : TokenInForce} (ha : s.accepts ch 0x2050 6 .hCu)
    (hlo : 1 ≤ v.toNat) (hhi : v.toNat ≤ 3) (htk : s.ret.token (v.toNat - 1) = some tk) :
    exec (.consentWithdraw ch v) s = .next ((s.touch ch).endToken (v.toNat - 1) 3) := by
  change Host.Outcome.next (s.odRow ch 0x2050 6 .hCu fun s => s.writeConsentWithdraw v) = _
  rw [State.odRow_of_accepts _ _ _ _ _ _ ha, State.writtenBy, State.writeConsentWithdraw, State.touch_ret,
    if_pos ⟨hlo, hhi, by rw [htk]; rfl⟩]

/-- Settles O38: outside a debug-class start a token's end is its record and its removal; a new key ends the three in turn. -/
theorem consentIsRecorded : Obligations.ConsentIsRecorded := by
  intro s ch hinv hsealed
  obtain ⟨⟨hmrs, -, -, -, -, -, -, -, -, -, -, -, -, -, -, -, htokens, -⟩, -⟩ := hinv
  refine ⟨fun d ha => ?key, fun tk ha hraw => ⟨fun hcode => ?accepted, fun hcode => ?refused⟩,
    fun sc tk htk => ⟨fun hexpired => ?expired, exec_consentTokenExpiry_of_early htk⟩, fun v tk ha hlo hhi htk => ?withdrawn⟩
  case key =>
    by_cases hd : d = s.ret.tenantKey
    · refine ⟨_, exec_consentKeyWrite_of_same ha hd, ?_⟩
      simp only [State.touch_ret, State.touch_otp, State.touch_measure]
      exact ⟨hd.symm, trivial, trivial, absurd hd, fun _ => ⟨trivial, trivial⟩⟩
    · obtain ⟨m, hend⟩ := State.endTokens_eq (s := { s.touch ch with ret := { s.ret with tenantKey := d } })
        (by rw [State.touch_start]; exact hsealed) 3
      refine ⟨_, exec_consentKeyWrite_of_new ha hd, ?_⟩
      rw [hend]
      exact ⟨rfl, rfl, s.touch_otp ch, fun _ _ hk => Retained.token_withdrawn _ hk, fun hsame => absurd hsame hd⟩
  case accepted =>
    obtain ⟨hwell, hsig, hkey, hserial, hstart, hend, hseq⟩ := State.tokenCode_eq_zero hcode
    refine ⟨hwell, hsig, hkey, hserial, hstart, hend, hseq, _, exec_consentTokenSubmit_of_zero ha hraw hcode, ?_⟩
    have hmr := State.acceptToken_mr_twelve (s := s.touch ch) tk (by rw [State.touch_measure]; exact hmrs)
    rw [State.touch_mr, State.touch_now] at hmr
    rw [State.acceptToken_ret, State.touch_ret]
    refine ⟨Retained.token_setToken_same _ _ ?_, Retained.token_setToken_ne _ _ _, rfl, hmr, rfl⟩
    have := scopeIndexOf_lt tk.scope
    omega
  case refused =>
    exact ⟨_, exec_consentTokenSubmit_of_ne_zero ha hraw hcode, rfl, s.touch_ret ch, s.touch_measure ch⟩
  case expired => exact ⟨_, exec_consentTokenExpiry_of_expired htk hexpired, State.endToken_recorded hsealed htk hmrs 2⟩
  case withdrawn =>
    refine ⟨_, exec_consentWithdraw_of_some ha hlo hhi htk, ?_⟩
    have hended := State.endToken_recorded (s := s.touch ch) (k := v.toNat - 1) (tk := tk) (by rw [State.touch_start]; exact hsealed)
      (by rw [State.touch_ret]; exact htk) (by rw [State.touch_measure]; exact hmrs) 3
    rwa [State.touch_ret, State.touch_mr, State.touch_now, State.touch_start] at hended

end Sys2Proof.Machine
end

section
/-! Model loads (14, "Models"; R402, R403, R408-R414, R436). -/

namespace Sys2Proof.Machine

/-! ### What a channel's activity note leaves of loads -/

/-- Of the hosting state a note of activity changes the secured sessions alone. -/
theorem State.touch_hosting_eq (s : State) (ch : Channel) :
    ∃ l, (s.touch ch).hosting = { s.hosting with sessions := l } := by
  unfold State.touch
  split_ifs
  · cases ch <;> exact ⟨_, rfl⟩
  · exact ⟨_, rfl⟩

@[simp] theorem State.touch_loads (s : State) (ch : Channel) : (s.touch ch).hosting.loads = s.hosting.loads := by
  obtain ⟨_, htouch⟩ := s.touch_hosting_eq ch
  rw [htouch]
@[simp] theorem State.touch_models (s : State) (ch : Channel) : (s.touch ch).hosting.models = s.hosting.models := by
  obtain ⟨_, htouch⟩ := s.touch_hosting_eq ch
  rw [htouch]
@[simp] theorem State.touch_storeFull (s : State) (ch : Channel) (n : Nat) :
    (s.touch ch).hosting.storeFull n = s.hosting.storeFull n := by
  obtain ⟨_, htouch⟩ := s.touch_hosting_eq ch
  rw [htouch]
  rfl
@[simp] theorem State.touch_dmaOk (s : State) (ch : Channel) : (s.touch ch).dmaOk = s.dmaOk := by
  obtain ⟨_, htouch⟩ := s.touch_hosting_eq ch
  rw [State.dmaOk, State.touch_pins, State.touch_host, htouch, State.dmaOk]
@[simp] theorem State.touch_bundleRecipient (s : State) (ch : Channel) (h : Bytes) :
    (s.touch ch).bundleRecipient h = s.bundleRecipient h := by
  obtain ⟨_, _, htouch⟩ := s.touch_eq ch
  rw [htouch]
  rfl
@[simp] theorem State.touch_unwrapContent_snd (s : State) (ch : Channel) (h r : Bytes) :
    ((s.touch ch).unwrapContent h r).2 = (s.unwrapContent h r).2 := by
  obtain ⟨_, _, htouch⟩ := s.touch_eq ch
  rw [htouch]
  rfl

@[simp] theorem State.touch_bundleCode (s : State) (ch : Channel) (h : Bytes) (len : Nat) :
    (s.touch ch).bundleCode h len = s.bundleCode h len := by
  rw [State.bundleCode, State.touch_otp, State.touch_bundleRecipient, State.bundleCode]

/-! ### A load takes a slot (R412) -/

/-- A load standing in a slot. -/
def State.putLoad (s : State) (k : Nat) (x : Option ModelLoad) : State :=
  { s with hosting := { s.hosting with loads := modifyAt s.hosting.loads k fun _ => x } }

theorem State.loads_putLoad_ne (s : State) (k : Nat) (x : Option ModelLoad) :
    ∀ j, j ≠ k → (s.putLoad k x).hosting.loads.getD j none = s.hosting.loads.getD j none :=
  fun _ hj => getD_modifyAt_ne _ _ _ hj

theorem State.loads_putLoad_same (s : State) {k : Nat} (x : Option ModelLoad) (hk : k < s.hosting.loads.length) :
    (s.putLoad k x).hosting.loads.getD k none = x := getD_modifyAt_same _ _ _ _ hk

/-- The free slot that is found is a slot. -/
theorem lt_length_of_findIdx? {l : List (Option ModelLoad)} {k : Nat} (h : l.findIdx? (·.isNone) = some k) : k < l.length :=
  (List.findIdx?_eq_some_iff_getElem.1 h).1

/-- With a slot free not every slot is taken. -/
theorem all_isSome_of_findIdx? {l : List (Option ModelLoad)} {k : Nat} (h : l.findIdx? (·.isNone) = some k) :
    l.all (·.isSome) = false := by
  obtain ⟨hk, hnone, -⟩ := List.findIdx?_eq_some_iff_getElem.1 h
  refine List.all_eq_false.2 ⟨l[k], List.getElem_mem hk, ?_⟩
  simpa using hnone

section
variable {s : State} (l : ModelLoad)

theorem State.startLoad_of_room {k : Nat} (hfree : s.hosting.loads.findIdx? (·.isNone) = some k)
    (hroom : s.hosting.storeFull l.len.toNat = false) : s.startLoad l = s.putLoad k (some l) := by
  simp only [State.startLoad, hfree, hroom, Bool.false_eq_true, if_false]
  rfl

theorem State.startLoad_of_full {k : Nat} (hfree : s.hosting.loads.findIdx? (·.isNone) = some k)
    (hfull : s.hosting.storeFull l.len.toNat = true) : s.startLoad l = s.loadCode 7 := by
  simp only [State.startLoad, hfree, hfull, if_true]

end

/-- Whatever becomes of it, a load that starts changes the slots and the code alone. -/
theorem State.startLoad_eq (s : State) (l : ModelLoad) :
    ∃ a c, s.startLoad l = { s with hosting := { s.hosting with loads := a, loadResult := c } } := by
  unfold State.startLoad
  split
  · exact ⟨_, _, rfl⟩
  · split_ifs
    · exact ⟨_, _, rfl⟩
    · exact ⟨_, _, rfl⟩

/-! ### CLEAR_MODEL_LOAD (R408, R504) -/

theorem exec_clearModelLoad_of_accepts {s : State} {ch : Channel} (addr : BitVec 64) {len : BitVec 64}
    (ha : s.accepts ch 0x5100 1 .host) (hopen : s.sessionOpen = true) (hsize : modelSizeOk len.toNat = true) :
    exec (.clearModelLoad ch addr len) s =
      .next ((s.touch ch).startLoad { bound := false, addr := addr, len := len }) := by
  change Host.Outcome.next (s.odRow ch 0x5100 1 .host fun s => s.writeClearModelLoad addr len) = _
  rw [State.odRow_of_accepts _ _ _ _ _ _ ha, State.writtenBy, State.writeClearModelLoad, State.touch_sessionOpen,
    if_pos ⟨hopen, hsize⟩]

/-! ### The head of a bundle (R409-R413) -/

section
variable (s : State) (h : Bytes)

theorem State.bundleCode_of_format {len : Nat} (hformat : bundleFormatOk h len = false) : s.bundleCode h len = 1 := by
  simp [State.bundleCode, hformat]

theorem State.bundleCode_of_policy {len : Nat} (hformat : bundleFormatOk h len = true) (hpolicy : bundlePolicyOk s.otp h = false) :
    s.bundleCode h len = 2 := by
  simp [State.bundleCode, hformat, hpolicy]

theorem State.bundleCode_of_recipient {len : Nat} (hformat : bundleFormatOk h len = true) (hpolicy : bundlePolicyOk s.otp h = true) :
    s.bundleCode h len = if (s.bundleRecipient h).isNone then 3 else 0 := by
  simp [State.bundleCode, hformat, hpolicy]

/-- The codes of checks 1 to 3. -/
theorem State.bundleCode_mem (len : Nat) : s.bundleCode h len ∈ [0, 1, 2, 3] := by
  unfold State.bundleCode
  split_ifs <;> decide

end

/-- A content key that is unwrapped is one of AES-256. -/
theorem State.length_of_unwrapContent {s : State} {h r key : Bytes} (hkey : (s.unwrapContent h r).2 = some key) :
    key.length = 32 := by
  simp only [State.unwrapContent] at hkey
  split_ifs at hkey
  simpa using (Option.filter_eq_some_iff.1 hkey).2

/-- Unwrapping draws, nothing more. -/
theorem State.unwrapContent_eq (s : State) (h r : Bytes) : ∃ n d, (s.unwrapContent h r).1 =
    { s with draws := n, start := { s.start with drbgRequests := d } } := ⟨_, _, rfl⟩

/-- The load that a bundle's head gives, its content key as shares. -/
def boundLoad (addr : BitVec 64) (h : Bytes) (m : MaskedKey) : ModelLoad :=
  { bound := true, addr := addr, len := BitVec.ofNat 64 (bundleContent h), weights := digestOf (slice h 0x38 48)
    content := some m, header := slice h 0 128 }

/-- A content length that passes check 1 fits its field. -/
theorem boundLoad_len (addr : BitVec 64) {h : Bytes} (m : MaskedKey) {len : Nat} (hformat : bundleFormatOk h len = true) :
    (boundLoad addr h m).len.toNat = bundleContent h := by
  simp only [bundleFormatOk, modelSizeOk, Bool.and_eq_true, decide_eq_true_eq] at hformat
  exact Nat.mod_eq_of_lt (by omega)

section
variable {s : State} {h : Bytes} (addr : BitVec 64) {len : BitVec 64}

theorem State.openBundle_of_code {c : Nat} (hcode : s.bundleCode h len.toNat = c) (hc : c ≠ 0) :
    s.openBundle addr len h = (s, .error c) := by
  rw [State.openBundle, hcode]
  cases c with
  | zero => exact absurd rfl hc
  | succ c => rfl

variable (hcode : s.bundleCode h len.toNat = 0) {r : Bytes} (hr : s.bundleRecipient h = some r)
include hcode hr

theorem State.openBundle_of_none (hkey : (s.unwrapContent h r).2 = none) :
    s.openBundle addr len h = ((s.unwrapContent h r).1, .error 4) := by
  simp only [State.openBundle, hcode, hr, Option.getD_some, hkey]

/-- The content key reaches its slot as shares that carry it. -/
theorem State.openBundle_of_some {key : Bytes} (hkey : (s.unwrapContent h r).2 = some key) :
    ∃ u m, s.openBundle addr len h = (u, .ok (boundLoad addr h m)) ∧ u.hosting = s.hosting ∧ m.key = key := by
  refine ⟨((s.unwrapContent h r).1.transfer key).1, ((s.unwrapContent h r).1.transfer key).2, ?_, rfl, key_maskKey ?_ _⟩
  · simp only [State.openBundle, hcode, hr, Option.getD_some, hkey]
    rfl
  · rw [State.length_of_unwrapContent hkey]
    decide

end

/-- Opening a bundle draws and moves a key through the WKR, nothing more (R80, R117). -/
theorem State.openBundle_eq (s : State) (addr len : BitVec 64) (h : Bytes) : ∃ n w d, (s.openBundle addr len h).1 =
    { s with draws := n, keys := { s.keys with wkr := w }, start := { s.start with drbgRequests := d } } := by
  unfold State.openBundle
  split
  · dsimp only
    split
    · exact ⟨_, _, _, rfl⟩
    · exact ⟨_, _, _, rfl⟩
  · exact ⟨_, _, _, rfl⟩

/-- The codes of checks 1 to 4. -/
theorem State.openBundle_error_mem {s : State} {addr len : BitVec 64} {h : Bytes} {c : Nat}
    (herror : (s.openBundle addr len h).2 = .error c) : c ∈ [1, 2, 3, 4] := by
  by_cases hcode : s.bundleCode h len.toNat = 0
  · simp only [State.openBundle, hcode] at herror
    split at herror
    · cases herror
      decide
    · cases herror
  · rw [State.openBundle_of_code addr rfl hcode] at herror
    cases herror
    have hmem := s.bundleCode_mem h len.toNat
    simp only [List.mem_cons, List.not_mem_nil, or_false] at hmem ⊢
    omega

/-! ### BOUND_BUNDLE_LOAD (R402, R403, R409-R413, R504) -/

/-- Whatever becomes of it, a bound load that starts changes what a key that is unwrapped draws and moves, the slots and the code. -/
theorem State.startBundle_eq (s : State) (addr len : BitVec 64) (head : Option Bytes) :
    ∃ n w d a c, s.startBundle addr len head = { s with
      draws := n, keys := { s.keys with wkr := w }, start := { s.start with drbgRequests := d }
      hosting := { s.hosting with loads := a, loadResult := c } } := by
  unfold State.startBundle
  split_ifs
  · exact ⟨_, _, _, _, _, rfl⟩
  · obtain ⟨a, c, hload⟩ := s.startLoad_eq { bound := true, addr := addr, len := len }
    rw [hload]
    exact ⟨_, _, _, _, _, rfl⟩
  · cases head with
    | none => exact ⟨_, _, _, _, _, rfl⟩
    | some h =>
      obtain ⟨n, w, d, hopen⟩ := s.openBundle_eq addr len h
      dsimp only
      split
      · next l _ =>
        obtain ⟨a, c, hload⟩ := (s.openBundle addr len h).1.startLoad_eq l
        rw [hload, hopen]
        exact ⟨_, _, _, _, _, rfl⟩
      · rw [hopen]
        exact ⟨_, _, _, _, _, rfl⟩

theorem exec_boundBundleLoad_of_accepts {s : State} {ch : Channel} (addr len : BitVec 64) (head : Option Bytes)
    (ha : s.accepts ch 0x5100 2 .host) (hopen : s.sessionOpen = true) :
    exec (.boundBundleLoad ch addr len head) s = .next ((s.touch ch).startBundle addr len head) := by
  change Host.Outcome.next (s.odRow ch 0x5100 2 .host fun s => s.writeBoundBundleLoad addr len head) = _
  rw [State.odRow_of_accepts _ _ _ _ _ _ ha, State.writtenBy, State.writeBoundBundleLoad, State.touch_sessionOpen, if_pos hopen]

section
variable {s : State} (addr len : BitVec 64) (head : Option Bytes)

theorem State.startBundle_of_taken (hall : s.hosting.loads.all (·.isSome) = true) :
    s.startBundle addr len head = s.loadCode 8 := if_pos hall

variable {k : Nat} (hfree : s.hosting.loads.findIdx? (·.isNone) = some k)
include hfree

theorem State.startBundle_of_barred (hdma : s.dmaOk = false) :
    s.startBundle addr len head = s.startLoad { bound := true, addr := addr, len := len } := by
  simp only [State.startBundle, all_isSome_of_findIdx? hfree, hdma, Bool.false_eq_true, if_false, if_true]

variable (hdma : s.dmaOk = true)
include hdma

theorem State.startBundle_of_fault : s.startBundle addr len none = s.loadCode 9 := by
  simp only [State.startBundle, all_isSome_of_findIdx? hfree, hdma, Bool.false_eq_true, Bool.true_eq_false, if_false]

theorem State.startBundle_of_error {h : Bytes} {u : State} {c : Nat} (hopen : s.openBundle addr len h = (u, .error c)) :
    s.startBundle addr len (some h) = u.loadCode c := by
  simp only [State.startBundle, all_isSome_of_findIdx? hfree, hdma, Bool.false_eq_true, Bool.true_eq_false, if_false, hopen]

theorem State.startBundle_of_ok {h : Bytes} {u : State} {l : ModelLoad} (hopen : s.openBundle addr len h = (u, .ok l)) :
    s.startBundle addr len (some h) = u.startLoad l := by
  simp only [State.startBundle, all_isSome_of_findIdx? hfree, hdma, Bool.false_eq_true, Bool.true_eq_false, if_false, hopen]

variable {h r key : Bytes} (hcode : s.bundleCode h len.toNat = 0) (hr : s.bundleRecipient h = some r)
  (hkey : (s.unwrapContent h r).2 = some key) (hformat : bundleFormatOk h len.toNat = true)
include hcode hr hkey hformat

/-- A bundle whose content key is unwrapped stands in the free slot where the store has room for its content. -/
theorem State.startBundle_of_room (hroom : s.hosting.storeFull (bundleContent h) = false) :
    ∃ (u : State) (m : MaskedKey), s.startBundle addr len (some h) = u.putLoad k (some (boundLoad addr h m)) ∧
      u.hosting = s.hosting ∧ m.key = key := by
  obtain ⟨u, m, hopen, hhosting, hm⟩ := State.openBundle_of_some addr hcode hr hkey
  refine ⟨u, m, ?_, hhosting, hm⟩
  rw [State.startBundle_of_ok addr len hfree hdma hopen]
  rw [← hhosting] at hfree hroom
  exact State.startLoad_of_room _ hfree (by rwa [boundLoad_len addr m hformat])

theorem State.startBundle_of_full (hfull : s.hosting.storeFull (bundleContent h) = true) :
    ∃ u : State, s.startBundle addr len (some h) = u.loadCode 7 ∧ u.hosting = s.hosting := by
  obtain ⟨u, m, hopen, hhosting, -⟩ := State.openBundle_of_some addr hcode hr hkey
  refine ⟨u, ?_, hhosting⟩
  rw [State.startBundle_of_ok addr len hfree hdma hopen]
  rw [← hhosting] at hfree hfull
  exact State.startLoad_of_full _ hfree (by rwa [boundLoad_len addr m hformat])

end

/-- R412: a load is refused with a code and takes no slot. -/
def State.refusesLoad (s t : State) (code : Nat) : Prop := t.hosting.loadResult = code ∧ t.hosting.loads = s.hosting.loads

/-- R413: a slot holds the load of a bundle with its content key; the other slots stand. -/
def State.holdsBundle (s t : State) (k : Nat) (h key : Bytes) : Prop :=
  ∃ l m, t.hosting.loads.getD k none = some l ∧ l.bound = true ∧ l.len.toNat = bundleContent h ∧
    l.weights = digestOf (slice h 0x38 48) ∧ l.content = some m ∧ m.key = key ∧
    ∀ j, j ≠ k → t.hosting.loads.getD j none = s.hosting.loads.getD j none

/-- Check 4 and STORE of R412: what becomes of a bundle whose content key is unwrapped, or is not. -/
def State.bundleTaken (s t : State) (k : Nat) (h : Bytes) : Option Bytes → Prop
  | none => s.refusesLoad t 4
  | some key => if s.hosting.storeFull (bundleContent h) = true then s.refusesLoad t 7 else s.holdsBundle t k h key

section
variable {s : State} {ch : Channel} (addr : BitVec 64) {len : BitVec 64} {k : Nat} {h : Bytes}
  (hfree : s.hosting.loads.findIdx? (·.isNone) = some k) (hdma : s.dmaOk = true)
include hfree hdma

/-- The first failing of checks 1 to 3, in the state that the channel's note leaves. -/
theorem State.touch_startBundle_of_code {c : Nat} (hcode : s.bundleCode h len.toNat = c) (hc : c ≠ 0) :
    s.refusesLoad ((s.touch ch).startBundle addr len (some h)) c := by
  rw [← s.touch_loads ch] at hfree
  rw [← s.touch_dmaOk ch] at hdma
  rw [← s.touch_bundleCode ch] at hcode
  rw [State.startBundle_of_error _ _ hfree hdma (State.openBundle_of_code addr hcode hc)]
  exact ⟨rfl, s.touch_loads ch⟩

/-- Check 4 and the room in the store, for the first matching recipient. -/
theorem State.touch_startBundle_of_recipient {r : Bytes} (hformat : bundleFormatOk h len.toNat = true)
    (hpolicy : bundlePolicyOk s.otp h = true) (hr : s.bundleRecipient h = some r) {content : Option Bytes}
    (hcontent : (s.unwrapContent h r).2 = content) :
    s.bundleTaken ((s.touch ch).startBundle addr len (some h)) k h content := by
  have hcode := s.bundleCode_of_recipient h hformat hpolicy
  rw [hr, Option.isNone_some, if_neg Bool.false_ne_true, ← s.touch_bundleCode ch] at hcode
  rw [← s.touch_loads ch] at hfree
  rw [← s.touch_dmaOk ch] at hdma
  rw [← s.touch_bundleRecipient ch] at hr
  rw [← s.touch_unwrapContent_snd ch] at hcontent
  cases content with
  | none =>
    rw [State.bundleTaken, State.startBundle_of_error _ _ hfree hdma (State.openBundle_of_none addr hcode hr hcontent)]
    exact ⟨rfl, s.touch_loads ch⟩
  | some key =>
    rw [State.bundleTaken, ← s.touch_storeFull ch]
    split_ifs with hfull
    · obtain ⟨u, hstart, hhosting⟩ := State.startBundle_of_full addr len hfree hdma hcode hr hcontent hformat hfull
      rw [hstart, State.refusesLoad, State.loadCode_hosting, hhosting]
      exact ⟨rfl, s.touch_loads ch⟩
    · obtain ⟨u, m, hstart, hhosting, hm⟩ :=
        State.startBundle_of_room addr len hfree hdma hcode hr hcontent hformat (eq_false_of_ne_true hfull)
      rw [hstart]
      refine ⟨_, m, State.loads_putLoad_same _ _ ?_, rfl, boundLoad_len addr m hformat, rfl, rfl, hm, fun j hj => ?_⟩
      · rw [hhosting]
        exact lt_length_of_findIdx? hfree
      · rw [State.loads_putLoad_ne _ _ _ j hj, hhosting, State.touch_loads]

end

/-! ### The end of a load (R408, R412-R414) -/

/-- What a fetch that ended well gives has the length of the load. -/
def ModelLoad.fits (l : ModelLoad) (r : ModelResult) : Bool := r.fetchOk && decide (r.data.length = l.len.toNat)

/-- R408, R414: a model is usable, listed under its digest, and in MR10. -/
def State.listsModel (s t : State) (l : ModelLoad) (plain : Bytes) : Prop :=
  t.hosting.loadResult = 0 ∧ t.hosting.models = s.hosting.models ++ [(sha384 plain, plain)] ∧
    t.mr 10 = extendValue (s.mr 10) ((if l.bound then 2 else 1) :: digestBytes (sha384 plain) ++ leBytes 8 s.now) ∧
    ∀ j, j ≠ 10 → t.mr j = s.mr j

/-- R412: a load is refused with a code and no register moves. -/
def State.refusesModel (s t : State) (code : Nat) : Prop :=
  t.hosting.loadResult = code ∧ t.hosting.models = s.hosting.models ∧ t.measure = s.measure

section
variable {l : ModelLoad} {r : ModelResult}

theorem ModelLoad.decrypt_of_unfit (h : r.data.length ≠ l.len.toNat) : l.decrypt r.data = .error 9 := if_pos h

/-- Checks 5 and 6 of R412 under the content key that the slot holds. -/
theorem ModelLoad.decrypt_of_fits {key : MaskedKey} (hkey : l.content = some key) (h : r.data.length = l.len.toNat)
    {o : Option Bytes} (ho : gcmOpen key.key (slice l.header 16 12) (boundHeader l.header) r.data (slice l.header 32 16) = o) :
    l.decrypt r.data = o.elim (.error 5) fun plain => if sha384 plain = l.weights then .ok plain else .error 6 := by
  have hgcm : gcmOpen ((l.content.map (·.key)).getD []) (slice l.header 16 12) (boundHeader l.header) r.data
      (slice l.header 32 16) = o := by rw [hkey]; exact ho
  simp only [ModelLoad.decrypt, h, ne_eq, not_true_eq_false, if_false, hgcm]
  cases o <;> rfl

theorem ModelLoad.decrypt_error_mem {data : Bytes} {c : Nat} (h : l.decrypt data = .error c) : c ∈ [5, 6, 9] := by
  unfold ModelLoad.decrypt at h
  dsimp only at h
  split_ifs at h
  · cases h
    decide
  · split at h
    · cases h
      decide
    · split_ifs at h
      cases h
      decide

variable {s : State}

theorem State.loadPlain_of_clear (hclear : l.bound = false) :
    s.loadPlain l r = (s, if l.fits r then .ok r.data else .error 9) := by
  unfold State.loadPlain ModelLoad.fits
  cases r.fetchOk <;> simp [hclear]

theorem State.loadPlain_of_keyed {key : MaskedKey} (hbound : l.bound = true) (hkey : l.content = some key) :
    s.loadPlain l r = (s, if l.fits r then l.decrypt r.data else .error 9) := by
  unfold State.loadPlain ModelLoad.fits
  by_cases hlen : r.data.length = l.len.toNat
  · cases r.fetchOk <;> simp [hbound, hkey, hlen]
  · cases r.fetchOk <;> simp [hbound, hkey, hlen, ModelLoad.decrypt_of_unfit hlen]

/-- A load that fails gives one of the codes of R412. -/
theorem State.loadPlain_error_mem {c : Nat} (h : (s.loadPlain l r).2 = .error c) : c ∈ [1, 2, 3, 4, 5, 6, 7, 9] := by
  have hdecrypt {l' : ModelLoad} {data : Bytes} (hcode : l'.decrypt data = .error c) : c ∈ [1, 2, 3, 4, 5, 6, 7, 9] :=
    (by decide : [5, 6, 9] ⊆ [1, 2, 3, 4, 5, 6, 7, 9]) (ModelLoad.decrypt_error_mem hcode)
  cases hbound : l.bound with
  | false =>
    rw [State.loadPlain_of_clear hbound] at h
    dsimp only at h
    split_ifs at h
    cases h
    decide
  | true =>
    cases hkey : l.content with
    | some key =>
      rw [State.loadPlain_of_keyed hbound hkey] at h
      dsimp only at h
      split_ifs at h
      · exact hdecrypt h
      · cases h
        decide
    | none =>
      simp only [State.loadPlain, hbound, hkey, Bool.not_true, Option.isSome_none, Bool.false_eq_true, if_false] at h
      split_ifs at h
      · cases h
        decide
      · split at h
        · next hopen =>
          cases h
          exact (by decide : [1, 2, 3, 4] ⊆ [1, 2, 3, 4, 5, 6, 7, 9]) (State.openBundle_error_mem hopen)
        · dsimp only at h
          split_ifs at h
          · cases h
            decide
          · exact hdecrypt h

/-- Whatever a fetch gives, what is unwrapped draws and moves a key, nothing more. -/
theorem State.loadPlain_eq (s : State) (l : ModelLoad) (r : ModelResult) : ∃ n w d, (s.loadPlain l r).1 =
    { s with draws := n, keys := { s.keys with wkr := w }, start := { s.start with drbgRequests := d } } := by
  have hopened := s.openBundle_eq l.addr l.len (r.data.take (128 + 1280 * bundleRecipients r.data))
  unfold State.loadPlain
  dsimp only
  split_ifs
  · exact ⟨_, _, _, rfl⟩
  · exact ⟨_, _, _, rfl⟩
  · exact ⟨_, _, _, rfl⟩
  · exact ⟨_, _, _, rfl⟩
  · split
    · exact hopened
    · exact hopened

/-- What a load's end leaves besides its verdict: a free slot. -/
def State.loadEnded (s t : State) (k : Nat) : Prop :=
  t.hosting.loads.getD k none = none ∧ t.ret = s.ret ∧ t.keys = { s.keys with wkr := t.keys.wkr }

theorem State.endLoad_of_ok {k : Nat} {plain : Bytes} (hplain : ((s.putLoad k none).loadPlain l r).2 = .ok plain)
    (hmrs : s.measure.mrs.length = 32) (hk : k < s.hosting.loads.length) :
    s.loadEnded (s.endLoad k l r) k ∧ s.listsModel (s.endLoad k l r) l plain := by
  have hend : s.endLoad k l r = ((s.putLoad k none).loadPlain l r).1.acceptModel l plain := by
    simp only [State.endLoad]
    rw [State.putLoad] at hplain ⊢
    rw [hplain]
  obtain ⟨n, w, d, heq⟩ := (s.putLoad k none).loadPlain_eq l r
  rw [hend, heq]
  refine ⟨⟨s.loads_putLoad_same none hk, rfl, rfl⟩, rfl, rfl, (State.extendMr_mr_same s 10 _ (by omega)).trans ?_,
    fun j hj => State.extendMr_mr_ne s 10 j _ hj⟩
  cases l.bound <;> rfl

theorem State.endLoad_of_error {k c : Nat} (hcode : ((s.putLoad k none).loadPlain l r).2 = .error c)
    (hk : k < s.hosting.loads.length) :
    s.loadEnded (s.endLoad k l r) k ∧ s.refusesModel (s.endLoad k l r) c := by
  have hend : s.endLoad k l r = ((s.putLoad k none).loadPlain l r).1.loadCode c := by
    simp only [State.endLoad]
    rw [State.putLoad] at hcode ⊢
    rw [hcode]
  obtain ⟨n, w, d, heq⟩ := (s.putLoad k none).loadPlain_eq l r
  rw [hend, heq]
  exact ⟨⟨s.loads_putLoad_same none hk, rfl, rfl⟩, rfl, rfl, rfl⟩

end

/-! ### MODEL_LOAD_COMPLETE -/

section
variable {s : State} {slot : Fin 4} {l : ModelLoad} (r : ModelResult) (hload : s.hosting.loads.getD slot.val none = some l)
include hload

theorem exec_modelLoadComplete_of_barred (hdma : s.dmaOk = false) : exec (.modelLoadComplete slot r) s = .next s := by
  change execModelLoadComplete slot r s = _
  simp only [execModelLoadComplete, hload, hdma, Bool.false_eq_true, if_false]

theorem exec_modelLoadComplete_of_dmaOk (hdma : s.dmaOk = true) :
    exec (.modelLoadComplete slot r) s = .next (s.endLoad slot.val l r) := by
  change execModelLoadComplete slot r s = _
  simp only [execModelLoadComplete, hload, hdma, if_true]

end

/-- A slot's load ends with the code of its fetch, or with its model listed. -/
theorem State.endLoad_of_loadPlain {s : State} {k : Nat} {l : ModelLoad} {r : ModelResult} {o : Except Nat Bytes}
    (ho : ((s.putLoad k none).loadPlain l r).2 = o) (hmrs : s.measure.mrs.length = 32) (hk : k < s.hosting.loads.length) :
    s.loadEnded (s.endLoad k l r) k ∧ match o with
      | .ok plain => s.listsModel (s.endLoad k l r) l plain
      | .error c => s.refusesModel (s.endLoad k l r) c := by
  cases o with
  | ok plain => exact State.endLoad_of_ok ho hmrs hk
  | error c => exact State.endLoad_of_error ho hk

/-- Settles O37: a load stands in its slot from its acceptance to its end; the checks are R412's, in their order, and only a load that
passes them all lists a model and moves MR10. -/
theorem modelsLoad : Obligations.ModelsLoad := by
  intro s hinv
  obtain ⟨⟨hmrs, -, -, -, -, -, -, hloads, -⟩, -⟩ := hinv
  refine ⟨fun ch addr len k ha hsession hsize hfree hroom => ?clear, fun ch addr len head ha hsession => ?bound,
    fun slot r l hload => ⟨exec_modelLoadComplete_of_barred r hload, fun hdma => ?ended⟩⟩
  case clear =>
    have hfree' : (s.touch ch).hosting.loads.findIdx? (·.isNone) = some k := by rwa [State.touch_loads]
    have hroom' : (s.touch ch).hosting.storeFull len.toNat = false := by rwa [State.touch_storeFull]
    refine ⟨_, exec_clearModelLoad_of_accepts addr ha (beq_iff_eq.2 hsession) hsize, ?_⟩
    rw [State.startLoad_of_room _ hfree' hroom']
    refine ⟨State.loads_putLoad_same _ _ (lt_length_of_findIdx? hfree'), fun j hj => ?_, s.touch_measure ch, s.touch_od ch,
      s.touch_models ch⟩
    rw [State.loads_putLoad_ne _ _ _ j hj, State.touch_loads]
  case bound =>
    obtain ⟨_, _, _, _, _, hstart⟩ := (s.touch ch).startBundle_eq addr len head
    refine ⟨_, exec_boundBundleLoad_of_accepts addr len head ha (beq_iff_eq.2 hsession), ?_, ?_, fun hall => ?taken,
      fun k hfree => ⟨fun hdma hroom => ?barred, fun hdma hhead => ?fault, fun h hhead hdma => ?head⟩⟩
    · rw [hstart]
      exact s.touch_measure ch
    · rw [hstart]
      exact s.touch_models ch
    case taken =>
      rw [State.startBundle_of_taken _ _ _ (by rwa [State.touch_loads])]
      exact ⟨rfl, s.touch_loads ch⟩
    case barred =>
      rw [← s.touch_loads ch] at hfree
      rw [State.startBundle_of_barred _ _ _ hfree (by rwa [State.touch_dmaOk]),
        State.startLoad_of_room _ hfree (by rwa [State.touch_storeFull])]
      exact State.loads_putLoad_same _ _ (lt_length_of_findIdx? hfree)
    case fault =>
      rw [hhead, State.startBundle_of_fault _ _ (by rwa [State.touch_loads]) (by rwa [State.touch_dmaOk])]
      exact ⟨rfl, s.touch_loads ch⟩
    case head =>
      subst hhead
      have hrefused {c : Nat} (hcode : s.bundleCode h len.toNat = c) (hc : c ≠ 0) :=
        State.touch_startBundle_of_code (ch := ch) addr hfree hdma hcode hc
      refine ⟨fun hformat => hrefused (s.bundleCode_of_format h hformat) (by decide),
        fun hformat hpolicy => hrefused (s.bundleCode_of_policy h hformat hpolicy) (by decide),
        fun hformat hpolicy hnone => hrefused (c := 3) ?_ (by decide), fun r hformat hpolicy hr => ?_⟩
      · rw [s.bundleCode_of_recipient h hformat hpolicy, hnone]
        rfl
      · exact State.touch_startBundle_of_recipient addr hfree hdma hformat hpolicy hr rfl
  case ended =>
    have hk : slot.val < s.hosting.loads.length := slot.isLt.trans_eq hloads.symm
    have hend {o : Except Nat Bytes} (ho : ((s.putLoad slot.val none).loadPlain l r).2 = o) :=
      State.endLoad_of_loadPlain ho hmrs hk
    obtain ⟨hslot, hret, hkeys⟩ := (hend rfl).1
    refine ⟨_, exec_modelLoadComplete_of_dmaOk r hload hdma, hslot, hret, hkeys, ?_⟩
    intro fits accepted refused
    refine ⟨fun hclear => ?unbound, fun key hbound hkey => ?keyed, fun hbound hwaits => ?waiting⟩
    case unbound =>
      have hplain := congrArg Prod.snd (State.loadPlain_of_clear (s := s.putLoad slot.val none) (r := r) hclear)
      split_ifs with hfits
      · exact (hend (hplain.trans (if_pos hfits))).2
      · exact (hend (hplain.trans (if_neg hfits))).2
    case keyed =>
      have hplain := congrArg Prod.snd (State.loadPlain_of_keyed (s := s.putLoad slot.val none) (r := r) hbound hkey)
      split_ifs with hfits
      · have hdecrypt := hplain.trans (if_pos hfits)
        have hlen : r.data.length = l.len.toNat := of_decide_eq_true (Bool.and_eq_true_iff.1 hfits).2
        split
        · next hgcm => exact (hend (hdecrypt.trans (ModelLoad.decrypt_of_fits hkey hlen hgcm))).2
        · next plain hgcm =>
          have hsealed := hdecrypt.trans (ModelLoad.decrypt_of_fits hkey hlen hgcm)
          split_ifs with hweights
          · exact (hend (hsealed.trans (if_pos hweights))).2
          · exact (hend (hsealed.trans (if_neg hweights))).2
      · exact (hend (hplain.trans (if_neg hfits))).2
    case waiting =>
      cases hplain : ((s.putLoad slot.val none).loadPlain l r).2 with
      | ok plain => exact .inl ⟨plain, (hend hplain).2⟩
      | error c => exact .inr ⟨c, State.loadPlain_error_mem hplain, (hend hplain).2⟩

end Sys2Proof.Machine
end

section
/-! Strait ports and the units of a frame (15; R259, R449): one port written among the twelve, and what a unit that arrives leaves of
them. -/

namespace Sys2Proof.Machine

/-! ### One port written -/

theorem State.port_modPort_same (s : State) {p : Nat} (f : Port → Port) (hp : p < s.straits.ports.length) :
    (s.modPort p f).port p = f (s.port p) := getD_modifyAt_same _ _ _ _ hp

theorem State.port_modPort_ne (s : State) {p q : Nat} (f : Port → Port) (h : q ≠ p) : (s.modPort p f).port q = s.port q :=
  getD_modifyAt_ne _ _ _ h

theorem State.modPort_modPort (s : State) (p : Nat) (f g : Port → Port) :
    (s.modPort p f).modPort p g = s.modPort p (g ∘ f) := by
  simp only [State.modPort, modifyAt, List.modify_modify_eq]

/-- Ports are read from the list of ports. -/
theorem State.port_congr {s t : State} (h : t.straits.ports = s.straits.ports) (p : Nat) : t.port p = s.port p :=
  congrArg (fun l => l.getD p {}) h

/-! ### Units of a frame (R259, R449) -/

@[simp] theorem State.voidStreams_straits (s : State) (l : List Nat) : (s.voidStreams l).straits = s.straits := by
  unfold State.voidStreams; split <;> rfl

@[simp] theorem State.coreFail_straits (s : State) (core code step : Nat) : (s.coreFail core code step).straits = s.straits := by
  simp [State.coreFail, State.planFault]

@[simp] theorem State.applyFx_straits (s : State) (core : Nat) (x : CoreFx) : (s.applyFx core x).straits = s.straits := by
  simp only [State.applyFx]; split <;> simp

@[simp] theorem State.receive_straits (s : State) (core : Nat) (u : SoundUnit) : (s.receive core u).straits = s.straits :=
  State.applyFx_straits _ _ _

@[simp] theorem State.carried_straits (s : State) (e : SlotEntry) (u : SoundUnit) : (s.carried e u).1.straits = s.straits := by
  unfold State.carried
  split
  · simp only [State.hbmSource, apply_ite State.straits, ite_self]
  · split <;> rfl

@[simp] theorem State.unitAtCore_straits (s : State) (core : Nat) (u : SoundUnit) : (s.unitAtCore core u).straits = s.straits := by
  simp only [State.unitAtCore]
  split
  · exact State.coreFail_straits _ _ _ _
  · split
    · exact State.coreFail_straits _ _ _ _
    · split
      · rfl
      · simp only [apply_ite State.straits, State.receive_straits, State.carried_straits, ite_self]

@[simp] theorem State.unitAtHbm_straits (s : State) (n : Nat) (u : SoundUnit) : (s.unitAtHbm n u).straits = s.straits := by
  unfold State.unitAtHbm
  split
  · rfl
  · split
    · rfl
    · simp only [apply_ite State.straits, State.coreFail_straits, ite_self]

@[simp] theorem State.unitAtFerry_straits (s : State) (u : SoundUnit) : (s.unitAtFerry u).straits = s.straits := by
  unfold State.unitAtFerry
  split
  · rfl
  · simp only [apply_ite State.straits, ite_self]

/-- A unit for another module is queued at a port; no port changes by that. -/
theorem State.unitAtStrait_ports (s : State) (p : Nat) (u : SoundUnit) :
    (s.unitAtStrait p u).straits.ports = s.straits.ports := by
  unfold State.unitAtStrait
  split
  · split_ifs <;> rfl
  · rfl

theorem State.unitArrives_ports (s : State) (u : SoundUnit) : (s.unitArrives u).straits.ports = s.straits.ports := by
  simp only [State.unitArrives, apply_ite (fun t : State => t.straits.ports), State.unitAtCore_straits, State.unitAtHbm_straits,
    State.unitAtFerry_straits, State.unitAtStrait_ports, ite_self]

theorem State.takeUnit_ports (p : Nat) (s : State) (u : FrameUnit) : (s.takeUnit p u).straits.ports = s.straits.ports := by
  unfold State.takeUnit
  split_ifs
  · rfl
  · exact State.unitArrives_ports _ _
  · split <;> rfl

section
variable {s : State} {u : FrameUnit} (hkind : u.kind = 1) (hdest : u.destModule.toNat ≠ s.ret.moduleAddr)
include hkind hdest

theorem State.takeUnit_of_route (p : Nat) {q : Nat} (hroute : s.route u.destModule.toNat = some q) :
    s.takeUnit p u = { s with straits := { s.straits with forwarded := s.straits.forwarded ++ [(q, u)] } } := by
  simp [State.takeUnit, hkind, hdest, hroute]

theorem State.takeUnit_of_no_route (p : Nat) (hroute : s.route u.destModule.toNat = none) :
    s.takeUnit p u = { s with straits := { s.straits with noRoute := bump s.straits.noRoute } } := by
  simp [State.takeUnit, hkind, hdest, hroute]

end

end Sys2Proof.Machine
end

section
/-! DATA_FRAME (15, "Frames"; R442-R445, R447): what a port makes of a frame and of the acknowledgement on it. -/

namespace Sys2Proof.Machine

/-! ### Acknowledgement (R443-R445) -/

/-- What an acknowledgement leaves waiting was waiting. -/
theorem Port.mem_unacked_of_acknowledge {x : Port} {a : Nat} {g : SentFrame} (h : g ∈ (x.acknowledge a).unacked) :
    g ∈ x.unacked := by
  simp only [Port.acknowledge] at h
  split_ifs at h <;> simp only [List.mem_append, List.mem_filter] at h <;> tauto

/-- A frame of this epoch beyond the acknowledgement goes on waiting. -/
theorem Port.mem_acknowledge_of_lt {x : Port} {a : Nat} {g : SentFrame} (hg : g ∈ x.unacked) (hmark : g.mark = x.txMark)
    (ha : a < g.counter) : g ∈ (x.acknowledge a).unacked := by
  simp only [Port.acknowledge]
  split_ifs <;> simp [hg, hmark, ha]

/-- With nothing to be sent again, a NAK queues all that waits, and the first has failed once more. -/
theorem Port.takeAck_of_nak {x : Port} {a : Nat} {g : SentFrame} {rest : List SentFrame} (hresend : x.resend = [])
    (hunacked : (x.acknowledge a).unacked = g :: rest) : x.takeAck a true =
      { x with unacked := { g with fails := g.fails + 1 } :: rest, resend := { g with fails := g.fails + 1 } :: rest } := by
  have hstill : (x.acknowledge a).resend = [] := hresend
  simp only [Port.takeAck, if_true, Port.nakked, hunacked, hstill]
  rfl

/-- An acknowledgement reaches the frames sent alone. -/
theorem Port.takeAck_eq (x : Port) (a : Nat) (nak : Bool) : ∃ l r, x.takeAck a nak = { x with unacked := l, resend := r } := by
  cases nak
  · exact ⟨_, _, rfl⟩
  · simp only [Port.takeAck, if_true, Port.nakked]
    split <;> exact ⟨_, _, rfl⟩

theorem Port.acceptFrame_eq (x : Port) (f : DataFrame) (now : Nat) : ∃ l r, x.acceptFrame f now =
    { x with unacked := l, resend := r, heardAt := now, expected := x.expected + 1, framesReceived := x.framesReceived + 1,
             nak := false } := by
  obtain ⟨l, r, h⟩ := x.takeAck_eq f.ack.toNat f.nak
  exact ⟨l, r, by rw [Port.acceptFrame, h]⟩

section
variable (x : Port) {f : DataFrame} (now : Nat)

theorem Port.acceptFrame_of_not_nak (hnak : f.nak = false) :
    (x.acceptFrame f now).unacked = (x.acknowledge f.ack.toNat).unacked ∧ (x.acceptFrame f now).resend = x.resend := by
  rw [Port.acceptFrame, hnak]
  exact ⟨rfl, rfl⟩

theorem Port.acceptFrame_of_nak {g : SentFrame} {rest : List SentFrame} (hnak : f.nak = true) (hresend : x.resend = [])
    (hunacked : (x.acknowledge f.ack.toNat).unacked = g :: rest) :
    (x.acceptFrame f now).resend = { g with fails := g.fails + 1 } :: rest ∧
      (x.acceptFrame f now).unacked = { g with fails := g.fails + 1 } :: rest := by
  rw [Port.acceptFrame, hnak, Port.takeAck_of_nak hresend hunacked]
  exact ⟨rfl, rfl⟩

end

/-! ### DATA_FRAME (R442-R444, R447) -/

/-- A frame's corrected symbols, counted (OD 0x7020). -/
def Port.corrects (x : Port) (f : DataFrame) : Port := { x with corrected := bumpBy f.corrected x.corrected }

theorem exec_dataFrame_of_up {s : State} {p : Fin 12} (f : DataFrame) (hup : (s.port p.val).state = .up) :
    exec (.dataFrame p f) s = .next (s.frame p.val f) := by
  show execDataFrame p f s = _
  simp only [execDataFrame, hup, if_true]

theorem State.releaseFrame_ports (s : State) (p : Nat) (f : DataFrame) :
    (s.releaseFrame p f).straits.ports = modifyAt s.straits.ports p fun x => x.acceptFrame f s.clock.count :=
  List.foldlRecOn (motive := fun t : State => t.straits.ports = modifyAt s.straits.ports p fun x => x.acceptFrame f s.clock.count)
    f.units (State.takeUnit p) rfl fun t ht u _ => (State.takeUnit_ports p t u).trans ht

section
variable {s : State} {p : Nat} (g : Port → Port) (f : DataFrame)

theorem State.port_releaseFrame_same (hp : p < s.straits.ports.length) :
    ((s.modPort p g).releaseFrame p f).port p = (g (s.port p)).acceptFrame f s.clock.count := by
  rw [← State.port_modPort_same _ g hp]
  refine (congrArg (fun l => l.getD p {}) (State.releaseFrame_ports _ p f)).trans (getD_modifyAt_same _ _ _ _ ?_)
  rwa [State.modPort_straits, modifyAt_length]

theorem State.port_releaseFrame_ne {q : Nat} (h : q ≠ p) : ((s.modPort p g).releaseFrame p f).port q = s.port q := by
  rw [← s.port_modPort_ne g h]
  exact (congrArg (fun l => l.getD q {}) (State.releaseFrame_ports _ p f)).trans (getD_modifyAt_ne _ _ _ h)

end

section
variable {s : State} {p : Nat} {f : DataFrame} (hp : p < s.straits.ports.length)

theorem State.frame_of_fec_failed (hfec : f.fecOk = false) :
    s.frame p f = s.modPort p fun x => (x.corrects f).nakFrame := by
  simp only [State.frame, hfec, Bool.not_false, if_true, State.modPort_modPort]
  rfl

include hp

theorem State.frame_of_present_mark (hfec : f.fecOk = true) (hmark : f.mark = (s.port p).rxMark) : s.frame p f =
    if f.counter.toNat ≠ (s.port p).expected then s.modPort p fun x => x.corrects f
    else if f.tagOk then (s.modPort p fun x => x.corrects f).releaseFrame p f
    else s.modPort p fun x => (x.corrects f).nakFrame := by
  simp only [State.frame, hfec, Bool.not_true, Bool.false_eq_true, if_false, State.port_modPort_same _ _ hp, hmark, if_true,
    State.modPort_modPort]
  rfl

theorem State.frame_of_verified (hfec : f.fecOk = true) (hmark : f.mark = (s.port p).rxMark)
    (hcounter : f.counter.toNat = (s.port p).expected) (htag : f.tagOk = true) :
    s.frame p f = (s.modPort p fun x => x.corrects f).releaseFrame p f := by
  rw [State.frame_of_present_mark hp hfec hmark, if_neg (not_not.2 hcounter), if_pos htag]

theorem State.frame_of_unverified (hfec : f.fecOk = true) (hmark : f.mark = (s.port p).rxMark)
    (hcounter : f.counter.toNat = (s.port p).expected) (htag : f.tagOk = false) :
    s.frame p f = s.modPort p fun x => (x.corrects f).nakFrame := by
  rw [State.frame_of_present_mark hp hfec hmark, if_neg (not_not.2 hcounter), if_neg (Bool.eq_false_iff.1 htag)]

theorem State.frame_of_retired_mark (hfec : f.fecOk = true) (hmark : f.mark ≠ (s.port p).rxMark)
    (hnone : (s.port p).pendingRx = none) :
    s.frame p f = s.modPort p fun x => { x.corrects f with retired := bump x.retired } := by
  simp only [State.frame, hfec, Bool.not_true, Bool.false_eq_true, if_false, State.port_modPort_same _ _ hp, hmark,
    State.modPort_modPort]
  split
  · next hsome => cases hnone.symm.trans hsome
  · rfl

theorem State.frame_of_pending_mark {key : MaskedKey} (hfec : f.fecOk = true) (hmark : f.mark ≠ (s.port p).rxMark)
    (hkey : (s.port p).pendingRx = some key) : s.frame p f =
    if f.counter.toNat ≠ 0 then s.modPort p fun x => x.corrects f
    else if f.tagOk then (s.modPort p fun x => (x.corrects f).switchRx key).releaseFrame p f
    else s.modPort p fun x => (x.corrects f).nakFrame := by
  simp only [State.frame, hfec, Bool.not_true, Bool.false_eq_true, if_false, State.port_modPort_same _ _ hp, hmark,
    State.modPort_modPort]
  split
  · next hsome =>
    obtain rfl := Option.some.inj (hkey.symm.trans hsome)
    rfl
  · next hnone => cases hkey.symm.trans hnone

theorem State.frame_of_next_epoch {key : MaskedKey} (hfec : f.fecOk = true) (hmark : f.mark ≠ (s.port p).rxMark)
    (hkey : (s.port p).pendingRx = some key) (hcounter : f.counter.toNat = 0) (htag : f.tagOk = true) :
    s.frame p f = (s.modPort p fun x => (x.corrects f).switchRx key).releaseFrame p f := by
  rw [State.frame_of_pending_mark hp hfec hmark hkey, if_neg (not_not.2 hcounter), if_pos htag]

/-- A frame writes its own port, where it counts its corrected symbols, and then releases its units or does not. -/
theorem State.frame_cases (f : DataFrame) : ∃ g : Port → Port, (∀ x, (g x).corrected = bumpBy f.corrected x.corrected) ∧
    (s.frame p f = s.modPort p g ∨ s.frame p f = (s.modPort p g).releaseFrame p f) := by
  by_cases hfec : f.fecOk = false
  · exact ⟨_, fun _ => rfl, .inl (State.frame_of_fec_failed hfec)⟩
  rw [Bool.not_eq_false] at hfec
  by_cases hmark : f.mark = (s.port p).rxMark
  · rw [State.frame_of_present_mark hp hfec hmark]
    split_ifs
    · exact ⟨_, fun _ => rfl, .inl rfl⟩
    · exact ⟨_, fun _ => rfl, .inr rfl⟩
    · exact ⟨_, fun _ => rfl, .inl rfl⟩
  cases hpending : (s.port p).pendingRx with
  | none => exact ⟨_, fun _ => rfl, .inl (State.frame_of_retired_mark hp hfec hmark hpending)⟩
  | some key =>
    rw [State.frame_of_pending_mark hp hfec hmark hpending]
    split_ifs
    · exact ⟨_, fun _ => rfl, .inl rfl⟩
    · exact ⟨_, fun _ => rfl, .inr rfl⟩
    · exact ⟨_, fun _ => rfl, .inl rfl⟩

theorem State.port_frame_corrected (f : DataFrame) :
    ((s.frame p f).port p).corrected = bumpBy f.corrected (s.port p).corrected := by
  obtain ⟨g, hcorrected, hframe | hframe⟩ := State.frame_cases hp f
  · rw [hframe, State.port_modPort_same _ _ hp, hcorrected]
  · obtain ⟨l, r, haccept⟩ := (g (s.port p)).acceptFrame_eq f s.clock.count
    rw [hframe, State.port_releaseFrame_same _ _ hp, haccept, hcorrected]

theorem State.port_frame_ne (f : DataFrame) {q : Nat} (h : q ≠ p) : (s.frame p f).port q = s.port q := by
  obtain ⟨g, -, hframe | hframe⟩ := State.frame_cases hp f
  · rw [hframe, State.port_modPort_ne _ _ h]
  · rw [hframe, State.port_releaseFrame_ne _ _ h]

end

end Sys2Proof.Machine
end

section
/-! The frame slot of a port (15, "Frames"; R443, R445; log 4, log 59): each port sends at its own turn of a nanosecond. -/

namespace Sys2Proof.Machine

/-! ### The frame slot (R443, R445) -/

/-- What happened meanwhile left a port as it was. -/
structure State.KeepsPort (s t : State) (p : Nat) : Prop where
  port : t.port p = s.port p
  clock : t.clock = s.clock
  length : t.straits.ports.length = s.straits.ports.length

theorem State.KeepsPort.refl (s : State) (p : Nat) : s.KeepsPort s p := ⟨rfl, rfl, rfl⟩

theorem State.KeepsPort.trans {s t u : State} {p : Nat} (hst : s.KeepsPort t p) (htu : t.KeepsPort u p) : s.KeepsPort u p :=
  ⟨htu.port.trans hst.port, htu.clock.trans hst.clock, htu.length.trans hst.length⟩

theorem State.KeepsPort.frameDue {s t : State} {p : Nat} (h : s.KeepsPort t p) : t.frameDue p = s.frameDue p := by
  have hport : t.straits.port p = s.straits.port p := h.port
  simp only [State.frameDue, hport, h.clock]

/-- A port written whole reads as written. -/
theorem State.port_putPort (s : State) (st : Straits) {p : Nat} (y : Port) (hp : p < st.ports.length) :
    ({ s with straits := { st with ports := modifyAt st.ports p fun _ => y } } : State).port p = y :=
  getD_modifyAt_same _ _ _ _ hp

section
variable {s : State} {p : Nat}

theorem State.emitFrame_of_full (hresend : (s.port p).resend = []) (hfull : 256 ≤ (s.port p).unacked.length) :
    s.emitFrame p = s := by
  have hresend : (s.straits.port p).resend = [] := hresend
  simp only [State.emitFrame, hresend]
  exact if_pos hfull

/-- A new frame carries units from the queues, which stand apart from the ports. -/
theorem State.emitFrame_of_room (hresend : (s.port p).resend = []) (hroom : (s.port p).unacked.length < 256) :
    ∃ (units : List FrameUnit) (st : Straits), st.ports = s.straits.ports ∧ s.emitFrame p =
      { s with straits := { st with ports := modifyAt st.ports p fun _ =>
          { s.port p with txCounter := (s.port p).txCounter + 1, unacked := (s.port p).unacked ++ [s.nextFrame p units],
                          wire := (s.nextFrame p units).bytes } } } := by
  have hfree : ¬ frameWindow ≤ (s.straits.port p).unacked.length := Nat.not_le.2 hroom
  simp only [State.emitFrame, if_neg hfree]
  split
  · next hagain => exact absurd (hagain.symm.trans hresend) (List.cons_ne_nil _ _)
  · exact ⟨_, (s.straits.outUnits p _).2, rfl, rfl⟩

variable (hp : p < s.straits.ports.length)
include hp

theorem State.port_emitFrame_of_resend {g : SentFrame} {rest : List SentFrame} (hresend : (s.port p).resend = g :: rest) :
    (s.emitFrame p).port p = { s.port p with resend := rest, wire := g.bytes } := by
  have hresend : (s.straits.port p).resend = g :: rest := hresend
  simp only [State.emitFrame, hresend]
  exact State.port_putPort s s.straits _ hp

theorem State.port_emitFrame_of_room (hresend : (s.port p).resend = []) (hroom : (s.port p).unacked.length < 256) :
    ∃ g, g.counter = (s.port p).txCounter ∧ g.mark = (s.port p).txMark ∧ g.fails = 0 ∧ (s.emitFrame p).port p =
      { s.port p with txCounter := (s.port p).txCounter + 1, unacked := (s.port p).unacked ++ [g], wire := g.bytes } := by
  obtain ⟨units, st, hports, hemit⟩ := State.emitFrame_of_room hresend hroom
  exact ⟨s.nextFrame p units, rfl, rfl, rfl, by rw [hemit, State.port_putPort _ _ _ (hports ▸ hp)]⟩

end

/-- A port's frame reaches no other port. -/
theorem State.keepsPort_emitFrame (s : State) {p q : Nat} (h : p ≠ q) : s.KeepsPort (s.emitFrame q) p := by
  simp only [State.emitFrame]
  split
  · exact ⟨getD_modifyAt_ne _ _ _ h, rfl, modifyAt_length _ _ _⟩
  · split_ifs
    · exact .refl s p
    · exact ⟨getD_modifyAt_ne _ _ _ h, rfl, modifyAt_length _ _ _⟩

/-- A port at its turn: it sends where its slot is due. -/
def State.slotOf (s : State) (p : Nat) : State := if s.frameDue p then s.emitFrame p else s

theorem State.keepsPort_slots (s : State) {p : Nat} {l : List Nat} (h : p ∉ l) : s.KeepsPort (l.foldl State.slotOf s) p :=
  List.foldlRecOn (motive := fun t => s.KeepsPort t p) l State.slotOf (.refl s p) fun t ht q hq =>
    ht.trans (by
      unfold State.slotOf
      split
      · exact t.keepsPort_emitFrame (ne_of_mem_of_not_mem hq h).symm
      · exact .refl t p)

/-- Of the twelve turns a port sees its own. -/
theorem State.port_sendFrames (s : State) {p : Nat} (hp : p < 12) :
    ∃ t, s.KeepsPort t p ∧ s.sendFrames.port p = (t.slotOf p).port p := by
  obtain ⟨before, after, hsplit⟩ := List.append_of_mem (List.mem_range.2 hp)
  have hnodup : (before ++ p :: after).Nodup := hsplit ▸ List.nodup_range
  obtain ⟨hnot, -⟩ := List.nodup_middle.1 hnodup |> List.nodup_cons.1
  rw [List.mem_append, not_or] at hnot
  refine ⟨before.foldl State.slotOf s, s.keepsPort_slots hnot.1, ?_⟩
  have hsend : s.sendFrames = after.foldl State.slotOf ((before.foldl State.slotOf s).slotOf p) := by
    rw [← List.foldl_cons, ← List.foldl_append, ← hsplit]
    rfl
  rw [hsend]
  exact (State.keepsPort_slots _ hnot.2).port

@[simp] theorem State.scrubOn_straits (s : State) : s.scrubOn.straits = s.straits := by
  unfold State.scrubOn; split <;> rfl

@[simp] theorem State.endWindows_straits (s : State) : s.endWindows.straits = s.straits := by
  simp only [State.endWindows, apply_ite State.straits, State.update1s, State.update100ms, State.scrubOn_straits, ite_self]

theorem State.keepsPort_ppsFall (s : State) (p : Nat) : s.KeepsPort s.ppsFall p := by
  unfold State.ppsFall
  split
  · exact ⟨rfl, rfl, rfl⟩
  · exact .refl s p

/-- A nanosecond is, for a port, its turn at the count that the nanosecond reaches. -/
theorem State.port_tick {s : State} {p : Nat} (hp : p < 12) (hstby : s.pins.stby = true) :
    ∃ t, ({ s with clock := ⟨s.clock.count + 1, s.clock.device + 1⟩ } : State).KeepsPort t p ∧
      s.tick.port p = (t.slotOf p).port p := by
  obtain ⟨t, hkeeps, hport⟩ :=
    State.port_sendFrames ({ s with clock := ⟨s.clock.count + 1, s.clock.device + 1⟩ } : State).ppsFall hp
  refine ⟨t, (State.keepsPort_ppsFall _ p).trans hkeeps, ?_⟩
  rw [State.tick, if_pos hstby, ← hport]
  exact State.port_congr (congrArg Straits.ports (State.endWindows_straits _)) p

theorem step_of_idle {s : State} (h : s.pending = []) : step s = .next s.tick := by simp only [step, h]

end Sys2Proof.Machine
end

section
/-! A port that goes down and the ends of an epoch (15, "Epochs"; R440, R445-R448, R454), and the frames of a port as a whole. -/

namespace Sys2Proof.Machine

/-! ### A port goes down (R439, R445, R454) -/

theorem State.settleSpan_eq (s : State) : ∃ n, s.settleSpan = { s with straits := { s.straits with spanState := n } } := by
  unfold State.settleSpan
  split
  · exact ⟨_, rfl⟩
  · split
    · split
      · exact ⟨_, rfl⟩
      · exact ⟨_, rfl⟩
    · exact ⟨_, rfl⟩

theorem State.settleSpan_fabric (s : State) : s.settleSpan.fabric = s.fabric := by
  obtain ⟨_, h⟩ := s.settleSpan_eq
  rw [h]

theorem State.port_settleSpan (s : State) (p : Nat) : s.settleSpan.port p = s.port p := by
  obtain ⟨_, h⟩ := s.settleSpan_eq
  rw [h]
  rfl

/-! ### Agreement (R440, R446, R448) -/

theorem State.onlyPort_generatedBy (s : State) (p n : Nat) : s.onlyPort (s.generatedBy n) p := ⟨fun _ _ => rfl, rfl, .inl rfl⟩

section
variable {s t : State} {p : Nat} (h : s.onlyPort t p)
include h

theorem State.onlyPort.transfer (k : Bytes) : s.onlyPort (t.transfer k).1 p := by
  obtain ⟨hothers, heq, hengines⟩ := h
  exact ⟨hothers, congrArg (fun u : State => (u.transfer k).1) heq, hengines⟩

theorem State.onlyPort.modPort (f : Port → Port) : s.onlyPort (t.modPort p f) p := by
  obtain ⟨hothers, heq, hengines⟩ := h
  exact ⟨fun q hq => (t.port_modPort_ne f hq).trans (hothers q hq), congrArg (State.modPort · p f) heq, hengines⟩

end

/-- An agreement is opened over a state in which nothing has moved but draws and the WKR. -/
theorem State.agree_eq (s : State) (p epoch : Nat) (f : Port → Port) : ∃ (t : State) (a : Agreement), s.agree p epoch f =
      t.modPort p (fun x => { f x with agreement := some a, agreedAt := s.clock.count }) ∧
    s.onlyPort t p ∧ t.straits = s.straits ∧ a.epoch = epoch ∧ a.peer = none :=
  ⟨_, _, rfl, ((s.onlyPort_generatedBy p 3).transfer _).transfer _, rfl, rfl, rfl⟩

theorem State.onlyPort_agree (s : State) (p epoch : Nat) (f : Port → Port) : s.onlyPort (s.agree p epoch f) p := by
  obtain ⟨t, a, hagree, honly, -⟩ := s.agree_eq p epoch f
  exact hagree ▸ honly.modPort _

theorem State.agree_ports_length (s : State) (p epoch : Nat) (f : Port → Port) :
    (s.agree p epoch f).straits.ports.length = s.straits.ports.length := by
  obtain ⟨t, a, hagree, -, hstraits, -⟩ := s.agree_eq p epoch f
  rw [hagree, State.modPort_straits, modifyAt_length, hstraits]

theorem State.port_agree {s : State} {p : Nat} (epoch : Nat) (f : Port → Port) (hp : p < s.straits.ports.length) :
    ∃ a, (s.agree p epoch f).port p = { f (s.port p) with agreement := some a, agreedAt := s.clock.count } ∧ a.epoch = epoch ∧
      a.peer = none := by
  obtain ⟨t, a, hagree, -, hstraits, hepoch, hpeer⟩ := s.agree_eq p epoch f
  refine ⟨a, ?_, hepoch, hpeer⟩
  rw [hagree, State.port_modPort_same _ _ (hstraits ▸ hp), State.port_congr (congrArg Straits.ports hstraits)]

/-! ### The rows of a port that is UP -/

section
variable {s : State} {p : Fin 12} (hup : (s.port p.val).state = .up)
include hup

theorem exec_retransmissionExhausted_of_exhausted (h : (s.port p.val).exhausted = true) :
    exec (.retransmissionExhausted p) s = .next (s.modPort p.val Port.failed8).settleSpan := by
  show execRetransmissionExhausted p s = _
  rw [execRetransmissionExhausted, if_pos ⟨hup, h⟩]

theorem exec_straitLinkLoss_of_up :
    exec (.straitLinkLoss p) s = .next (s.modPort p.val fun x => x.fresh .training).settleSpan := by
  show execStraitLinkLoss p s = _
  rw [execStraitLinkLoss, if_neg (by rw [hup]; decide)]

theorem exec_epochExchangeStart_of_due (hfree : (s.port p.val).agreement = none)
    (hdue : (s.port p.val).exchangeDue s.clock.count = true) :
    exec (.epochExchangeStart p) s = .next (s.agree p.val ((s.port p.val).epoch + 1) id) := by
  show execEpochExchangeStart p s = _
  rw [execEpochExchangeStart, if_pos ⟨hup, by rw [hfree]; rfl, hdue⟩]

theorem exec_epochBound_of_reached (h : (s.port p.val).boundReached s.clock.count = true) :
    exec (.epochBound p) s = .next ((s.bringUp p.val).modPort p.val fun y => { y with dataStopped := true }) := by
  show execEpochBound p s = _
  rw [execEpochBound, if_pos ⟨hup, h⟩]

end

section
variable {s : State} {p : Fin 12}

theorem exec_retransmissionExhausted_of_not_exhausted (h : ∀ g ∈ (s.port p.val).unacked, g.fails < 8) :
    exec (.retransmissionExhausted p) s = .next s := by
  show execRetransmissionExhausted p s = _
  rw [execRetransmissionExhausted, if_neg fun hex => ?_]
  obtain ⟨g, hg, hfails⟩ := List.any_eq_true.1 hex.2
  exact Nat.not_le.2 (h g hg) (of_decide_eq_true hfails)

theorem exec_epochExchangeStart_of_early (h : (s.port p.val).exchangeDue s.clock.count = false) :
    exec (.epochExchangeStart p) s = .next s := by
  show execEpochExchangeStart p s = _
  rw [execEpochExchangeStart, if_neg fun hdue => Bool.false_ne_true (h.symm.trans hdue.2.2)]

theorem exec_epochBound_of_early (h : (s.port p.val).boundReached s.clock.count = false) :
    exec (.epochBound p) s = .next s := by
  show execEpochBound p s = _
  rw [execEpochBound, if_neg fun hreached => Bool.false_ne_true (h.symm.trans hreached.2)]

theorem Port.boundReached_iff (x : Port) (count : Nat) : x.boundReached count = true ↔
    x.epochCount + 24 * 3600 * 1000000000 ≤ count ∨ 2 ^ 40 ≤ x.txCounter ∨ 2 ^ 40 ≤ x.framesReceived := by
  rw [Port.boundReached, Bool.or_eq_true, Bool.or_eq_true, decide_eq_true_iff, decide_eq_true_iff, decide_eq_true_iff, or_assoc,
    hourNs, Nat.mul_assoc]

end

/-- Settles O41: a frame acts on its port by the mark, the COUNTER and the tag it shows; a slot is the port's own turn of the twelve. -/
theorem framesAreChecked : Obligations.FramesAreChecked := by
  unfold Obligations.FramesAreChecked
  intro s p hlen hup x
  have hp : p.val < s.straits.ports.length := by rw [hlen]; exact p.isLt
  refine ⟨fun f => ⟨s.frame p.val f, exec_dataFrame_of_up f hup, State.port_frame_corrected hp f,
      fun q hq => State.port_frame_ne hp f hq, ?fecFailed, ?accepted, ?unverified, ?otherCounter, ?retired, ?nextEpoch⟩,
    ?slot, ?onward, ?exhausted, exec_retransmissionExhausted_of_not_exhausted, ?linkLoss, ?exchange,
    exec_epochExchangeStart_of_early, exec_epochBound_of_early, ?bound⟩
  case fecFailed =>
    intro hfec
    rw [State.frame_of_fec_failed hfec, State.port_modPort_same _ _ hp]
    exact ⟨rfl, rfl, rfl, rfl⟩
  case accepted =>
    intro hfec hmark hcounter htag
    rw [State.frame_of_verified hp hfec hmark hcounter htag, State.port_releaseFrame_same _ _ hp]
    obtain ⟨l, r, haccept⟩ := ((s.port p.val).corrects f).acceptFrame_eq f s.clock.count
    refine ⟨rfl, rfl, (congrArg Port.failed haccept :), (congrArg Port.keyRx haccept :), fun hunits => ?_,
      (congrArg Port.wire haccept :), (congrArg Port.txCounter haccept :), fun g => Port.mem_unacked_of_acknowledge,
      fun g => Port.mem_acknowledge_of_lt, fun hnak => Port.acceptFrame_of_not_nak _ _ hnak,
      fun g rest hnak hresend hunacked => Port.acceptFrame_of_nak _ _ hnak hresend hunacked⟩
    rw [State.releaseFrame, hunits]
    rfl
  case unverified =>
    intro hfec hmark hcounter htag
    rw [State.frame_of_unverified hp hfec hmark hcounter htag, State.port_modPort_same _ _ hp]
    exact ⟨rfl, rfl, rfl, rfl⟩
  case otherCounter =>
    intro hfec hmark hcounter
    rw [State.frame_of_present_mark hp hfec hmark, if_pos hcounter, State.port_modPort_same _ _ hp]
    exact ⟨rfl, rfl⟩
  case retired =>
    intro hfec hmark hnone
    rw [State.frame_of_retired_mark hp hfec hmark hnone, State.port_modPort_same _ _ hp]
    exact ⟨rfl, rfl⟩
  case nextEpoch =>
    intro key hfec hmark hkey hcounter htag
    obtain ⟨l, r, haccept⟩ := (((s.port p.val).corrects f).switchRx key).acceptFrame_eq f s.clock.count
    rw [State.frame_of_next_epoch hp hfec hmark hkey hcounter htag, State.port_releaseFrame_same _ _ hp, haccept]
    exact ⟨rfl, rfl, (Bool.eq_not.2 hmark).symm, rfl⟩
  case slot =>
    intro hidle hstby
    obtain ⟨t, hkeeps, htick⟩ := State.port_tick p.isLt hstby
    have hport : t.port p.val = x := hkeeps.port
    have hlength : p.val < t.straits.ports.length := by rw [hkeeps.length]; exact hp
    rw [State.slotOf, hkeeps.frameDue] at htick
    refine ⟨_, step_of_idle hidle, fun hnot => ?_, fun hdue => ?_⟩
    · rw [htick, hnot, if_neg Bool.false_ne_true, hport]
    · rw [htick, if_pos hdue, ← hport]
      exact ⟨fun _ _ => State.port_emitFrame_of_resend hlength,
        fun hresend hfull => congrArg (State.port · p.val) (State.emitFrame_of_full hresend hfull),
        State.port_emitFrame_of_room hlength⟩
  case onward =>
    intro f u hfec hmark hcounter htag hunits hkind hdest
    refine ⟨_, exec_dataFrame_of_up f hup, ?_⟩
    rw [State.frame_of_verified hp hfec hmark hcounter htag, State.releaseFrame, hunits, List.foldl_cons, List.foldl_nil]
    cases hroute : s.route u.destModule.toNat with
    | none =>
      rw [State.takeUnit_of_no_route hkind]
      exacts [⟨rfl, rfl⟩, hdest, hroute]
    | some q =>
      rw [State.takeUnit_of_route (q := q) hkind]
      exacts [⟨rfl, rfl, rfl⟩, hdest, hroute]
  case exhausted =>
    intro hexhausted
    refine ⟨_, exec_retransmissionExhausted_of_exhausted hup hexhausted, ?_, fun q hq => ?_, State.settleSpan_fabric _⟩
    · rw [State.port_settleSpan, State.port_modPort_same _ _ hp, Port.failed8]
    · rw [State.port_settleSpan, State.port_modPort_ne _ _ hq]
  case linkLoss =>
    refine ⟨_, exec_straitLinkLoss_of_up hup, ?_, fun q hq => ?_, State.settleSpan_fabric _⟩
    · rw [State.port_settleSpan, State.port_modPort_same _ _ hp]
    · rw [State.port_settleSpan, State.port_modPort_ne _ _ hq]
  case exchange =>
    intro hfree hdue
    obtain ⟨a, hport, hepoch, hpeer⟩ := State.port_agree ((s.port p.val).epoch + 1) id hp
    exact ⟨_, a, exec_epochExchangeStart_of_due hup hfree hdue, hport, hepoch, hpeer, s.onlyPort_agree p.val _ id⟩
  case bound =>
    intro hreached
    obtain ⟨a, hport, -, -⟩ := State.port_agree 0 (fun x => x.fresh .agreeing) hp
    have hlength : p.val < (s.bringUp p.val).straits.ports.length := by
      rw [State.bringUp, State.agree_ports_length]
      exact hp
    have hstopped := (State.port_modPort_same _ (fun y => { y with dataStopped := true }) hlength).trans
      (congrArg (fun y : Port => { y with dataStopped := true }) hport)
    exact ⟨_, exec_epochBound_of_reached hup ((Port.boundReached_iff _ _).2 hreached), (congrArg Port.state hstopped :),
      (congrArg Port.dataStopped hstopped :), (congrArg Port.keyTx hstopped :), (s.onlyPort_agree p.val 0 _).modPort _⟩

end Sys2Proof.Machine
end

section
/-! Transfer units that a TDI bars (14, 16; R401, R482): a host access outside the TEE stream reads zeros, and is counted. -/

namespace Sys2Proof.Machine

/-- A channel's record is one of the thirteen (16). -/
theorem channelIndex_lt (ch : Channel) : channelIndex ch < 13 := by
  cases ch <;> simp only [channelIndex] <;> omega

/-- A channel holds its response beside what else it held. -/
theorem State.channel_putResponse {s : State} (hlen : s.od.channels.length = 13) (ch : Channel) (r : TuResponse) :
    (s.putResponse ch r).od.channel ch = { s.od.channel ch with response := some r } :=
  getD_modifyAt_same _ _ _ _ (hlen ▸ channelIndex_lt ch)

/-- The octets of the answer to a barred unit are zeros. -/
theorem zeroReply_bytes : ∀ b ∈ zeroReply.bytes, b = 0 := by decide

section
variable {s : State} {ch : Channel} (hup : s.channelUp ch = true) (hbarred : s.teeBlocked ch = true)
include hup hbarred

/-- A barred unit is counted and answered with zeros, whatever it asks. -/
theorem State.tu_of_teeBlocked (op : Nat) (h : TuHeader) (data : Bytes) :
    s.tu ch op h data = s.countTee.putResponse ch zeroReply := by
  rw [State.tu, hup, hbarred, Bool.and_self, if_pos rfl]

theorem exec_readShort_of_teeBlocked (h : TuHeader) :
    exec (.readShort ch h) s = .next (s.countTee.putResponse ch zeroReply) :=
  congrArg Host.Outcome.next (State.tu_of_teeBlocked hup hbarred opReadShort h [])

/-- R401, R482: a barred READ-SHORT reads zeros and, outside its channel's response, changes the count of such accesses alone. -/
theorem readShort_counts_of_teeBlocked (hlen : s.od.channels.length = 13) (h : TuHeader) :
    ∃ t r, exec (.readShort ch h) s = .next t ∧ t.replied ch r ∧ (∀ b ∈ r.bytes, b = 0) ∧ t.openOn ch = s.openOn ch ∧
      t = { s with
        od := s.od.setChannel ch fun c => { c with response := some r }
        ret := { s.ret with teeRefused := bump s.ret.teeRefused } } := by
  have hchannel := State.channel_putResponse (s := s.countTee) hlen ch zeroReply
  exact ⟨_, zeroReply, exec_readShort_of_teeBlocked hup hbarred h, congrArg ChannelState.response hchannel, zeroReply_bytes,
    (congrArg ChannelState.opened hchannel :), rfl⟩

end

/-- READY with the runtime and the link up and the TDI in CONFIG_LOCKED; no access has been barred yet. -/
def barringHost : State :=
  { start := { power := .ready, phase := .readyOrLater, runtime := true }, pins := { pcieUp := true }, hosting := { tdi := .locked } }

/-- A well-formed READ-SHORT of OD 0x1001.01. -/
def readOfIdentity : TuHeader :=
  { sub := 1, index := 0x1001, xid := 1, total := 8, offset := 0, segLen := 0, flags := 1, zero := 0, seq := 1 }

/-- Refutes O45: its last clause asks that a host unit outside the TEE stream, barred by the TDI, leave all the retained state. The count
of such accesses, OD 0x1F40.03, is retained, and R482 raises it: in `barringHost` a READ-SHORT of the mailbox takes it from 0 to 1. With the
count excepted, as the obligation's own words have it, the clause is true (`readShort_counts_of_teeBlocked`). -/
theorem not_readsAnswer : ¬ Obligations.ReadsAnswer := by
  intro hreads
  obtain ⟨-, -, -, -, hbarred⟩ := hreads barringHost (.bar0 false) readOfIdentity rfl
  obtain ⟨t, -, ht, -, -, -, hret, -⟩ := hbarred rfl rfl
  obtain rfl := Host.Outcome.next.inj ((exec_readShort_of_teeBlocked rfl rfl _).symm.trans ht)
  have hcount : bump barringHost.ret.teeRefused = barringHost.ret.teeRefused := congrArg Retained.teeRefused hret
  exact absurd hcount (by decide)

end Sys2Proof.Machine
end

section
/-! The hub's trip in TAMPER-HALT (18, 04; R99, R546). -/

namespace Sys2Proof.Machine

/-- R99: a warm reset out of TAMPER-HALT while a source has been active within 1 s stays in TAMPER-HALT. -/
theorem State.warmReset_of_tamperRecent (s : State) (c : StartConds) (hr : s.resettable = true) (hh : s.start.halt = .tamper)
    (ho : s.otp.integrityOk c.eccUncorrectable = true) (ha : c.tamperActive = 0) (hrecent : c.tamperRecent ≠ 0) :
    (s.warmReset c).start.phase = .tamperHalt := by
  have hboot : ∀ v : State, v.otp = s.otp → (v.boot c (s.start.halt == .tamper)).start.phase = .tamperHalt := by
    intro v hv
    unfold State.boot
    rw [if_neg (by simp [hv, ho]), if_neg (by simp [ha]), if_pos ⟨by simp [hh], hrecent⟩]
    rfl
  rw [State.warmReset, if_pos hr, State.restart]
  exact hboot _ rfl

/-- Fuses whose regions are closed over their contents. -/
def closedFuses : Otp := Otp.sealed { closed := 0b111111 }

theorem closedFuses_serviceable : closedFuses.serviceable := by
  have hregion : ∀ k < 6, closedFuses.regionOk k = true := by
    intro k hk
    have hc : closedFuses.closed.getLsbD k = true := by interval_cases k <;> rfl
    have hd : closedFuses.regionDigest.getD k 0 = sha384 (otpRegionBytes closedFuses k) := by interval_cases k <;> rfl
    rw [Otp.regionOk, if_pos hc, hd, beq_self_eq_true]
  have hregions : (List.range 6).all closedFuses.regionOk = true :=
    List.all_eq_true.2 fun k hk => hregion k (List.mem_range.1 hk)
  refine ⟨?_, by decide, by decide⟩
  rw [Otp.integrityOk, hregions]
  decide

/-- A device held in TAMPER-HALT, a tamper source active within the last second, with VHUB on and two hub sensors at 105 degrees. -/
def heldHot : State :=
  { otp := closedFuses, pins := { stby := true, vhub := true }, start := { power := .standby, halt := .tamper }
    silicon := ⟨false, 0, 0, 0, false, 0, 1⟩, monitors := { hubSensors := [105000, 105000] } }

theorem exec_hubThermalTrip_heldHot :
    exec .hubThermalTrip heldHot =
      .next ({ heldHot with ret := { heldHot.ret with trips := bumpAt heldHot.ret.trips 12 } } : State).internalReset :=
  congrArg Host.Outcome.next (if_pos (by decide))

theorem heldHot_shapes : heldHot.shapes :=
  ⟨rfl, rfl, rfl, rfl, rfl, rfl, rfl, rfl, rfl, rfl, rfl, rfl, rfl, rfl, rfl, rfl, rfl, rfl, fun _ => rfl⟩

/-- Refutes O52: its last clause takes clean silicon and serviceable fuses to be enough for the hub's trip to reach STANDBY, but a device
in TAMPER-HALT leaves it only once every source has been inactive for 1 s (R99), which `cleanStart` does not ask: `heldHot` stays in
TAMPER-HALT. -/
theorem not_backstopsAct : ¬ Obligations.BackstopsAct := by
  intro h
  obtain ⟨-, -, -, -, -, hhub⟩ := h heldHot heldHot_shapes
  obtain ⟨t, ht, hstandby, -, -⟩ := hhub rfl (by decide) (by decide) (by decide) closedFuses_serviceable
  obtain rfl := Host.Outcome.next.inj (exec_hubThermalTrip_heldHot.symm.trans ht)
  have hphase := State.warmReset_of_tamperRecent { heldHot with ret := { heldHot.ret with trips := bumpAt heldHot.ret.trips 12 } }
    heldHot.silicon (by decide) rfl closedFuses_serviceable.1 rfl (by decide)
  exact absurd (hstandby.2.1.symm.trans hphase) (by decide)

end Sys2Proof.Machine
end

section
/-! The loops of the governors (18; R532-R538, R542): a die written in the fabric, the steps of its three requests, and the shares that
G0 allocates. -/

namespace Sys2Proof.Machine

/-! ### A die written -/

theorem Fabric.die_modDie_same (f : Fabric) {n : Nat} (g : Die → Die) (h : n < f.dies.length) : (f.modDie n g).die n = g (f.die n) :=
  getD_modifyAt_same _ _ _ _ h

theorem Fabric.die_modDie_ne (f : Fabric) {n k : Nat} (g : Die → Die) (h : k ≠ n) : (f.modDie n g).die k = f.die k :=
  getD_modifyAt_ne _ _ _ h

/-- RUN and LIMIT follow the condition without a touch of the dies (R542). -/
theorem State.settleLimit_eq (s : State) : ∃ x p, s.settleLimit = { s with start := x, power := p } := by
  unfold State.settleLimit
  split <;> exact ⟨_, _, rfl⟩

/-! ### The setpoint step (R532-R534, R538) -/

/-- A die after a setpoint step: its slack and power requests move, and the setpoint is taken from the three. -/
def Die.stepped (d : Die) (target : Option Nat) (idle powerW : Nat) : Die :=
  ({ d with slack := d.nextSlack target idle, power := d.nextPower powerW, powerW := powerW } : Die).retarget

theorem exec_vfabSetpointStep_of_running (s : State) (die : Fin 12) (w : Nat) (hg : (s.governor (die.val + 1)).state = .running)
    (hon : (s.fabric.die die.val).online = true) (hv : (s.fabric.die die.val).vfabOn = true) :
    ∃ t, exec (.vfabSetpointStep die w) s = .next t ∧
      t.fabric = s.fabric.modDie die.val (fun d => d.stepped (s.dieTarget die.val) s.ret.idleSetpoint w) ∧ t.host = s.host ∧
      t.ret = s.ret := by
  obtain ⟨x, p, hx⟩ := State.settleLimit_eq (({ s with
    fabric := s.fabric.modDie die.val fun d => d.stepped (s.dieTarget die.val) s.ret.idleSetpoint w } : State).commanded (die.val + 1))
  exact ⟨_, (congrArg Host.Outcome.next (if_pos ⟨hg, hon, hv⟩)).trans (congrArg Host.Outcome.next hx), rfl, rfl, rfl⟩

/-- R538: the ceiling goes down above the allocation, up below 98 % of it, and stands between. -/
theorem Die.nextPower_cases (d : Die) (w : Nat) :
    (d.allocation < w * 1000 → d.nextPower w = max 600 (min (d.power - 10) 850)) ∧
      (w * 100000 < d.allocation * 98 → d.nextPower w = max 600 (min (d.power + 5) 850)) ∧
      (w * 1000 ≤ d.allocation → d.allocation * 98 ≤ w * 100000 → d.nextPower w = d.power) := by
  unfold Die.nextPower clampMv
  refine ⟨fun h => if_pos h, fun h => ?_, fun h h' => ?_⟩
  · rw [if_neg (by omega), if_pos (by omega)]
  · rw [if_neg (by omega), if_neg (by omega)]

/-- R533, R534: the slack request goes up by 5 below the target while it binds, down by 1 above 102 % of it, and stands between. -/
theorem Die.nextSlack_cases (d : Die) (target idle : Nat) :
    (d.rate * 1000000 < target → d.slack ≤ d.setpoint → d.nextSlack (some target) idle = d.slack + 5) ∧
      (d.rate * 1000000 < target → d.setpoint < d.slack → d.nextSlack (some target) idle = d.slack) ∧
      (target * 102 < d.rate * 100000000 → d.nextSlack (some target) idle = d.slack - 1) ∧
      (target ≤ d.rate * 1000000 → d.rate * 100000000 ≤ target * 102 → d.nextSlack (some target) idle = d.slack) := by
  unfold Die.nextSlack
  dsimp only
  refine ⟨fun h h' => ?_, fun h h' => ?_, fun h => ?_, fun h h' => ?_⟩
  · rw [if_pos h, if_neg (by omega)]
  · rw [if_pos h, if_pos h']
  · rw [if_neg (by omega), if_pos (by omega)]
  · rw [if_neg (by omega), if_neg (by omega)]

theorem State.dieTarget_of_not_planDie (s : State) (n : Nat) (h : s.fabric.planDie n = false) : s.dieTarget n = none := by
  rw [State.dieTarget, h]
  rfl

theorem State.dieTarget_of_plan (s : State) (n : Nat) {p : PlanInfo} (hp : s.fabric.plan = some p) (h : s.fabric.planDie n = true) :
    s.dieTarget n = some (p.cert.minFloor * (1000 + s.ret.margin) * (1000 + s.ret.headroom)) := by
  rw [State.dieTarget, h, hp]
  rfl

/-! ### The thermal step (R535) -/

theorem exec_thermalLoopStep_of_running (s : State) (die : Fin 12) (hg : (s.governor (die.val + 1)).state = .running)
    (hon : (s.fabric.die die.val).online = true) :
    exec (.thermalLoopStep die) s = .next { s with
      fabric := s.fabric.modDie die.val fun d => { d with thermal := d.nextThermal s.ret.thermalTarget } } :=
  congrArg Host.Outcome.next (if_pos ⟨hg, hon⟩)

theorem Die.nextThermal_cases (d : Die) (target : Nat) :
    (95000 ≤ d.temperature → d.nextThermal target = 600) ∧
      (∀ n : Nat, 0 < n → (target : Int) * 1000 + ((n : Int) - 1) * 1000 < d.temperature →
        d.temperature ≤ (target : Int) * 1000 + (n : Int) * 1000 → d.temperature < 95000 →
        d.nextThermal target = max 600 (min (d.thermal - 5 * n) 850)) ∧
      (d.temperature < (target : Int) * 1000 - 1000 → d.temperature < 95000 →
        d.nextThermal target = max 600 (min (d.thermal + 2) 850)) := by
  unfold Die.nextThermal clampMv
  dsimp only
  refine ⟨fun h => if_pos h, fun n hn hlo hhi hcool => ?_, fun h hcool => ?_⟩
  · have hsteps : ((d.temperature - (target : Int) * 1000).toNat + 999) / 1000 = n := by omega
    rw [if_neg (by omega), if_pos (by omega), hsteps]
  · rw [if_neg (by omega), if_neg (by omega), if_pos h]

/-! ### Allocations (R536, R537) -/

/-- A round's effect on one share, with `q` for each taker. -/
def Share.filled (q : Nat) (x : Share) : Share :=
  if x.gives then { x with share := x.draw, gave := true }
  else if x.takes then { x with share := x.share + q }
  else x

theorem Share.filled_die (q : Nat) (x : Share) : (x.filled q).die = x.die := by
  unfold Share.filled
  split_ifs <;> rfl

/-- A die that gives draws less than its share, and does not take. -/
theorem Share.lt_of_gives {x : Share} (h : x.gives = true) : x.draw < x.share ∧ x.takes = false := by
  simp only [Share.gives, Share.takes, Bool.and_eq_true, decide_eq_true_eq, Bool.and_eq_false_iff, decide_eq_false_iff_not] at h ⊢
  exact ⟨h.2, .inr (by omega)⟩

/-- What a round moves: the shares after it and what the givers gave are the shares before it and what the takers took. -/
theorem sum_filled (q : Nat) (l : List Share) :
    ((l.map (Share.filled q)).map (·.share)).sum + ((l.filter Share.gives).map fun x => x.share - x.draw).sum =
      (l.map (·.share)).sum + (l.filter Share.takes).length * q := by
  induction l with
  | nil => simp
  | cons x l ih =>
    simp only [List.map_cons, List.sum_cons, List.filter_cons]
    cases hg : x.gives with
    | true =>
      obtain ⟨hlt, ht⟩ := Share.lt_of_gives hg
      simp only [Share.filled, hg, ht, if_true, Bool.false_eq_true, if_false, List.map_cons, List.sum_cons] at ih ⊢
      omega
    | false =>
      cases ht : x.takes with
      | true =>
        simp only [Share.filled, hg, ht, if_true, Bool.false_eq_true, if_false, List.length_cons, Nat.succ_mul] at ih ⊢
        omega
      | false =>
        simp only [Share.filled, hg, ht, Bool.false_eq_true, if_false] at ih ⊢
        omega

/-- No share leaves the budget in a round. -/
theorem sum_fillRound_le (l : List Share) : ((fillRound l).map (·.share)).sum ≤ (l.map (·.share)).sum := by
  unfold fillRound
  dsimp only
  split
  · exact Nat.le_refl _
  · have hsum := sum_filled (((l.filter Share.gives).map fun x => x.share - x.draw).sum / (l.filter Share.takes).length) l
    have hdiv := Nat.mul_div_le ((l.filter Share.gives).map fun x => x.share - x.draw).sum (l.filter Share.takes).length
    rw [← List.sum_eq_foldl]
    exact Nat.le_of_add_le_add_right (hsum.le.trans (Nat.add_le_add_left hdiv _))

theorem dies_fillRound (l : List Share) : (fillRound l).map (·.die) = l.map (·.die) := by
  unfold fillRound
  dsimp only
  split
  · rfl
  · rw [List.map_map]
    exact List.map_congr_left fun x _ => Share.filled_die _ x

theorem sum_fillRounds_le (n : Nat) (l : List Share) : ((fillRounds n l).map (·.share)).sum ≤ (l.map (·.share)).sum := by
  induction n generalizing l with
  | zero => exact Nat.le_refl _
  | succ n ih => exact (ih _).trans (sum_fillRound_le l)

theorem dies_fillRounds (n : Nat) (l : List Share) : (fillRounds n l).map (·.die) = l.map (·.die) := by
  induction n generalizing l with
  | zero => rfl
  | succ n ih => exact (ih _).trans (dies_fillRound l)

theorem fst_allocate (budget : Nat) (draws : List (Nat × Nat)) : (allocate budget draws).map (·.1) = draws.map (·.1) := by
  unfold allocate
  rw [List.map_map]
  exact (dies_fillRounds 13 _).trans (by rw [List.map_map]; rfl)

theorem sum_allocate_le (budget : Nat) (draws : List (Nat × Nat)) : ((allocate budget draws).map (·.2)).sum ≤ budget := by
  unfold allocate
  rw [List.map_map]
  refine (sum_fillRounds_le 13 _).trans ?_
  rw [List.map_map]
  have hconst : draws.map ((·.share) ∘ fun d : Nat × Nat => (⟨d.1, d.2 * 1000, budget / draws.length, false⟩ : Share)) =
      List.replicate draws.length (budget / draws.length) := List.map_const' ..
  rw [hconst, List.sum_replicate, smul_eq_mul]
  exact Nat.mul_div_le _ _

/-- A table of distinct keys, looked up key by key, gives its values. -/
theorem map_find?_fst {l : List (Nat × Nat)} (hnodup : (l.map (·.1)).Nodup) :
    (l.map (·.1)).map (fun n => ((l.find? fun a => a.1 == n).map (·.2)).getD 0) = l.map (·.2) := by
  induction l with
  | nil => rfl
  | cons a l ih =>
    obtain ⟨hnot, hnodup⟩ := List.nodup_cons.1 hnodup
    simp only [List.map_cons, List.find?_cons, beq_self_eq_true, Option.map_some, Option.getD_some]
    refine congrArg _ ((List.map_congr_left fun n hn => ?_).trans (ih hnodup))
    have hne : (a.1 == n) = false := by
      rw [beq_eq_false_iff_ne]
      rintro rfl
      exact hnot hn
    rw [hne]

theorem Die.allocated_powerW (d : Die) (n : Nat) (l : List (Nat × Nat)) (w : Nat) : (d.allocated n l w).powerW = w := by
  unfold Die.allocated; split <;> rfl

theorem Die.allocated_setpoint (d : Die) (n : Nat) (l : List (Nat × Nat)) (w : Nat) : (d.allocated n l w).setpoint = d.setpoint := by
  unfold Die.allocated; split <;> rfl

theorem Die.allocated_online (d : Die) (n : Nat) (l : List (Nat × Nat)) (w : Nat) : (d.allocated n l w).online = d.online := by
  unfold Die.allocated; split <;> rfl

theorem Die.allocated_allocation (d : Die) {n : Nat} {l : List (Nat × Nat)} (w : Nat) (h : n ∈ l.map (·.1)) :
    (d.allocated n l w).allocation = ((l.find? fun a => a.1 == n).map (·.2)).getD 0 := by
  unfold Die.allocated
  split
  case h_1 a ha => rw [ha]; rfl
  case h_2 hnone =>
    obtain ⟨a, ha, rfl⟩ := List.mem_map.1 h
    exact absurd (List.find?_eq_none.1 hnone a ha) (by simp)

/-- The dies online, of a list of twelve. -/
def State.onlineDies (s : State) : List Nat := (List.range 12).filter fun n => (s.fabric.die n).online

/-- What a step of G0 allocates. -/
def State.allocations (s : State) (hubW : Nat) (dieW : List Nat) : List (Nat × Nat) :=
  Sys2Proof.Machine.allocate ((s.capInEffect - hubW) * 1000) (s.onlineDies.map fun n => (n, dieW.getD n 0))

theorem State.allocations_fst (s : State) (hubW : Nat) (dieW : List Nat) : (s.allocations hubW dieW).map (·.1) = s.onlineDies := by
  rw [State.allocations, fst_allocate, List.map_map]
  exact List.map_id'' (fun _ => rfl) _

theorem exec_powerCapStep_of_running (s : State) (m h : Nat) (dw : List Nat) (hg : (s.governor 0).state = .running) (hup : s.up = true) :
    exec (.powerCapStep m h dw) s = .next (({ s with
      fabric := { s.fabric with dies := s.fabric.dies.mapIdx fun n d => d.allocated n (s.allocations h dw) (dw.getD n 0) }
      power := s.power.measure m h dw } : State).commanded 0) :=
  congrArg Host.Outcome.next (if_pos ⟨hg, hup⟩)

/-- R537: the online dies' allocations together stay within the budget. -/
theorem State.sum_allocated_le (s : State) (h : Nat) (dw : List Nat) (hlen : s.fabric.dies.length = 12) :
    (((s.fabric.dies.mapIdx fun n d => d.allocated n (s.allocations h dw) (dw.getD n 0)).filter (·.online)).map (·.allocation)).sum ≤
      (s.capInEffect - h) * 1000 := by
  have hdies : (s.fabric.dies.mapIdx fun n d => d.allocated n (s.allocations h dw) (dw.getD n 0)) =
      (List.range 12).map fun n => (s.fabric.die n).allocated n (s.allocations h dw) (dw.getD n 0) := by
    refine List.ext_getElem (by simp [hlen]) fun n hn _ => ?_
    have hn' : n < s.fabric.dies.length := by simpa using hn
    simp [Fabric.die, hn']
  have honline : (List.range 12).filter ((·.online) ∘ fun n => (s.fabric.die n).allocated n (s.allocations h dw) (dw.getD n 0)) =
      s.onlineDies := List.filter_congr fun n _ => Die.allocated_online _ _ _ _
  rw [hdies, List.filter_map, honline, List.map_map]
  have hkeys := s.allocations_fst h dw
  have hnodup : ((s.allocations h dw).map (·.1)).Nodup := hkeys ▸ List.nodup_range.filter _
  have hvalues : s.onlineDies.map ((·.allocation) ∘ fun n => (s.fabric.die n).allocated n (s.allocations h dw) (dw.getD n 0)) =
      (s.allocations h dw).map (·.2) := by
    rw [← map_find?_fst hnodup, hkeys]
    exact List.map_congr_left fun n hn => Die.allocated_allocation _ _ (hkeys ▸ hn)
  rw [hvalues]
  exact sum_allocate_le _ _

/-- Settles O51: each loop's step by its cases, and the shares of G0 by what a round of R537 moves. -/
theorem loopsSetTheRails : Obligations.LoopsSetTheRails := by
  intro s hlen
  refine ⟨fun die w => ⟨fun hg hon hv => ?_, fun hg hon => ?_, fun hg => ?_⟩, fun m h dw hg hup => ?_⟩
  · obtain ⟨t, ht, hfabric, hhost, hret⟩ := exec_vfabSetpointStep_of_running s die w hg hon hv
    have hdie : t.fabric.die die.val = (s.fabric.die die.val).stepped (s.dieTarget die.val) s.ret.idleSetpoint w := by
      rw [hfabric]
      exact Fabric.die_modDie_same _ _ (by omega)
    obtain ⟨hdown, hup, hstay⟩ := (s.fabric.die die.val).nextPower_cases w
    refine ⟨t, ht, fun k hk => by rw [hfabric]; exact Fabric.die_modDie_ne _ _ hk, ?_, hhost, hret⟩
    dsimp only
    rw [hdie]
    refine ⟨rfl, rfl, rfl, rfl, hdown, hup, hstay, fun hplan => ?_, fun p hp hplan => ?_⟩
    · rw [s.dieTarget_of_not_planDie _ hplan]
      rfl
    · rw [s.dieTarget_of_plan _ hp hplan]
      exact (s.fabric.die die.val).nextSlack_cases _ s.ret.idleSetpoint
  · have hdie := s.fabric.die_modDie_same (n := die.val) (fun d => { d with thermal := d.nextThermal s.ret.thermalTarget }) (by omega)
    refine ⟨_, exec_thermalLoopStep_of_running s die hg hon, fun k hk => Fabric.die_modDie_ne _ _ hk, ?_⟩
    dsimp only
    rw [hdie]
    obtain ⟨hhot, hwarm, hcool⟩ := (s.fabric.die die.val).nextThermal_cases s.ret.thermalTarget
    exact ⟨hhot, hwarm, hcool, rfl⟩
  · exact ⟨congrArg Host.Outcome.next (if_neg fun h => hg h.1), congrArg Host.Outcome.next (if_neg fun h => hg h.1)⟩
  · refine ⟨_, exec_powerCapStep_of_running s m h dw hg hup, rfl, rfl, fun n hn => ?_, s.sum_allocated_le h dw hlen⟩
    have hdie : (({ s with
        fabric := { s.fabric with dies := s.fabric.dies.mapIdx fun n d => d.allocated n (s.allocations h dw) (dw.getD n 0) }
        power := s.power.measure m h dw } : State).commanded 0).fabric.die n =
        (s.fabric.die n).allocated n (s.allocations h dw) (dw.getD n 0) := by
      have hn' : n < s.fabric.dies.length := by omega
      simp [State.commanded, Fabric.die, hn']
    rw [hdie]
    exact ⟨Die.allocated_powerW _ _ _ _, Die.allocated_setpoint _ _ _ _⟩

end Sys2Proof.Machine
end

section
/-! Monitors and ballast (03; R52-R66): the least and the greatest of readings, floors, and the quiesced array. -/

namespace Sys2Proof.Machine

/-! ### The least and the greatest of a list -/

theorem foldl_min_spec {α : Type} [LinearOrder α] (x : α) (xs : List α) :
    xs.foldl min x ∈ x :: xs ∧ ∀ y ∈ x :: xs, xs.foldl min x ≤ y := by
  induction xs generalizing x with
  | nil => exact ⟨List.mem_cons_self, fun y hy => (List.mem_singleton.1 hy).ge⟩
  | cons z xs ih =>
    obtain ⟨hmem, hle⟩ := ih (min x z)
    have hmin := hle _ List.mem_cons_self
    refine ⟨?_, fun y hy => ?_⟩
    · rcases List.mem_cons.1 hmem with h | h
      · rw [List.foldl_cons, h]
        rcases min_choice x z with h' | h' <;> simp [h']
      · exact List.mem_cons_of_mem _ (List.mem_cons_of_mem _ h)
    · rcases List.mem_cons.1 hy with rfl | hy
      · exact hmin.trans (min_le_left _ _)
      · rcases List.mem_cons.1 hy with rfl | hy
        · exact hmin.trans (min_le_right _ _)
        · exact hle y (List.mem_cons_of_mem _ hy)

theorem foldl_max_spec {α : Type} [LinearOrder α] (x : α) (xs : List α) :
    xs.foldl max x ∈ x :: xs ∧ ∀ y ∈ x :: xs, y ≤ xs.foldl max x := foldl_min_spec (α := αᵒᵈ) x xs

/-! ### Pace (R54, R55, R57) -/

theorem beatRate_spec (r : List Nat) {x : Nat} (hx : x ∈ r) (hv : paceValid r x = true) :
    beatRate r ≤ x ∧ beatRate r ∈ r ∧ paceValid r (beatRate r) = true := by
  have hmem : x ∈ r.filter (paceValid r) := List.mem_filter.2 ⟨hx, hv⟩
  unfold beatRate
  split
  case h_1 hnil => exact absurd hmem (by simp [hnil])
  case h_2 y ys hcons =>
    obtain ⟨hin, hle⟩ := foldl_min_spec y ys
    exact ⟨hle x (hcons ▸ hmem), List.mem_filter.1 (hcons ▸ hin)⟩

theorem beatRate_of_none (r : List Nat) (h : ∀ x ∈ r, paceValid r x = false) : beatRate r = 0 := by
  have hnil : r.filter (paceValid r) = [] := List.filter_eq_nil_iff.2 fun x hx => by simp [h x hx]
  rw [beatRate, hnil]

theorem Die.window_rate_of_on {d : Die} (hon : d.online = true) (hv : d.vfabOn = true) (r : List Nat) (count : Nat) :
    (d.window r count).rate = beatRate r := by
  rw [Die.window, if_pos (by simp [hon, hv])]

theorem Die.window_of_off {d : Die} (h : d.online = false ∨ d.vfabOn = false) (r : List Nat) (count : Nat) :
    (d.window r count).rate = 0 ∧ (d.window r count).floor = 0 := by
  rw [Die.window, if_neg (by simpa [Decidable.imp_iff_not_or] using h)]
  exact ⟨rfl, rfl⟩

/-! ### Floors (R55-R57) -/

theorem Die.updateFloor_of_off {d : Die} (h : d.online = false ∨ d.vfabOn = false) (count : Nat) :
    (d.updateFloor count).rate = 0 ∧ (d.updateFloor count).floor = 0 := by
  rw [Die.updateFloor, if_neg (by simpa [Decidable.imp_iff_not_or] using h)]
  exact ⟨rfl, rfl⟩

/-- The rates of the last 10 ms. -/
def Die.recent (d : Die) (count : Nat) : List Nat := (d.rates.filter fun w => decide (count < w.1 + 10000000)).map (·.2)

/-- At least 12 monitors have been valid for a full 10 ms. -/
def Die.validLong (d : Die) (count : Nat) : Bool :=
  match d.validSince with
  | none => false
  | some t => decide (t + 10000000 ≤ count)

theorem Die.updateFloor_of_on {d : Die} (hon : d.online = true) (hv : d.vfabOn = true) (count : Nat) :
    (d.updateFloor count).floor =
      if d.validLong count then (match d.recent count with | [] => 0 | x :: xs => xs.foldl min x) else 0 := by
  rw [Die.updateFloor, if_pos (by simp [hon, hv])]
  rfl

theorem Die.updateFloor_of_valid {d : Die} (hon : d.online = true) (hv : d.vfabOn = true) {count at_ : Nat}
    (hs : d.validSince = some at_) (hle : at_ + 10000000 ≤ count) (hne : d.recent count ≠ []) :
    (d.updateFloor count).floor ∈ d.recent count ∧ ∀ x ∈ d.recent count, (d.updateFloor count).floor ≤ x := by
  rw [Die.updateFloor_of_on hon hv, if_pos (by simp [Die.validLong, hs, hle])]
  split
  case h_1 hnil => exact absurd hnil hne
  case h_2 y ys hcons => exact hcons ▸ foldl_min_spec y ys

theorem Die.updateFloor_of_not_valid {d : Die} (hon : d.online = true) (hv : d.vfabOn = true) {count : Nat}
    (h : d.validSince = none ∨ ∃ at_, d.validSince = some at_ ∧ count < at_ + 10000000) : (d.updateFloor count).floor = 0 := by
  have hlong : d.validLong count = false := by
    obtain h | ⟨at_, h, hlt⟩ := h
    · rw [Die.validLong, h]
    · rw [Die.validLong, h]
      exact decide_eq_false (by omega)
  rw [Die.updateFloor_of_on hon hv, hlong]
  rfl

/-- A die that counts for the module floor. -/
theorem mem_floors {l : List Die} {d : Die} (hd : d ∈ l) (hon : d.online = true) (hv : d.vfabOn = true) :
    d.floor ∈ (l.filter fun d => d.online && d.vfabOn).map (·.floor) :=
  List.mem_map.2 ⟨d, List.mem_filter.2 ⟨hd, by simp [hon, hv]⟩, rfl⟩

theorem moduleFloorOf_spec {l : List Die} {d : Die} (hd : d ∈ l) (hon : d.online = true) (hv : d.vfabOn = true) :
    moduleFloorOf l ≤ d.floor ∧ ∃ e ∈ l, e.online = true ∧ e.vfabOn = true ∧ moduleFloorOf l = e.floor := by
  have hmem := mem_floors hd hon hv
  unfold moduleFloorOf
  split
  case h_1 hnil => exact absurd hmem (by simp [hnil])
  case h_2 y ys hcons =>
    obtain ⟨hin, hle⟩ := foldl_min_spec y ys
    obtain ⟨e, he, hfloor⟩ := List.mem_map.1 (hcons ▸ hin : _ ∈ (l.filter fun d => d.online && d.vfabOn).map (·.floor))
    obtain ⟨hel, hboth⟩ := List.mem_filter.1 he
    obtain ⟨heon, hev⟩ := Bool.and_eq_true_iff.1 hboth
    exact ⟨hle _ (hcons ▸ hmem), e, hel, heon, hev, hfloor.symm⟩

theorem moduleFloorOf_of_none {l : List Die} (h : ∀ d ∈ l, d.online = false ∨ d.vfabOn = false) : moduleFloorOf l = 0 := by
  have hnil : l.filter (fun d => d.online && d.vfabOn) = [] :=
    List.filter_eq_nil_iff.2 fun d hd => by simpa [Decidable.imp_iff_not_or] using h d hd
  rw [moduleFloorOf, hnil]
  rfl

/-! ### Temperatures (R59, R60) -/

theorem dieTemperature_of_enough {r : List Int} {need : Nat} (hpos : 0 < need) (h : need ≤ (r.filter (sensorValid r)).length) :
    dieTemperature r need ∈ r ∧ ∀ x ∈ r, sensorValid r x = true → x ≤ dieTemperature r need := by
  unfold dieTemperature
  split
  case h_1 hnil => exact absurd h (by simp [hnil]; omega)
  case h_2 y ys hcons =>
    rw [if_neg (by rw [← hcons]; omega)]
    obtain ⟨hin, hle⟩ := foldl_max_spec y ys
    exact ⟨(List.mem_filter.1 (hcons ▸ hin)).1, fun x hx hv => hle x (hcons ▸ List.mem_filter.2 ⟨hx, hv⟩)⟩

theorem dieTemperature_of_few {r : List Int} {need : Nat} (h : (r.filter (sensorValid r)).length < need) :
    dieTemperature r need = 150000 := by
  unfold dieTemperature
  split
  case h_1 => rfl
  case h_2 y ys hcons => exact if_pos (by rw [← hcons]; exact h)

theorem exec_temperatureSample_of_die (s : State) (die : Fin 12) (r : List Int) :
    exec (.temperatureSample ⟨die.val, by omega⟩ r) s = .next { s with fabric := s.fabric.modDie die.val fun d =>
      { d with temperature := dieTemperature r 4, sensors := r, sensorsBad := invalidMask r } } :=
  congrArg Host.Outcome.next (if_neg (by simp only; omega))

theorem exec_temperatureSample_of_hub (s : State) (r : List Int) :
    exec (.temperatureSample 12 r) s =
      .next { s with monitors := { s.monitors with hubTemp := dieTemperature r 2, hubSensors := r, hubBad := invalidMask r } } :=
  congrArg Host.Outcome.next (if_pos rfl)

/-! ### Ballast (R63, R64) -/

/-- A quiesced array is not the default one, so its core stays in the map. -/
theorem Core.quiesce_quiesced (c : Core) {a : Nat} (h : a < c.arrays.length) : ((c.quiesce a).arrays.getD a {}).quiesced = true := by
  rw [Core.quiesce, getD_modifyAt_same _ _ _ _ h]

theorem quiesced_default (a : Nat) : ((({} : Core).arrays).getD a {}).quiesced = false := by
  match a with
  | 0 | 1 | 2 | 3 | _ + 4 => rfl

theorem exec_ballastThresholdReached_of_reached (s : State) (core : Fin 1200) (a : Fin 4) (hactive : s.monitors.ballastActive ≠ 0)
    (hq : ((s.fabric.core core.val).arrays.getD a.val {}).quiesced = false) :
    exec (.ballastThresholdReached core a) s = .next { s with
      fabric := (s.fabric.modCore core.val fun c => c.quiesce a.val).modDie (dieOf core.val)
        fun d => { d with ballast := bumpBy s.monitors.ballastActive d.ballast } } :=
  congrArg Host.Outcome.next (if_neg (by rw [hq]; simp [hactive]))

/-- Settles O14: each monitor by the least or the greatest of its valid readings, and the array by its own quiesced mark. -/
theorem monitorsAndBallast : Obligations.MonitorsAndBallast := by
  refine ⟨fun s => ⟨fun die r hlen => ?_, ?_, fun die r hlen => ?_, fun r => ?_, fun i mv hlen => ?_, fun mv => ⟨rfl, rfl⟩⟩,
    fun s => ⟨fun core a hactive harr hlen hq => ?_, fun core a hzero => congrArg Host.Outcome.next (if_pos (.inl hzero)),
      fun ch v ha => ?_⟩⟩
  · have hdie := s.fabric.die_modDie_same (n := die.val) (fun d => d.window r s.clock.count) (by omega)
    refine ⟨_, rfl, rfl, fun k hk => Fabric.die_modDie_ne _ _ hk, fun hon hv => ?_, fun hoff => ?_⟩
    · dsimp only
      rw [hdie, Die.window_rate_of_on hon hv]
      exact ⟨fun x hx hvalid => beatRate_spec r hx hvalid, beatRate_of_none r⟩
    · dsimp only
      rw [hdie]
      exact Die.window_of_off hoff _ _
  · refine ⟨_, rfl, fun n hn => ?_, fun d hd => moduleFloorOf_spec hd, moduleFloorOf_of_none, rfl⟩
    have hdie : (List.map (fun d => Die.updateFloor d s.clock.count) s.fabric.dies).getD n {} =
        (s.fabric.die n).updateFloor s.clock.count := by simp [Fabric.die, hn]
    change (_ → _ → _ ∧ _) ∧ _
    rw [show ({ s.fabric with dies := s.fabric.dies.map fun d => d.updateFloor s.clock.count } : Fabric).die n =
      (s.fabric.die n).updateFloor s.clock.count from hdie]
    exact ⟨fun hon hv => ⟨fun ⟨_, hs, hle⟩ hne => Die.updateFloor_of_valid hon hv hs hle hne, Die.updateFloor_of_not_valid hon hv⟩,
      fun hoff => Die.updateFloor_of_off hoff _⟩
  · have hdie := s.fabric.die_modDie_same (n := die.val)
      (fun d => { d with temperature := dieTemperature r 4, sensors := r, sensorsBad := invalidMask r }) (by omega)
    refine ⟨_, exec_temperatureSample_of_die s die r, ?_, fun hfew => ?_, rfl⟩
    · dsimp only
      rw [hdie]
      exact dieTemperature_of_enough (by omega)
    · dsimp only
      rw [hdie]
      exact dieTemperature_of_few hfew
  · exact ⟨_, exec_temperatureSample_of_hub s r, dieTemperature_of_enough (by omega), dieTemperature_of_few, rfl⟩
  · have hdie (g : Die → Die) : (s.fabric.modDie i.val g).die i.val = g (s.fabric.die i.val) := Fabric.die_modDie_same _ _ (by omega)
    exact ⟨⟨_, rfl, hdie _, rfl⟩, ⟨_, rfl, hdie _, rfl⟩, ⟨_, rfl, hdie _, rfl⟩⟩
  · have hquiet := (s.fabric.core core.val).quiesce_quiesced (a := a.val) (by omega)
    have hne : (s.fabric.core core.val).quiesce a.val ≠ {} := fun h => by
      rw [h, quiesced_default] at hquiet
      exact absurd hquiet (by decide)
    refine ⟨_, exec_ballastThresholdReached_of_reached s core a hactive hq, ?_, ?_, fun k hk => ?_, rfl⟩
    · change (((s.fabric.setCore core.val _).core core.val).arrays.getD a.val {}).quiesced = true
      rw [Fabric.core_setCore_same _ _ _ (.inr hne)]
      exact hquiet
    · exact congrArg Die.ballast (Fabric.die_modDie_same (s.fabric.modCore core.val fun c => c.quiesce a.val) _
        (by change dieOf core.val < s.fabric.dies.length; unfold dieOf; omega))
    · exact Fabric.core_setCore_ne _ _ hk
  · refine ⟨_, congrArg Host.Outcome.next (State.odRow_of_accepts s ch 0x4080 1 .hOpCu _ ha), ?_, ?_, ?_⟩
    · exact congrArg (fun m : Monitors => { m with ballast := v.toNat }) (s.touch_monitors ch)
    · exact s.touch_od ch
    · exact s.touch_ret ch

end Sys2Proof.Machine
end

section
/-! The big-number engine (06): one command on a context that runs with nothing ahead of it, the exact accumulator, and a yield. -/

namespace Sys2Proof.Machine

/-! ### One context written -/

@[simp] theorem Engines.ctx_modCtx (e : Engines) (c : BnCtx) (f : BnContext → BnContext) : (e.modCtx c f).ctx c = f (e.ctx c) := by
  cases c <;> rfl

/-- A context whose job goes on keeps running (R159). -/
theorem Engines.schedule_of_job (v : BnEnv) (n : Nat) (e : Engines) (c : BnCtx) (h : (e.ctx c).job = true) :
    e.schedule v (n + 1) c = { e with bnRunning := some c } := by
  rw [Engines.schedule.eq_def]
  exact if_pos h

theorem Engines.settle_of_job (e : Engines) (c : BnCtx) (v : BnEnv) (h : (e.ctx c).job = true) :
    e.settle c v = { e with bnRunning := some c } := e.schedule_of_job v _ c h

/-- With nothing queued and no LONG yielded, the engine stands idle at the end of a job (R162). -/
theorem Engines.settle_of_idle (e : Engines) (c : BnCtx) (v : BnEnv) (hjob : (e.ctx c).job = false) (hl : e.long.queue = [])
    (hs : e.short.queue = []) (hy : e.longYielded = false) : e.settle c v = { e with bnRunning := none } := by
  rw [Engines.settle, Engines.schedule.eq_def]
  cases c <;> simp [hjob, hl, hs, hy]

section
variable {e : Engines} {c : BnCtx} (hrun : e.bnRunning = some c) (hq : (e.ctx c).queue = []) (hy : c = .long → e.yieldDue = false)
include hrun hq hy

/-- A command with nothing ahead of it executes at once (R159, R161). -/
theorem Engines.command_of_alone (cmd : BnCmd) (v : BnEnv) :
    e.command c cmd v = ({ e.modCtx c fun x => x.run v.now cmd with
      longDone := if c = .long then e.longDone + 1 else e.longDone } : Engines).settle c v := by
  rw [Engines.command, hrun]
  dsimp only
  rw [if_pos ⟨rfl, hq, hy⟩]
  cases c <;> rfl

/-- A command after which the job goes on leaves what it does to its context. -/
theorem Engines.command_of_job (cmd : BnCmd) (v : BnEnv) (hjob : ((e.ctx c).run v.now cmd).job = true) :
    (e.command c cmd v).ctx c = (e.ctx c).run v.now cmd ∧ (e.command c cmd v).bnRunning = some c := by
  rw [Engines.command_of_alone hrun hq hy, Engines.settle_of_job _ _ _ (by cases c <;> exact hjob)]
  exact ⟨by cases c <;> rfl, rfl⟩

end

/-! ### The accumulator (R160) -/

theorem accStep_lt (w acc p : Nat) (sub : Bool) : (accStep w acc p sub).1 < 2 ^ w := by
  unfold accStep
  split <;> exact Nat.mod_lt _ (Nat.two_pow_pos w)

/-- The sum or difference that a command forms, before it is reduced. -/
def macRaw (acc p : Nat) (sub : Bool) : Int := if sub then (acc : Int) - p else acc + p

/-- The exact sum or difference modulo 2^w. -/
theorem accStep_fst (w acc p : Nat) (sub : Bool) : (accStep w acc p sub).1 = (macRaw acc p sub % 2 ^ w).toNat := by
  cases sub with
  | true =>
    have hmod : ((acc + 2 ^ w - p % 2 ^ w : Nat) : Int) = (acc : Int) - p + 2 ^ w * (1 + (p : Int) / 2 ^ w) := by
      have hle : p % 2 ^ w < 2 ^ w := Nat.mod_lt _ (Nat.two_pow_pos w)
      rw [Nat.cast_sub (by omega)]
      push_cast
      have := Int.mul_ediv_add_emod (p : Int) (2 ^ w)
      linarith
    rw [accStep, if_pos rfl, macRaw, if_pos rfl, ← Int.toNat_natCast ((acc + 2 ^ w - p % 2 ^ w) % 2 ^ w), Int.natCast_mod, hmod]
    push_cast
    rw [Int.add_mul_emod_self_left]
  | false =>
    rw [accStep, if_neg Bool.false_ne_true, macRaw, if_neg Bool.false_ne_true, ← Int.toNat_natCast ((acc + p) % 2 ^ w)]
    push_cast
    rfl

/-- The carry or borrow out of the top. -/
theorem accStep_snd (w acc p : Nat) (sub : Bool) (h : acc < 2 ^ w) :
    (accStep w acc p sub).2 = (decide (macRaw acc p sub < 0) || decide ((2 : Int) ^ w ≤ macRaw acc p sub)) := by
  have hpow : ((2 ^ w : Nat) : Int) = 2 ^ w := by push_cast; rfl
  rw [← hpow, ← Bool.decide_or]
  cases sub with
  | true =>
    rw [accStep, if_pos rfl, macRaw, if_pos rfl]
    exact decide_eq_decide.2 (by omega)
  | false =>
    rw [accStep, if_neg Bool.false_ne_true, macRaw, if_neg Bool.false_ne_true]
    exact decide_eq_decide.2 (by omega)

theorem add_mul_lt_mul {a b m n : Nat} (ha : a < m) (hb : b < n) : a + m * b < m * n := by
  have hle : m * (b + 1) ≤ m * n := Nat.mul_le_mul_left m hb
  rw [Nat.mul_succ] at hle
  omega

/-- Four lanes side by side, as a number to the base of one lane. -/
theorem lanes_eq (l : Nat → Nat) (w : Nat) : (List.range 4).foldl (fun t k => t + l k * 2 ^ (w * k)) 0 =
    l 0 + 2 ^ w * (l 1 + 2 ^ w * (l 2 + 2 ^ w * l 3)) := by
  simp only [show List.range 4 = [0, 1, 2, 3] from rfl, List.foldl]
  ring

theorem lanes_lt (l : Nat → Nat) {w : Nat} (h : ∀ k, l k < 2 ^ w) :
    (List.range 4).foldl (fun t k => t + l k * 2 ^ (w * k)) 0 < 2 ^ (w * 4) := by
  have hpow : (2 : Nat) ^ (w * 4) = 2 ^ w * (2 ^ w * (2 ^ w * 2 ^ w)) := by ring
  rw [lanes_eq, hpow]
  exact add_mul_lt_mul (h 0) (add_mul_lt_mul (h 1) (add_mul_lt_mul (h 2) (h 3)))

/-- Lane `k` of four reads back. -/
theorem field_lanes (l : Nat → Nat) {w : Nat} (h : ∀ k, l k < 2 ^ w) {k : Nat} (hk : k < 4) :
    field ((List.range 4).foldl (fun t k => t + l k * 2 ^ (w * k)) 0) (w * k) w = l k := by
  have hlow (a b : Nat) (ha : a < 2 ^ w) : field (a + 2 ^ w * b) 0 w = a := by
    rw [field_add_two_pow_mul_low (by omega), field_of_lt ha]
  rw [lanes_eq]
  match k, hk with
  | 0, _ => exact hlow _ _ (h 0)
  | 1, _ => rw [show w * 1 = w + 0 by omega, field_add_two_pow_mul_high (h 0), hlow _ _ (h 1)]
  | 2, _ =>
    rw [show w * 2 = w + (w + 0) by omega, field_add_two_pow_mul_high (h 0), field_add_two_pow_mul_high (h 1), hlow _ _ (h 2)]
  | 3, _ =>
    rw [show w * 3 = w + (w + (w + 0)) by omega, field_add_two_pow_mul_high (h 0), field_add_two_pow_mul_high (h 1),
      field_add_two_pow_mul_high (h 2), field_of_lt (h 3)]

/-! ### The commands on a context -/

theorem BnContext.mac_of_open (x : BnContext) (lanes : Bool) (f : BnFlags) {a b dst : BitVec 12} (ha : a.toNat < 0x900)
    (hb : b.toNat < 0x900) (hd : dst.toNat < 0x900) :
    x.mac lanes f a b dst =
      { x with
        acc := if f.shr then bnShift lanes (if lanes then lmacAcc x.acc (x.word a) (x.word b) f else wmacAcc x.acc (x.word a) (x.word b) f).1
          else (if lanes then lmacAcc x.acc (x.word a) (x.word b) f else wmacAcc x.acc (x.word a) (x.word b) f).1
        carry := x.carry || (if lanes then lmacAcc x.acc (x.word a) (x.word b) f else wmacAcc x.acc (x.word a) (x.word b) f).2
        words := if f.out then SMap.set 0 x.words dst.toNat
            (bnOut lanes (if lanes then lmacAcc x.acc (x.word a) (x.word b) f else wmacAcc x.acc (x.word a) (x.word b) f).1)
          else x.words } := by
  rw [BnContext.mac, if_neg (by simp [wordOk, ha, hb, hd])]

/-- WMAC's accumulator and carry: exact modulo 2^384, with a carry or borrow out of the top. -/
theorem wmacAcc_exact (acc : BitVec 384) (a b : BitVec 128) (f : BnFlags) :
    (wmacAcc acc a b f).1.toNat = (macRaw (if f.clr then 0 else acc.toNat) (a.toNat * b.toNat) f.sub % 2 ^ 384).toNat ∧
      (wmacAcc acc a b f).2 = (decide (macRaw (if f.clr then 0 else acc.toNat) (a.toNat * b.toNat) f.sub < 0) ||
        decide ((2 : Int) ^ 384 ≤ macRaw (if f.clr then 0 else acc.toNat) (a.toNat * b.toNat) f.sub)) := by
  have hacc : (if f.clr then 0 else acc.toNat) < 2 ^ 384 := by
    split
    · exact Nat.two_pow_pos 384
    · exact acc.isLt
  refine ⟨?_, accStep_snd 384 _ _ _ hacc⟩
  exact (BitVec.toNat_ofNat _ 384).trans ((Nat.mod_eq_of_lt (accStep_lt 384 ..)).trans (accStep_fst 384 ..))

/-- LMAC's lanes: each exact modulo 2^96. -/
theorem field_lmacAcc (acc : BitVec 384) (a b : BitVec 128) (f : BnFlags) {k : Nat} (hk : k < 4) :
    field (lmacAcc acc a b f).1.toNat (96 * k) 96 =
      (macRaw (if f.clr then 0 else field acc.toNat (96 * k) 96) (field a.toNat (32 * k) 32 * field b.toNat (32 * k) 32) f.sub % 2 ^ 96).toNat := by
  have hclr : field (if f.clr then 0 else acc.toNat) (96 * k) 96 = if f.clr then 0 else field acc.toNat (96 * k) 96 := by
    split
    · simp [field]
    · rfl
  dsimp only [lmacAcc]
  rw [BitVec.toNat_ofNat _ 384, Nat.mod_eq_of_lt (lanes_lt (w := 96) _ fun _ => accStep_lt ..), field_lanes _ (fun _ => accStep_lt ..) hk, accStep_fst, hclr]

/-- An entry of a run written at `i`. -/
theorem SMap.get_setMany_in {α : Type} [DecidableEq α] (d : α) (xs : List α) (m : SMap α) (i j : Nat) (hw : SMap.wf d m = true)
    (hj : j < xs.length) : SMap.get d (SMap.setMany d m i xs) (i + j) = xs.getD j d := by
  induction xs generalizing m i j with
  | nil => exact absurd hj (Nat.not_lt_zero j)
  | cons x xs ih =>
    rw [SMap.setMany]
    cases j with
    | zero =>
      rw [SMap.get_setMany_out d xs _ (i + 1) (i + 0) (Or.inl (by omega))]
      exact SMap.get_set_same d m i x hw
    | succ j =>
      rw [show i + (j + 1) = i + 1 + j by omega]
      exact ih _ _ _ (SMap.wf_set d m i x hw) (by simpa using hj)

/-- KEYLOAD leaves the key of the port in four words (R164). -/
theorem BnContext.word_keyload (x : BnContext) {dst : BitVec 12} {k : MaskedKey} (hk : x.keyPort = some k) (hd : 0x800 ≤ dst.toNat)
    (he : dst.toNat + 3 ≤ 0x8FF) (hw : SMap.wf 0 x.words = true) {i : Nat} (hi : i < 4) :
    ((x.keyload dst).word (dst + BitVec.ofNat 12 i)).toNat = field (k.share0 ^^^ k.share1).toNat (128 * i) 128 := by
  have hidx : (dst + BitVec.ofNat 12 i).toNat = dst.toNat + i := by
    rw [BitVec.toNat_add, BitVec.toNat_ofNat]
    omega
  rw [BnContext.keyload, if_neg (by omega), hk]
  dsimp only [BnContext.word]
  rw [hidx, SMap.get_setMany_in 0 _ _ _ _ hw (by simpa using hi)]
  have hlen : i < (List.map (fun i => BitVec.ofNat 128 (field (k.share0 ^^^ k.share1).toNat (128 * i) 128)) (List.range 4)).length := by
    simpa using hi
  rw [List.getD_eq_getElem _ _ hlen, List.getElem_map, List.getElem_range, BitVec.toNat_ofNat, Nat.mod_eq_of_lt (field_lt ..)]

theorem BnContext.job_keyload (x : BnContext) {dst : BitVec 12} {k : MaskedKey} (hk : x.keyPort = some k) (hd : 0x800 ≤ dst.toNat)
    (he : dst.toNat + 3 ≤ 0x8FF) : (x.keyload dst).job = x.job := by
  rw [BnContext.keyload, if_neg (by omega), hk]

/-! ### A yield (R161, R162) -/

/-- A resumed LONG with nothing queued stands as it yielded, but for its timer. -/
theorem Engines.runLong_of_empty (e : Engines) (v : BnEnv) (hq : e.long.queue = []) :
    e.runLong e.long 0 v = { e with
      long := { e.resumed e.long v.now with queue := [] }, bnRunning := some .long, longYielded := false, longDone := 0,
      longQuantum := v.quantum } := by
  have hq' : (e.resumed e.long v.now).queue = [] := by
    unfold Engines.resumed
    split <;> exact hq
  simp only [Engines.runLong, hq, BnContext.drain, Nat.add_zero]

/-- What a SHORT job that has stopped running leaves of a yielded LONG. -/
theorem Engines.settle_short_of_yielded (e : Engines) (v : BnEnv) (hy : e.longYielded = true) (hq : e.long.queue = [])
    (hjob : e.long.job = true) :
    (e.settle .short v).long.acc = e.long.acc ∧ (e.settle .short v).long.words = e.long.words ∧ (e.settle .short v).long.job = true ∧
      ((e.settle .short v).longYielded = true ↔ (e.settle .short v).short.job = true) ∧ (e.settle .short v).yields = e.yields := by
  by_cases hs : e.short.job = true
  · rw [Engines.settle_of_job e .short v hs]
    exact ⟨rfl, rfl, hjob, by simp [hy, hs], rfl⟩
  · have hres : (e.resumed e.long v.now).job = true ∧ (e.resumed e.long v.now).acc = e.long.acc ∧
        (e.resumed e.long v.now).words = e.long.words := by
      rw [Engines.resumed, if_pos hy]
      exact ⟨hjob, rfl, rfl⟩
    obtain ⟨hrj, hra, hrw⟩ := hres
    have hrun : e.settle .short v = { e with
        long := { e.resumed e.long v.now with queue := [] }, bnRunning := some .long, longYielded := false, longDone := 0,
        longQuantum := v.quantum } := by
      rw [Engines.settle, Engines.schedule.eq_def]
      dsimp only
      rw [show e.ctx .short = e.short from rfl, if_neg hs, if_pos hy, Engines.runLong_of_empty e v hq, Engines.schedule_of_job]
      exact hrj
    rw [hrun]
    exact ⟨hra, hrw, hrj, by simpa using hs, rfl⟩

theorem Engines.runShort_long (e : Engines) (v : BnEnv) :
    (e.runShort v).long = e.long ∧ (e.runShort v).longYielded = e.longYielded ∧ (e.runShort v).yields = e.yields := ⟨rfl, rfl, rfl⟩

/-! ### The obligation -/

section
variable {s : State} {c : BnCtx} (hrun : s.engines.bnRunning = some c) (hq : (s.engines.ctx c).queue = [])
  (hy : c = .long → s.engines.yieldDue = false)
include hrun hq hy

/-- WMAC and LMAC in words of the running job. -/
theorem State.command_mac (hjob : (s.engines.ctx c).job = true) (lanes : Bool) (f : BnFlags) {a b dst : BitVec 12} (ha : a.toNat < 0x900)
    (hb : b.toNat < 0x900) (hd : dst.toNat < 0x900) :
    (s.engines.command c (.mac lanes f a b dst) s.bnEnv).ctx c =
        { (s.engines.ctx c).mac lanes f a b dst with lastDone := s.bnEnv.now } ∧
      (s.engines.command c (.mac lanes f a b dst) s.bnEnv).bnRunning = some c := by
  refine Engines.command_of_job hrun hq hy (.mac lanes f a b dst) s.bnEnv ?_
  rw [BnContext.run, BnContext.act, BnContext.mac_of_open _ _ _ ha hb hd]
  exact hjob

end

/-- Settles O12: a command with nothing ahead of it acts on its context alone, whose accumulator is exact by `accStep_fst`. -/
theorem bigNumbersAreExact : Obligations.BigNumbersAreExact := by
  refine ⟨?_, ?_⟩
  · intro s c f a b dst hrun hq hjob hy hw ha hb hd
    refine ⟨⟨_, rfl, ?_, ?_, rfl⟩, ?_, ?_, ?_⟩
    · obtain ⟨hctx, -⟩ := State.command_mac hrun hq hy hjob false f ha hb hd
      obtain ⟨hacc, hcarry⟩ := wmacAcc_exact (s.engines.ctx c).acc ((s.engines.ctx c).word a) ((s.engines.ctx c).word b) f
      dsimp only
      rw [hctx, BnContext.mac_of_open _ _ _ ha hb hd]
      dsimp only [Bool.false_eq_true, if_false]
      rw [← macRaw.eq_1, ← hacc]
      refine ⟨?_, ?_, ?_, ?_⟩
      · cases f.shr with
        | true => exact (BitVec.toNat_ushiftRight _ _).trans (Nat.shiftRight_eq_div_pow _ _)
        | false => rfl
      · rw [Bool.or_assoc, ← hcarry]
        rfl
      · intro ho
        rw [if_pos ho]
        exact (congrArg BitVec.toNat (SMap.get_set_same 0 _ _ _ hw)).trans (BitVec.toNat_ofNat _ 128)
      · intro ho
        rw [ho]
        rfl
    · exact (State.command_mac hrun hq hy hjob false f ha hb hd).2
    · intro hshr
      refine ⟨_, rfl, fun k hk => ?_⟩
      obtain ⟨hctx, -⟩ := State.command_mac hrun hq hy hjob true f ha hb hd
      dsimp only
      rw [hctx, BnContext.mac_of_open _ _ _ ha hb hd, hshr, ← macRaw.eq_1]
      exact field_lmacAcc _ _ _ _ hk
    · intro k hk hlo hhi
      refine ⟨_, rfl, fun i hi => ?_⟩
      obtain ⟨hctx, -⟩ := Engines.command_of_job hrun hq hy (.keyload dst) s.bnEnv
        ((BnContext.job_keyload _ hk hlo hhi).trans hjob)
      dsimp only
      rw [hctx]
      exact BnContext.word_keyload _ hk hlo hhi hw hi
    · intro hl hs hyl
      refine ⟨_, rfl, ?_⟩
      dsimp only
      rw [Engines.command_of_alone hrun hq hy]
      cases c with
      | long =>
        rw [Engines.settle_of_idle]
        exacts [⟨rfl, rfl, rfl, rfl⟩, rfl, hl, hs, hyl]
      | short =>
        rw [Engines.settle_of_idle]
        exacts [⟨rfl, rfl, rfl, rfl⟩, rfl, hl, hs, hyl]
  · intro s
    refine ⟨?_, ?_, ?_⟩
    · intro hrun hquantum hshort hl hjob
      have hdue : s.engines.yieldDue = true := by
        simp [Engines.yieldDue, hrun, hquantum, hshort]
      refine ⟨_, rfl, ?_⟩
      rw [if_pos hdue]
      dsimp only
      obtain ⟨hacc, hwords, hj, hyield, hyields⟩ := Engines.settle_short_of_yielded
        (({ s.engines with
          longYielded := true, yieldedAt := s.clock.count, yields := bump s.engines.yields, longDone := 0 } : Engines).runShort s.bnEnv)
        s.bnEnv rfl hl hjob
      exact ⟨hyields, hacc, hwords, hj, hyield, rfl⟩
    · intro c w hw
      rw [show exec (.bnSealedAccess c w) s = execBnSealedAccess c w s from rfl, execBnSealedAccess, if_neg (by omega)]
    · exact ⟨_, rfl, rfl, rfl, rfl, rfl, rfl⟩

end Sys2Proof.Machine
end

section
/-! The front command and the idle nanosecond (log 4), and the state at reset. -/

namespace Sys2Proof.Machine

/-! ### What an idle nanosecond can touch -/

/-- Nothing but the time base, the pins, the Straits, the monitors, the power state and the scrub progress differs. -/
def State.ticksTo (s t : State) : Prop :=
  t = { s with
    clock := t.clock, pins := t.pins, straits := t.straits, ret := { s.ret with regions := t.ret.regions }, power := t.power
    monitors := t.monitors }

theorem State.ticksTo.refl (s : State) : s.ticksTo s := rfl

theorem State.ticksTo.trans {s t u : State} (h : s.ticksTo t) (h' : t.ticksTo u) : s.ticksTo u := by
  unfold State.ticksTo at h h'
  exact h'.trans (congrArg (fun v : State => { v with
    clock := u.clock, pins := u.pins, straits := u.straits, ret := { v.ret with regions := u.ret.regions }, power := u.power
    monitors := u.monitors }) h)

/-- A step that leaves the clock and the RETAINED objects as well. -/
structure State.TicksClean (s t : State) : Prop where
  ticks : s.ticksTo t
  clock : t.clock = s.clock
  ret : t.ret = s.ret

theorem State.TicksClean.refl (s : State) : s.TicksClean s := ⟨.refl s, rfl, rfl⟩

theorem State.TicksClean.trans {s t u : State} (h : s.TicksClean t) (h' : t.TicksClean u) : s.TicksClean u :=
  ⟨h.ticks.trans h'.ticks, h'.clock.trans h.clock, h'.ret.trans h.ret⟩

theorem State.ticksClean_ppsFall (s : State) : s.TicksClean s.ppsFall := by
  unfold State.ppsFall
  split
  · exact ⟨rfl, rfl, rfl⟩
  · exact .refl s

theorem State.ticksClean_emitFrame (s : State) (p : Nat) : s.TicksClean (s.emitFrame p) := by
  unfold State.emitFrame
  dsimp only
  split
  · exact ⟨rfl, rfl, rfl⟩
  · split
    · exact .refl s
    · exact ⟨rfl, rfl, rfl⟩

theorem State.ticksClean_sendFrames (s : State) : s.TicksClean s.sendFrames := by
  unfold State.sendFrames
  generalize List.range 12 = ports
  induction ports generalizing s with
  | nil => exact .refl s
  | cons p ports ih =>
    refine State.TicksClean.trans ?_ (ih _)
    dsimp only
    split
    · exact s.ticksClean_emitFrame p
    · exact .refl s

theorem State.ticksClean_update100ms (s : State) : s.TicksClean s.update100ms := ⟨rfl, rfl, rfl⟩

theorem State.ticksClean_update1s (s : State) : s.TicksClean s.update1s := ⟨rfl, rfl, rfl⟩

/-- The scrub engines move regions only. -/
theorem Retained.scrubOn_eq (r : Retained) (served : Nat → Bool) :
    r.scrubOn served = { r with regions := (r.scrubOn served).regions } := by
  unfold Retained.scrubOn
  generalize List.range 12 = places
  induction places generalizing r with
  | nil => rfl
  | cons n places ih =>
    rw [List.foldl_cons, ih]
    split
    · split
      · rfl
      · rfl
    · rfl

theorem State.ticksTo_scrubOn (s : State) : s.ticksTo s.scrubOn ∧ s.scrubOn.clock = s.clock := by
  unfold State.scrubOn
  split
  · exact ⟨congrArg (fun r : Retained => ({ s with ret := r } : State)) (s.ret.scrubOn_eq _), rfl⟩
  · exact ⟨.refl s, rfl⟩

/-- The update points at 100 ms and 1 s. -/
theorem State.ticksClean_updates (s : State) :
    s.TicksClean (if s.clock.count % 1000000000 = 0 then s.update1s else s) := by
  split
  · exact s.ticksClean_update1s
  · exact .refl s

theorem State.ticksTo_endWindows (s : State) :
    s.ticksTo s.endWindows ∧ s.endWindows.clock = s.clock ∧ (s.clock.count % 1000000 ≠ 0 → s.endWindows.ret = s.ret) := by
  have hlate (u : State) : u.TicksClean
      (let v := if u.clock.count % 100000000 = 0 then u.update100ms else u
       if v.clock.count % 1000000000 = 0 then v.update1s else v) := by
    refine State.TicksClean.trans ?_ (State.ticksClean_updates _)
    split
    · exact u.ticksClean_update100ms
    · exact .refl u
  unfold State.endWindows
  by_cases hms : s.clock.count % 1000000 = 0
  · obtain ⟨hscrub, hclock⟩ := ({ s with power := s.power.close1 } : State).ticksTo_scrubOn
    rw [if_pos hms]
    obtain ⟨hticks, hclock', -⟩ := hlate ({ s with power := s.power.close1 } : State).scrubOn
    have hclose : s.ticksTo { s with power := s.power.close1 } := rfl
    exact ⟨(hclose.trans hscrub).trans hticks, hclock'.trans hclock, fun h => absurd hms h⟩
  · rw [if_neg hms]
    obtain ⟨hticks, hclock, hret⟩ := hlate s
    exact ⟨hticks, hclock, fun _ => hret⟩

/-- One nanosecond (log 4). -/
theorem State.ticksTo_tick (s : State) :
    s.ticksTo s.tick ∧ s.tick.clock.count = s.clock.count + (if s.pins.stby then 1 else 0) ∧
      ((s.clock.count + 1) % 1000000 ≠ 0 → s.tick.ret = s.ret) := by
  unfold State.tick
  split
  · have hadvance : s.ticksTo { s with clock := ⟨s.clock.count + 1, s.clock.device + 1⟩ } := rfl
    obtain ⟨hsent, hclock, hret⟩ := (({ s with clock := ⟨s.clock.count + 1, s.clock.device + 1⟩ } : State).ticksClean_ppsFall).trans
      (State.ticksClean_sendFrames _)
    obtain ⟨hends, hclock', hret'⟩ :=
      (({ s with clock := ⟨s.clock.count + 1, s.clock.device + 1⟩ } : State).ppsFall.sendFrames).ticksTo_endWindows
    refine ⟨(hadvance.trans hsent).trans hends, congrArg Timebase.count (hclock'.trans hclock), fun hms => ?_⟩
    rw [hret' (by rw [hclock]; exact hms), hret]
  · exact ⟨.refl s, rfl, fun _ => rfl⟩

/-- Settles O57: the front command runs on the rest of the queue, and an idle step is one tick (`State.ticksTo_tick`). -/
theorem stepRunsFrontCommand : Obligations.StepRunsFrontCommand := by
  refine ⟨step_cons, fun s hidle => ?_⟩
  obtain ⟨hticks, hcount, hret⟩ := s.ticksTo_tick
  exact ⟨s.tick, step_of_idle hidle, (congrArg State.pending hticks).trans hidle, (congrArg State.otp hticks :),
    (congrArg State.hostMem hticks :), hticks, hret, hcount⟩

/-! ### Reset -/

theorem State.reset_shapes : State.reset.shapes :=
  ⟨rfl, rfl, rfl, rfl, rfl, rfl, rfl, rfl, rfl, rfl, rfl, rfl, rfl, rfl, rfl, rfl, rfl, rfl, fun _ => rfl⟩

/-- Every cluster is empty at reset. -/
theorem State.reset_cluster (n : Nat) : State.reset.shoal.cluster n = {} := by
  show (List.replicate 12 ({} : Cluster)).getD n {} = {}
  rw [List.getD_eq_getElem?_getD, List.getElem?_replicate]
  split <;> rfl

theorem State.reset_mapsWf : State.reset.mapsWf := by
  refine ⟨rfl, rfl, rfl, rfl, rfl, rfl, rfl, rfl, rfl, rfl, rfl, rfl, fun n => ?_, fun _ => rfl⟩
  rw [State.reset_cluster]
  rfl

/-- Settles O58: every clause is read off the defaults of `State.reset`. -/
theorem resetState : Obligations.ResetState :=
  ⟨rfl, rfl, rfl, rfl, rfl, rfl, by decide, by decide, State.reset_shapes, State.reset_mapsWf⟩

end Sys2Proof.Machine
end

section
/-! Starts and supplies (04, 18, 21): the cold start, the three warm resets, tamper, and what moves the start on. -/

namespace Sys2Proof.Machine

/-! ### A cold start -/

/-- Settles O1: the boot stage on clean conditions is `State.boot_clean`. -/
theorem coldStartReachesStandby : Obligations.ColdStartReachesStandby := by
  intro s c hoff hc ho
  refine ⟨_, congrArg Host.Outcome.next (if_pos hoff), ?_⟩
  rw [State.coldStart, State.boot_clean]
  case hh => exact fun h => absurd h Bool.false_ne_true
  case hc => exact hc
  case ho => exact ho
  refine ⟨⟨rfl, rfl, rfl, rfl, rfl, rfl, rfl, Measure.mr_fresh _ _ 0, fun k hk => ?_, rfl, ?_, rfl, rfl, rfl, rfl⟩, rfl, rfl, rfl, rfl, rfl,
    rfl, rfl⟩
  · exact (Measure.mr_fresh _ _ k).trans (if_neg (by omega))
  · exact ⟨rfl, rfl, rfl, rfl, rfl, rfl, rfl, rfl, rfl, rfl, rfl, rfl⟩

/-! ### Warm resets -/

/-- What a warm reset does is not changed by a note of activity on a channel. -/
theorem State.warmReset_touch_clean (s : State) (ch : Channel) (c : StartConds) (hr : s.resettable = true)
    (hh : s.start.halt = .tamper → c.tamperRecent = 0) (hc : cleanStart c) (ho : s.otp.serviceable) :
    ((s.touch ch).warmReset c).atStandby ∧ s.keptOver ((s.touch ch).warmReset c) ∧
      ((s.touch ch).warmReset c).ret = s.ret.afterReset (s.od.session != 0) := by
  obtain ⟨h, w, htouch⟩ := s.touch_eq ch
  rw [htouch]
  obtain ⟨hstandby, hkept, hret, -⟩ := State.warmReset_clean { s with hosting := h, causeway := w } c hr hh hc ho
  exact ⟨hstandby, hkept, hret⟩

/-- Settles O2: each cause is a warm reset on clean conditions (`State.warmReset_clean`), after it has noted its own pin. -/
theorem warmResetsRestart : Obligations.WarmResetsRestart := by
  intro s c hr hh hc ho
  refine ⟨?_, ?_, ?_, ?_⟩
  · obtain ⟨hstandby, hkept, hret, hmain, -⟩ :=
      State.warmReset_clean { s with pins := { s.pins with mainValid := false } } c hr hh hc ho
    exact ⟨_, rfl, hstandby, hkept, hret, hmain⟩
  · intro lowNs recognised hlow
    obtain ⟨hstandby, hkept, hret, -, hreset⟩ :=
      State.warmReset_clean { s with pins := { s.pins with modResetN := false } } c hr hh hc ho
    exact ⟨_, congrArg Host.Outcome.next (if_pos hlow), hstandby, hkept, hret, hreset⟩
  · intro lowNs recognised hlow
    refine congrArg Host.Outcome.next (if_neg ?_)
    rintro (hlong | ⟨hlong, hrec⟩)
    · omega
    · obtain hshort | ⟨-, hnot⟩ := hlow
      · omega
      · exact absurd hrec (by simp [hnot])
  · intro ch ha
    have hrow (v : Byte) : exec (.warmResetRequest ch v c) s =
        .next (s.writtenBy ch 0x2006 1 fun u => u.writeWarmResetRequest v c) :=
      congrArg Host.Outcome.next (State.odRow_of_accepts s ch 0x2006 1 .hOpCu _ ha)
    refine ⟨?_, fun v hv => ?_⟩
    · rw [hrow]
      exact ⟨_, rfl, s.warmReset_touch_clean ch c hr hh hc ho⟩
    · rw [hrow, State.writtenBy, State.writeWarmResetRequest, if_neg hv]

/-! ### Tamper -/

/-- T2 on any fuses: the revocation step and the three lifecycle steps, and nothing else. -/
theorem Otp.takeLifecycle_killed (o : Otp) :
    (o.takeLifecycle 3).drsRevoked = true ∧ (o.takeLifecycle 3).lifecycleCode = 3 ∧ o.grownTo (o.takeLifecycle 3) := by
  have hrevoked : (o.takeLifecycle 3).drsRevoked = true := by
    show (o.revoked.blow 0).taken 0 = true
    rw [Thermo.taken_blow _ _ _ (by decide)]
    simp
  have hcount : 3 ≤ (o.lifecycle.raiseTo 3).count := by
    rw [Thermo.count, show 64 = 3 + 61 from rfl, List.range_add, List.takeWhile_append_of_pos]
    · simp
    · intro k hk
      rw [Thermo.taken_raiseTo _ _ _ (by decide)]
      simpa using Or.inr (List.mem_range.1 hk)
  refine ⟨hrevoked, ?_, Thermo.within_raiseTo _ _, Thermo.within_blow _ _, Thermo.within_refl _, fun _ => Thermo.within_refl _⟩
  show min (o.lifecycle.raiseTo 3).count 3 = 3
  omega

/-- The tamper halt holds no key, no session and no supply of MAIN (R79, R99). -/
theorem State.tamperAt_atTamperHalt (s : State) (mask level : Nat) : (s.tamperAt mask level).atTamperHalt :=
  ⟨rfl, rfl, rfl, rfl, rfl, rfl, rfl, rfl, rfl, rfl, rfl, rfl, rfl, rfl, rfl, rfl, rfl⟩

/-- A start that follows a session keeps the tokens. -/
theorem Retained.afterReset_tokens (r : Retained) (session : Bool) : (r.afterReset session).tokens = r.tokens := by
  unfold Retained.afterReset
  split <;> rfl

/-- The level of a source, as the fuses name it (R98). -/
theorem Otp.tamperLevel_eq_two_iff (o : Otp) (k : Nat) :
    o.tamperLevel k = 2 ↔ o.closed.getLsbD 4 = true ∧ o.tamperT2.getLsbD k = true := by
  unfold Otp.tamperLevel
  split
  · next h => exact ⟨fun _ => by simpa using h, fun _ => rfl⟩
  · next h => exact ⟨fun h' => absurd h' (by decide), fun h' => absurd (by simpa using h') h⟩

theorem Engines.job_replicate (jobs : JobChannel) {j : Nat} (hj : j < 8) : (List.replicate 8 jobs).getD j {} = jobs := by
  rw [List.getD_eq_getElem?_getD, List.getElem?_replicate, if_pos hj, Option.getD_some]

/-- Settles O3: both causes are `State.tamperAt`; the fuses of T2 are those of `Otp.takeLifecycle_killed`. -/
theorem tamperClearsAndHalts : Obligations.TamperClearsAndHalts := by
  refine ⟨fun s => ⟨?_, ?_, ?_, ?_⟩, fun o => ?_⟩
  · intro hdrbg hfuse
    exact ⟨_, congrArg Host.Outcome.next (if_pos ⟨hdrbg, hfuse⟩), s.tamperAt_atTamperHalt 0 1, rfl, rfl, rfl⟩
  · intro src hstby hoff hfuse
    refine ⟨_, congrArg Host.Outcome.next (if_pos ⟨hstby, hoff, hfuse⟩), s.tamperAt_atTamperHalt _ _, ?_, rfl, rfl, ?_, rfl, rfl,
      fun j hj => ?_, rfl, rfl, rfl⟩
    · exact if_congr (s.otp.tamperLevel_eq_two_iff _) rfl rfl
    · show [(s.ret.afterReset (s.od.session != 0)).tokens.getD 0 none, none, none] = _
      rw [Retained.afterReset_tokens]
    · have hjob : (s.tamper (tamperIndex src)).engines.job j = { state := .error, err := 6 } := Engines.job_replicate _ hj
      rw [hjob]
      exact ⟨rfl, rfl, rfl⟩
  · intro src hfuse
    exact congrArg Host.Outcome.next (if_neg fun h => h.2.2 hfuse)
  · exact ⟨_, rfl, rfl, rfl, ⟨rfl, rfl, rfl, rfl, rfl, rfl, rfl, rfl, rfl, rfl, rfl, rfl⟩, rfl, rfl, rfl, rfl⟩
  · obtain ⟨hrevoked, hcode, hgrown⟩ := o.takeLifecycle_killed
    exact ⟨hrevoked, hcode, hgrown, rfl⟩

/-! ### The start moves on -/

/-- The records of dies left offline touch the queue of fault records only. -/
theorem State.recordStartFailures_eq (s : State) (mask : BitVec 12) :
    s.recordStartFailures mask = { s with faults := (s.recordStartFailures mask).faults } := by
  unfold State.recordStartFailures
  generalize List.range 12 = dies
  induction dies generalizing s with
  | nil => rfl
  | cons n dies ih =>
    rw [List.foldl_cons, ih]
    split <;> rfl

/-- No failure leaves no record. -/
theorem State.recordStartFailures_zero (s : State) : s.recordStartFailures 0 = s := by
  unfold State.recordStartFailures
  generalize List.range 12 = dies
  induction dies with
  | nil => rfl
  | cons n dies ih => rw [List.foldl_cons, if_neg (by simp), ih]

/-- A die after training. -/
theorem getD_mapIdx_untrained (dies : List Die) (fail : BitVec 12) {n : Nat} (hn : n < dies.length) :
    (dies.mapIdx (untrained fail)).getD n {} = untrained fail n (dies.getD n {}) := by
  rw [List.getD_eq_getElem _ _ (by simpa using hn), List.getElem_mapIdx, List.getD_eq_getElem _ _ hn]

/-- Settles O4: each row writes its next state out; a failed die is the untrained one. -/
theorem theStartAdvances : Obligations.TheStartAdvances := by
  refine ⟨fun s => ⟨?_, ?_, rfl, rfl, ?_, ?_, ?_⟩, fun s fail htraining => ?_⟩
  · intro hdrbg hdue
    exact congrArg Host.Outcome.next (if_pos ⟨hdrbg, hdue⟩)
  · intro hfew hearly
    have hnot : s.reseedDue = false := by
      rw [State.reseedDue, decide_eq_false (by omega), decide_eq_false (by omega)]
      rfl
    exact congrArg Host.Outcome.next (if_neg fun h => absurd h.2 (by simp [hnot]))
  · intro hpower hphase hhalt hmain hreset
    exact congrArg Host.Outcome.next (if_pos ⟨hpower, hphase, hhalt, hmain, hreset⟩)
  · intro hreset
    exact congrArg Host.Outcome.next (if_neg fun h => absurd h.2.2.2.2 (by simp [hreset]))
  · intro hvhub
    exact congrArg Host.Outcome.next (if_pos hvhub)
  · refine ⟨_, congrArg Host.Outcome.next (if_pos htraining), ?_⟩
    dsimp only
    rw [State.recordStartFailures_eq]
    refine ⟨rfl, rfl, rfl, rfl, rfl, rfl, fun n _ hlen => ⟨fun hfail => ?_, fun hgood => ?_⟩, ?_⟩
    · have hdie := getD_mapIdx_untrained s.fabric.dies fail hlen
      rw [untrained, if_pos hfail] at hdie
      exact ⟨congrArg Die.online hdie, congrArg Die.vfabOn hdie, congrArg Die.rate hdie, congrArg Die.floor hdie⟩
    · have hdie := getD_mapIdx_untrained s.fabric.dies fail hlen
      rwa [untrained, if_neg (by simp [hgood])] at hdie
    · rintro rfl
      rw [State.recordStartFailures_zero]

end Sys2Proof.Machine
end

section
/-! Firmware items (04): a streamed item and an update whose digests are compared (R85, R86, R88, R123, R124). -/

namespace Sys2Proof.Machine

/-! ### A streamed item -/

/-- A register past the last reads zero before and after an extension. -/
theorem State.extendMr_mr_out (s : State) (r : Nat) (d : Bytes) (h : ¬r < s.measure.mrs.length) : (s.extendMr r d).mr r = 0 := by
  rw [State.mr, State.extendMr_measure, Measure.extend_mrs, List.getD_eq_default]
  rw [modifyAt_length]
  omega

/-- What an accepted item leaves (R85, R88). -/
theorem State.acceptItem_leaves (s : State) (l : SetLoad) (i : SetItem) :
    (s.acceptItem l i).start.released = s.start.released ++ [i.type] ∧
      (s.acceptItem l i).measure.mrs = (s.extendMr i.type (digestBytes i.digest)).measure.mrs ∧
      (s.acceptItem l i).start.load = some { l with done := l.done + 1 } ∧
      (s.acceptItem l i).start.runtime = (s.start.runtime || i.type == 1) ∧ (s.acceptItem l i).otp = s.otp ∧
      (s.acceptItem l i).keys = s.keys ∧ (s.acceptItem l i).ret = s.ret := by
  unfold State.acceptItem
  generalize hu : s.extendMr i.type (digestBytes i.digest) = u
  have hstart : u.start = s.start := by rw [← hu, State.extendMr_start]
  have hotp : u.otp = s.otp := by rw [← hu, State.extendMr_otp]
  have hkeys : u.keys = s.keys := by rw [← hu, State.extendMr_keys]
  have hret : u.ret = s.ret := by rw [← hu, State.extendMr_ret]
  rw [← hstart, ← hotp, ← hkeys, ← hret]
  dsimp only
  split
  · exact ⟨rfl, rfl, rfl, rfl, rfl, rfl, rfl⟩
  · exact ⟨rfl, rfl, rfl, rfl, rfl, rfl, rfl⟩

section
variable {s : State} {data : Bytes} {l : SetLoad} {i : SetItem} (hload : s.start.load = some l)
  (hitem : l.manifest.items[l.done]? = some i) (harrived : s.itemArrived l i data = true)
include hload hitem harrived

theorem exec_itemVerified_of_equal (gov vfab : BitVec 12) (hmore : l.done < 5) (hsha : sha384 data = i.digest) :
    exec (.itemVerified data gov vfab) s = .next (s.acceptItem l i) := by
  rw [show exec (.itemVerified data gov vfab) s = execItemVerified data gov vfab s from rfl, execItemVerified, hload]
  dsimp only
  rw [hitem]
  dsimp only
  rw [if_neg (by simp [harrived]), if_pos hsha, if_neg (by omega)]

theorem exec_itemVerified_of_unequal (gov vfab : BitVec 12) (hsha : sha384 data ≠ i.digest) (hearly : s.start.runtime = false) :
    exec (.itemVerified data gov vfab) s = .next (s.refuseSet 6) := by
  rw [show exec (.itemVerified data gov vfab) s = execItemVerified data gov vfab s from rfl, execItemVerified, hload]
  dsimp only
  rw [hitem]
  dsimp only
  rw [if_neg (by simp [harrived]), if_neg hsha, if_neg (by simp [hearly])]

end

/-! ### An update (R123, R124) -/

/-- The state in which an update's digests are compared. -/
def State.updateEnded (s : State) (fromHost : Bool) : State :=
  ({ s with start := { s.start with update := none } } : State).endTransfer fromHost

theorem State.updateEnded_eq (s : State) (fromHost : Bool) :
    s.updateEnded fromHost = { s with start := { s.start with update := none }, causeway := (s.updateEnded fromHost).causeway } := by
  unfold State.updateEnded State.endTransfer
  split <;> rfl

/-- The Alias that an update pends; the record of an Alias that was pending before goes first. -/
def State.pendUpdate (s : State) (pub : Bytes) : State :=
  let s := match s.ret.pendingAlias with
    | none => s
    | some p => s.keyEvent 4 0 (sha384 p)
  ({ s with ret := { s.ret with pendingAlias := some pub }, start := { s.start with setResult := 0 } } : State).keyEvent 2 0 (sha384 pub)

theorem State.pendUpdate_leaves (s : State) (pub : Bytes) :
    (s.pendUpdate pub).start = { s.start with setResult := 0 } ∧ (s.pendUpdate pub).ret.pendingAlias = some pub ∧
      (s.pendUpdate pub).keys = s.keys ∧ (s.pendUpdate pub).otp = s.otp ∧ (∀ k, k ≠ 15 → (s.pendUpdate pub).mr k = s.mr k) ∧
      (s.ret.pendingAlias = none → 15 < s.measure.mrs.length →
        (s.pendUpdate pub).mr 15 = extendValue (s.mr 15) (keyRecord 2 0 (sha384 pub) s.now)) := by
  unfold State.pendUpdate
  cases hp : s.ret.pendingAlias with
  | none =>
    simp only [State.keyEvent_start, State.keyEvent_ret, State.keyEvent_keys, State.keyEvent_otp]
    refine ⟨trivial, trivial, trivial, trivial, fun k hk => ?_, fun _ hlen => ?_⟩
    · exact State.extendMr_mr_ne _ 15 k _ hk
    · exact State.extendMr_mr_same _ 15 _ hlen
  | some p =>
    simp only [State.keyEvent_start, State.keyEvent_ret, State.keyEvent_keys, State.keyEvent_otp]
    refine ⟨trivial, trivial, trivial, trivial, fun k hk => ?_, fun h => absurd h (by simp)⟩
    exact (State.extendMr_mr_ne _ 15 k _ hk).trans (s.extendMr_mr_ne 15 k _ hk)

theorem State.prospectiveAlias_updateEnded (s : State) (fromHost : Bool) (items : List SetItem) :
    (s.updateEnded fromHost).prospectiveAlias items = s.prospectiveAlias items := by
  rw [State.updateEnded_eq]
  rfl

section
variable {s : State} {l : SetLoad} (hupdate : s.start.update = some l) (hup : s.up = true)
include hupdate hup

theorem exec_updateCheckDone_of_update (items : List Bytes) :
    exec (.updateCheckDone items) s = .next
      (if (l.fromHost && (!s.dmaOk || s.planBefore l.order)) = true then s
       else if ((l.manifest.items.zip items).all fun p => s.itemArrived l p.1 p.2) = false then s
       else if items.map sha384 = l.manifest.items.map (·.digest) then
         (s.updateEnded l.fromHost).pendUpdate ((s.updateEnded l.fromHost).prospectiveAlias l.manifest.items)
       else { s.updateEnded l.fromHost with start := { (s.updateEnded l.fromHost).start with setResult := 0x06 } }) := by
  rw [show exec (.updateCheckDone items) s = execUpdateCheckDone items s from rfl, execUpdateCheckDone, hupdate]
  dsimp only
  rw [if_neg (by simp [hup])]
  rfl

/-- A host set whose DMA is not allowed, or that F0 has a plan to fetch before, waits. -/
theorem exec_updateCheckDone_of_wait (items : List Bytes) (hhost : l.fromHost = true) (hw : s.dmaOk = false ∨ s.planBefore l.order = true) :
    exec (.updateCheckDone items) s = .next s := by
  rw [exec_updateCheckDone_of_update hupdate hup, if_pos]
  rw [hhost]
  obtain h | h := hw <;> simp [h]

end

/-- Settles O6: an item is accepted or the set refused, and an update pends its Alias or is answered. -/
theorem itemsAreVerified : Obligations.ItemsAreVerified := by
  refine ⟨fun s data gov vfab l i hload hitem hmore harrived => ⟨fun hsha => ?_, fun hsha hearly => ?_⟩,
    fun s items l hupdate hup => ⟨exec_updateCheckDone_of_wait hupdate hup items, fun hready harrived => ⟨fun heq => ?_, fun hne => ?_⟩⟩⟩
  · obtain ⟨hreleased, hmrs, hnext, hruntime, hotp, hkeys, hret⟩ := s.acceptItem_leaves l i
    have hmr (k : Nat) : (s.acceptItem l i).mr k = (s.extendMr i.type (digestBytes i.digest)).mr k := congrArg (·.getD k 0) hmrs
    refine ⟨_, exec_itemVerified_of_equal hload hitem harrived gov vfab hmore hsha, hreleased, ?_,
      fun k hk => (hmr k).trans (s.extendMr_mr_ne _ k _ hk), hnext, hruntime, hotp, hkeys, hret⟩
    rw [hmr]
    split
    · next h => exact s.extendMr_mr_same _ _ h
    · next h => exact s.extendMr_mr_out _ _ h
  · exact ⟨_, exec_itemVerified_of_unequal hload hitem harrived gov vfab hsha hearly, rfl, rfl, rfl, rfl, rfl, rfl⟩
  all_goals
    have hexec := exec_updateCheckDone_of_update hupdate hup items
    rw [if_neg (fun h => by
      obtain ⟨hhost, hbar⟩ := (Bool.and_eq_true _ _).mp h
      obtain ⟨hdma, hplan⟩ := hready hhost
      simp [hdma, hplan] at hbar), if_neg (by simp only [harrived]; decide)] at hexec
    have hended := s.updateEnded_eq l.fromHost
  · rw [if_pos heq, State.prospectiveAlias_updateEnded] at hexec
    obtain ⟨hstart, hpending, hkeys, hotp, hmr, hmr15⟩ := (s.updateEnded l.fromHost).pendUpdate_leaves (s.prospectiveAlias l.manifest.items)
    refine ⟨_, hexec, ?_, ?_, hpending, ?_, ?_, fun k hk => ?_, fun hnone hlen => ?_⟩
    · rw [hstart, hended]
    · rw [hstart]
    · rw [hkeys, hended]
    · rw [hotp, hended]
    · rw [hmr k hk, hended]
      rfl
    · rw [hended] at hmr15 ⊢
      exact hmr15 hnone hlen
  · rw [if_neg hne] at hexec
    refine ⟨_, hexec, ?_, rfl, ?_, ?_, ?_, ?_⟩ <;> rw [hended]

end Sys2Proof.Machine
end

section
/-! Keys (05): a re-mask pass, Alias commit, certificate copy, CA staging, the binding epoch and the overlaps. -/

namespace Sys2Proof.Machine

/-! ### The re-mask pass (R121, R122) -/

/-- An entry of a map whose values are rewritten by a function that keeps the default. -/
theorem SMap.get_map {α β : Type} (m : SMap α) (d : α) (e : β) (g : α → β) (hg : g d = e) (i : Nat) :
    SMap.get e (m.map fun x => (x.1, g x.2)) i = g (SMap.get d m i) := by
  induction m with
  | nil => exact hg.symm
  | cons x m ih =>
    rw [List.map_cons, SMap.get_cons, ih, SMap.get_cons]
    split <;> rfl

/-- The same mask on both shares carries the same key. -/
theorem bitVec_xor_remask (a b m : BitVec 512) : (a ^^^ m) ^^^ (b ^^^ m) = a ^^^ b := by
  rw [BitVec.xor_comm b m, ← BitVec.xor_assoc, BitVec.xor_assoc a m m, BitVec.xor_self, BitVec.xor_zero]

theorem MaskedKey.key_remask (e : MaskedKey) (m : BitVec 512) : (e.remask m).key = e.key := by
  rw [MaskedKey.key, MaskedKey.remask, bitVec_xor_remask, MaskedKey.key]

/-- A re-masked store holds the same keys. -/
theorem State.keyOf_remasked {s t : State} (m : BitVec 512)
    (h : t.keys.store = s.keys.store.map fun e => (e.1, e.2.map fun k => k.remask m)) (n : KeyName) : t.keyOf n = s.keyOf n := by
  unfold State.keyOf State.entryOf
  rw [h, SMap.get_map _ none none _ rfl]
  cases SMap.get none s.keys.store n.index with
  | none => rfl
  | some e => exact e.held.key_remask m

/-! ### Writes of keys -/

theorem State.touch_aliasExists (s : State) (ch : Channel) : (s.touch ch).aliasExists = s.aliasExists := by
  simp only [State.aliasExists, State.touch_keys]

/-- A cut made at once, where an Alias exists, none is being signed and the queue has room. -/
theorem State.cut_of_free {s : State} (ha : s.aliasExists = true) (hs : s.measure.signing = none)
    (hroom : s.measure.checkpoints.length < 16) (cause : Nat) : s.cut cause = s.makeCut cause := by
  rw [State.cut, ha, if_neg (by decide), hs, decide_eq_false (by omega), if_neg (by decide)]

/-- A commit that has begun: the next checkpoint is its own (R125). -/
def State.committing (s : State) : State :=
  { s.keyCommand 0 with
    keys := { (s.keyCommand 0).keys with committing := true }
    measure := { s.measure with commitTransition := true, named := s.ret.lastSigned } }

theorem State.writeAliasCommit_of_pending {s : State} (hp : s.ret.pendingAlias.isSome = true) (hup : s.up = true)
    (ha : s.aliasExists = true) (hs : s.measure.signing = none) (hroom : s.measure.checkpoints.length < 16) :
    ∃ t c, s.writeAliasCommit 0xA5 = some t ∧ t.keys.committing = true ∧ t.keys.lastCommand = 0 ∧ t.measure.signing = some c ∧
      c.cause = 4 ∧ c.time = s.now ∧ c.count = s.measure.sinceCut ∧ t.otp = s.otp ∧ t.start = s.start ∧ t.measure.mrs = s.measure.mrs := by
  have hnot : s.ret.pendingAlias.isNone = false := by
    cases h : s.ret.pendingAlias with
    | none => rw [h] at hp; exact absurd hp (by decide)
    | some _ => rfl
  have hcut : s.committing.cut 4 = s.committing.makeCut 4 := State.cut_of_free (s := s.committing) ha hs hroom 4
  refine ⟨s.committing.makeCut 4, s.committing.cutNow 4, ?_, rfl, rfl, rfl, rfl, rfl, rfl, rfl, rfl, rfl⟩
  rw [State.writeAliasCommit, if_neg (by decide), hnot, if_neg (by decide), hup, if_neg (by decide), ← hcut]
  rfl

theorem State.touch_underCurrentCa (s : State) (ch : Channel) : (s.touch ch).underCurrentCa ch = s.underCurrentCa ch := by
  cases ch with
  | causeway i =>
    simp only [State.underCurrentCa, State.touch_otp, State.touch_session_proj CwSession.anchorSlot fun _ _ _ _ => rfl]
  | bar0 _ | spdm _ => rfl

theorem State.touch_budgets (s : State) (ch : Channel) : (s.touch ch).causeway.budgets = s.causeway.budgets := by
  unfold State.touch
  split
  · cases ch <;> rfl
  · rfl

/-- Settles O8: each accepted write is its own effect on the noted state; a re-mask keeps every key (`State.keyOf_remasked`). -/
theorem keysAnswerWrites : Obligations.KeysAnswerWrites := by
  refine ⟨fun s => ⟨?_, ?_⟩, fun s ch => ⟨?_, ?_, ?_, ?_, ?_⟩⟩
  · intro hearly
    refine congrArg Host.Outcome.next (if_neg fun h => ?_)
    have hdue := of_decide_eq_true h.2
    omega
  · intro hdrbg hdue
    refine ⟨_, congrArg Host.Outcome.next (if_pos ⟨hdrbg, hdue⟩), fun n => State.keyOf_remasked _ rfl n, ?_, rfl⟩
    show (s.keys.wkr.map _).map _ = _
    rw [Option.map_map]
    exact congrArg (Option.map · s.keys.wkr) (funext fun w => bitVec_xor_remask _ _ _)
  · intro hacc hup hpending halias hsigning hroom
    obtain ⟨t, c, hwrite, hcommitting, hlast, hsign, hcause, htime, hcount, hotp, hstart, hmrs⟩ :=
      State.writeAliasCommit_of_pending (s := s.touch ch) (by rw [State.touch_ret]; exact hpending) (by rw [State.touch_up]; exact hup)
        (by rw [State.touch_aliasExists]; exact halias) (by rw [State.touch_measure]; exact hsigning)
        (by rw [State.touch_measure]; exact hroom)
    rw [State.touch_now] at htime
    rw [State.touch_measure] at hcount hmrs
    have hrow := State.odRow_of_accepts s ch 0x2023 5 .hOpCu (fun u => u.writeAliasCommit 0xA5) hacc
    rw [State.writtenBy, hwrite] at hrow
    exact ⟨t, c, congrArg Host.Outcome.next hrow, hcommitting, hlast, hsign, hcause, htime, hcount, hotp.trans (s.touch_otp ch),
      hstart.trans (s.touch_start ch), hmrs⟩
  · intro hacc hnone
    refine (congrArg Host.Outcome.next (State.odRow_of_accepts s ch 0x2023 5 .hOpCu _ hacc)).trans ?_
    rw [State.writtenBy, State.writeAliasCommit, if_neg (by decide), if_pos (by rw [State.touch_ret, hnone]; rfl)]
  · intro cert hacc
    have hrow : exec (.idevidCertCopyWrite ch cert) s = .next (s.writtenBy ch 0x2022 2 fun u => u.writeIdevidCertCopyWrite cert) :=
      congrArg Host.Outcome.next (State.odRow_of_accepts s ch 0x2022 2 .hOpCu _ hacc)
    rw [hrow, State.writtenBy, State.writeIdevidCertCopyWrite]
    refine ⟨fun hlen hsha => ?_, fun hsha => ?_⟩
    · rw [if_pos ⟨hlen, hsha.trans (congrArg Otp.idevidCertDigest (s.touch_otp ch).symm)⟩, State.touch_ret]
      refine ⟨_, rfl, rfl, ?_, ?_⟩
      · exact s.touch_od ch
      · exact s.touch_otp ch
    · rw [if_neg fun h => hsha (h.2.trans (congrArg Otp.idevidCertDigest (s.touch_otp ch)))]
  · intro anchor hacc hlen hfree hunder
    refine ⟨_, congrArg Host.Outcome.next (State.odRow_of_accepts s ch 0x7830 1 .cust _ hacc), ?_⟩
    have hfree' : (s.touch ch).otp.freeSlot.isNone = false := by
      rw [State.touch_otp]
      cases hslot : s.otp.freeSlot with
      | none => rw [hslot] at hfree; exact absurd hfree (by decide)
      | some _ => rfl
    rw [State.writtenBy, State.writeCaStage, if_neg (by simp [hlen]), hfree', if_neg (by decide), State.touch_underCurrentCa, hunder,
      if_neg (by decide)]
    refine ⟨?_, rfl, ?_, ?_⟩
    · simp only [State.keyCommand, State.keyEvent_ret, State.touch_clock]
    · simp only [State.keyCommand, State.keyEvent_otp, State.touch_otp]
    · simp only [State.keyCommand, State.keyEvent_causeway, State.touch_budgets]
  · intro anchor hacc hlen hfull
    refine (congrArg Host.Outcome.next (State.odRow_of_accepts s ch 0x7830 1 .cust _ hacc)).trans ?_
    rw [State.writtenBy, State.writeCaStage, if_neg (by simp [hlen]), if_pos (by rw [State.touch_otp, hfull]; rfl)]

end Sys2Proof.Machine
end

section
/-! The binding epoch and the overlaps that end (05; R129-R134, R517). -/

namespace Sys2Proof.Machine

/-! ### The binding advance (R129, R131) -/

/-- The next step of a sound thermometer makes its count one more. -/
theorem Thermo.count_blow_count (t : Thermo) (h : t.sound = true) (hlt : t.count < 64) : (t.blow t.count).count = t.count + 1 := by
  obtain ⟨c, hc, htaken⟩ := t.exists_taken_eq_of_sound h
  have hcount := t.count_eq_of_taken c hc htaken
  rw [hcount] at hlt ⊢
  refine Thermo.count_eq_of_taken _ (c + 1) hlt fun k => ?_
  rw [t.taken_blow c k hlt, htaken, ← Bool.decide_or]
  exact decide_eq_decide.2 (by omega)

/-- What an advance within an overlap leaves. -/
theorem State.advanceBinding_of_overlap (s : State) (h : s.ret.bindingOverlap ≠ 0) :
    s.advanceBinding.otp = { s.otp with epoch := s.otp.epoch.blow s.otp.epochValue } ∧
      s.advanceBinding.keys.prevBindPub = s.keys.bindPub ∧
      s.advanceBinding.keys.bindPub = bindingPub (bindSeeds (s.keyOf .root) s.otp.serial (s.otp.epochValue + 1)).1
        (bindSeeds (s.keyOf .root) s.otp.serial (s.otp.epochValue + 1)).2 ∧
      s.advanceBinding.ret = { s.ret with bindingAdvancedAt := some s.clock.count } ∧ s.advanceBinding.keys.lastCommand = 0 ∧
      s.advanceBinding.measure = s.measure.extend 15 (keyRecord 5 1 (sha384 s.advanceBinding.keys.bindPub) s.now) := by
  simp only [State.advanceBinding, if_neg h]
  simp [h, State.keyCommand, State.keyEvent, State.loadPort, State.keyOf, State.entryOf, State.now]

theorem State.writeBindingAdvance_of_good {s : State} (hup : s.up = true) (hlt : s.otp.epochValue < 64) :
    s.writeBindingAdvance 0xA5 true true = some s.advanceBinding := by
  rw [State.writeBindingAdvance, if_neg (by decide), hup, if_neg (by decide), if_neg (by omega), if_neg (by decide), if_neg (by decide)]

/-- An advance that cannot be made says why and blows nothing. -/
theorem State.writeBindingAdvance_of_bad {s : State} {a b : Bool} (h : s.up = false ∨ 64 ≤ s.otp.epochValue ∨ a = false ∨ b = false) :
    ∃ code, code ≠ 0 ∧ s.writeBindingAdvance 0xA5 a b = some (s.keyCommand code) := by
  rw [State.writeBindingAdvance, if_neg (by decide)]
  by_cases hup : s.up = false
  · exact ⟨1, by decide, if_pos hup⟩
  rw [if_neg hup]
  by_cases hfull : 64 ≤ s.otp.epochValue
  · exact ⟨4, by decide, if_pos hfull⟩
  rw [if_neg hfull]
  by_cases ha : a = false
  · exact ⟨2, by decide, if_pos ha⟩
  have hb : b = false := ((h.resolve_left hup).resolve_left hfull).resolve_left ha
  exact ⟨3, by decide, by rw [if_neg ha, if_pos hb]⟩

/-! ### Overlaps that end (R131-R134) -/

theorem State.entryOf_dropKey_same (s : State) (n : KeyName) (h : SMap.wf none s.keys.store = true) : (s.dropKey n).entryOf n = none := by
  rw [State.entryOf, State.dropKey_keys, SMap.get_set_same _ _ _ _ h]
  rfl

theorem State.entryOf_dropKey_ne (s : State) {n m : KeyName} (h : m.index ≠ n.index) : (s.dropKey n).entryOf m = s.entryOf m := by
  rw [State.entryOf, State.dropKey_keys, SMap.get_set_ne _ _ _ h, State.entryOf]

/-- A session that the end of the CA overlap takes with it. -/
abbrev CwSession.inOverlap (x : CwSession) (active : Nat) : Prop := x.phase ≠ 0 ∧ x.anchorSlot < active

/-- One session under the slot in overlap ends; a Causeway with no delivery under way changes in that session and its budgets only. -/
def State.endOverlapped (active : Nat) (s : State) (i : Nat) : State :=
  if (s.causeway.session i).phase ≠ 0 ∧ (s.causeway.session i).anchorSlot < active then s.endCauseway i else s

theorem State.endCauseway_of_no_delivery {s : State} (h : s.causeway.fw = none) (i : Nat) :
    s.endCauseway i = { s with
      causeway := { s.causeway with
        sessions := modifyAt s.causeway.sessions i fun _ => {}
        budgets := s.causeway.budgets.map (Budget.orphan i) }
      od := s.od.closeTransfer (5 + i) } := by
  rw [State.endCauseway]
  dsimp only
  rw [h]

/-- A session that has a phase is one of the list. -/
theorem Causeway.lt_of_phase {c : Causeway} {i : Nat} (h : (c.session i).phase ≠ 0) : i < c.sessions.length := by
  by_contra hout
  refine h ?_
  rw [Causeway.session, List.getD_eq_default _ _ (by omega)]

theorem State.session_endOverlapped {s : State} (h : s.causeway.fw = none) (active i k : Nat) :
    ((s.endOverlapped active i).causeway.session k =
        if k = i ∧ (s.causeway.session k).inOverlap active then {} else s.causeway.session k) ∧
      (s.endOverlapped active i).causeway.fw = none ∧ (s.endOverlapped active i).ret = s.ret ∧ (s.endOverlapped active i).otp = s.otp := by
  unfold State.endOverlapped
  split
  · next hin =>
    rw [State.endCauseway_of_no_delivery h]
    refine ⟨?_, h, rfl, rfl⟩
    by_cases hk : k = i
    · subst hk
      rw [if_pos ⟨rfl, hin⟩]
      exact getD_modifyAt_same _ _ _ _ (Causeway.lt_of_phase hin.1)
    · rw [if_neg fun h => hk h.1]
      exact getD_modifyAt_ne _ _ _ hk
  · next hout =>
    refine ⟨(if_neg ?_).symm, h, rfl, rfl⟩
    rintro ⟨rfl, hin⟩
    exact hout hin

/-- The sessions under the slot in overlap end, the others stand. -/
theorem State.session_foldl_endOverlapped (active : Nat) (is : List Nat) (k : Nat) {s : State} (h : s.causeway.fw = none) :
    (is.foldl (State.endOverlapped active) s).causeway.session k =
        (if k ∈ is ∧ (s.causeway.session k).inOverlap active then {} else s.causeway.session k) ∧
      (is.foldl (State.endOverlapped active) s).ret = s.ret ∧ (is.foldl (State.endOverlapped active) s).otp = s.otp := by
  induction is generalizing s with
  | nil => exact ⟨(if_neg fun h => absurd h.1 List.not_mem_nil).symm, rfl, rfl⟩
  | cons i is ih =>
    obtain ⟨hsession, hfw, hret, hotp⟩ := State.session_endOverlapped h active i k
    obtain ⟨hrest, hret', hotp'⟩ := ih hfw
    refine ⟨hrest.trans ?_, hret'.trans hret, hotp'.trans hotp⟩
    by_cases hends : k = i ∧ (s.causeway.session k).inOverlap active
    · rw [hsession, if_pos hends, ite_self, if_pos ⟨List.mem_cons.2 (.inl hends.1), hends.2⟩]
    · rw [hsession, if_neg hends]
      exact if_congr (by rw [List.mem_cons]; tauto) rfl rfl

/-! ### The obligation -/

/-- Settles O9: an advance blows the next step of a sound thermometer (`Thermo.count_blow_count`), and each overlap ends by its row. -/
theorem bindingAdvancesAndOverlapsEnd : Obligations.BindingAdvancesAndOverlapsEnd := by
  refine ⟨fun s ch hacc hsound => ⟨?_, ?_⟩, fun s => ⟨?_, ?_, ?_⟩⟩
  · intro hup hlt hoverlap
    obtain ⟨hotp, hprev, hpub, hret, hlast, hmeasure⟩ := (s.touch ch).advanceBinding_of_overlap (by rw [State.touch_ret]; exact hoverlap)
    have hrow := State.odRow_of_accepts s ch 0x2024 5 .cust (fun u => u.writeBindingAdvance 0xA5 true true) hacc
    rw [State.writtenBy, State.writeBindingAdvance_of_good ((s.touch_up ch).trans hup) (by rw [State.touch_otp]; exact hlt)] at hrow
    have hkey : (s.touch ch).keyOf .root = s.keyOf .root := by rw [State.keyOf, State.entryOf, State.touch_keys]; rfl
    rw [State.touch_otp] at hotp
    rw [State.touch_keys] at hprev
    rw [State.touch_otp, hkey] at hpub
    rw [State.touch_ret, State.touch_clock] at hret
    rw [State.touch_measure, State.touch_now] at hmeasure
    refine ⟨_, congrArg Host.Outcome.next hrow, ?_, ?_, hprev, hpub, hret, hlast, fun k hk => ?_, fun hlen => ?_⟩
    · rw [hotp]
      exact Thermo.count_blow_count _ hsound hlt
    · rw [hotp]
    · rw [State.mr, hmeasure]
      exact s.extendMr_mr_ne 15 k _ hk
    · rw [State.mr, hmeasure]
      exact s.extendMr_mr_same 15 _ hlen
  · intro a b hbad
    obtain ⟨code, hcode, hwrite⟩ := State.writeBindingAdvance_of_bad (s := s.touch ch) (a := a) (b := b)
      (by rw [State.touch_up, State.touch_otp]; exact hbad)
    have hrow := State.odRow_of_accepts s ch 0x2024 5 .cust (fun u => u.writeBindingAdvance 0xA5 a b) hacc
    rw [State.writtenBy, hwrite] at hrow
    exact ⟨code, hcode, congrArg Host.Outcome.next hrow⟩
  · intro hadvanced hover hwf
    refine ⟨_, congrArg Host.Outcome.next (if_pos ⟨hadvanced, hover⟩), ?_⟩
    simp only [State.keyEvent_ret, State.keyEvent_keys, State.keyEvent_otp, State.keyOf, State.entryOf]
    have hwf' : SMap.wf none (SMap.set none s.keys.store 10 none) = true := SMap.wf_set none _ 10 none hwf
    refine ⟨rfl, trivial, ?_, ?_, rfl, rfl⟩
    · show ((SMap.get none (SMap.set none (SMap.set none s.keys.store 10 none) 11 none) 10).map _ |>.map _).getD [] = []
      rw [SMap.get_set_ne _ _ _ (by decide), SMap.get_set_same _ _ _ _ hwf]
      rfl
    · show ((SMap.get none (SMap.set none (SMap.set none s.keys.store 10 none) 11 none) 11).map _ |>.map _).getD [] = []
      rw [SMap.get_set_same _ _ _ _ hwf']
      rfl
  · intro a stagedAt hstaged hdue
    have hexec : exec .caStageLapse s = .next
        ((({ s with ret := { s.ret with stagedCa := none } } : State).keyEvent 9 2 (sha384 (beBytes 96 a.toNat))).keyCommand 6) := by
      rw [show exec .caStageLapse s = execCaStageLapse s from rfl, execCaStageLapse, hstaged]
      dsimp only
      exact congrArg Host.Outcome.next (if_pos hdue)
    refine ⟨_, hexec, ?_⟩
    simp [State.keyCommand]
  · intro hclosed hover hfw
    refine ⟨_, congrArg Host.Outcome.next (if_pos ⟨hclosed, hover⟩), ?_⟩
    have hfold (k : Nat) := State.session_foldl_endOverlapped s.otp.activeSlot (List.range 8) k
      (s := { s with ret := { s.ret with caClosedAt := none } }) hfw
    refine ⟨(hfold 0).2.1, (hfold 0).2.2, fun i hi => ⟨fun hactive => ?_, fun hphase hslot => ?_⟩⟩
    · exact (hfold i).1.trans (if_neg fun h => absurd h.2.2 (by simpa using hactive))
    · have hgone := (hfold i).1.trans (if_pos ⟨List.mem_range.2 hi, hphase, hslot⟩)
      exact ⟨congrArg CwSession.phase hgone, congrArg CwSession.keyIn hgone, congrArg CwSession.keyOut hgone⟩

end Sys2Proof.Machine
end

section
/-! The issue of a step (09; R248, R251-R253): a step that issues alone on its core. -/

namespace Sys2Proof.Machine

/-! ### Issue -/

section
variable {s : State} {core : Nat} {st : CoreStep} {row : CoreStep → Bool}

/-- The step before the sequencer issues when it is the row's. -/
theorem State.issueStep_of_issues (h : s.issuesStep core st) (hrow : row st = true) :
    s.issueStep core row = (s.countIdle core).applyFx core
      (CoreFx.settle core { core := { (s.fabric.core core).issue st with lastIssue := s.clock.count } }) := by
  obtain ⟨hissues, hat, hmay, hslot⟩ := h
  rw [State.issueStep, if_pos hissues, hat]
  dsimp only
  rw [hrow, hmay, Bool.and_self, if_pos rfl, State.runStep]
  exact if_neg (by rw [hslot]; decide)

theorem State.applyFx_of_no_fault (s : State) (core : Nat) {x : CoreFx} (h : x.fault = none) :
    s.applyFx core x =
      { s with fabric := s.fabric.applyFx core { x with core := { x.core with lastProgress := s.clock.count } } } := by
  rw [State.applyFx, h]

/-- What an operation that stands alone in its core's queue leaves when what can run, runs. -/
theorem CoreFx.settle_singleton {x y : CoreFx} {o : Issued} {left : Option Issued} (hops : x.core.ops = [o]) (hfault : x.fault = none)
    (hadvance : x.advance core o = (y, left)) : x.settle core = y.modCore fun c => { c with ops := left.toList } := by
  have hfree : x.core.blocked [] o = false := rfl
  rw [CoreFx.settle, hops, CoreFx.settleFrom, hfault, hfree, Option.isSome_none, Bool.or_self, if_neg Bool.false_ne_true, hadvance]
  rfl

/-- The core in which a step that issues alone stands in the queue. -/
def Core.alone (c : Core) (st : CoreStep) (now : Nat) : Core :=
  { c with seq := c.seq + 1, ops := [⟨st, c.seq, 0, []⟩], lastIssue := now }

/-- A step that queues, issued alone: only its core changes, to what the operation leaves of it. -/
theorem State.issueStep_alone (h : s.issuesAlone core st) (hrow : row st = true)
    (hqueues : ∀ c : Core, c.issue st = { c with seq := c.seq + 1, ops := c.ops ++ [⟨st, c.seq, 0, []⟩] }) {y : CoreFx}
    {left : Option Issued}
    (hadvance : CoreFx.advance { core := (s.fabric.core core).alone st s.clock.count } core ⟨st, (s.fabric.core core).seq, 0, []⟩ =
      (y, left)) (hfault : y.fault = none) (hseq : y.core.seq = (s.fabric.core core).seq + 1) :
    s.onlyCore (s.issueStep core row) core ∧
      (s.issueStep core row).fabric.core core = { y.core with ops := left.toList, lastProgress := s.clock.count } := by
  obtain ⟨hissues, hidle⟩ := h
  have hfx : (CoreFx.settle core { core := { (s.fabric.core core).issue st with lastIssue := s.clock.count } }) =
      y.modCore fun c => { c with ops := left.toList } := by
    rw [hqueues, hidle]
    exact CoreFx.settle_singleton rfl rfl hadvance
  have hne : ({ y.core with ops := left.toList, lastProgress := s.clock.count } : Core) ≠ {} := by
    intro heq
    exact absurd (hseq.symm.trans (congrArg Core.seq heq :)) (Nat.succ_ne_zero _)
  have hstate : s.issueStep core row = { s with fabric :=
      ((s.countIdle core).fabric.applyFx core
        { y with core := { y.core with ops := left.toList, lastProgress := s.clock.count } }) } := by
    rw [State.issueStep_of_issues hissues hrow, hfx]
    exact (s.countIdle core).applyFx_of_no_fault core (x := y.modCore fun c => { c with ops := left.toList }) hfault
  rw [hstate]
  exact ⟨⟨fun _ hk => (s.countIdle core).fabric.core_setCore_ne _ hk, rfl⟩, (s.countIdle core).fabric.core_setCore_same _ core (.inr hne)⟩

/-- An operation that waits for its own start stays in the queue. -/
theorem State.issueStep_waiting (h : s.issuesAlone core st) (hrow : row st = true)
    (hqueues : ∀ c : Core, c.issue st = { c with seq := c.seq + 1, ops := c.ops ++ [⟨st, c.seq, 0, []⟩] })
    (hwaits : ∀ (x : CoreFx) (i : Nat), x.advance core ⟨st, i, 0, []⟩ = (x, some ⟨st, i, 0, []⟩)) :
    s.onlyCore (s.issueStep core row) core ∧ (s.issueStep core row).fabric.core core = { s.fabric.core core with
      seq := (s.fabric.core core).seq + 1, ops := [⟨st, (s.fabric.core core).seq, 0, []⟩], lastProgress := s.clock.count
      lastIssue := s.clock.count } :=
  State.issueStep_alone h hrow hqueues (hwaits _ _) rfl rfl

end

/-! ### The obligation -/

/-- Settles O16: a step that issues is `State.issueStep_of_issues`, and one that queues alone waits in the queue. -/
theorem stepsIssueInOrder : Obligations.StepsIssueInOrder := by
  intro s core
  refine ⟨?nop, ?waitslot, ?fence, ?fin, ?loadw, ?stream, ?opacc, ?drain, ?fault, ?idle⟩
  case nop => exact fun h => congrArg Host.Outcome.next (State.issueStep_of_issues h rfl)
  case waitslot => exact fun sl h => congrArg Host.Outcome.next (State.issueStep_of_issues h rfl)
  case fence => exact fun m h => congrArg Host.Outcome.next (State.issueStep_of_issues h rfl)
  case fin => exact fun h => congrArg Host.Outcome.next (State.issueStep_of_issues h rfl)
  case loadw => exact fun a w sh src h => ⟨_, rfl, State.issueStep_waiting h rfl (fun _ => rfl) fun _ _ => rfl⟩
  case stream =>
    intro f h
    by_cases hslot : f.fromSlot = true
    · obtain ⟨honly, hcore⟩ := State.issueStep_alone h (row := fun st => match st with | .stream _ => true | _ => false) rfl
        (fun _ => rfl) (if_pos hslot) rfl rfl
      refine ⟨_, rfl, honly, hcore.trans ?_⟩
      rw [if_pos hslot, if_pos hslot]
      rfl
    · obtain ⟨honly, hcore⟩ := State.issueStep_alone h (row := fun st => match st with | .stream _ => true | _ => false) rfl
        (fun _ => rfl) (if_neg hslot) rfl rfl
      refine ⟨_, rfl, honly, hcore.trans ?_⟩
      rw [if_neg hslot, if_neg hslot]
      rfl
  case opacc => exact fun a x y p q u h => ⟨_, rfl, State.issueStep_waiting h rfl (fun _ => rfl) fun _ _ => rfl⟩
  case drain => exact fun a d l p h => ⟨_, rfl, State.issueStep_waiting h rfl (fun _ => rfl) fun _ _ => rfl⟩
  case fault =>
    intro hissues hnone
    refine congrArg Host.Outcome.next ?_
    rw [State.issueStep, if_pos hissues, hnone]
  case idle =>
    intro hnot
    exact congrArg Host.Outcome.next (if_neg (by simp [hnot]))

end Sys2Proof.Machine
end

section
/-! Vector steps between registers (09; R222-R224, R231, R233, R256). -/

namespace Sys2Proof.Machine

/-! ### A register written -/

theorem any_eq_any_range {α : Type} (l : List α) (d : α) (p : α → Bool) : l.any p = (List.range l.length).any fun i => p (l.getD i d) := by
  have hl : l = (List.range l.length).map fun i => l.getD i d := by
    refine List.ext_getElem (by simp) fun i h _ => ?_
    rw [List.getElem_map, List.getElem_range, List.getD_eq_getElem _ _ h]
  conv_lhs => rw [hl]
  rw [List.any_map]
  rfl

theorem getD_map_fst (l : List (Int × Bool)) (i : Nat) : (l.map (·.1)).getD i 0 = (l.getD i (0, false)).1 :=
  List.getD_map l (0, false) (fun x : Int × Bool => x.1)

theorem any_range_congr {n : Nat} {p q : Nat → Bool} (h : ∀ i, i < n → p i = q i) : (List.range n).any p = (List.range n).any q := by
  rw [Bool.eq_iff_iff, List.any_eq_true, List.any_eq_true]
  exact exists_congr fun i => and_congr_right fun hi => by rw [h i (List.mem_range.1 hi)]

theorem getD_replicate_self {α : Type} (n i : Nat) (d : α) : (List.replicate n d).getD i d = d := by
  rw [List.getD_eq_getElem?_getD, List.getElem?_replicate]
  split <;> rfl

theorem Core.tookLanes_congr {c d : Core} {vd : Nat} {lane lane' : Nat → Int} {tag tag' : Bool} (h : c.tookLanes d vd lane tag)
    (hlane : ∀ i, i < 128 → lane i = lane' i) (htag : tag = tag') : c.tookLanes d vd lane' tag' := by
  obtain ⟨hlanes, htag', hothers, hlagoon⟩ := h
  exact ⟨fun i hi => (hlanes i hi).trans (hlane i hi), htag'.trans htag, hothers, hlagoon⟩

/-- What a written register leaves of a core. -/
theorem CoreFx.tookLanes_setVreg (x : CoreFx) {d : Nat} (hd : d < x.core.vregs.length) (vals : List (Int × Bool)) (tag : Bool) :
    x.core.tookLanes (x.setVreg d vals tag).core d (fun i => (vals.getD i (0, false)).1) (tag || vals.any (·.2)) := by
  have hreg : (x.setVreg d vals tag).core.vreg d = ⟨vals.map (·.1), tag || vals.any (·.2)⟩ := getD_modifyAt_same _ _ _ _ hd
  refine ⟨fun i _ => ?_, congrArg VReg.tag hreg, fun k hk => getD_modifyAt_ne _ _ _ hk, rfl⟩
  rw [hreg]
  exact getD_map_fst vals i

section
variable {s : State} {core : Nat} {f : VecF}

/-- A vector step, issued alone, that runs without a fault. -/
theorem State.issueStep_vec (h : s.issuesAlone core (.vec f)) {v : Nat} (hv : f.vop = v) {y : CoreFx}
    (hrun : CoreFx.runVec { core := (s.fabric.core core).alone (.vec f) s.clock.count } f (s.fabric.core core).seq = y)
    (hfault : y.fault = none) (hseq : y.core.seq = (s.fabric.core core).seq + 1) :
    s.onlyCore (s.issueStep core (isVop v)) core ∧
      (s.issueStep core (isVop v)).fabric.core core = { y.core with ops := [], lastProgress := s.clock.count } :=
  State.issueStep_alone h (row := isVop v) (by simp [isVop, hv]) (fun _ => rfl) (left := none) (by rw [← hrun]; rfl) hfault hseq

/-- A vector step that writes a register. -/
theorem State.issueStep_lanes (h : s.issuesAlone core (.vec f)) {v : Nat} (hv : f.vop = v) (hd : f.vd < (s.fabric.core core).vregs.length)
    {last : Option Nat} {vals : List (Int × Bool)} {tag tag' : Bool} {lane : Nat → Int}
    (hrun : CoreFx.runVec { core := (s.fabric.core core).alone (.vec f) s.clock.count } f (s.fabric.core core).seq =
      CoreFx.setVreg { core := { (s.fabric.core core).alone (.vec f) s.clock.count with lastLut := last } } f.vd vals tag)
    (hlane : ∀ i, i < 128 → (vals.getD i (0, false)).1 = lane i) (htag : (tag || vals.any (·.2)) = tag') :
    s.onlyCore (s.issueStep core (isVop v)) core ∧ (s.fabric.core core).steppedTo ((s.issueStep core (isVop v)).fabric.core core) ∧
      (s.fabric.core core).tookLanes ((s.issueStep core (isVop v)).fabric.core core) f.vd lane tag' := by
  obtain ⟨honly, hcore⟩ := State.issueStep_vec h hv hrun rfl rfl
  rw [hcore]
  exact ⟨honly, ⟨rfl, rfl, rfl, rfl, rfl, rfl⟩, Core.tookLanes_congr (CoreFx.tookLanes_setVreg
    { core := { (s.fabric.core core).alone (.vec f) s.clock.count with lastLut := last } } hd vals tag) hlane htag⟩

/-- VADD, VSUB, VMUL, VMAX and VMIN (R256). -/
theorem State.issueStep_binary (h : s.issuesAlone core (.vec f)) {v : Nat} (hv : f.vop = v)
    (hd : f.vd < (s.fabric.core core).vregs.length) (op : Int → Int → Int)
    (hrun : CoreFx.runVec { core := (s.fabric.core core).alone (.vec f) s.clock.count } f (s.fabric.core core).seq =
      CoreFx.vbin { core := (s.fabric.core core).alone (.vec f) s.clock.count } f) (hop : ∀ a b, vecArith f.vop a b = op a b) :
    s.onlyCore (s.issueStep core (isVop v)) core ∧ (s.fabric.core core).steppedTo ((s.issueStep core (isVop v)).fabric.core core) ∧
      (s.fabric.core core).tookLanes ((s.issueStep core (isVop v)).fabric.core core) f.vd
        (fun i => (satS 48 (op (((s.fabric.core core).vreg f.va).lanes.getD i 0) (((s.fabric.core core).vreg f.vb).lanes.getD i 0))).1)
        (((s.fabric.core core).vreg f.va).tag || ((s.fabric.core core).vreg f.vb).tag || (List.range 128).any fun i =>
          (satS 48 (op (((s.fabric.core core).vreg f.va).lanes.getD i 0) (((s.fabric.core core).vreg f.vb).lanes.getD i 0))).2) := by
  refine State.issueStep_lanes h hv hd (last := (s.fabric.core core).lastLut) hrun (fun i hi => ?_) ?_
  · rw [getD_map_range _ _ hi, hop]
    rfl
  · rw [List.any_map]
    refine congrArg _ (congrArg (List.any (List.range 128)) (funext fun i => ?_))
    show (satS 48 (vecArith f.vop _ _)).2 = _
    rw [hop]
    rfl

end

/-! ### The obligation -/

/-- Settles O17: each step writes one register (`State.issueStep_lanes`). -/
theorem vectorLanes : Obligations.VectorLanes := by
  intro s core f h hd hlen c a b binary
  have hlanes : a.lanes.length = 128 := hlen
  refine ⟨fun hv => ?_, fun hv => ?_, fun hv => ?_, fun hv => ?_, fun hv => ?_, fun hv => ?_, fun q hv hq => ?_, fun t0 hv ht => ?_⟩
  · exact ⟨_, rfl, State.issueStep_binary h hv hd (· + ·) (by rw [CoreFx.runVec, hv]; rfl) fun _ _ => by rw [hv]; rfl⟩
  · exact ⟨_, rfl, State.issueStep_binary h hv hd (· - ·) (by rw [CoreFx.runVec, hv]; rfl) fun _ _ => by rw [hv]; rfl⟩
  · exact ⟨_, rfl, State.issueStep_binary h hv hd (· * ·) (by rw [CoreFx.runVec, hv]; rfl) fun _ _ => by rw [hv]; rfl⟩
  · exact ⟨_, rfl, State.issueStep_binary h hv hd max (by rw [CoreFx.runVec, hv]; rfl) fun _ _ => by rw [hv]; rfl⟩
  · exact ⟨_, rfl, State.issueStep_binary h hv hd min (by rw [CoreFx.runVec, hv]; rfl) fun _ _ => by rw [hv]; rfl⟩
  · have hsum : (a.lanes.foldl (· + ·) 0) = a.lanes.sum := List.sum_eq_foldl.symm
    refine ⟨_, rfl, State.issueStep_lanes h hv hd (last := c.lastLut)
      (vals := satS 48 (a.lanes.foldl (· + ·) 0) :: List.replicate 127 (0, false)) (tag := a.tag) (by rw [CoreFx.runVec, hv]; rfl)
      (fun i _ => ?_) ?_⟩
    · rw [hsum]
      cases i with
      | zero => rfl
      | succ i =>
        rw [List.getD_cons_succ, getD_replicate_self]
        rfl
    · rw [hsum, List.any_cons]
      simp
  · have hrow : (q.row a.lanes).length = 128 := (List.length_mapIdx).trans hlen
    have hat (i : Nat) (hi : i < 128) : (q.row a.lanes).getD i (0, false) =
        sat q.signed q.w (rhe (a.lanes.getD i 0 * q.m.getD i 0) q.s + q.z.getD i 0) := by
      rw [List.getD_eq_getElem _ _ (by omega), List.getD_eq_getElem a.lanes 0 (by omega)]
      exact List.getElem_mapIdx
    refine ⟨_, rfl, State.issueStep_lanes h hv hd (last := c.lastLut) (vals := q.row a.lanes) (tag := a.tag || q.tag) ?_
      (fun i hi => congrArg Prod.fst (hat i hi)) ?_⟩
    · have hq' : (c.alone (.vec f) s.clock.count).requant f.line 128 = some q := hq
      rw [CoreFx.runVec, hv]
      dsimp only
      rw [hq']
      rfl
    · rw [any_eq_any_range _ (0, false), hrow]
      exact congrArg _ (any_range_congr fun i hi => congrArg Prod.snd (hat i hi))
  · have hat (i : Nat) (hi : i < 128) :
        (a.lanes.map fun v => (t0.1.at (satS 32 v).1, (satS 32 v).2)).getD i (0, false) =
          (t0.1.at (satS 32 (a.lanes.getD i 0)).1, (satS 32 (a.lanes.getD i 0)).2) := by
      rw [List.getD_eq_getElem _ _ (by simpa using lt_of_lt_of_eq hi hlen.symm), List.getD_eq_getElem a.lanes 0 (by omega)]
      exact List.getElem_map _
    refine ⟨_, rfl, State.issueStep_lanes h hv hd (last := some f.line)
      (vals := a.lanes.map fun v => (t0.1.at (satS 32 v).1, (satS 32 v).2)) (tag := a.tag || t0.2) ?_
      (fun i hi => congrArg Prod.fst (hat i hi)) ?_⟩
    · have ht' : (c.alone (.vec f) s.clock.count).lut f.line = some t0 := ht
      rw [CoreFx.runVec, hv]
      dsimp only
      rw [ht']
      rfl
    · rw [any_eq_any_range _ (0, false), List.length_map, hlanes]
      exact congrArg _ (any_range_congr fun i hi => (congrArg Prod.snd (hat i hi) :))

end Sys2Proof.Machine
end

section
/-! Vector steps to and from the Lagoon (09; R224, R225, R236, R245, R247): bits written to lines, and what they read back as. -/

namespace Sys2Proof.Machine

/-! ### Fields by their bits -/

theorem testBit_field (w lo len i : Nat) : (field w lo len).testBit i = (decide (i < len) && w.testBit (lo + i)) := by
  rw [field, Nat.testBit_mod_two_pow, Nat.testBit_shiftRight]

theorem field_congr {v w lo len : Nat} (h : ∀ i, i < len → v.testBit (lo + i) = w.testBit (lo + i)) : field v lo len = field w lo len := by
  refine Nat.eq_of_testBit_eq fun i => ?_
  rw [testBit_field, testBit_field]
  by_cases hi : i < len
  · rw [h i hi]
  · rw [decide_eq_false hi, Bool.false_and, Bool.false_and]

/-! ### Lines as a number -/

theorem Core.linesNat_succ (c : Core) (i n : Nat) : c.linesNat i (n + 1) = 2 ^ 512 * c.linesNat (i + 1) n + (c.line i).data.toNat := by
  rw [Core.linesNat, List.range_succ_eq_map, List.foldr_cons, List.foldr_map, Core.linesNat, Nat.add_comm]
  simp only [Nat.succ_eq_add_one, Nat.add_assoc, Nat.add_comm 1, Nat.add_zero]

/-- A bit of `n` lines is the bit of its line. -/
theorem Core.testBit_linesNat (c : Core) (i : Nat) {n j : Nat} (h : j < 512 * n) :
    (c.linesNat i n).testBit j = (c.line (i + j / 512)).data.toNat.testBit (j % 512) := by
  induction n generalizing i j with
  | zero => exact absurd h (Nat.not_lt_zero j)
  | succ n ih =>
    rw [Core.linesNat_succ, Nat.testBit_two_pow_mul_add _ (BitVec.isLt _)]
    split
    · next hlow => rw [Nat.div_eq_of_lt hlow, Nat.mod_eq_of_lt hlow, Nat.add_zero]
    · next hhigh =>
      rw [ih (i + 1) (by omega), show i + 1 + (j - 512) / 512 = i + j / 512 by omega, show (j - 512) % 512 = j % 512 by omega]

/-! ### Bits written to lines (R245, R247) -/

theorem Line.write_valid (l : Line) (n v : Nat) (tag : Bool) : (l.write n v tag).valid = true := by
  unfold Line.write
  split <;> rfl

/-- A written line is never the default one, so it reads as written. -/
theorem Core.line_modify_write (c : Core) (i k n v : Nat) (tag : Bool) :
    SMap.get {} (SMap.modify {} c.lagoon i fun l => l.write n v tag) k = if i = k then (c.line i).write n v tag else c.line k := by
  have hne : (SMap.get {} c.lagoon i).write n v tag ≠ {} := fun h => absurd ((Line.write_valid ..).symm.trans (congrArg Line.valid h)) (by decide)
  rw [SMap.modify, SMap.set, if_neg hne, SMap.get_insert]
  rfl

/-- The lines written so far of a run that meets no window. -/
theorem Core.writeBits_prefix (c : Core) (i n v : Nat) (tag : Nat → Bool) (m : Nat) (hclear : c.clearOf i m) :
    let r := ((List.range m).foldl (fun acc k =>
      let r := acc.1.writeLine (i + k) (n - 512 * k) (field v (512 * k) 512) (tag k)
      (r.1, acc.2 + r.2)) (c, 0)).1
    r = { c with lagoon := r.lagoon } ∧
      ∀ k, r.line k = if i ≤ k ∧ k < i + m then (c.line k).write (n - 512 * (k - i)) (field v (512 * (k - i)) 512) (tag (k - i)) else c.line k := by
  induction m with
  | zero => exact ⟨rfl, fun k => (if_neg (by omega)).symm⟩
  | succ m ih =>
    obtain ⟨hframe, hlines⟩ := ih fun k hlo hhi => hclear k hlo (by omega)
    rw [List.range_succ, List.foldl_append]
    generalize (List.range m).foldl (fun acc k =>
      let r := acc.1.writeLine (i + k) (n - 512 * k) (field v (512 * k) 512) (tag k)
      (r.1, acc.2 + r.2)) (c, 0) = r at hframe hlines
    obtain ⟨d, refused⟩ := r
    dsimp only [List.foldl_cons, List.foldl_nil] at hframe hlines ⊢
    have hopen : d.inWindow (i + m) = false := by
      rw [hframe]
      exact hclear (i + m) (by omega) (by omega)
    rw [Core.writeLine, hopen, if_neg Bool.false_ne_true]
    refine ⟨by rw [hframe], fun k => ?_⟩
    refine (d.line_modify_write (i + m) k _ _ _).trans ?_
    rw [hlines, hlines]
    by_cases hk : i + m = k
    · subst hk
      rw [if_pos rfl, if_neg (by omega), if_pos (by omega), Nat.add_sub_cancel_left]
    · rw [if_neg hk]
      exact if_congr (by omega) rfl rfl

/-- Bits written over lines that no window holds: nothing but those lines changes. -/
theorem Core.writeBits_clear (c : Core) (i n v : Nat) (tag : Nat → Bool) (hclear : c.clearOf i ((n + 511) / 512)) :
    (c.writeBits i n v tag).1 = { c with lagoon := (c.writeBits i n v tag).1.lagoon } ∧
      c.sameOutside (c.writeBits i n v tag).1 i ((n + 511) / 512) ∧
      ∀ k, k < (n + 511) / 512 →
        (c.writeBits i n v tag).1.line (i + k) = (c.line (i + k)).write (n - 512 * k) (field v (512 * k) 512) (tag k) := by
  obtain ⟨hframe, hlines⟩ := c.writeBits_prefix i n v tag _ hclear
  refine ⟨hframe, fun k hk => (hlines k).trans (if_neg (by omega)), fun k hk => (hlines (i + k)).trans ?_⟩
  rw [if_pos (by omega), Nat.add_sub_cancel_left]

/-- The low bits of a written line. -/
theorem Line.testBit_write (l : Line) {n v : Nat} (tag : Bool) {j : Nat} (hn : j < n) (hj : j < 512) :
    (l.write n v tag).data.toNat.testBit j = v.testBit j := by
  unfold Line.write
  split
  · rw [BitVec.toNat_ofNat, Nat.testBit_mod_two_pow, decide_eq_true hj, Bool.true_and]
  · rw [BitVec.toNat_ofNat, Nat.testBit_mod_two_pow, decide_eq_true hj, Bool.true_and, Nat.add_comm, Nat.mul_comm,
      Nat.testBit_two_pow_mul_add _ (Nat.mod_lt _ (Nat.two_pow_pos n)), if_pos hn, Nat.testBit_mod_two_pow, decide_eq_true hn,
      Bool.true_and]

/-- Every bit written reads back. -/
theorem Core.testBit_linesNat_writeBits (c : Core) (i v : Nat) (tag : Nat → Bool) {n j : Nat} (hclear : c.clearOf i ((n + 511) / 512))
    (hj : j < n) : ((c.writeBits i n v tag).1.linesNat i ((n + 511) / 512)).testBit j = v.testBit j := by
  obtain ⟨-, -, hlines⟩ := c.writeBits_clear i n v tag hclear
  rw [Core.testBit_linesNat _ _ (by omega), hlines _ (by omega), Line.testBit_write _ _ (by omega) (Nat.mod_lt _ (by decide)), testBit_field,
    decide_eq_true (Nat.mod_lt _ (by decide)), Bool.true_and, Nat.div_add_mod]

theorem Core.field_linesNat_writeBits (c : Core) (i v : Nat) (tag : Nat → Bool) {n lo len : Nat} (hclear : c.clearOf i ((n + 511) / 512))
    (h : lo + len ≤ n) : field ((c.writeBits i n v tag).1.linesNat i ((n + 511) / 512)) lo len = field v lo len :=
  field_congr fun _ hi => c.testBit_linesNat_writeBits i v tag hclear (by omega)

/-! ### Values packed side by side -/

theorem field_pack (w : Nat) (l : List Int) {k : Nat} (hk : k < l.length) : field (pack w l) (k * w) w = twos w (l.getD k 0) := by
  induction l generalizing k with
  | nil => exact absurd hk (Nat.not_lt_zero k)
  | cons v l ih =>
    rw [pack, List.foldr_cons, ← pack]
    cases k with
    | zero => rw [Nat.zero_mul, field_add_two_pow_mul_low (by omega), field_of_lt (twos_lt w v), List.getD_cons_zero]
    | succ k =>
      rw [Nat.succ_mul, Nat.add_comm (k * w), field_add_two_pow_mul_high (twos_lt w v), List.getD_cons_succ]
      exact ih (Nat.lt_of_succ_lt_succ hk)

theorem field_field (w lo : Nat) {len n : Nat} (h : n ≤ len) : field (field w lo len) 0 n = field w lo n := by
  refine Nat.eq_of_testBit_eq fun i => ?_
  rw [testBit_field, testBit_field, testBit_field, Nat.zero_add]
  by_cases hi : i < n
  · rw [decide_eq_true (Nat.lt_of_lt_of_le hi h), Bool.true_and]
  · rw [decide_eq_false hi, Bool.false_and, Bool.false_and]

/-- The low bits of a code are the code of fewer bits. -/
theorem field_twos {w n : Nat} (v : Int) (h : n ≤ w) : field (twos w v) 0 n = twos n v := by
  have hw : (0 : Int) < 2 ^ w := by positivity
  have hn : (0 : Int) < 2 ^ n := by positivity
  refine Int.ofNat.inj ?_
  show ((twos w v % 2 ^ n : Nat) : Int) = (twos n v : Nat)
  rw [twos, twos, Int.toNat_of_nonneg (Int.emod_nonneg v hn.ne')]
  push_cast
  rw [Int.toNat_of_nonneg (Int.emod_nonneg v hw.ne'), Int.emod_emod_of_dvd _ (pow_dvd_pow 2 h)]

/-- A 48-bit lane of a RAW row. -/
theorem field_rawNat (l : List Int) {k : Nat} (hk : k < l.length) : field (rawNat l) (64 * k) 48 = twos 48 (l.getD k 0) := by
  rw [← field_field _ _ (show 48 ≤ 64 by omega), Nat.mul_comm, rawNat, field_pack 64 l hk, field_twos _ (by omega)]

/-- A value within the range of `w` bits is what its code reads as. -/
def fitsIn (isSigned : Bool) (w : Nat) (v : Int) : Prop := if isSigned then -2 ^ (w - 1) ≤ v ∧ v < 2 ^ (w - 1) else 0 ≤ v ∧ v < 2 ^ w

theorem fitsIn_sat (isSigned : Bool) (w : Nat) (v : Int) : fitsIn isSigned w (sat isSigned w v).1 := by
  cases isSigned with
  | true => exact satS_mem v
  | false =>
    have hpos : (0 : Int) < 2 ^ w := by positivity
    obtain ⟨hlo, hhi, -⟩ := clampTag_spec (lo := 0) (hi := 2 ^ w - 1) (by omega) v
    rw [fitsIn, if_neg Bool.false_ne_true, sat, if_neg Bool.false_ne_true, satU_eq_clampTag]
    exact ⟨hlo, by omega⟩

theorem fitsIn_zero (w : Nat) : fitsIn true w 0 := by
  have hpos : (0 : Int) < 2 ^ (w - 1) := by positivity
  exact ⟨by omega, hpos⟩

theorem signed_twos_of_unsaturated {w : Nat} {v : Int} (hw : 1 ≤ w) (h : (satS w v).2 = false) : signed w (twos w v) = v := by
  have hpos : (0 : Int) < 2 ^ (w - 1) := by positivity
  obtain ⟨-, -, hsame, -⟩ := clampTag_spec (lo := -(2 ^ (w - 1))) (hi := 2 ^ (w - 1) - 1) (by omega) v
  rw [← satS_eq_clampTag] at hsame
  obtain ⟨hlo, hhi⟩ := satS_mem (w := w) v
  rw [hsame.1 h] at hlo hhi
  exact signed_twos hw hlo hhi

theorem packedAt_of_field {W i w : Nat} {isSigned : Bool} {v : Int} (hw : 1 ≤ w) (hfield : field W (i * w) w = twos w v)
    (hfit : fitsIn isSigned w v) : packedAt W i w isSigned = v := by
  rw [packedAt, hfield]
  cases isSigned with
  | true => exact signed_twos hw hfit.1 hfit.2
  | false =>
    obtain ⟨hlo, hhi⟩ := hfit
    rw [if_neg Bool.false_ne_true, twos, Int.emod_eq_of_lt hlo hhi, Int.toNat_of_nonneg hlo]

/-- A packed list, written over lines that no window holds, reads back. -/
theorem Core.packedAt_linesNat_writeBits (c : Core) (line : Nat) (tag : Nat → Bool) {l : List Int} {w i : Nat} {isSigned : Bool}
    (hw : 1 ≤ w) (hclear : c.clearOf line ((l.length * w + 511) / 512)) (hi : i < l.length) (hfit : fitsIn isSigned w (l.getD i 0)) :
    packedAt ((c.writeBits line (l.length * w) (pack w l) tag).1.linesNat line ((l.length * w + 511) / 512)) i w isSigned = l.getD i 0 := by
  refine packedAt_of_field hw ?_ hfit
  rw [c.field_linesNat_writeBits line _ tag hclear, field_pack w l hi]
  rw [← Nat.succ_mul]
  exact Nat.mul_le_mul_right w hi

/-! ### The softmax (R236) -/

theorem softmax_length (z : List Int) (e r : LutTable) : (softmax z e r).1.length = z.length := by
  unfold softmax
  split
  · rfl
  · dsimp only
    split
    · exact List.length_map _
    · simp

/-- Every value that a saturation of a list leaves is in range. -/
theorem fitsIn_of_mem_map_sat (w : Nat) (l : List Int) (g : Int → Int) : ∀ x ∈ (l.map fun v => satS w (g v)).map (·.1), fitsIn true w x := by
  intro x hx
  obtain ⟨y, hy, rfl⟩ := List.mem_map.1 hx
  obtain ⟨_, -, rfl⟩ := List.mem_map.1 hy
  exact fitsIn_sat true w _

theorem softmax_fits (z : List Int) (e r : LutTable) : ∀ x ∈ (softmax z e r).1, fitsIn true 32 x := by
  cases z with
  | nil => exact fun x hx => absurd hx List.not_mem_nil
  | cons z0 zs =>
    rw [softmax]
    extract_lets _ _ _
    split
    · intro x hx
      obtain ⟨_, -, rfl⟩ := List.mem_map.1 hx
      exact fitsIn_zero 32
    · exact fitsIn_of_mem_map_sat 32 _ _

/-! ### Steps that write the Lagoon -/

section
variable {s : State} {core : Nat} {f : VecF}

/-- A vector step that writes lines clear of the windows. -/
theorem State.issueStep_store (h : s.issuesAlone core (.vec f)) {v : Nat} (hv : f.vop = v) {line n x : Nat} {tag : Nat → Bool}
    {sats refused : Nat} (hclear : (s.fabric.core core).clearOf line ((n + 511) / 512))
    (hrun : CoreFx.runVec { core := (s.fabric.core core).alone (.vec f) s.clock.count } f (s.fabric.core core).seq =
      { core := (((s.fabric.core core).alone (.vec f) s.clock.count).writeBits line n x tag).1, sats := sats, refused := refused }) :
    s.onlyCore (s.issueStep core (isVop v)) core ∧ (s.fabric.core core).steppedTo ((s.issueStep core (isVop v)).fabric.core core) ∧
      ((s.issueStep core (isVop v)).fabric.core core).vregs = (s.fabric.core core).vregs ∧
      ((s.issueStep core (isVop v)).fabric.core core).lagoon =
        (((s.fabric.core core).alone (.vec f) s.clock.count).writeBits line n x tag).1.lagoon ∧
      (s.fabric.core core).sameOutside ((s.issueStep core (isVop v)).fabric.core core) line ((n + 511) / 512) := by
  obtain ⟨hframe, houtside, -⟩ := ((s.fabric.core core).alone (.vec f) s.clock.count).writeBits_clear line n x tag hclear
  obtain ⟨honly, hcore⟩ := State.issueStep_vec h hv hrun rfl (congrArg Core.seq hframe)
  rw [hcore]
  exact ⟨honly, ⟨(congrArg Core.seq hframe :), rfl, (congrArg Core.issuing hframe :), (congrArg Core.arrays hframe :),
    (congrArg Core.slots hframe :), (congrArg Core.recvBuf hframe :)⟩, (congrArg Core.vregs hframe :), rfl, houtside⟩

theorem Core.line_congr {c d : Core} (h : c.lagoon = d.lagoon) (k : Nat) : c.line k = d.line k := by rw [Core.line, h, Core.line]

theorem Core.linesNat_congr {c d : Core} (h : c.lagoon = d.lagoon) (i n : Nat) : c.linesNat i n = d.linesNat i n := by
  simp only [Core.linesNat, Core.line, h]

end

/-! ### The obligation -/

/-- Settles O18: a load takes the lines into a register, and what a store writes reads back (`Core.packedAt_linesNat_writeBits`). -/
theorem vectorMemory : Obligations.VectorMemory := by
  intro s core f h c
  refine ⟨?vld, ?vld48, ?vst, ?vst48, ?vsmax⟩
  case vld =>
    intro hv hd
    refine ⟨_, rfl, State.issueStep_lanes h hv hd (last := c.lastLut)
      (vals := (List.range 128).map fun i => (packedAt (c.linesNat f.line (packedLines 128 f.w)) i f.w f.signed, false))
      (tag := c.linesTag f.line (packedLines 128 f.w)) (by rw [CoreFx.runVec, hv]; rfl) (fun i hi => ?_) ?_⟩
    · rw [getD_map_range _ _ hi]
    · simp
  case vld48 =>
    intro hv hd
    refine ⟨_, rfl, State.issueStep_lanes h hv hd (last := c.lastLut)
      (vals := (List.range 128).map fun i => (signed 48 (field (c.linesNat f.line 16) (64 * i) 48), false))
      (tag := c.linesTag f.line 16) (by rw [CoreFx.runVec, hv]; rfl) (fun i hi => ?_) ?_⟩
    · rw [getD_map_range _ _ hi]
    · simp
  case vst =>
    intro hv hw _ hlen hclear
    have hvals : (((c.vreg f.va).lanes.map fun v => sat f.signed f.w v).map (·.1)).length = 128 := by simp [hlen]
    have hat (i : Nat) (hi : i < 128) : (((c.vreg f.va).lanes.map fun v => sat f.signed f.w v).map (·.1)).getD i 0 =
        (sat f.signed f.w ((c.vreg f.va).lanes.getD i 0)).1 := by
      rw [List.map_map, List.getD_eq_getElem _ _ (by simp; omega), List.getD_eq_getElem _ _ (by omega), List.getElem_map]
      rfl
    obtain ⟨honly, hstepped, hregs, hlagoon, houtside⟩ := State.issueStep_store h hv (line := f.line) (n := 128 * f.w) hclear
      (by rw [CoreFx.runVec, hv]; rfl)
    refine ⟨_, rfl, honly, hstepped, hregs, fun i hi => ?_, houtside⟩
    have hread := (c.alone (.vec f) s.clock.count).packedAt_linesNat_writeBits f.line
      (fun k => (c.vreg f.va).tag || (List.range 128).any fun i => decide (i * f.w < 512 * (k + 1)) && decide (512 * k < (i + 1) * f.w) &&
        (((c.vreg f.va).lanes.map fun v => sat f.signed f.w v).getD i (0, false)).2)
      (isSigned := f.signed) hw (by rw [hvals]; exact hclear) (by rw [hvals]; exact hi) (by rw [hat i hi]; exact fitsIn_sat ..)
    rw [hat i hi, hvals] at hread
    rw [← hread]
    exact congrArg (packedAt · i f.w f.signed) (Core.linesNat_congr hlagoon _ _)
  case vst48 =>
    intro hv hlen hfits hclear
    obtain ⟨honly, hstepped, hregs, hlagoon, houtside⟩ := State.issueStep_store h hv (line := f.line) (n := 8192) hclear
      (by rw [CoreFx.runVec, hv]; rfl)
    refine ⟨_, rfl, honly, hstepped, hregs, fun i hi => ?_, fun k hk => ?_, houtside⟩
    · have hfit := hfits _ (List.getElem_mem (lt_of_lt_of_eq hi hlen.symm))
      rw [← List.getD_eq_getElem _ 0] at hfit
      have hread : field ((s.issueStep core (isVop 0x04)).fabric.core core |>.linesNat f.line 16) (64 * i) 48 =
          twos 48 ((c.vreg f.va).lanes.getD i 0) := by
        rw [Core.linesNat_congr hlagoon, ← field_rawNat _ (lt_of_lt_of_eq hi hlen.symm)]
        exact Core.field_linesNat_writeBits _ _ _ _ hclear (by omega)
      rw [hread]
      exact signed_twos_of_unsaturated (by omega) hfit
    · have hline : ((s.issueStep core (isVop 0x04)).fabric.core core).line (f.line + k) =
          ((c.alone (.vec f) s.clock.count).writeBits f.line 8192 (rawNat (c.vreg f.va).lanes) fun _ => (c.vreg f.va).tag).1.line (f.line + k) :=
        Core.line_congr hlagoon _
      obtain ⟨-, -, hlines⟩ := (c.alone (.vec f) s.clock.count).writeBits_clear f.line 8192 (rawNat (c.vreg f.va).lanes)
        (fun _ => (c.vreg f.va).tag) hclear
      rw [hline, hlines k hk, Line.write, if_pos (by omega)]
  case vsmax =>
    intro e r hv _ _ he hr hclear
    have he' : (c.alone (.vec f) s.clock.count).lut ((c.alone (.vec f) s.clock.count).softmaxTables f.aux).1 = some e := he
    have hr' : (c.alone (.vec f) s.clock.count).lut ((c.alone (.vec f) s.clock.count).softmaxTables f.aux).2 = some r := hr
    have hrange : (32 * f.n + 511) / 512 = packedLines f.n 32 := by rw [packedLines, Nat.mul_comm]
    obtain ⟨honly, hstepped, hregs, hlagoon, houtside⟩ := State.issueStep_store h hv (line := f.line) (n := 32 * f.n)
      (by rw [hrange]; exact hclear) (by rw [CoreFx.runVec, hv]; dsimp only; rw [he', hr']; rfl)
    rw [hrange] at houtside
    refine ⟨_, rfl, honly, hstepped, hregs, fun i hi => ?_, houtside⟩
    have hlength : (softmax ((List.range f.n).map fun j => packedAt (c.linesNat f.line (packedLines f.n 32)) j 32 true) e.1 r.1).1.length =
        f.n := by
      rw [softmax_length, List.length_map, List.length_range]
    have hfit := softmax_fits ((List.range f.n).map fun j => packedAt (c.linesNat f.line (packedLines f.n 32)) j 32 true) e.1 r.1
    rw [Core.linesNat_congr hlagoon]
    change packedAt (((c.alone (.vec f) s.clock.count).writeBits f.line (32 * f.n) (pack 32 (softmax ((List.range f.n).map fun j =>
      packedAt (c.linesNat f.line (packedLines f.n 32)) j 32 true) e.1 r.1).1) _).1.linesNat f.line (packedLines f.n 32)) i 32 true = _
    generalize (softmax ((List.range f.n).map fun j => packedAt (c.linesNat f.line (packedLines f.n 32)) j 32 true) e.1 r.1).1 = out
      at hlength hfit
    rw [packedLines, ← hlength, Nat.mul_comm 32]
    rw [packedLines, ← hlength] at hclear
    refine (c.alone (.vec f) s.clock.count).packedAt_linesNat_writeBits f.line _ (by omega) hclear (by omega) ?_
    rw [List.getD_eq_getElem _ _ (by omega)]
    exact hfit _ (List.getElem_mem _)

end Sys2Proof.Machine
end

section
/-! Two plan faults of a core at one instant (09, Collisions; R263). -/

namespace Sys2Proof.Machine

/-- A die whose core 0 has had a plan fault with code 0x01 at this very instant; nothing runs. -/
def faultedNow : State :=
  { fabric := { dies := modifyAt (List.replicate 12 {}) 0 fun d => { d with lastPlanFault := { code := 1 } } } }

/-- R263 (09, Collisions): the lower code of two faults of one core at one instant stays. -/
theorem faultedNow_keeps_record :
    ((faultedNow.coreFail 0 2 0).fabric.die (dieOf 0)).lastPlanFault = { code := 1 } := by decide +kernel

/-- Refutes O20: its last clause asks that every plan fault but one of code 5 overwrite the die's last-fault record. In `faultedNow` a fault
of code 0x02 meets one of code 0x01 of the same core and the same instant, and the record keeps the lower code, as 09, Collisions has it. -/
theorem not_soundUnitsFlow : ¬ Obligations.SoundUnitsFlow := by
  intro hflow
  obtain ⟨-, hfault⟩ := hflow
  obtain ⟨-, hrecord, -⟩ := hfault faultedNow 0 2 0 rfl (by decide)
  exact absurd (faultedNow_keeps_record.symm.trans hrecord) (by decide)

end Sys2Proof.Machine
end

section
/-! The test access port (R554, R563, R613, R614). -/

namespace Sys2Proof.Machine

theorem State.tapInstr_up {s : State} (h : s.tapUp = true) (f : Tap → Tap) : s.tapInstr f = { s with tap := f s.tap } := if_pos h

theorem State.tapInstr_down {s : State} (h : s.tapUp = false) (f : Tap → Tap) : s.tapInstr f = s := by simp [State.tapInstr, h]

/-- An instruction that the port takes changes nothing but the port. -/
theorem State.tapInstr_onlyTap {s : State} (h : s.tapUp = true) (f : Tap → Tap) :
    s.onlyTap (s.tapInstr f) ∧ (s.tapInstr f).tap = f s.tap := by
  rw [State.tapInstr_up h]
  exact ⟨rfl, rfl⟩

/-- An instruction of the maker's own changes nothing but the port and the count of free values. -/
theorem execTapPrivateInstruction_up {s : State} (h : s.tapUp = true) (c : Byte) :
    ∃ t, exec (.tapPrivateInstruction c) s = .next t ∧ s.onlyTap t ∧ t.tap.instr = .privateInstr c ∧ t.tap.debugReach = s.tapDebug ∧
      t.tap.data = if s.tapDebug then Config.debugRegister s.draws c else 0 := by
  refine ⟨_, rfl, ?_⟩
  rw [State.tapInstr_up h]
  exact ⟨rfl, rfl, rfl, rfl⟩

/-- Settles O56: each instruction is `State.tapInstr` with its own register; one of the maker's own follows `State.tapDebug`. -/
theorem theTapSelects : Obligations.TheTapSelects := by
  intro s
  refine ⟨fun hup => ?_, fun hdown => ?_⟩
  · have htap (f : Tap → Tap) := State.tapInstr_onlyTap hup f
    refine ⟨⟨_, rfl, (htap _).1, ?_⟩, ⟨_, rfl, (htap _).1, ?_⟩, fun b => ⟨_, rfl, (htap _).1, ?_⟩, ⟨_, rfl, (htap _).1, ?_⟩,
      ⟨_, rfl, (htap _).1, ?_⟩, ⟨_, rfl, (htap _).1, ?_⟩, fun c hc => ?_, fun c hc hs => ?_⟩
    iterate 6 rw [(htap _).2]; trivial
    · obtain ⟨t, ht, honly, -, hreach, hdata⟩ := execTapPrivateInstruction_up hup c
      have hdebug : s.tapDebug = false := by simp [State.tapDebug, hc]
      rw [hdebug] at hreach hdata
      exact ⟨t, ht, honly, hreach, hdata⟩
    · obtain ⟨t, ht, honly, hinstr, hreach, -⟩ := execTapPrivateInstruction_up hup c
      have hdebug : s.tapDebug = true := by simp [State.tapDebug, hc, hs]
      exact ⟨t, ht, honly, hreach.trans hdebug, hinstr⟩
  · have hstay (f : Tap → Tap) := congrArg (Host.Outcome.next (φ := Fault) (ρ := Refusal)) (State.tapInstr_down hdown f)
    exact ⟨hstay _, hstay _, hstay _, hstay _, hstay _⟩

end Sys2Proof.Machine
end

section
/-! A staged lifecycle code past KILLED (R555, R556). -/

namespace Sys2Proof.Machine

/-- READY without a session, an Auditor on the first Causeway session, and a staged code 4, which no LIFECYCLE_STAGE accepts. -/
def stagedPastKilled : State :=
  { start := { power := .ready, runtime := true }
    causeway := { sessions := modifyAt (List.replicate 8 {}) 0 fun x => { x with phase := 2, role := .auditor } }
    faults := { lifecycleStaged := some (4, 0) } }

theorem Otp.lifecycleCode_le (o : Otp) : o.lifecycleCode ≤ 3 := Nat.min_le_right _ _

/-- Refutes O55: `Obligations.LifecycleTakesTwo` asks a confirmed code to be the lifecycle read back, over every staged code. In
`stagedPastKilled` the Auditor confirms code 4 with verdict 0, and the lifecycle never reads above 3. -/
theorem not_lifecycleTakesTwo : ¬ Obligations.LifecycleTakesTwo := by
  intro h
  have hclean : cleanStart stagedPastKilled.silicon := by decide
  have hsound : stagedPastKilled.otp.lifecycle.sound = true := by decide
  have haccepts : stagedPastKilled.accepts (.causeway 0) 0x2003 3 .aud := by decide
  obtain ⟨htaken, -⟩ := (h stagedPastKilled (.causeway 0) 4 hclean hsound).2 haccepts
  obtain ⟨-, -, -, t, -, hcode, -⟩ := htaken (by decide)
  have hle := t.otp.lifecycleCode_le
  rw [hcode] at hle
  exact absurd hle (by decide)

end Sys2Proof.Machine
end

section
/-! The end of a lease by lapse or revocation (R584-R589, R495, R165). -/

namespace Sys2Proof.Machine

/-! ### The scheduler leaves the context whose lease ended (R162, R165) -/

/-- A SHORT context with no queue is left as it stands. -/
theorem Engines.schedule_short (v : BnEnv) (n : Nat) (e : Engines) (c : BnCtx) (hq : e.short.queue = []) :
    (e.schedule v n c).short = e.short ∧ (e.schedule v n c).bnLeaseEnds = e.bnLeaseEnds := by
  induction n generalizing e c with
  | zero => exact ⟨rfl, rfl⟩
  | succ n ih =>
    rw [Engines.schedule.eq_def]
    dsimp only
    split
    · exact ⟨rfl, rfl⟩
    · cases c with
      | short =>
        dsimp only
        split
        · exact ih _ _ hq
        · split
          · exact ih _ _ hq
          · rw [if_neg (not_not_intro hq)]
            exact ⟨rfl, rfl⟩
      | long =>
        dsimp only
        rw [if_neg (not_not_intro hq)]
        split
        · exact ih _ _ hq
        · exact ⟨rfl, rfl⟩

/-- A LONG context that has not yielded and has no queue is left as it stands. -/
theorem Engines.schedule_long (v : BnEnv) (n : Nat) (e : Engines) (c : BnCtx) (hq : e.long.queue = []) (hy : e.longYielded = false) :
    (e.schedule v n c).long = e.long ∧ (e.schedule v n c).bnLeaseEnds = e.bnLeaseEnds := by
  induction n generalizing e c with
  | zero => exact ⟨rfl, rfl⟩
  | succ n ih =>
    rw [Engines.schedule.eq_def]
    dsimp only
    split
    · exact ⟨rfl, rfl⟩
    · cases c with
      | short =>
        simp only [hy, hq, Bool.false_eq_true, if_false, ne_eq, not_true_eq_false]
        split
        · exact ih _ _ hq hy
        · exact ⟨rfl, rfl⟩
      | long =>
        simp only [hq, ne_eq, not_true_eq_false, if_false]
        split
        · exact ih _ _ hq hy
        · exact ⟨rfl, rfl⟩

/-- R165: the context of an ended lease is cleared with ERR_LEASE, and its end is counted. -/
theorem Engines.endBnLease_ctx (e : Engines) (c : BnCtx) (v : BnEnv) :
    (e.endBnLease c v).ctx c = BnContext.cleared 0x0E ∧ (e.endBnLease c v).bnLeaseEnds = bump e.bnLeaseEnds := by
  cases c with
  | long =>
    unfold Engines.endBnLease
    simp only [if_true]
    split
    · exact Engines.schedule_long v _ _ .long rfl rfl
    · next hrun => rw [if_neg fun h => hrun h.1]; exact ⟨rfl, rfl⟩
  | short =>
    unfold Engines.endBnLease
    simp only [reduceCtorEq, if_false]
    split
    · exact Engines.schedule_short v _ _ .short rfl
    · split
      · exact Engines.schedule_short v _ _ .long rfl
      · exact ⟨rfl, rfl⟩

/-! ### Lapses -/

section
variable {s : State} {l : Lease}

/-- R584: a lapse of a held lease whose timer runs and is over ends it. -/
theorem execLeaseLapse_over (hheld : s.leaseHeld l = true) (hrun : s.leaseSuspended l = false) (hover : s.leaseOver l = true) :
    exec (.leaseLapse l) s = .next (s.endLease l 1) := by
  show execLeaseLapse l s = _
  simp only [execLeaseLapse, hheld, hrun, hover, Bool.not_false, Bool.and_self, if_true]

theorem execLeaseLapse_early (hover : s.leaseOver l = false) : exec (.leaseLapse l) s = .next s := by
  show execLeaseLapse l s = _
  simp [execLeaseLapse, hover]

theorem execLeaseLapse_free (hheld : s.leaseHeld l = false) : exec (.leaseLapse l) s = .next s := by
  show execLeaseLapse l s = _
  simp [execLeaseLapse, hheld]

theorem execLeaseRevoke_held (hheld : s.leaseHeld l = true) : exec (.leaseRevoke none l) s = .next (s.endLease l 2) := by
  show execLeaseRevoke none l s = _
  simp only [execLeaseRevoke, hheld, if_true]

theorem execLeaseRevoke_free (hheld : s.leaseHeld l = false) : exec (.leaseRevoke none l) s = .next s := by
  show execLeaseRevoke none l s = _
  simp [execLeaseRevoke, hheld]

end

/-- R495: the lock is free, its transfer is closed and the end is counted. -/
theorem State.breakLock_locked {s : State} {ch : Channel} {k : Nat} (hlock : s.od.lock = some (ch, k)) :
    s.breakLock.od.lock = none ∧ s.breakLock.od.lockEnds = bump s.od.lockEnds ∧ (s.breakLock.od.channel ch).opened = none ∧
      s.breakLock = { s with od := s.breakLock.od } := by
  have hbreak : s.breakLock = { s with od := s.breakLock.od } := by
    unfold State.breakLock; split <;> rfl
  refine ⟨?_, ?_, ?_, hbreak⟩
  · simp only [State.breakLock, hlock]
  · simp only [State.breakLock, hlock, Od.closeTransfer, if_true]
  · simp only [State.breakLock, hlock, Od.closeTransfer, if_true, Od.channel]
    by_cases hlt : channelIndex ch < s.od.channels.length
    · rw [getD_modifyAt_same _ _ _ _ (by rwa [modifyAt_length]), getD_modifyAt_same _ _ _ _ hlt]
    · rw [List.getD_eq_default _ _ (by rw [modifyAt_length, modifyAt_length]; exact Nat.not_lt.mp hlt)]

/-- R585, R601: a Custodian's write to the revoke object ends a held regulator lease. -/
theorem execLeaseRevoke_regulator {s : State} {ch : Channel} {i : Fin 13} (hacc : s.accepts ch 0x3060 3 .cust)
    (hheld : s.leaseHeld (.regulator i) = true) :
    exec (.leaseRevoke (some ch) (.regulator i)) s = .next ((s.touch ch).endLease (.regulator i) 2) := by
  have htouch : (s.touch ch).leaseHeld (.regulator i) = true := by
    rw [← hheld, State.leaseHeld, State.leaseHeld, State.touch_power]
  show Host.Outcome.next (s.revokeBy ch (.regulator i)) = _
  simp only [State.revokeBy, revokeObject]
  rw [State.odRow_of_accepts s ch _ _ _ _ hacc, State.writtenBy]
  simp only [htouch, if_true]

/-- Settles O13: a held lease that ends takes `State.endLease`; the big-number scheduler leaves the context it cleared. -/
theorem leasesEnd : Obligations.LeasesEnd := by
  intro s
  refine ⟨fun i hheld hover => ?_, fun i hheld => ?_, fun c hheld hrun hover => ?_, fun ch k hlock hover => ?_, fun hheld hover => ?_,
    fun i hheld hover => ?_, fun ch i hacc hheld => ?_, fun l => execLeaseLapse_early,
    fun l hheld => ⟨execLeaseLapse_free hheld, execLeaseRevoke_free hheld⟩⟩
  · rw [execLeaseLapse_over hheld rfl hover]; rfl
  · rw [execLeaseRevoke_held hheld]; rfl
  · obtain ⟨hctx, hends⟩ := s.engines.endBnLease_ctx c s.bnEnv
    refine ⟨_, execLeaseLapse_over hheld hrun hover, ?_⟩
    simp only [State.endLease, State.fault_engines, State.fault_measure, hctx, hends]
    exact ⟨rfl, rfl, rfl, trivial, trivial⟩
  · obtain ⟨hfree, hends, hopen, honly⟩ := State.breakLock_locked hlock
    exact ⟨_, execLeaseLapse_over (by rw [State.leaseHeld, hlock]; rfl) rfl hover, hfree, hends, hopen, honly⟩
  · rw [execLeaseLapse_over hheld rfl hover]; rfl
  · rw [execLeaseLapse_over hheld rfl hover]; rfl
  · rw [execLeaseRevoke_regulator hacc hheld]
    have hnow : (s.touch ch).now = s.now := by simp only [State.now, State.touch_clock]
    simp only [State.endLease, State.countLease, State.fault, leaseRecord, State.touch_faults, hnow]

end Sys2Proof.Machine
end

section
/-! Core faults, swaps, HBM errors and the record queue (R39-R43, R47, R567-R569, R578, R595-R597). -/

namespace Sys2Proof.Machine

/-! ### Voided and halted streams -/

theorem maskOf_succ (n : Nat) (p : Nat → Bool) : maskOf (n + 1) p = if p n then maskOf n p + 2 ^ n else maskOf n p := by
  rw [maskOf, List.range_succ, List.foldl_append]
  rfl

theorem maskOf_lt (n : Nat) (p : Nat → Bool) : maskOf n p < 2 ^ n := by
  induction n with
  | zero => exact Nat.one_pos
  | succ n ih =>
    rw [maskOf_succ, Nat.pow_succ]
    split <;> omega

theorem testBit_maskOf (n : Nat) (p : Nat → Bool) (k : Nat) : (maskOf n p).testBit k = (decide (k < n) && p k) := by
  induction n with
  | zero => simp [maskOf]
  | succ n ih =>
    have hlt := maskOf_lt n p
    rw [maskOf_succ]
    obtain hk | rfl | hk := Nat.lt_trichotomy k n
    · split
      · rw [Nat.add_comm, Nat.testBit_two_pow_add_gt hk, ih]; simp [hk, Nat.lt_succ_of_lt hk]
      · rw [ih]; simp [hk, Nat.lt_succ_of_lt hk]
    · split
      · next hp => rw [Nat.add_comm, Nat.testBit_two_pow_add_eq, Nat.testBit_lt_two_pow hlt]; simp [hp]
      · next hp => rw [Nat.testBit_lt_two_pow hlt]; simp [hp]
    · have hpow : 2 ^ (n + 1) ≤ 2 ^ k := Nat.pow_le_pow_right (by decide) hk
      have hsum : (if p n then maskOf n p + 2 ^ n else maskOf n p) < 2 ^ (n + 1) := by rw [← maskOf_succ]; exact maskOf_lt _ _
      rw [Nat.testBit_lt_two_pow (hsum.trans_le hpow)]
      simp [Nat.not_lt.mpr (Nat.succ_le_of_lt hk)]

theorem inMask_streamMask (l : List Nat) {st : Nat} (hst : st < 64) : inMask (streamMask l) st = l.contains st := by
  rw [inMask, streamMask, BitVec.getLsbD_ofNat, testBit_maskOf]
  simp [hst]

theorem State.settleReady_fabric (s : State) : s.settleReady.fabric = s.fabric := by
  unfold State.settleReady; split <;> (try split) <;> rfl

theorem State.settleReady_ret (s : State) : s.settleReady.ret = s.ret := by
  unfold State.settleReady; split <;> (try split) <;> rfl

theorem State.foldl_fault {α : Type} (g : State → α → FaultRec) (l : List α) (s : State) :
    ∃ q, l.foldl (fun s a => s.fault (g s a)) s = { s with faults := q } := by
  induction l generalizing s with
  | nil => exact ⟨s.faults, rfl⟩
  | cons a l ih =>
    obtain ⟨q, hq⟩ := ih (s.fault (g s a))
    exact ⟨q, hq⟩

/-- R292: a fallback selected changes the digest and the fault records alone. -/
theorem State.selectFallback_eq (s : State) (die : Option Nat) (l : List Nat) :
    ∃ d q, s.selectFallback die l = { s with fabric := { s.fabric with fallback := d }, faults := q } := by
  unfold State.selectFallback
  split
  · exact ⟨s.fabric.fallback, s.faults, rfl⟩
  · next p hp =>
    obtain ⟨q, hq⟩ := State.foldl_fault _ _ _
    exact ⟨_, q, hq⟩

theorem Fabric.foldl_abandon (l : List Nat) (f : Fabric) :
    ∃ m, l.foldl (fun f i => f.modCore i Core.abandon) f = { f with cores := m } := by
  induction l generalizing f with
  | nil => exact ⟨f.cores, rfl⟩
  | cons i l ih =>
    obtain ⟨m, hm⟩ := ih (f.modCore i Core.abandon)
    exact ⟨m, hm⟩

/-- R568, R569: a voided tide goes on under its number with the streams voided; dies, plan, halts and window stores stand. -/
theorem State.voidStreams_eq (s : State) (l : List Nat) : ∃ f h, s.voidStreams l = { s with fabric := f, host := h } ∧
    f.dies = s.fabric.dies ∧ f.plan = s.fabric.plan ∧ f.halted = s.fabric.halted ∧
    f.windows = s.fabric.windows ∧ ∀ x, s.fabric.tide = some x → f.tide = some { x with voided := x.voided ||| streamMask l } := by
  unfold State.voidStreams
  split
  · next hnone => exact ⟨s.fabric, s.host, rfl, rfl, rfl, rfl, rfl, fun x hx => by rw [hnone] at hx; contradiction⟩
  · next t ht =>
    obtain ⟨cores, hf⟩ := Fabric.foldl_abandon (l.flatMap s.fabric.coresOf) s.fabric
    rw [hf]
    refine ⟨_, _, rfl, rfl, rfl, rfl, rfl, fun x hx => ?_⟩
    cases ht.symm.trans hx
    rfl


/-! ### Physical cores -/

theorem physKey_inj {die p q : Nat} (h : physKey die p = physKey die q) : p = q := by
  unfold physKey at h; omega

/-- A physical core reads the state written to it where that is not its default one. -/
theorem Retained.stateOf_setPhys_same (r : Retained) (die p : Nat) {st : Nat} (h : st ≠ coreStateDefault p) :
    (r.setPhys die p st).stateOf die p = st := by
  rw [Retained.stateOf, Retained.setPhys]
  simp only [SMap.set, if_neg h, SMap.get_insert, if_true]

theorem Retained.stateOf_setPhys_ne (r : Retained) {die p q st : Nat} (h : q ≠ p) :
    (r.setPhys die p st).stateOf die q = r.stateOf die q := by
  have hkey : physKey die q ≠ physKey die p := fun he => h (physKey_inj he)
  rw [Retained.stateOf, Retained.setPhys]
  simp only [SMap.set]
  split
  · exact SMap.get_erase_ne _ _ hkey.symm
  · rw [SMap.get_insert, if_neg hkey.symm]
    rfl

theorem two_ne_coreStateDefault (p : Nat) : 2 ≠ coreStateDefault p := by
  unfold coreStateDefault; split <;> decide

/-! ### A fault of a core -/

/-- A fault of a core not yet due: the tide is voided; with spares for all the index is due, and else the highest one due leaves the
list (R47, R567-R569). -/
theorem execCoreFault_fresh (s : State) (core : Fin 1200) (honline : (s.fabric.die (dieOf core.val)).online = true)
    (hfresh : (s.fabric.die (dieOf core.val)).swaps.contains (core.val % 100) = false) :
    exec (.coreFault core) s = .next (
      let n := dieOf core.val
      let due := (s.fabric.die n).awaiting (core.val % 100)
      let v := s.voidStreams (s.fabric.streamsOfCore core.val)
      if due.length ≤ (v.ret.spares n).length then { v with fabric := v.fabric.modDie n fun d => { d with swaps := due } }
      else
        let k := due.getLastD (core.val % 100)
        ({ v with fabric := v.fabric.modDie n fun d => { d with swaps := due.dropLast } } : State).noSpare n k
          (v.fabric.streamsOfCore (100 * n + k))) := by
  show execCoreFault core s = _
  simp only [execCoreFault, honline, hfresh]
  rfl

/-- R47: without a spare the core reads RETIRED and its streams are HALTED; dies and generation stand. -/
theorem State.noSpare_spec (s : State) (die i : Nat) (l : List Nat) :
    (s.noSpare die i l).ret = s.ret.setPhys die (s.ret.physOf (100 * die + i)) 2 ∧
      (s.noSpare die i l).fabric.dies = s.fabric.dies ∧
      ∀ st ∈ l, st < 64 → inMask (s.noSpare die i l).fabric.halted st = true := by
  unfold State.noSpare
  extract_lets p s1 s2
  split
  · next hnil =>
    rw [List.isEmpty_iff.mp hnil]
    exact ⟨rfl, rfl, fun st hst => absurd hst List.not_mem_nil⟩
  · obtain ⟨d, q, hsel⟩ := (s2.haltStreams l).selectFallback_eq (some die) l
    rw [State.settleReady_ret, State.settleReady_fabric, hsel]
    refine ⟨rfl, rfl, fun st hst hlt => ?_⟩
    have hmask : inMask (streamMask l) st = true := by rw [inMask_streamMask l hlt]; exact List.contains_iff_mem.mpr hst
    show inMask (s.fabric.halted ||| streamMask l) st = true
    rw [inMask, BitVec.getLsbD_or, Bool.or_eq_true]
    exact Or.inr hmask

theorem dropLast_append_getLastD {l : List Nat} (h : l ≠ []) (d : Nat) : l = l.dropLast ++ [l.getLastD d] := by
  rw [List.getLastD_eq_getLast?, List.getLast?_eq_getLast_of_ne_nil h, Option.getD_some, List.dropLast_append_getLast h]

section
variable {s : State} (hdies : s.fabric.dies.length = 12)
include hdies

/-- What a fault of a core not yet due does, with a spare left for it and with none (R47, R567-R569). -/
theorem coreFault_spec (core : Fin 1200) (honline : (s.fabric.die (dieOf core.val)).online = true)
    (hfresh : (s.fabric.die (dieOf core.val)).swaps.contains (core.val % 100) = false) :
    let n := dieOf core.val
    let due := (s.fabric.die n).awaiting (core.val % 100)
    ((s.fabric.die n).swaps.length < (s.ret.spares n).length →
      ∃ t, exec (.coreFault core) s = .next t ∧ (t.fabric.die n).swaps = due ∧ t.ret = s.ret ∧
        t.fabric.halted = s.fabric.halted ∧ t.measure = s.measure ∧
        (∀ x, s.fabric.tide = some x → ∃ y, t.fabric.tide = some y ∧ y.no = x.no ∧
          ∀ st ∈ s.fabric.streamsOfCore core.val, st < 64 → inMask y.voided st = true)) ∧
    ((s.ret.spares n).length ≤ (s.fabric.die n).swaps.length →
      ∃ t k, exec (.coreFault core) s = .next t ∧ due = (t.fabric.die n).swaps ++ [k] ∧
        t.ret.stateOf n (s.ret.physOf (100 * n + k)) = 2 ∧ t.ret.generation = s.ret.generation ∧
        ∀ st ∈ s.fabric.streamsOfCore (100 * n + k), st < 64 → inMask t.fabric.halted st = true) := by
  intro n due
  have hn : n < s.fabric.dies.length := by rw [hdies]; exact Nat.div_lt_of_lt_mul core.isLt
  have hlen : due.length = (s.fabric.die n).swaps.length + 1 := List.orderedInsert_length _ _ _
  have hexec := execCoreFault_fresh s core honline hfresh
  obtain ⟨f, h, hv, hfd, hfp, hfh, -, hft⟩ := s.voidStreams_eq (s.fabric.streamsOfCore core.val)
  have hnf : n < f.dies.length := by rw [hfd]; exact hn
  rw [hv] at hexec
  refine ⟨fun hspare => ?_, fun hnone => ?_⟩
  · rw [if_pos (show due.length ≤ (s.ret.spares n).length by omega)] at hexec
    refine ⟨_, hexec, ?_, rfl, hfh, rfl, fun x hx => ⟨_, hft x hx, rfl, fun st hst hlt => ?_⟩⟩
    · exact congrArg Die.swaps (f.die_modDie_same _ hnf)
    · rw [inMask, BitVec.getLsbD_or, Bool.or_eq_true]
      exact Or.inr ((inMask_streamMask _ hlt).trans (List.contains_iff_mem.mpr hst))
  · rw [if_neg (show ¬due.length ≤ (s.ret.spares n).length by omega)] at hexec
    obtain ⟨hret, hdie, hhalt⟩ := State.noSpare_spec { s with fabric := f.modDie n fun d => { d with swaps := due.dropLast }, host := h } n
      (due.getLastD (core.val % 100)) (f.streamsOfCore (100 * n + due.getLastD (core.val % 100)))
    refine ⟨_, due.getLastD (core.val % 100), hexec, ?_, ?_, ?_, fun st hst hlt => hhalt st ?_ hlt⟩
    · have hswaps : ((f.modDie n fun d => { d with swaps := due.dropLast }).die n).swaps = due.dropLast :=
        congrArg Die.swaps (f.die_modDie_same _ hnf)
      rw [Fabric.die, hdie]
      exact (dropLast_append_getLastD (List.ne_nil_of_length_pos (by omega)) _).trans (congrArg (· ++ _) hswaps.symm)
    · rw [hret]
      exact Retained.stateOf_setPhys_same _ _ _ (two_ne_coreStateDefault _)
    · rw [hret]
      rfl
    · rw [Fabric.streamsOfCore, Fabric.streamsOf, hfp]
      exact hst

/-- What a swap leaves (R41, R42, R264). -/
theorem coreSwap_spec (die : Fin 12) {i sp : Nat} {l m : List Nat} (htide : s.fabric.tide = none)
    (hgov : (s.governor (die.val + 1)).state = .running) (honline : (s.fabric.die die.val).online = true)
    (hswaps : (s.fabric.die die.val).swaps = i :: l) (hspares : s.ret.spares die.val = sp :: m) (hi : i < 100) (hsp : 100 ≤ sp)
    (hne : s.ret.physOf (100 * die.val + i) ≠ sp) :
    ∃ t, exec (.coreSwap die) s = .next t ∧ t.ret.physOf (100 * die.val + i) = sp ∧ t.ret.stateOf die.val sp = 0 ∧
      t.ret.stateOf die.val (s.ret.physOf (100 * die.val + i)) = 2 ∧ t.ret.generation = bump32 s.ret.generation ∧
      (t.fabric.die die.val).swaps = l ∧ (∀ k, k ≠ 100 * die.val + i → t.fabric.core k = s.fabric.core k) ∧ t.host = s.host := by
  have hexec : exec (.coreSwap die) s = .next (s.swap die.val i sp) := by
    show execCoreSwap die s = _
    simp only [execCoreSwap, htide, hgov, honline, hswaps, hspares, Option.isNone_none, and_self, if_true]
  have hdie : die.val < s.fabric.dies.length := by rw [hdies]; exact die.isLt
  refine ⟨_, hexec, ?_, ?_, ?_, rfl, ?_, fun k hk => SMap.get_set_ne _ _ _ hk, rfl⟩
  · have hdefault : sp ≠ i := by omega
    show SMap.get _ (SMap.set i s.ret.coreMap (100 * die.val + i) sp) _ = sp
    rw [SMap.set, if_neg hdefault, SMap.get_insert, if_pos rfl]
  · have hspare : 0 ≠ coreStateDefault sp := by rw [coreStateDefault, if_neg (by omega)]; decide
    exact Retained.stateOf_setPhys_same _ _ _ hspare
  · exact (Retained.stateOf_setPhys_ne _ hne).trans (Retained.stateOf_setPhys_same _ _ _ (two_ne_coreStateDefault _))
  · have hmod := s.fabric.die_modDie_same (fun d => { d with swaps := d.swaps.erase i }) hdie
    exact (congrArg Die.swaps hmod).trans (by rw [hswaps, List.erase_cons_head])

end

/-- Settles O53: a fault by what `State.voidStreams` and `State.noSpare` leave, a swap by the maps it writes. -/
theorem coresAreSwapped : Obligations.CoresAreSwapped := by
  rintro s ⟨-, hdies, -⟩
  refine ⟨fun core => ?_, fun die i sp l m => coreSwap_spec hdies die, fun die htide => ?_⟩
  · intro n i d due honline hfresh hsorted
    exact ⟨List.Pairwise.orderedInsert i d.swaps hsorted, List.perm_orderedInsert _ i d.swaps, coreFault_spec hdies core honline hfresh⟩
  · obtain ⟨x, hx⟩ := Option.isSome_iff_exists.mp htide
    show execCoreSwap die s = _
    simp only [execCoreSwap, hx, Option.isNone_some, Bool.false_eq_true, false_and, if_false]

end Sys2Proof.Machine
end

section
/-! Firmware transfers and budgets over the Causeway (R94, R513, R521-R525). -/

namespace Sys2Proof.Machine

/-! ### Octets -/

theorem leNat_leBytes (n x : Nat) : leNat (leBytes n x) = x % 256 ^ n := by
  induction n generalizing x with
  | zero => simp [leBytes, leNat, Nat.mod_one]
  | succ n ih =>
    rw [leBytes_succ, leNat, ih, BitVec.toNat_ofNat]
    show x % 256 + 256 * (x / 256 % 256 ^ n) = x % 256 ^ (n + 1)
    rw [Nat.pow_succ', Nat.mod_mul]

theorem leField_leBytes_append (n x : Nat) (b : Bytes) : leField (leBytes n x ++ b) 0 n = x % 256 ^ n := by
  have hslice : slice (leBytes n x ++ b) 0 n = leBytes n x := by
    simpa only [leBytes_length] using slice_append_left (leBytes n x) b
  rw [leField, hslice, leNat_leBytes]

/-! ### A frame that its session accepts (R513) -/

/-- The state a command of an open session acts on: the session has heard the frame. -/
def State.heardCw (s : State) (i : Nat) : State :=
  { s with causeway := { s.causeway with
    sessions := modifyAt s.causeway.sessions i fun x => { x with lastFrame := s.clock.count, framesIn := x.framesIn + 1 } } }

theorem State.onSession_accepted {s : State} {f : CwFrame} (g : State → State) (hhears : s.hears f = true)
    (hopen : (s.causeway.session f.session.val).phase = 2) (hacc : (s.causeway.session f.session.val).accepts f = true) :
    s.onSession f g = g (s.heardCw f.session.val) := by
  simp only [State.onSession, hhears, hopen, hacc, Bool.true_eq_false, if_false, ne_eq, not_true_eq_false, or_self]
  rfl

theorem Causeway.session_modify (c : Causeway) (i : Nat) (g : CwSession → CwSession) (hi : i < c.sessions.length) :
    ({ c with sessions := modifyAt c.sessions i g } : Causeway).session i = g (c.session i) :=
  getD_modifyAt_same _ _ _ _ hi

/-- A session that is open is one of the sessions. -/
theorem Causeway.lt_of_open {c : Causeway} {i : Nat} (h : (c.session i).phase = 2) : i < c.sessions.length := by
  by_contra hout
  rw [Causeway.session, List.getD_eq_default _ _ (Nat.not_lt.mp hout)] at h
  exact absurd h (by decide)

theorem State.heardCw_role (s : State) (i : Nat) : ((s.heardCw i).causeway.session i).role = (s.causeway.session i).role := by
  by_cases hi : i < s.causeway.sessions.length
  · have hmod : (s.heardCw i).causeway.session i = _ := s.causeway.session_modify i _ hi
    rw [hmod]
  · have hout : (s.heardCw i).causeway.session i = {} :=
      List.getD_eq_default _ _ (by rw [State.heardCw, modifyAt_length]; exact Nat.not_lt.mp hi)
    rw [hout, Causeway.session, List.getD_eq_default _ _ (Nat.not_lt.mp hi)]

/-! ### Firmware transfers (R94, R521, R522) -/

theorem State.fwAck_of_fw {s : State} {t : FwTransfer} (h : s.causeway.fw = some t) :
    s.fwAck = s.sendOn t.session 0x32 (leBytes 4 t.data.length) := by rw [State.fwAck, h]

/-- R521: a contiguous segment that does not complete the head is appended, and acknowledged every sixteenth frame. -/
theorem State.fwSegment_next {s : State} {x : FwTransfer} (hfw : s.causeway.fw = some x) (hend : x.ended = false) {off : Nat} {data : Bytes}
    (hoff : off = x.data.length) (hpos : 1 ≤ data.length) (hmax : data.length ≤ 1280) (htotal : off + data.length ≤ x.total)
    (hhead : setHeadSize ≤ x.data.length ∨ x.data.length + data.length < setHeadSize) (e d : Bool) :
    let t := s.fwSegment x.session off data e d
    t.causeway.fw = some { x with data := x.data ++ data, frames := x.frames + 1, lastFrame := s.clock.count } ∧ t.start = s.start ∧
      t.measure = s.measure ∧
      ((x.frames + 1) % 16 = 0 → t.causeway.lastFrame = some (0x32, leBytes 4 (x.data.length + data.length))) := by
  intro t
  have hno : ¬(x.data.length < setHeadSize ∧ setHeadSize ≤ (x.data ++ data).length) := by
    rw [List.length_append]; omega
  have htake : t = s.fwTake x data e d := by
    simp only [t, State.fwSegment, hfw, hend, and_self, if_true]
    exact if_pos ⟨hoff, hpos, hmax, htotal⟩
  rw [htake, State.fwTake]
  dsimp only
  rw [if_neg hno]
  split
  · exact ⟨rfl, rfl, rfl, fun _ => by rw [← List.length_append]; rfl⟩
  · next hsix => exact ⟨rfl, rfl, rfl, fun h => absurd h hsix⟩

/-- R521: any other segment is answered with the next expected offset. -/
theorem State.fwSegment_other {s : State} {x : FwTransfer} (hfw : s.causeway.fw = some x) (hend : x.ended = false) {off : Nat} {data : Bytes}
    (hbad : off ≠ x.data.length ∨ data.length = 0 ∨ 1280 < data.length) (e d : Bool) :
    s.fwSegment x.session off data e d = s.sendOn x.session 0x32 (leBytes 4 x.data.length) := by
  have hno : ¬(off = x.data.length ∧ 1 ≤ data.length ∧ data.length ≤ 1280 ∧ off + data.length ≤ x.total) := by omega
  simp only [State.fwSegment, hfw, hend, and_self, if_true, hno, if_false]
  exact State.fwAck_of_fw hfw

/-- R521: FW-END of the whole stream ends it. -/
theorem State.fwFinish_whole {s : State} {x : FwTransfer} (hfw : s.causeway.fw = some x) (hwhole : x.data.length = x.total) :
    s.fwFinish x.session = ({ s with causeway := { s.causeway with fw := some { x with ended := true } } } : State).sendOn x.session 0x32
      (leBytes 4 x.data.length) := by
  simp only [State.fwFinish, hfw, if_true]
  rw [if_pos hwhole]
  exact State.fwAck_of_fw (t := { x with ended := true }) rfl

/-- What the frames of a transfer in progress leave (R521, R522). -/
theorem fwTransfer_spec (s : State) (f : CwFrame) (hhears : s.hears f = true)
    (hopen : (s.causeway.session f.session.val).phase = 2) (hacc : (s.causeway.session f.session.val).accepts f = true)
    (x : FwTransfer) (hfw : s.causeway.fw = some x) (hsess : x.session = f.session.val) (hend : x.ended = false) :
    (∀ (off : BitVec 32) (data : Bytes) e d, off.toNat = x.data.length → 1 ≤ data.length → data.length ≤ 1280 →
       off.toNat + data.length ≤ x.total → (setHeadSize ≤ x.data.length ∨ x.data.length + data.length < setHeadSize) →
       ∃ t, exec (.fwData f off data e d) s = .next t ∧
         t.causeway.fw = some { x with data := x.data ++ data, frames := x.frames + 1, lastFrame := s.clock.count } ∧
         t.start = s.start ∧ t.measure = s.measure ∧
         ((x.frames + 1) % 16 = 0 → t.causeway.lastFrame = some (0x32, leBytes 4 (x.data.length + data.length)))) ∧
     (∀ (off : BitVec 32) (data : Bytes) e d, off.toNat ≠ x.data.length ∨ data.length = 0 ∨ 1280 < data.length →
       ∃ t, exec (.fwData f off data e d) s = .next t ∧ t.causeway.fw = s.causeway.fw ∧ t.start = s.start ∧
         t.causeway.lastFrame = some (0x32, leBytes 4 x.data.length)) ∧
     (x.data.length = x.total →
       ∃ t, exec (.fwEnd f) s = .next t ∧ t.causeway.fw = some { x with ended := true } ∧ t.start = s.start ∧
         t.causeway.lastFrame = some (0x32, leBytes 4 x.data.length)) := by
  have hdata off data e d : exec (.fwData f off data e d) s =
      .next ((s.heardCw f.session.val).fwSegment x.session off.toNat data e d) := by
    show Host.Outcome.next (s.onSession f _) = _
    rw [State.onSession_accepted _ hhears hopen hacc, hsess]
  have hlast : exec (.fwEnd f) s = .next ((s.heardCw f.session.val).fwFinish x.session) := by
    show Host.Outcome.next (s.onSession f _) = _
    rw [State.onSession_accepted _ hhears hopen hacc, hsess]
  have hheard : (s.heardCw f.session.val).causeway.fw = some x := hfw
  refine ⟨fun off data e d hoff hpos hmax htotal hhead => ?_, fun off data e d hbad => ?_, fun hwhole => ?_⟩
  · exact ⟨_, hdata off data e d, State.fwSegment_next hheard hend hoff hpos hmax htotal hhead e d⟩
  · rw [hdata, State.fwSegment_other hheard hend hbad]
    exact ⟨_, rfl, rfl, rfl, rfl⟩
  · rw [hlast, State.fwFinish_whole hheard hwhole]
    exact ⟨_, rfl, rfl, rfl, rfl⟩

/-- What 5 s without FW-DATA leave, and less (R86, R522). -/
theorem execFwTransferStall_spec {s : State} {x : FwTransfer} (hfw : s.causeway.fw = some x) (hend : x.ended = false) :
    (x.lastFrame + 5000000000 ≤ s.clock.count → s.up = true →
       ∃ t, exec .fwTransferStall s = .next t ∧ t.causeway.fw = none ∧ t.start.setResult = 0x0A ∧
         t.start.update = (if s.start.causewayUpdate then none else s.start.update) ∧ t.otp = s.otp ∧ t.measure = s.measure) ∧
     (s.clock.count < x.lastFrame + 5000000000 → exec .fwTransferStall s = .next s) := by
  have hstall : exec .fwTransferStall s =
      .next (if x.lastFrame + 5000000000 ≤ s.clock.count then s.refuseDelivery 0x0A else s) := by
    show execFwTransferStall s = _
    simp only [execFwTransferStall, hfw, hend, true_and]
  refine ⟨fun hover hup => ?_, fun hearly => by rw [hstall, if_neg (Nat.not_le.mpr hearly)]⟩
  rw [if_pos hover] at hstall
  have hup' : ({ s with causeway := { s.causeway with fw := none } } : State).up = true := hup
  simp only [State.refuseDelivery, hup', if_true] at hstall
  exact ⟨_, hstall, rfl, rfl, rfl, rfl, rfl⟩

/-- FW-BEGIN of a role that commands starts a transfer, or answers busy (R94, R521). -/
theorem execFwBegin_spec (s : State) (f : CwFrame) (hhears : s.hears f = true)
    (hopen : (s.causeway.session f.session.val).phase = 2) (hacc : (s.causeway.session f.session.val).accepts f = true)
    (len : BitVec 32) (hrole : roleCommands (s.causeway.session f.session.val).role = true) :
    (s.deliveryBusy = false → len.toNat ≤ 32 * 1048576 →
       ∃ t, exec (.fwBegin f len) s = .next t ∧ t.causeway.fw = some ⟨f.session.val, len.toNat, [], 0, s.clock.count, false⟩ ∧
         t.start = s.start ∧ t.ret = s.ret) ∧
     (s.deliveryBusy = true →
       ∃ t, exec (.fwBegin f len) s = .next t ∧ t.causeway.fw = s.causeway.fw ∧ t.start.setResult = 9 ∧
         t.start.load = s.start.load ∧ t.ret.setsRefused = bump s.ret.setsRefused) := by
  have hexec : exec (.fwBegin f len) s = .next ((s.heardCw f.session.val).beginDelivery f.session.val len.toNat) := by
    show Host.Outcome.next (s.onSession f _) = _
    rw [State.onSession_accepted _ hhears hopen hacc, State.heardCw_role, if_pos hrole]
  refine ⟨fun hfree hlen => ?_, fun hbusy => ?_⟩
  · have hfree' : (s.heardCw f.session.val).deliveryBusy = false := hfree
    simp only [State.beginDelivery, hfree', Bool.false_eq_true, if_false, Nat.not_lt.mpr hlen] at hexec
    exact ⟨_, hexec, rfl, rfl, rfl⟩
  · have hbusy' : (s.heardCw f.session.val).deliveryBusy = true := hbusy
    simp only [State.beginDelivery, hbusy', if_true] at hexec
    exact ⟨_, hexec, rfl, rfl, rfl, rfl⟩

/-! ### Budgets (R523-R525) -/

/-- The cap in effect is the lowest of the local cap and every budget in force. -/
theorem State.capInEffect_spec (s : State) : s.capInEffect ≤ s.ret.localCap ∧
    (s.capInEffect = s.ret.localCap ∨ ∃ b ∈ s.causeway.budgets, s.capInEffect = b.cap) ∧
    ∀ b ∈ s.causeway.budgets, s.capInEffect ≤ b.cap := by
  obtain ⟨hmem, hle⟩ := foldl_min_spec s.ret.localCap (s.causeway.budgets.map (·.cap))
  refine ⟨hle _ List.mem_cons_self, ?_, fun b hb => hle _ (List.mem_cons_of_mem _ (List.mem_map_of_mem hb))⟩
  obtain hcap | hcap := List.mem_cons.mp hmem
  · exact Or.inl hcap
  · obtain ⟨b, hb, he⟩ := List.mem_map.mp hcap
    exact Or.inr ⟨b, hb, he.symm⟩

/-- A budget is held beside all but its namesake of the session. -/
theorem State.mem_takeBudget (s : State) (b x : Budget) : x ∈ (s.takeBudget b).causeway.budgets ↔
    (x ∈ s.causeway.budgets ∧ ¬(x.session = b.session ∧ x.ident = b.ident)) ∨ x = b := by
  simp [State.takeBudget, List.mem_append, List.mem_filter, imp_iff_not_or]

theorem budgetOk_iff (cap ms : Nat) : budgetOk cap ms = true ↔ 900 ≤ cap ∧ cap ≤ 2600 ∧ 100 ≤ ms ∧ ms ≤ 60000 := by
  simp [budgetOk, and_assoc]

theorem State.takeBudget_cap_le (s : State) (b : Budget) : (s.takeBudget b).capInEffect ≤ b.cap :=
  (s.takeBudget b).capInEffect_spec.2.2 b ((s.mem_takeBudget b b).mpr (Or.inr rfl))

section
variable {s : State} {f : CwFrame} {cap : BitVec 16} {ms ident : BitVec 32} (hhears : s.hears f = true)
  (hopen : (s.causeway.session f.session.val).phase = 2) (hacc : (s.causeway.session f.session.val).accepts f = true)
include hhears hopen hacc

/-- A budget in range of a role that commands is held and acknowledged. -/
theorem execBudget_taken (hrole : roleCommands (s.causeway.session f.session.val).role = true)
    (hok : budgetOk cap.toNat ms.toNat = true) :
    let u := (s.heardCw f.session.val).takeBudget ⟨f.session.val, ident.toNat, cap.toNat, s.clock.count + ms.toNat * 1000000⟩
    exec (.budget f cap ms ident) s = .next (u.sendOn f.session.val 0x41 u.budgetAck) := by
  show Host.Outcome.next (s.onSession f _) = _
  rw [State.onSession_accepted _ hhears hopen hacc]
  dsimp only
  rw [State.heardCw_role, if_pos ⟨hrole, hok⟩]
  rfl

/-- Any other is neither held nor answered. -/
theorem execBudget_refused (hbad : ¬(roleCommands (s.causeway.session f.session.val).role = true ∧ budgetOk cap.toNat ms.toNat = true)) :
    exec (.budget f cap ms ident) s = .next (s.heardCw f.session.val) := by
  show Host.Outcome.next (s.onSession f _) = _
  rw [State.onSession_accepted _ hhears hopen hacc]
  dsimp only
  rw [State.heardCw_role, if_neg hbad]

end

/-- The frames sent on a session whose budget was taken: the frame heard, and its acknowledgement. -/
theorem State.framesOut_budget (s : State) (b : Budget) (body : Bytes) {i : Nat} (hi : i < s.causeway.sessions.length) :
    ((((s.heardCw i).takeBudget b).sendOn i 0x41 body).causeway.session i).framesOut = (s.causeway.session i).framesOut + 1 := by
  have hheard : ((s.heardCw i).takeBudget b).causeway.session i = _ := s.causeway.session_modify i _ hi
  have hlen : i < ((s.heardCw i).takeBudget b).causeway.sessions.length := by
    rw [State.takeBudget, State.heardCw, modifyAt_length]; exact hi
  have hsent := ((s.heardCw i).takeBudget b).causeway.session_modify i (fun x => { x with framesOut := x.framesOut + 1 }) hlen
  rw [hheard] at hsent
  exact congrArg CwSession.framesOut hsent

/-- BUDGET_LAPSE drops those over and counts them (R524). -/
theorem execBudgetLapse_spec (s : State) : ∃ t, exec .budgetLapse s = .next t ∧
    t.causeway.budgets = s.causeway.budgets.filter (fun b => decide (s.clock.count < b.ends)) ∧
    t.causeway.lapses = bumpBy (s.causeway.budgets.length - t.causeway.budgets.length) s.causeway.lapses ∧
    t = { s with causeway := t.causeway } := by
  have hsplit := List.length_eq_length_filter_add (l := s.causeway.budgets) fun b => decide (b.ends ≤ s.clock.count)
  refine ⟨_, rfl, List.filter_congr fun b _ => ?_, ?_, rfl⟩
  · rw [← decide_not]
    simp only [Nat.not_le]
  · rw [hsplit]
    dsimp only
    rw [Nat.add_sub_cancel]

/-- Settles O50: each frame acts on `State.heardCw`, the budgets by `State.capInEffect_spec`. -/
theorem transfersAndBudgets : Obligations.TransfersAndBudgets := by
  refine ⟨fun s f hhears => ?_, fun s => ⟨fun f cap ms ident hhears => ?_, execBudgetLapse_spec s, s.capInEffect_spec⟩⟩
  · intro i x hopen hacc
    refine ⟨fun len hrole => execFwBegin_spec s f hhears hopen hacc len hrole, fun t hfw hsess hend => ?_⟩
    obtain ⟨hnext, hother, hfinish⟩ := fwTransfer_spec s f hhears hopen hacc t hfw hsess hend
    exact ⟨hnext, hother, hfinish, execFwTransferStall_spec hfw hend⟩
  · intro i x hopen hacc
    refine ⟨fun hrole hlo hhi hshort hlong => ?_, fun hbad => ?_⟩
    · have hok := (budgetOk_iff cap.toNat ms.toNat).mpr ⟨hlo, hhi, hshort, hlong⟩
      have hcap := (s.heardCw i).takeBudget_cap_le ⟨i, ident.toNat, cap.toNat, s.clock.count + ms.toNat * 1000000⟩
      refine ⟨_, _, execBudget_taken hhears hopen hacc hrole hok, State.mem_takeBudget _ _, hcap, rfl, ?_, rfl, rfl,
        fun _ => s.framesOut_budget _ _ (Causeway.lt_of_open hopen)⟩
      rw [State.budgetAck, List.append_assoc]
      exact leField_leBytes_append 2 _ _
    · refine ⟨_, execBudget_refused hhears hopen hacc fun h => ?_, rfl, rfl⟩
      obtain ⟨hrole, hok⟩ := h
      obtain ⟨hlo, hhi, hshort, hlong⟩ := (budgetOk_iff _ _).mp hok
      obtain hbad | hbad | hbad | hbad | hbad := hbad
      · exact absurd (hrole.symm.trans hbad) (by decide)
      all_goals omega

end Sys2Proof.Machine
end

section
/-! Uncorrectable HBM reads and the record queue (R578, R580, R595-R597). -/

namespace Sys2Proof.Machine

/-! ### An uncorrectable read -/

/-- R578: a line below the records is marked, with its data as it was; no other line changes. -/
theorem SMap.poisoned_modify (m : SMap HbmLine) (k : Nat) :
    let p := SMap.modify {} m k fun h => { h with poisoned := true }
    (SMap.get {} p k).poisoned = true ∧ (SMap.get {} p k).data = (SMap.get {} m k).data ∧ ∀ j, j ≠ k → SMap.get {} p j = SMap.get {} m j := by
  intro p
  have hnd : ({ SMap.get {} m k with poisoned := true } : HbmLine) ≠ {} := fun h => Bool.noConfusion (congrArg HbmLine.poisoned h)
  have hget : SMap.get {} p k = { SMap.get {} m k with poisoned := true } := by
    simp only [p, SMap.modify, SMap.set, if_neg hnd, SMap.get_insert, if_true]
  refine ⟨by rw [hget], by rw [hget], fun j hj => SMap.get_modify_ne _ _ _ hj⟩

/-- What a read of a line below the neuron records leaves, before its record. -/
def State.poisonCounted (s : State) (n line : Nat) : State :=
  { s with
    fabric := { s.fabric with hbm := SMap.modify {} s.fabric.hbm (hbmKey n line) fun h => { h with poisoned := true } }
    ret := { s.ret with poison := bumpAt s.ret.poison n } }

/-- R580: the line is marked and counted; the fault state alone differs as a record is due or not. -/
theorem execHbmUncorrectableRead_line (s : State) (n : Fin 12) {line : Nat} (hline : line < 2 ^ 29) :
    ∃ q, exec (.hbmUncorrectableRead n line) s = .next { s.poisonCounted n.val line with faults := q } ∧
      (∀ k, s.faults.poisonAt.getD n.val none = some k → s.clock.count < k + 1000000000 → q.queue = s.faults.queue) ∧
      (s.faults.poisonAt.getD n.val none = none → s.faults.overflow = none → s.faults.queue.length < 64 →
        ∃ r, q.queue = s.faults.queue ++ [r] ∧ r.code = 0x0E ∧ r.unit = n.val ∧ r.b = s.faults.poisonSince.getD n.val 0 + 1 ∧
          r.time = s.now) := by
  show ∃ q, execHbmUncorrectableRead n line s = _ ∧ _
  unfold execHbmUncorrectableRead State.poisonLine
  simp only [hline, if_true]
  cases hat : s.faults.poisonAt.getD n.val none with
  | none =>
    refine ⟨_, rfl, ?_, ?_⟩
    · intro k hk
      nomatch hk
    · intro _ hover hroom
      simp only [Faults.record, hover, hroom, if_true]
      exact ⟨_, rfl, rfl, rfl, rfl, rfl⟩
  | some k =>
    by_cases hdue : k + 1000000000 ≤ s.clock.count
    · simp only [hdue, decide_true, if_true]
      refine ⟨_, rfl, ?_, ?_⟩
      · intro j hj hearly
        cases hj
        exact absurd hdue (Nat.not_le.mpr hearly)
      · intro h
        nomatch h
    · simp only [hdue, decide_false, Bool.false_eq_true, if_false]
      refine ⟨_, rfl, ?_, ?_⟩
      · intros
        rfl
      · intro h
        nomatch h

/-! ### The record queue -/

/-- The registers after a record is extended are those that its extension leaves. -/
theorem State.extendFault_mr (s : State) (r : FaultRec) (q : Faults) (k : Nat) :
    ({ s.extendFault r with faults := q } : State).mr k = (s.extendMr 14 r.bytes).mr k := by
  unfold State.mr
  rfl

section
variable {s : State} {r : FaultRec} {l : List FaultRec} (hqueue : s.faults.queue = r :: l)
include hqueue

theorem execFaultRecordExtend_front : exec (.faultRecordExtend false) s =
    .next { s.extendFault r with faults := ({ (s.extendFault r).faults with queue := l } : Faults).refill s.now } := by
  show execFaultRecordExtend false s = _
  simp only [execFaultRecordExtend, hqueue, Bool.false_eq_true, if_false]
  rfl

theorem execFaultRecordExtend_cleared : exec (.faultRecordExtend true) s = .next s := by
  show execFaultRecordExtend true s = _
  simp only [execFaultRecordExtend, hqueue, if_true]

/-- R597: the oldest record is extended into MR14, and leaves the queue. -/
theorem faultRecordExtend_spec (hmrs : s.measure.mrs.length = 32) (hover : s.faults.overflow = none) :
    ∃ t, exec (.faultRecordExtend false) s = .next t ∧ t.faults.queue = l ∧ t.mr 14 = extendValue (s.mr 14) r.bytes ∧
      (∀ k, k ≠ 14 → t.mr k = s.mr k) ∧ t.faults.extended = bump s.faults.extended ∧ t.ret.lastFault = some r := by
  have hlen : 14 < s.measure.mrs.length := by rw [hmrs]; decide
  refine ⟨_, execFaultRecordExtend_front hqueue, ?_, ?_, ?_, ?_, rfl⟩
  · simp only [State.extendFault, State.extendMr, Faults.refill, hover]
  · rw [State.extendFault_mr]
    exact s.extendMr_mr_same 14 r.bytes hlen
  · intro k hk
    rw [State.extendFault_mr]
    exact s.extendMr_mr_ne 14 k r.bytes hk
  · simp only [State.extendFault, State.extendMr, Faults.refill, hover]

/-- R596: the pending OVERFLOW record enters the queue as the oldest leaves it. -/
theorem faultRecordExtend_overflow {n m : Nat} (hover : s.faults.overflow = some (n, m)) :
    ∃ t, exec (.faultRecordExtend false) s = .next t ∧ t.faults.overflow = none ∧
      t.faults.queue = l ++ [{ code := 0x1F, a := n, b := m % 2 ^ 32, time := s.now }] := by
  refine ⟨_, execFaultRecordExtend_front hqueue, ?_, ?_⟩
  · simp only [State.extendFault, State.extendMr, Faults.refill, hover]
  · simp only [State.extendFault, State.extendMr, Faults.refill, hover]

end

/-- Settles O54: a read by the line it marks and the record that is due, an extension by the front of the queue. -/
theorem faultsAreRecorded : Obligations.FaultsAreRecorded := by
  rintro s ⟨⟨hmrs, -⟩, -⟩
  refine ⟨fun n line hline => ?_, fun r l hqueue => ?_⟩
  · obtain ⟨q, hexec, hearly, hfirst⟩ := execHbmUncorrectableRead_line s n hline
    obtain ⟨hmark, hdata, hother⟩ := SMap.poisoned_modify s.fabric.hbm (hbmKey n.val line)
    exact ⟨_, hexec, hmark, hdata, hother, rfl, hearly, hfirst⟩
  · exact ⟨faultRecordExtend_spec hqueue hmrs, fun n m => faultRecordExtend_overflow hqueue, execFaultRecordExtend_cleared hqueue⟩

end Sys2Proof.Machine
end

section
/-! The form of the state, part by part, and the fuses as they were or grown: one predicate that every operation and every command
keeps (04, "The OTP store"; 16, "Persistence"). -/

namespace Sys2Proof.Machine

/-! ### The form of each part -/

/-- The fuses have grown from `o` with its identity, and under `i` their lists have their lengths. -/
def Otp.Kept (p o : Otp) (i : Prop) : Prop :=
  (p.serial, p.grade, p.processIndex, p.arrayMask, p.anchorPrimary, p.anchorSecondary) =
      (o.serial, o.grade, o.processIndex, o.arrayMask, o.anchorPrimary, o.anchorSecondary) ∧
    o.grownTo p ∧ (i → p.svn.length = 4 ∧ p.caSlots.length = 8)

def Retained.Form (r : Retained) : Prop :=
  r.stores.length = 4 ∧ r.tokens.length = 3 ∧ r.portEnable.length = 12 ∧ SMap.wf {} r.regions = true

def Keys.Form (k : Keys) : Prop := SMap.wf none k.store = true

def BnContext.Form (c : BnContext) : Prop := SMap.wf 0 c.words = true

def Engines.Form (e : Engines) : Prop :=
  e.jobs.length = 8 ∧ e.laneBusy.length = 4 ∧ e.laneQueue.length = 4 ∧ e.long.Form ∧ e.short.Form

def Core.Form (c : Core) : Prop := c.arrays.length = 4 ∧ SMap.wf {} c.lagoon = true

def Fabric.Form (f : Fabric) : Prop := f.dies.length = 12 ∧ SMap.wf {} f.cores = true ∧ ∀ k, (f.core k).Form

def HostPath.Form (h : HostPath) : Prop :=
  SMap.wf {} h.rings = true ∧ SMap.wf 0 h.fences = true ∧ SMap.wf none h.subs = true ∧ SMap.wf (0, 0, true) h.msix = true ∧
    SMap.wf 0 h.msixSent = true

def Cluster.Form (c : Cluster) : Prop := SMap.wf 0 c.records = true

def Shoal.Form (h : Shoal) : Prop := h.clusters.length = 12 ∧ ∀ n, (h.cluster n).Form

def Measure.Form (m : Measure) : Prop := m.mrs.length = 32

def Hosting.Form (h : Hosting) : Prop :=
  h.sessions.length = 4 ∧ h.loads.length = 4 ∧ h.streamIds.length = 9 ∧ SMap.wf {} h.ide = true

def Straits.Form (x : Straits) : Prop := x.ports.length = 12

def Od.Form (d : Od) : Prop := d.channels.length = 13

def Causeway.Form (c : Causeway) : Prop := c.sessions.length = 8

def Power.Form (p : Power) : Prop := p.governors.length = 13

/-- The fuses are those of `o` or grown from them, and under `i` the state has its form. -/
structure State.Kept (o : Otp) (i : Prop) (s : State) : Prop where
  otp : s.otp.Kept o i
  hostMem : i → Memory.wf s.hostMem = true
  ret : i → s.ret.Form
  keys : i → s.keys.Form
  engines : i → s.engines.Form
  fabric : i → s.fabric.Form
  host : i → s.host.Form
  shoal : i → s.shoal.Form
  measure : i → s.measure.Form
  hosting : i → s.hosting.Form
  straits : i → s.straits.Form
  od : i → s.od.Form
  causeway : i → s.causeway.Form
  power : i → s.power.Form

/-- Where a command has a next state, it is kept. -/
def keptNext (o : Otp) (i : Prop) (r : Host.Outcome State Fault Refusal) : Prop := ∀ t, r = .next t → t.Kept o i

/-- Where an update answers a state, it is kept. -/
def keptSome (o : Otp) (i : Prop) (r : Option State) : Prop := ∀ t, r = some t → t.Kept o i

theorem State.inv_iff (s : State) : s.Inv ↔ s.Kept s.otp True := by
  constructor
  · rintro ⟨⟨hm, hd, hg, hp, hc, hcw, hs, hl, hi, hj, hb, hq, hk, hv, ha, hst, ht, hpe, hca⟩, hmem, hks, hlw, hsw, hco, hr, hf, hsu, hid,
      hmx, hms, hre, hcl, hla⟩
    exact {
      otp := ⟨rfl, Otp.grownTo_refl _, fun _ => ⟨hv, ha⟩⟩, hostMem := fun _ => hmem, ret := fun _ => ⟨hst, ht, hpe, hre⟩
      keys := fun _ => hks, engines := fun _ => ⟨hj, hb, hq, hlw, hsw⟩, fabric := fun _ => ⟨hd, hco, fun k => ⟨hca k, hla k⟩⟩
      host := fun _ => ⟨hr, hf, hsu, hmx, hms⟩, shoal := fun _ => ⟨hk, hcl⟩, measure := fun _ => hm
      hosting := fun _ => ⟨hs, hl, hi, hid⟩, straits := fun _ => hp, od := fun _ => hc, causeway := fun _ => hcw, power := fun _ => hg }
  · intro h
    obtain ⟨hst, ht, hpe, hre⟩ := h.ret trivial
    obtain ⟨hj, hb, hq, hlw, hsw⟩ := h.engines trivial
    obtain ⟨hd, hco, hcore⟩ := h.fabric trivial
    obtain ⟨hr, hf, hsu, hmx, hms⟩ := h.host trivial
    obtain ⟨hk, hcl⟩ := h.shoal trivial
    obtain ⟨hs, hl, hi, hid⟩ := h.hosting trivial
    obtain ⟨hv, ha⟩ := h.otp.2.2 trivial
    exact ⟨⟨h.measure trivial, hd, h.power trivial, h.straits trivial, h.od trivial, h.causeway trivial, hs, hl, hi, hj, hb, hq, hk, hv, ha,
      hst, ht, hpe, fun k => (hcore k).1⟩, h.hostMem trivial, h.keys trivial, hlw, hsw, hco, hr, hf, hsu, hid, hmx, hms, hre, hcl,
      fun k => (hcore k).2⟩

/-! ### Fuses -/

theorem Otp.grownTo_trans {o p q : Otp} (h : o.grownTo p) (h' : p.grownTo q) : o.grownTo q := by
  obtain ⟨hl, hr, he, hs⟩ := h
  obtain ⟨hl', hr', he', hs'⟩ := h'
  exact ⟨Thermo.within_trans hl hl', Thermo.within_trans hr hr', Thermo.within_trans he he', fun k => Thermo.within_trans (hs k) (hs' k)⟩

/-- A blow that leaves the identity and the counts of the lists. -/
theorem Otp.Kept.blown {o p q : Otp} {i : Prop} (h : p.Kept o i) (hid : (q.serial, q.grade, q.processIndex, q.arrayMask, q.anchorPrimary,
    q.anchorSecondary) = (p.serial, p.grade, p.processIndex, p.arrayMask, p.anchorPrimary, p.anchorSecondary)) (hg : p.grownTo q)
    (hs : q.svn.length = p.svn.length) (hc : q.caSlots.length = p.caSlots.length) : q.Kept o i :=
  ⟨hid.trans h.1, Otp.grownTo_trans h.2.1 hg, fun hi => by rw [hs, hc]; exact h.2.2 hi⟩

theorem Otp.grownTo_takeLifecycle (o : Otp) (code : Nat) : o.grownTo (o.takeLifecycle code) := by
  refine ⟨Thermo.within_raiseTo _ _, ?_, Thermo.within_refl _, fun _ => Thermo.within_refl _⟩
  unfold Otp.takeLifecycle
  split
  · exact Thermo.within_blow _ _
  · exact Thermo.within_refl _

variable {o : Otp} {i : Prop}

theorem Otp.Kept.takeLifecycle {p : Otp} (h : p.Kept o i) (code : Nat) : (p.takeLifecycle code).Kept o i :=
  h.blown rfl (p.grownTo_takeLifecycle code) rfl rfl

/-! ### Maps -/

theorem SMap.wfFrom_filterMap {α β : Type} [DecidableEq α] [DecidableEq β] (d : α) (e : β) (g : Nat × α → Option β)
    (hg : ∀ x y, g x = some y → y ≠ e) (m : SMap α) (lo : Option Nat) (hw : SMap.wfFrom d lo m = true) :
    SMap.wfFrom e lo (m.filterMap fun x => (g x).map (x.1, ·)) = true := by
  induction m generalizing lo with
  | nil => rfl
  | cons x m ih =>
    obtain ⟨k, v⟩ := x
    simp only [SMap.wfFrom, Bool.and_eq_true] at hw
    cases hx : g (k, v) with
    | some y =>
      simp only [List.filterMap_cons, hx, Option.map_some, SMap.wfFrom, Bool.and_eq_true]
      exact ⟨⟨hw.1.1, by simpa using hg _ _ hx⟩, ih _ hw.2⟩
    | none =>
      simp only [List.filterMap_cons, hx, Option.map_none]
      cases lo with
      | none => exact SMap.wf_of_wfFrom e _ _ (ih _ hw.2)
      | some l => exact SMap.wfFrom_weaken e _ k l (Nat.le_of_lt (by simpa using hw.1.1)) (ih _ hw.2)

/-- A map whose keys stand and whose values stay off the default. -/
theorem SMap.wf_map {α : Type} [DecidableEq α] (d : α) (g : Nat × α → Nat × α) (hk : ∀ x, (g x).1 = x.1)
    (hg : ∀ x, x.2 ≠ d → (g x).2 ≠ d) (m : SMap α) (hw : SMap.wf d m = true) : SMap.wf d (m.map g) = true := by
  unfold SMap.wf at hw ⊢
  generalize (none : Option Nat) = lo at hw ⊢
  induction m generalizing lo with
  | nil => rfl
  | cons x m ih =>
    obtain ⟨k, v⟩ := x
    simp only [SMap.wfFrom, Bool.and_eq_true, decide_eq_true_eq] at hw
    have hgk : g (k, v) = (k, (g (k, v)).2) := Prod.ext (hk _) rfl
    rw [List.map_cons, hgk]
    simp only [SMap.wfFrom, Bool.and_eq_true, decide_eq_true_eq]
    exact ⟨⟨hw.1.1, hg _ hw.1.2⟩, ih _ hw.2⟩

theorem SMap.wf_filter {α : Type} [DecidableEq α] (d : α) (p : Nat × α → Bool) (m : SMap α) (hw : SMap.wf d m = true) :
    SMap.wf d (m.filter p) = true := by
  unfold SMap.wf at hw ⊢
  generalize (none : Option Nat) = lo at hw ⊢
  induction m generalizing lo with
  | nil => rfl
  | cons x m ih =>
    obtain ⟨k, v⟩ := x
    simp only [SMap.wfFrom, Bool.and_eq_true] at hw
    rw [List.filter_cons]
    split
    · simp only [SMap.wfFrom, Bool.and_eq_true]
      exact ⟨hw.1, ih _ hw.2⟩
    · cases lo with
      | none => exact SMap.wf_of_wfFrom d _ _ (ih _ hw.2)
      | some l => exact SMap.wfFrom_weaken d _ k l (Nat.le_of_lt (by simpa using hw.1.1)) (ih _ hw.2)

/-! ### Outcomes -/

theorem State.Kept.toNext {s : State} (h : s.Kept o i) : keptNext o i (.next s) := by
  rintro t ⟨⟩
  exact h

theorem keptNext_refused (r : Refusal) : keptNext o i (.refused r) := fun _ h => nomatch h

theorem State.Kept.toSome {s : State} (h : s.Kept o i) : keptSome o i (some s) := by
  rintro t ⟨⟩
  exact h

theorem keptSome_none : keptSome o i none := fun _ h => nomatch h

/-- A list of updates keeps what each of them keeps. -/
theorem kept_foldl {α β : Type} {P : β → Prop} {f : β → α → β} (hf : ∀ b a, P b → P (f b a)) (l : List α) {b : β} (h : P b) :
    P (l.foldl f b) := by
  induction l generalizing b with
  | nil => exact h
  | cons a l ih => exact ih (hf b a h)

/-! ### Parts -/

theorem Measure.Form.extend {m : Measure} (h : m.Form) (r : Nat) (d : Bytes) : (m.extend r d).Form :=
  (m.extend_mrs_length r d).trans h

theorem Fabric.Form.modDie {f : Fabric} (h : f.Form) (n : Nat) (g : Die → Die) : (f.modDie n g).Form :=
  ⟨(modifyAt_length _ _ _).trans h.1, h.2⟩

theorem Core.Form.default : ({} : Core).Form := ⟨rfl, rfl⟩

theorem Fabric.Form.setCore {f : Fabric} (h : f.Form) (n : Nat) {c : Core} (hc : c.Form) : (f.setCore n c).Form := by
  refine ⟨h.1, SMap.wf_set _ _ _ _ h.2.1, fun k => ?_⟩
  rw [Fabric.core, Fabric.setCore, SMap.get_set _ _ _ _ _ h.2.1]
  split
  · exact hc
  · exact h.2.2 k

theorem Fabric.Form.modCore {f : Fabric} (h : f.Form) (n : Nat) {g : Core → Core} (hg : ∀ c : Core, c.Form → (g c).Form) :
    (f.modCore n g).Form := h.setCore n (hg _ (h.2.2 n))

theorem Core.Form.abandon {c : Core} (h : c.Form) : c.abandon.Form := h

theorem HostPath.Form.mapSubs {h : HostPath} (hh : h.Form) (g : Nat → Submission → Submission) : (h.mapSubs g).Form := by
  obtain ⟨hr, hf, hs, hm⟩ := hh
  exact ⟨hr, hf, SMap.wf_map none (fun e => (e.1, e.2.map (g e.1))) (fun _ => rfl) (fun x hx => by simpa using hx) _ hs, hm⟩

theorem HostPath.Form.modSub {h : HostPath} (hh : h.Form) (tag : Nat) (g : Submission → Submission) : (h.modSub tag g).Form :=
  ⟨hh.1, hh.2.1, SMap.wf_modify _ _ _ _ hh.2.2.1, hh.2.2.2⟩

theorem HostPath.Form.cache {h : HostPath} (hh : h.Form) (addr len : Nat) : (h.cache addr len).Form := by
  unfold HostPath.cache; split
  · exact ⟨hh.1, hh.2⟩
  · exact hh

theorem HostPath.Form.invalidate {h : HostPath} (hh : h.Form) (iova len : Nat) : (h.invalidate iova len).Form := by
  unfold HostPath.invalidate; split <;> exact hh

theorem HostPath.Form.requestPage {h : HostPath} (hh : h.Form) (p : PageOwner) (now : Nat) : (h.requestPage p now).Form := by
  unfold HostPath.requestPage; split <;> exact hh

theorem HostPath.Form.endPage {h : HostPath} (hh : h.Form) (p : PageOwner) (now : Nat) : (h.endPage p now).Form := hh

theorem HostPath.Form.parkWaiting {h : HostPath} (hh : h.Form) (mask : BitVec 64) (code : Nat) (debug : Bool) :
    (h.parkWaiting mask code debug).Form := hh.mapSubs _

theorem HostPath.Form.voidTide {h : HostPath} (hh : h.Form) (t : Tide) (mask : BitVec 64) (now : Nat) (debug : Bool) :
    (h.voidTide t mask now debug).Form := hh.mapSubs _

theorem HostPath.Form.clearSession {h : HostPath} (hh : h.Form) : h.clearSession.Form := ⟨rfl, hh.2.1, rfl, hh.2.2.2⟩

theorem Fabric.Form.clearSession {f : Fabric} (h : f.Form) : f.clearSession.Form := ⟨h.1, rfl, fun _ => Core.Form.default⟩

theorem Shoal.Form.clearSession (h : Shoal) : h.clearSession.Form := by
  refine ⟨rfl, fun n => ?_⟩
  have hd : (List.replicate 12 ({} : Cluster)).getD n {} = {} := by
    simp only [List.getD, List.getElem?_replicate]; split <;> rfl
  rw [Shoal.cluster, Shoal.clearSession, hd]
  rfl

theorem Hosting.Form.clearSession {h : Hosting} (hh : h.Form) : h.clearSession.Form := ⟨hh.1, rfl, hh.2.2⟩

theorem BnContext.Form.cleared (code : Nat) : (BnContext.cleared code).Form := rfl

theorem Engines.Form.bnAlarm {e : Engines} (h : e.Form) : e.bnAlarm.Form := ⟨h.1, h.2.1, h.2.2.1, rfl, rfl⟩

theorem Engines.Form.clearLanes {e : Engines} (h : e.Form) : e.clearLanes.Form := ⟨h.1, rfl, rfl, h.2.2.2⟩

theorem Retained.Form.scrubAll {r : Retained} (h : r.Form) : r.scrubAll.Form := by
  obtain ⟨hs, ht, hp, hr⟩ := h
  refine ⟨by simpa [Retained.scrubAll] using hs, ht, hp, SMap.wf_map _ _ (fun x => ?_) (fun x hx => ?_) _ hr⟩
  · split <;> rfl
  · split
    · exact fun h => nomatch congrArg Region.state h
    · exact hx

/-! ### Shared operations (Ops, Signing, HostDma) -/

variable {s : State}

theorem State.Kept.drawn (h : s.Kept o i) : s.drawn.Kept o i := { h with }
theorem State.Kept.generated (h : s.Kept o i) : s.generated.Kept o i := { h with }
theorem State.Kept.generatedBy (h : s.Kept o i) (n : Nat) : (s.generatedBy n).Kept o i := { h with }
theorem State.Kept.transfer (h : s.Kept o i) (k : Bytes) : (s.transfer k).1.Kept o i := { h with }
theorem State.Kept.agreeEc (h : s.Kept o i) (a b : Bytes) : (s.agreeEc a b).1.Kept o i := h.generatedBy 2
theorem State.Kept.fault (h : s.Kept o i) (r : FaultRec) : (s.fault r).Kept o i := { h with }

theorem State.Kept.extendMr (h : s.Kept o i) (r : Nat) (d : Bytes) : (s.extendMr r d).Kept o i :=
  { h with measure := fun hi => (h.measure hi).extend r d }

theorem State.Kept.keyEvent (h : s.Kept o i) (code id : Nat) (pk : Digest) : (s.keyEvent code id pk).Kept o i := h.extendMr _ _

theorem State.Kept.extendFault (h : s.Kept o i) (r : FaultRec) : (s.extendFault r).Kept o i := by
  have h' := h.extendMr 14 r.bytes
  unfold State.extendFault
  generalize s.extendMr 14 r.bytes = t at h'
  exact { h' with }

theorem State.Kept.bnAlarm (h : s.Kept o i) : s.bnAlarm.Kept o i := { h with engines := fun hi => (h.engines hi).bnAlarm }

theorem State.Kept.voidStreams (h : s.Kept o i) (l : List Nat) : (s.voidStreams l).Kept o i := by
  unfold State.voidStreams
  split
  · exact h
  · exact { h with
      fabric := fun hi => kept_foldl (P := Fabric.Form) (fun _ n hf => hf.modCore n fun _ => Core.Form.abandon) _ (h.fabric hi)
      host := fun hi => (h.host hi).voidTide _ _ _ _ }

theorem State.Kept.haltStreams (h : s.Kept o i) (l : List Nat) : (s.haltStreams l).Kept o i :=
  { h with host := fun hi => (h.host hi).parkWaiting _ _ _ }

theorem State.Kept.settleReady (h : s.Kept o i) : s.settleReady.Kept o i := by
  unfold State.settleReady
  split
  · split <;> exact { h with }
  · split <;> exact { h with }
  · exact h

theorem State.Kept.selectFallback (h : s.Kept o i) (die : Option Nat) (l : List Nat) : (s.selectFallback die l).Kept o i := by
  unfold State.selectFallback
  split
  · exact h
  · exact kept_foldl (fun _ _ h => h.fault _) _ { h with }

theorem State.Kept.planFault (h : s.Kept o i) (core code step : Nat) : (s.planFault core code step).Kept o i :=
  let h' := (h.voidStreams (s.fabric.streamsOfCore core)).haltStreams (s.fabric.streamsOfCore core)
  { h' with fabric := fun hi => (h'.fabric hi).modDie _ _ }

theorem State.Kept.sign (h : s.Kept o i) (k : Signer) (a b : Bytes) : (s.sign k a b).1.Kept o i := by
  unfold State.sign
  dsimp only
  split_ifs
  · exact h.generatedBy 4
  · exact h.generatedBy 8
  · exact (h.generatedBy 8).bnAlarm

theorem State.Kept.signEc (h : s.Kept o i) (seed m : Bytes) : (s.signEc seed m).1.Kept o i := by
  unfold State.signEc
  dsimp only
  split_ifs
  · exact h.generatedBy 3
  · exact h.generatedBy 6
  · exact (h.generatedBy 6).bnAlarm

theorem State.Kept.signCose (h : s.Kept o i) (k : Signer) (u p : Bytes) : (s.signCose k u p).1.Kept o i := h.sign _ _ _

theorem State.Kept.issueCert (h : s.Kept o i) (t : Nat) (pub : Bytes) (k : Signer) (l : List Digest) :
    (s.issueCert t pub k l).1.Kept o i := h.signCose k (cborMap []) _

theorem State.Kept.useCurve (h : s.Kept o i) (block : Bytes) : (s.useCurve block).1.Kept o i := by
  unfold State.useCurve
  split
  · exact h
  · dsimp only
    split_ifs <;> exact { h.generatedBy (2 * primeDraws) with }

theorem State.Kept.rsaSign (h : s.Kept o i) (k : RsaKey) (m : Nat) : (s.rsaSign k m).1.Kept o i := by
  unfold State.rsaSign
  dsimp only
  split_ifs
  · exact h
  · exact h.generatedBy 3
  · exact h.generatedBy 6
  · exact (h.generatedBy 6).bnAlarm

theorem State.Kept.takeF0 (h : s.Kept o i) : s.takeF0.Kept o i := { h with }

theorem State.Kept.refusedAccess (h : s.Kept o i) (p : PageOwner) {fail : State → State} (hf : (fail s).Kept o i) :
    (s.refusedAccess p fail).Kept o i := by
  unfold State.refusedAccess
  split
  · exact { h with host := fun hi => (h.host hi).requestPage _ _ }
  · exact hf

/-! ### Sessions -/

theorem State.Kept.makeCut (h : s.Kept o i) (cause : Nat) : (s.makeCut cause).Kept o i := { h with }

theorem State.Kept.cut (h : s.Kept o i) (cause : Nat) : (s.cut cause).Kept o i := by
  unfold State.cut
  split_ifs
  · exact h
  · exact { h with }
  · exact h.makeCut cause

theorem State.Kept.track {t : State} (h : t.Kept o i) (s : State) : (State.track s t).Kept o i := by
  unfold State.track
  split
  · have h' : ({ t with measure := { t.measure with named := t.ret.lastSigned } } : State).Kept o i := { h with }
    exact h'.cut 5
  · exact h

theorem State.Kept.darkenRegion (h : s.Kept o i) (region : Nat) : (s.darkenRegion region).Kept o i := by
  unfold State.darkenRegion
  split
  · exact h
  · split
    · exact { h with host := fun hi => (h.host hi).parkWaiting _ _ _ }
    · exact h

theorem State.Kept.finishClose (h : s.Kept o i) : s.finishClose.Kept o i :=
  let h' := h.cut 6
  { h' with
    ret := fun hi => (h'.ret hi).scrubAll, fabric := fun hi => (h'.fabric hi).clearSession, host := fun hi => (h'.host hi).clearSession
    engines := fun hi => (h'.engines hi).clearLanes, shoal := fun _ => Shoal.Form.clearSession _
    hosting := fun hi => (h'.hosting hi).clearSession }

theorem State.Kept.settleClose (h : s.Kept o i) : s.settleClose.Kept o i := by
  unfold State.settleClose
  split
  · exact h.finishClose
  · exact h

theorem State.Kept.settleClosed (h : s.Kept o i) : s.settleClosed.Kept o i := by
  unfold State.settleClosed
  split <;> exact { h with }

end Sys2Proof.Machine
end

section
namespace Sys2Proof.Machine

variable {o : Otp} {i : Prop} {s : State}

/-! ### Starts -/

theorem Retained.Form.afterReset {r : Retained} (h : r.Form) (session : Bool) : (r.afterReset session).Form := by
  unfold Retained.afterReset
  split
  · exact h.scrubAll
  · exact h

theorem Retained.Form.withdrawDebug {r : Retained} (h : r.Form) (time : Nat) : (r.withdrawDebug time).Form := ⟨h.1, rfl, h.2.2⟩

theorem Retained.Form.tampered {r : Retained} (h : r.Form) (mask level time : Nat) : (r.tampered mask level time).Form :=
  h.withdrawDebug time

theorem Retained.Form.default : ({} : Retained).Form := ⟨rfl, rfl, rfl, rfl⟩

theorem Retained.Form.checked {r : Retained} (h : r.Form) (c : StartConds) (now : Nat) : (r.checked c now).Form := by
  unfold Retained.checked
  split
  · exact Retained.Form.default
  · exact h

theorem Engines.Form.alarm {e : Engines} (h : e.Form) (code : Nat) : (e.alarm code).Form := ⟨rfl, h.2⟩

theorem Engines.Form.zeroise {e : Engines} (h : e.Form) : e.zeroise.Form := (h.alarm 6).bnAlarm.clearLanes

theorem Fabric.Form.volatile (l : SMap HbmLine) : ({ hbm := l } : Fabric).Form := ⟨rfl, rfl, fun _ => Core.Form.default⟩

theorem Shoal.Form.default : ({} : Shoal).Form := Shoal.Form.clearSession {}

theorem State.Kept.volatile (h : s.Kept o i) : s.volatile.Kept o i where
  otp := h.otp
  hostMem := h.hostMem
  ret := fun hi => (h.ret hi).afterReset _
  keys := fun _ => rfl
  engines := fun _ => ⟨rfl, rfl, rfl, rfl, rfl⟩
  fabric := fun _ => Fabric.Form.volatile _
  host := fun _ => ⟨rfl, rfl, rfl, rfl, rfl⟩
  shoal := fun _ => Shoal.Form.default
  measure := fun _ => rfl
  hosting := fun _ => ⟨rfl, rfl, rfl, rfl⟩
  straits := fun _ => rfl
  od := fun _ => rfl
  causeway := fun _ => rfl
  power := fun _ => rfl

theorem State.Kept.tamperAt (h : s.Kept o i) (mask level : Nat) : (s.tamperAt mask level).Kept o i := by
  have hv := h.volatile
  have ho : (if level = 2 then s.otp.takeLifecycle 3 else s.otp).Kept o i := by
    split
    · exact h.otp.takeLifecycle 3
    · exact h.otp
  exact { hv with otp := ho, ret := fun hi => (hv.ret hi).tampered _ _ _, engines := fun hi => (h.engines hi).zeroise }

theorem State.Kept.tamper (h : s.Kept o i) (src : Nat) : (s.tamper src).Kept o i := h.tamperAt _ _

theorem State.Kept.generateDrs (h : s.Kept o i) : s.generateDrs.Kept o i := { h with }

theorem State.Kept.tamperHalted (h : s.Kept o i) : s.tamperHalted.Kept o i := { h with }

theorem State.Kept.bootChecked (h : s.Kept o i) (c : StartConds) : (s.bootChecked c).Kept o i := by
  unfold State.bootChecked
  extract_lets _ s1 s2 _ s3 _ _ s4
  have h1 : s1.Kept o i := { h with }
  have h2 : s2.Kept o i := (h1.extendMr _ _).extendMr _ _
  clear_value s2
  have h3 : s3.Kept o i := { h2 with }
  have h4 : s4.Kept o i := by
    unfold s4
    split
    · exact h3.generateDrs
    · exact h3
  clear_value s3 s4
  split_ifs
  · exact h2.tamperHalted
  · exact { h2 with }
  · exact { h3 with }
  · exact { h4 with }

theorem State.Kept.boot (h : s.Kept o i) (c : StartConds) (held : Bool) : (s.boot c held).Kept o i := by
  unfold State.boot
  extract_lets _ _ s1
  have h1 : s1.Kept o i := { h with }
  clear_value s1
  split_ifs
  · exact { h1 with }
  · exact h1.tamperAt _ _
  · exact h1.tamperHalted
  · exact h1.bootChecked c

theorem State.Kept.restart (h : s.Kept o i) (c : StartConds) : (s.restart c).Kept o i := by
  have hv := h.volatile
  have h' : ({ s.volatile with ret := s.volatile.ret.checked c s.now } : State).Kept o i :=
    { hv with ret := fun hi => (hv.ret hi).checked _ _ }
  exact h'.boot c _

theorem State.Kept.warmReset (h : s.Kept o i) (c : StartConds) : (s.warmReset c).Kept o i := by
  unfold State.warmReset
  split
  · exact h.restart c
  · exact h

theorem State.Kept.coldStart (h : s.Kept o i) (c : StartConds) : (s.coldStart c).Kept o i := by
  have hv := h.volatile
  have h' : ({ s.volatile with ret := Retained.cold, clock := {}, pins := { s.volatile.pins with stby := true } } : State).Kept o i :=
    { hv with ret := fun _ => Retained.Form.default }
  exact h'.boot c false

theorem State.Kept.internalReset (h : s.Kept o i) : s.internalReset.Kept o i := h.warmReset _

theorem State.Kept.settleDebug (h : s.Kept o i) : s.settleDebug.Kept o i := by
  unfold State.settleDebug
  have h' : ({ s with start := { s.start with debugEnd := 2 } } : State).Kept o i := { h with }
  split_ifs
  · exact h'.cut 3
  · exact h.internalReset
  · exact h

theorem State.Kept.settleReset (h : s.Kept o i) : s.settleReset.Kept o i := by
  unfold State.settleReset
  have h' : ({ s with ret := { s.ret with commitTime := s.now, commitDue := true } } : State).Kept o i := { h with }
  split_ifs
  · exact h'.internalReset
  · exact h.internalReset
  · exact h
  · exact h

theorem State.Kept.refuseAfterRuntime (h : s.Kept o i) (code step : Nat) : (s.refuseAfterRuntime code step).Kept o i := by
  unfold State.refuseAfterRuntime
  extract_lets _ r
  have h' : ({ s with ret := r } : State).Kept o i := { h with }
  exact h'.internalReset

theorem State.Kept.refuseSet (h : s.Kept o i) (code : Nat) : (s.refuseSet code).Kept o i := { h with }

/-! ### Rights -/

theorem State.Kept.countTee (h : s.Kept o i) : s.countTee.Kept o i := { h with }

theorem State.Kept.violate (h : s.Kept o i) (ch : Channel) (index sub kind : Nat) : (s.violate ch index sub kind).Kept o i := { h with }

theorem State.Kept.ignoreWrite (h : s.Kept o i) (index sub : Nat) : (s.ignoreWrite index sub).Kept o i := { h with }

theorem Od.Form.modChannel {d : Od} (h : d.Form) (k : Nat) (f : ChannelState → ChannelState) :
    ({ d with channels := modifyAt d.channels k f } : Od).Form := (modifyAt_length _ _ _).trans h

theorem Od.Form.closeTransfer {d : Od} (h : d.Form) (k : Nat) : (d.closeTransfer k).Form := by
  unfold Od.closeTransfer
  dsimp only
  have h' := h.modChannel k fun c => { c with opened := none }
  split
  · split <;> exact h'
  · exact h'

theorem Hosting.Form.modSession {h : Hosting} (hh : h.Form) (k : Nat) (f : SpdmSession → SpdmSession) :
    ({ h with sessions := modifyAt h.sessions k f } : Hosting).Form := ⟨(modifyAt_length _ _ _).trans hh.1, hh.2⟩

theorem Causeway.Form.modSession {c : Causeway} (h : c.Form) (k : Nat) (f : CwSession → CwSession) :
    ({ c with sessions := modifyAt c.sessions k f } : Causeway).Form := (modifyAt_length _ _ _).trans h

theorem State.Kept.applyWrite (h : s.Kept o i) (index sub : Nat) {f : State → Option State} (hf : keptSome o i (f s)) :
    (s.applyWrite index sub f).1.Kept o i := by
  unfold State.applyWrite
  split
  case h_1 t ht => exact hf t ht
  case h_2 => exact h.ignoreWrite index sub

theorem State.Kept.odWrite (h : s.Kept o i) (ch : Channel) (index sub : Nat) (r : Rights) {f : State → Option State}
    (hf : keptSome o i (f s)) : (s.odWrite ch index sub r f).1.Kept o i := by
  unfold State.odWrite
  split_ifs
  · exact h
  · exact h.countTee
  · exact h
  · exact h.violate ch index sub 2
  · exact h
  · exact h
  · exact h.applyWrite index sub hf

theorem State.Kept.touch (h : s.Kept o i) (ch : Channel) : (s.touch ch).Kept o i := by
  unfold State.touch
  split
  · cases ch with
    | bar0 tee => exact h
    | spdm k => exact { h with hosting := fun hi => (h.hosting hi).modSession _ _ }
    | causeway k => exact { h with causeway := fun hi => (h.causeway hi).modSession _ _ }
  · exact h

theorem State.Kept.odRow (h : s.Kept o i) {ch : Channel} {index sub : Nat} {r : Rights} {f : State → Option State}
    (hf : ∀ t : State, t.Kept o i → keptSome o i (f t)) : (s.odRow ch index sub r f).Kept o i :=
  (h.touch ch).odWrite ch index sub r (hf _ (h.touch ch))

theorem State.Kept.refuseDelivery (h : s.Kept o i) (code : Nat) : (s.refuseDelivery code).Kept o i := by
  unfold State.refuseDelivery
  extract_lets _ s1
  have h1 : s1.Kept o i := { h with }
  clear_value s1
  split
  · exact { h1 with }
  · split
    · exact { h1 with }
    · split
      · exact h1.refuseAfterRuntime code 11
      · exact h1.refuseSet code

theorem State.Kept.endCauseway (h : s.Kept o i) (k : Nat) : (s.endCauseway k).Kept o i := by
  unfold State.endCauseway
  extract_lets _ s1
  have h1 : s1.Kept o i :=
    { h with causeway := fun hi => (h.causeway hi).modSession k fun _ => {}, od := fun hi => (h.od hi).closeTransfer _ }
  clear_value s1
  split
  · split
    · exact h1.refuseDelivery 0x0A
    · exact h1
  · exact h1

/-! ### Firmware sets -/

theorem State.Kept.refuseBusy (h : s.Kept o i) : s.refuseBusy.Kept o i := { h with }

theorem State.Kept.refuseOther (h : s.Kept o i) (fromHost : Bool) : (s.refuseOther fromHost).Kept o i := by
  unfold State.refuseOther
  split
  · exact { h with }
  · exact h

theorem State.Kept.deliver (h : s.Kept o i) (fromHost : Bool) (len : Nat) (img : SetImage) : (s.deliver fromHost len img).Kept o i := by
  unfold State.deliver
  split
  · exact h.refuseBusy
  · extract_lets code s1 l
    have h1 : s1.Kept o i := by
      unfold s1
      split
      · exact h.takeF0
      · exact h
    clear_value s1 l
    have h2 : ({ s1 with start := { s1.start with update := some l } } : State).Kept o i := { h1 with }
    have h3 : ({ s1 with start := { s1.start with
          load := some l, phase := .loading, running := some l.manifest, source := if fromHost then 1 else 2 } } : State).Kept
        o i := { h1 with }
    split
    · split
      · exact h2.refuseOther fromHost
      · exact { h1 with }
    · split
      · exact h3.refuseOther fromHost
      · exact h1.refuseSet code

theorem Keys.Form.setStore {k : Keys} (h : k.Form) (n : Nat) (x : Option KeyEntry) :
    ({ k with store := SMap.set none k.store n x } : Keys).Form := SMap.wf_set none k.store n x h

theorem State.Kept.putKey (h : s.Kept o i) (n : KeyName) (k : Bytes) : (s.putKey n k).Kept o i :=
  { h with keys := fun hi => Keys.Form.setStore (k := { s.keys with wkr := _ }) (h.keys hi) n.index _ }

theorem Engines.Form.contexts {e : Engines} (h : e.Form) {a b : BnContext} (ha : a.Form) (hb : b.Form) :
    ({ e with long := a, short := b } : Engines).Form := ⟨h.1, h.2.1, h.2.2.1, ha, hb⟩

theorem State.Kept.loadPort (h : s.Kept o i) (c : BnCtx) (n : KeyName) : (s.loadPort c n).Kept o i := by
  cases c <;> exact { h with }

theorem State.Kept.dropKey (h : s.Kept o i) (n : KeyName) : (s.dropKey n).Kept o i :=
  { h with keys := fun hi => (h.keys hi).setStore _ _ }

theorem State.Kept.selectRoot (h : s.Kept o i) : s.selectRoot.Kept o i := { h with }

theorem State.Kept.extendSecurity (h : s.Kept o i) : s.extendSecurity.Kept o i := (h.extendMr _ _).extendMr _ _

theorem State.Kept.chainCut (h : s.Kept o i) : s.chainCut.Kept o i := by
  unfold State.chainCut
  split
  · exact h.extendFault _
  · exact h

theorem State.Kept.extendPending (h : s.Kept o i) : s.extendPending.Kept o i := by
  unfold State.extendPending
  extract_lets s1 s2 s3 expired s4 s5
  have h1 : s1.Kept o i := kept_foldl (P := State.Kept o i) (fun _ _ h => h.extendFault _) _ h
  have h2 : s2.Kept o i := h1.chainCut
  have h3 : s3.Kept o i := kept_foldl (P := State.Kept o i) (fun _ _ h => h.extendMr _ _) _ h2
  have h4 : s4.Kept o i := kept_foldl (P := State.Kept o i) (fun _ _ h => h.extendMr _ _) _ h3
  have h5 : s5.Kept o i := by
    unfold s5
    split
    · exact h4
    · exact h4.extendMr _ _
  clear_value s5
  exact { h5 with
    ret := fun hi => ⟨(h5.ret hi).1, (List.length_map _).trans (h5.ret hi).2.1, (h5.ret hi).2.2⟩ }

theorem State.Kept.deriveBinding (h : s.Kept o i) : s.deriveBinding.Kept o i := by
  unfold State.deriveBinding
  extract_lets root e sd s1 _ s2 pd s3
  have h1 : s1.Kept o i := (h.putKey _ _).putKey _ _
  clear_value s1
  have h2 : s2.Kept o i := by
    have h' : ({ s1 with keys := { s1.keys with bindPub := bindingPub sd.1 sd.2 } } : State).Kept o i := { h1 with }
    exact h'.loadPort _ _
  clear_value s2
  have h3 : s3.Kept o i := (h2.putKey _ _).putKey _ _
  clear_value s3
  split
  · exact { h3 with }
  · exact h2

theorem State.Kept.deriveAlias (h : s.Kept o i) : s.deriveAlias.Kept o i := by
  unfold State.deriveAlias
  extract_lets sd pub s1 s2 r _ _ s3
  have h2 : s2.Kept o i := (((h.putKey _ _).putKey _ _).putKey _ _).loadPort _ _
  clear_value s2
  have hr : r.1.Kept o i := h2.issueCert 2 pub _ _
  clear_value r
  have h3 : s3.Kept o i := { hr with }
  clear_value s3
  split
  case h_1 p _ _ =>
    have h4 : (if sha384 p = sha384 pub then s3.keyEvent 3 0 (sha384 pub) else s3.keyEvent 4 0 (sha384 p)).Kept o i := by
      split
      · exact h3.keyEvent _ _ _
      · exact h3.keyEvent _ _ _
    generalize (if sha384 p = sha384 pub then s3.keyEvent 3 0 (sha384 pub) else s3.keyEvent 4 0 (sha384 p)) = s4 at h4
    exact { h4 with }
  case h_2 => exact { h3 with }

theorem State.Kept.issueDebugCert (h : s.Kept o i) (pub : Bytes) : (s.issueDebugCert pub).Kept o i := by
  have hcert : ∀ r : State × Bytes, r.1.Kept o i →
      ({ r.1 with keys := { r.1.keys with debugIdevidCert := r.2 } } : State).Kept o i := fun r hr => { hr with }
  exact hcert (s.issueCert 1 pub ⟨debugRootSeeds.1, debugRootSeeds.2⟩ []) (h.issueCert 1 pub _ [])

theorem State.Kept.debugCert (h : s.Kept o i) : s.debugCert.Kept o i := by
  unfold State.debugCert
  split
  · exact h.issueDebugCert _
  · exact h

theorem State.Kept.deriveKeys (h : s.Kept o i) : s.deriveKeys.Kept o i := by
  unfold State.deriveKeys
  extract_lets root s1 c0 c1 s2 sd s3 _ s4
  have h3 : s3.Kept o i := ((((h.putKey _ _).keyEvent _ _ _).putKey _ _).putKey _ _ |>.putKey _ _).putKey _ _
  clear_value s3
  have h4 : s4.Kept o i := by
    have h' : ({ s3 with keys := { s3.keys with idevidPub := hybridPub sd.1 sd.2 } } : State).Kept o i := { h3 with }
    exact h'.debugCert
  clear_value s4
  split
  · exact { h4 with }
  · exact h4.deriveAlias.deriveBinding

theorem State.Kept.step12 (h : s.Kept o i) : s.step12.Kept o i := by
  unfold State.step12
  extract_lets s1
  have h1 : s1.Kept o i := h.selectRoot.extendSecurity.extendPending.deriveKeys
  clear_value s1
  exact { h1 with }

theorem State.Kept.recordStartFailures (h : s.Kept o i) (mask : BitVec 12) : (s.recordStartFailures mask).Kept o i := by
  refine kept_foldl (P := State.Kept o i) (fun t n ht => ?_) _ h
  split
  · exact ht.fault _
  · exact ht

theorem State.Kept.release (h : s.Kept o i) (govFail vfabFail : BitVec 12) : (s.release govFail vfabFail).Kept o i := by
  refine State.Kept.recordStartFailures ?_ _
  exact { h with
    fabric := fun hi => ⟨List.length_mapIdx.trans (h.fabric hi).1, (h.fabric hi).2⟩
    power := fun hi => List.length_mapIdx.trans (h.power hi)
    straits := fun hi => List.length_mapIdx.trans (h.straits hi) }

theorem State.Kept.nameLastSigned (h : s.Kept o i) : s.nameLastSigned.Kept o i := { h with }

theorem State.Kept.acceptItem (h : s.Kept o i) (l : SetLoad) (k : SetItem) : (s.acceptItem l k).Kept o i := by
  unfold State.acceptItem
  extract_lets s1 _ s2
  have h1 : s1.Kept o i := h.extendMr _ _
  clear_value s1
  have h2 : s2.Kept o i := { h1 with }
  clear_value s2
  split
  · exact h2.nameLastSigned
  · exact h2

theorem State.Kept.endTransfer (h : s.Kept o i) (fromHost : Bool) : (s.endTransfer fromHost).Kept o i := by
  unfold State.endTransfer
  split
  · exact h
  · exact { h with }

theorem State.Kept.loadComplete (h : s.Kept o i) (govFail vfabFail : BitVec 12) : (s.loadComplete govFail vfabFail).Kept o i := by
  unfold State.loadComplete
  have h0 : ({ s with start := { s.start with load := none, phase := .releasing, setResult := 0 } } : State).Kept o i := { h with }
  extract_lets _ s1 s2
  have h2 : s2.Kept o i := (h0.endTransfer _).step12
  clear_value s2
  split
  · exact h2
  · exact h2.release _ _

end Sys2Proof.Machine
end

section
namespace Sys2Proof.Machine

variable {o : Otp} {i : Prop} {s : State}

/-! ### The big-number engine -/

theorem BnContext.Form.mac {c : BnContext} (h : c.Form) (lanes : Bool) (f : BnFlags) (a b dst : BitVec 12) :
    (c.mac lanes f a b dst).Form := by
  unfold BnContext.mac
  split
  · exact h
  · change SMap.wf 0 (if f.out then _ else c.words) = true
    split
    · exact SMap.wf_set _ _ _ _ h
    · exact h

theorem BnContext.Form.keyload {c : BnContext} (h : c.Form) (dst : BitVec 12) : (c.keyload dst).Form := by
  unfold BnContext.keyload
  split
  · exact h
  · split
    · exact h
    · exact SMap.wf_setMany 0 _ c.words _ h

theorem BnContext.Form.run {c : BnContext} (h : c.Form) (now : Nat) (cmd : BnCmd) : (c.run now cmd).Form := by
  cases cmd with
  | mac lanes f a b dst => exact h.mac lanes f a b dst
  | keyload dst => exact h.keyload dst
  | fin => exact h

theorem BnContext.Form.drain {c : BnContext} (h : c.Form) (now n : Nat) (q : List BnCmd) : (c.drain now n q).1.Form := by
  induction n generalizing c q with
  | zero => cases q <;> exact h
  | succ n ih =>
    cases q with
    | nil => exact h
    | cons cmd q =>
      have hr := h.run now cmd
      unfold BnContext.drain
      generalize c.run now cmd = d at hr
      dsimp only
      split
      · exact ih hr q
      · exact hr

theorem Engines.Form.modCtx {e : Engines} (h : e.Form) (c : BnCtx) {f : BnContext → BnContext} (hf : ∀ x : BnContext, x.Form → (f x).Form) :
    (e.modCtx c f).Form := by
  obtain ⟨hj, hb, hq, hl, hs⟩ := h
  cases c with
  | long => exact ⟨hj, hb, hq, hf _ hl, hs⟩
  | short => exact ⟨hj, hb, hq, hl, hf _ hs⟩

theorem Engines.Form.runShort {e : Engines} (h : e.Form) (v : BnEnv) : (e.runShort v).Form :=
  ⟨h.1, h.2.1, h.2.2.1, h.2.2.2.1, BnContext.Form.drain (c := e.short.begin) h.2.2.2.2 _ _ _⟩

theorem Engines.Form.runLong {e : Engines} (h : e.Form) {c : BnContext} (hc : c.Form) (done : Nat) (v : BnEnv) :
    (e.runLong c done v).Form := by
  have hr : (e.resumed c v.now).Form := by
    unfold Engines.resumed
    split <;> exact hc
  exact ⟨h.1, h.2.1, h.2.2.1, hr.drain _ _ _, h.2.2.2.2⟩

theorem Engines.Form.schedule (v : BnEnv) (n : Nat) {e : Engines} (h : e.Form) (c : BnCtx) : (Engines.schedule v n e c).Form := by
  induction n generalizing e c with
  | zero => exact h
  | succ n ih =>
    have hl : e.long.Form := h.2.2.2.1
    unfold Engines.schedule
    split
    · exact h
    · cases c with
      | short =>
        dsimp only
        split_ifs
        · exact ih (h.runLong hl 0 v) .long
        · exact ih (h.runLong (c := e.long.begin) hl 0 v) .long
        · exact ih (h.runShort v) .short
        · exact h
      | long =>
        dsimp only
        split_ifs
        · exact ih (h.runShort v) .short
        · exact ih (h.runLong (c := e.long.begin) hl 0 v) .long
        · exact h

theorem Engines.Form.settle {e : Engines} (h : e.Form) (c : BnCtx) (v : BnEnv) : (e.settle c v).Form := Engines.Form.schedule v _ h c

theorem Engines.Form.command {e : Engines} (h : e.Form) (c : BnCtx) (cmd : BnCmd) (v : BnEnv) : (e.command c cmd v).Form := by
  unfold Engines.command
  split
  · refine Engines.Form.settle ?_ c v
    exact h.modCtx c fun x hx => BnContext.Form.run (c := x.begin) hx v.now cmd
  · split
    · refine Engines.Form.settle ?_ c v
      exact h.modCtx c fun x hx => hx.run v.now cmd
    · exact h.modCtx c fun x hx => hx

theorem State.Kept.command (h : s.Kept o i) (c : BnCtx) (cmd : BnCmd) :
    ({ s with engines := s.engines.command c cmd s.bnEnv } : State).Kept o i :=
  { h with engines := fun hi => (h.engines hi).command c cmd _ }

theorem kept_execBnYield (h : s.Kept o i) : keptNext o i (execBnYield s) := by
  refine State.Kept.toNext ?_
  split
  · have hy : i → ({ s.engines with
      longYielded := true, yieldedAt := s.clock.count, yields := bump s.engines.yields, longDone := 0 } : Engines).Form := h.engines
    exact { h with engines := fun hi => ((hy hi).runShort _).settle .short _ }
  · exact h

theorem kept_execBnSealedAccess (h : s.Kept o i) (c : BnCtx) (word : BitVec 12) : keptNext o i (execBnSealedAccess c word s) := by
  refine State.Kept.toNext ?_
  split
  · exact h
  · exact { h with }

/-! ### Keys -/

theorem State.Kept.keyCommand (h : s.Kept o i) (code : Nat) : (s.keyCommand code).Kept o i := { h with }

theorem State.Kept.writeAliasCommit (h : s.Kept o i) (v : Byte) : keptSome o i (s.writeAliasCommit v) := by
  unfold State.writeAliasCommit
  split_ifs
  · exact keptSome_none
  · exact (h.keyCommand 5).toSome
  · exact (h.keyCommand 1).toSome
  · have h' : ({ s.keyCommand 0 with
      keys := { (s.keyCommand 0).keys with committing := true }
      measure := { s.measure with commitTransition := true, named := s.ret.lastSigned } } : State).Kept o i := { h with }
    exact (h'.cut 4).toSome

theorem State.Kept.writeIdevidCertCopyWrite (h : s.Kept o i) (cert : Bytes) : keptSome o i (s.writeIdevidCertCopyWrite cert) := by
  unfold State.writeIdevidCertCopyWrite
  split
  · exact State.Kept.toSome { h with }
  · exact keptSome_none

theorem kept_execRemaskPass (h : s.Kept o i) : keptNext o i (execRemaskPass s) := by
  refine State.Kept.toNext ?_
  split
  · refine State.Kept.generated { h with keys := fun hi => ?_ }
    exact SMap.wf_map none (fun e => (e.1, e.2.map fun k => k.remask (Config.drbg s.draws))) (fun _ => rfl)
      (fun x hx => by simpa using hx) s.keys.store (h.keys hi)
  · exact h

theorem Otp.Kept.blowEpoch {p : Otp} (h : p.Kept o i) (k : Nat) : ({ p with epoch := p.epoch.blow k } : Otp).Kept o i :=
  h.blown rfl ⟨Thermo.within_refl _, Thermo.within_refl _, Thermo.within_blow _ _, fun _ => Thermo.within_refl _⟩ rfl rfl

theorem State.Kept.advanceBinding (h : s.Kept o i) : s.advanceBinding.Kept o i := by
  unfold State.advanceBinding
  extract_lets e old _ _ s1 sd ec kem s2 s3 pub _ s4
  have h1 : s1.Kept o i := { h with otp := h.otp.blowEpoch e }
  have h2 : s2.Kept o i := by
    unfold s2
    split
    · exact (h1.dropKey _).dropKey _
    · exact (h1.putKey _ _).putKey _ _
  clear_value s2
  have h3 : s3.Kept o i := ((h2.putKey _ _).putKey _ _).loadPort _ _
  clear_value s3
  have h4 : s4.Kept o i := { h3 with }
  clear_value s4
  exact (h4.keyEvent _ _ _).keyCommand 0

theorem State.Kept.writeBindingAdvance (h : s.Kept o i) (v : Byte) (selfTestOk blowOk : Bool) :
    keptSome o i (s.writeBindingAdvance v selfTestOk blowOk) := by
  unfold State.writeBindingAdvance
  split_ifs
  · exact keptSome_none
  · exact (h.keyCommand 1).toSome
  · exact (h.keyCommand 4).toSome
  · exact (h.keyCommand 2).toSome
  · exact (h.keyCommand 3).toSome
  · exact h.advanceBinding.toSome

theorem kept_execBindingOverlapEnd (h : s.Kept o i) : keptNext o i (execBindingOverlapEnd s) := by
  refine State.Kept.toNext ?_
  split
  · have h1 := (h.dropKey .prevBindEc).dropKey .prevBindKem
    refine State.Kept.keyEvent ?_ _ _ _
    exact { h1 with }
  · exact h

theorem State.Kept.writeCaStage (h : s.Kept o i) (ch : Channel) (anchor : Bytes) : keptSome o i (s.writeCaStage ch anchor) := by
  unfold State.writeCaStage
  split_ifs
  · exact keptSome_none
  · exact (h.keyCommand 4).toSome
  · exact (h.keyCommand 1).toSome
  · refine State.Kept.toSome (State.Kept.keyCommand (State.Kept.keyEvent ?_ _ _ _) 0)
    exact { h with }

theorem kept_execCaStageLapse (h : s.Kept o i) : keptNext o i (execCaStageLapse s) := by
  refine State.Kept.toNext ?_
  split
  · exact h
  · split
    · refine State.Kept.keyCommand (State.Kept.keyEvent ?_ _ _ _) 6
      exact { h with }
    · exact h

theorem kept_execCaOverlapEnd (h : s.Kept o i) : keptNext o i (execCaOverlapEnd s) := by
  refine State.Kept.toNext ?_
  split
  · refine kept_foldl (P := State.Kept o i) (fun t k ht => ?_) _ { h with }
    split
    · exact ht.endCauseway k
    · exact ht
  · exact h

/-! ### The Shoal engine -/

/-- An update of one cluster that keeps its records in form. -/
theorem Shoal.Form.modCluster {h : Shoal} (hh : h.Form) (n : Nat) {f : Cluster → Cluster} (hf : ∀ c : Cluster, c.Form → (f c).Form) :
    ({ h with clusters := modifyAt h.clusters n f } : Shoal).Form := by
  refine ⟨(modifyAt_length _ _ _).trans hh.1, fun k => ?_⟩
  rw [Shoal.cluster]
  by_cases hk : k = n ∧ n < h.clusters.length
  · obtain ⟨rfl, hn⟩ := hk
    rw [getD_modifyAt_same _ _ _ _ hn]
    exact hf _ (hh.2 k)
  · have hsame : (modifyAt h.clusters n f).getD k {} = h.clusters.getD k {} := by
      by_cases hkn : k = n
      · exact getD_modifyAt_out _ _ _ _ _ (by omega)
      · exact getD_modifyAt_ne _ _ _ hkn
    rw [hsame]
    exact hh.2 k

theorem Cluster.Form.write {c : Cluster} (h : c.Form) (k : Nat) (w : BitVec 512) : (c.write k w).Form := SMap.wf_set 0 c.records k w h

theorem Shoal.Form.enter {h : Shoal} (hh : h.Form) (e : ShoalEvent) : (h.enter e).Form := by
  unfold Shoal.enter
  split
  · exact hh.modCluster _ fun _ hc => hc
  · exact hh

theorem Shoal.Form.deliver {h : Shoal} (hh : h.Form) (e : ShoalEvent) : (h.deliver e).Form := by
  refine Shoal.Form.enter ?_ e
  exact hh

theorem Shoal.Form.take {h : Shoal} (hh : h.Form) (e : ShoalEvent) : (h.take e).Form := by
  unfold Shoal.take
  split
  · exact hh.modCluster _ fun _ hc => hc
  · exact hh

theorem Shoal.Form.drainRelay {h : Shoal} (hh : h.Form) : h.drainRelay.Form :=
  kept_foldl (P := Shoal.Form) (fun _ e hs => hs.enter e) _ hh

theorem HostPath.Form.hold {h : HostPath} (hh : h.Form) : h.hold.Form := by
  unfold HostPath.hold
  split <;> exact hh

theorem State.Kept.forwardEvents (h : s.Kept o i) (tag : Nat) (x : Submission) (fuel k : Nat) :
    (s.forwardEvents tag x fuel k).1.Kept o i := by
  induction fuel generalizing s k with
  | zero => exact { h with host := fun hi => (h.host hi).modSub _ _ }
  | succ fuel ih =>
    unfold State.forwardEvents
    dsimp only
    split
    · refine ih ?_ _
      exact { h with shoal := fun hi => (h.shoal hi).deliver _ }
    · split
      · exact { h with host := fun hi => ((h.host hi).modSub _ _).hold }
      · exact { h with host := fun hi => ((h.host hi).modSub _ _).hold }

theorem State.Kept.forwardFrom (h : s.Kept o i) (l : List (Nat × Submission)) : (s.forwardFrom l).Kept o i := by
  induction l generalizing s with
  | nil => exact { h with }
  | cons e l ih =>
    obtain ⟨tag, x⟩ := e
    unfold State.forwardFrom
    dsimp only
    have h1 : ({ s with host := s.host.passBelow x.seq } : State).Kept o i := { h with }
    have h2 := h1.forwardEvents tag x (x.eventCount - x.forwarded) x.forwarded
    generalize ({ s with host := s.host.passBelow x.seq } : State).forwardEvents tag x (x.eventCount - x.forwarded) x.forwarded = r at h2
    split
    · exact ih { h with }
    · split
      · exact { h with }
      · split
        · exact ih { h2 with }
        · exact h2

theorem State.Kept.forward (h : s.Kept o i) : s.forward.Kept o i := by
  unfold State.forward
  split
  · exact h
  · exact h.forwardFrom _

theorem HostPath.Form.marked {h : HostPath} (hh : h.Form) (m : Nat) : ({ h with shoalMark := m } : HostPath).Form := hh

theorem State.Kept.settleShoal (h : s.Kept o i) : s.settleShoal.Kept o i :=
  { h with host := fun hi => ((h.host hi).mapSubs _).marked _ }

theorem State.Kept.pump (h : s.Kept o i) : s.pump.Kept o i := h.forward.settleShoal

/-! ### Monitors -/

theorem State.Kept.modDie (h : s.Kept o i) (n : Nat) (g : Die → Die) : ({ s with fabric := s.fabric.modDie n g } : State).Kept o i :=
  { h with fabric := fun hi => (h.fabric hi).modDie n g }

theorem kept_execBeatFloorUpdate (h : s.Kept o i) : keptNext o i (execBeatFloorUpdate s) :=
  State.Kept.toNext { h with fabric := fun hi => ⟨(List.length_map _).trans (h.fabric hi).1, (h.fabric hi).2⟩ }

theorem kept_execTemperatureSample (h : s.Kept o i) (die : Fin 13) (l : List Int) : keptNext o i (execTemperatureSample die l s) := by
  refine State.Kept.toNext ?_
  split
  · exact { h with }
  · exact h.modDie _ _

theorem kept_execVoltageSample (h : s.Kept o i) (m : VoltMonitor) (mv : Nat) : keptNext o i (execVoltageSample m mv s) := by
  refine State.Kept.toNext ?_
  cases m with
  | vfab k => exact h.modDie _ _
  | vio k => exact h.modDie _ _
  | vhbm k => exact h.modDie _ _
  | vhub => exact { h with }
  | stby => exact { h with }

theorem Core.Form.modArray {c : Core} (h : c.Form) (a : Nat) (f : ArrayState → ArrayState) :
    ({ c with arrays := modifyAt c.arrays a f } : Core).Form := ⟨(modifyAt_length _ _ _).trans h.1, h.2⟩

theorem kept_execBallastThresholdReached (h : s.Kept o i) (core : Fin 1200) (array : Fin 4) :
    keptNext o i (execBallastThresholdReached core array s) := by
  refine State.Kept.toNext ?_
  split
  · exact h
  · exact { h with fabric := fun hi => ((h.fabric hi).modCore _ fun _ hc => hc.modArray _ _).modDie _ _ }

theorem State.Kept.modMonitors (h : s.Kept o i) (m : Monitors) : keptSome o i (some { s with monitors := m }) :=
  State.Kept.toSome { h with }

theorem kept_execBallastThresholdWrite (h : s.Kept o i) (ch : Channel) (v : Byte) : keptNext o i (execBallastThresholdWrite ch v s) :=
  State.Kept.toNext <| h.odRow fun _ ht => State.Kept.modMonitors ht _

/-! ### Power -/

theorem Power.Form.modGovernor {p : Power} (h : p.Form) (g : Nat) (f : Governor → Governor) :
    ({ p with governors := modifyAt p.governors g f } : Power).Form := (modifyAt_length _ _ _).trans h

theorem Straits.Form.modPort {x : Straits} (h : x.Form) (p : Nat) (f : Port → Port) :
    ({ x with ports := modifyAt x.ports p f } : Straits).Form := (modifyAt_length _ _ _).trans h

theorem State.Kept.settleLimit (h : s.Kept o i) : s.settleLimit.Kept o i := by
  unfold State.settleLimit
  split
  · exact { h with }
  · exact { h with }
  · exact h

theorem State.Kept.commanded (h : s.Kept o i) (g : Nat) : (s.commanded g).Kept o i :=
  { h with power := fun hi => (h.power hi).modGovernor _ _ }

theorem kept_execVfabSetpointStep (h : s.Kept o i) (die : Fin 12) (w : Nat) : keptNext o i (execVfabSetpointStep die w s) := by
  refine State.Kept.toNext ?_
  split
  · exact ((h.modDie _ _).commanded _).settleLimit
  · exact h

theorem kept_execThermalLoopStep (h : s.Kept o i) (die : Fin 12) : keptNext o i (execThermalLoopStep die s) := by
  refine State.Kept.toNext ?_
  split
  · exact h.modDie _ _
  · exact h

theorem kept_execPowerCapStep (h : s.Kept o i) (a b : Nat) (l : List Nat) : keptNext o i (execPowerCapStep a b l s) := by
  refine State.Kept.toNext ?_
  split
  · refine State.Kept.commanded ?_ 0
    exact { h with fabric := fun hi => ⟨List.length_mapIdx.trans (h.fabric hi).1, (h.fabric hi).2⟩ }
  · exact h

theorem State.Kept.watchdog (h : s.Kept o i) (g : Nat) (imageEqual : Bool) : (s.watchdog g imageEqual).Kept o i := by
  unfold State.watchdog
  extract_lets fires failed _ _ s1 s2 _ s3
  have h1 : s1.Kept o i := { h with }
  clear_value s1
  have h2 : s2.Kept o i := h1.fault _
  clear_value s2
  have h3 : s3.Kept o i := { h2 with power := fun hi => (h2.power hi).modGovernor _ _ }
  clear_value s3
  split
  · exact h3.fault _
  · exact h3

theorem kept_execWatchdogFire (h : s.Kept o i) (g : Fin 13) (imageEqual : Bool) : keptNext o i (execWatchdogFire g imageEqual s) := by
  refine State.Kept.toNext ?_
  split
  · exact (h.watchdog _ _).track _
  · exact h

theorem kept_execGovernorRestart (h : s.Kept o i) (g : Fin 13) : keptNext o i (execGovernorRestart g s) := by
  refine State.Kept.toNext ?_
  split
  · refine State.Kept.fault ?_ _
    exact { h with power := fun hi => (h.power hi).modGovernor _ _ }
  · exact h

theorem Cluster.Form.lost (c : Cluster) : c.lost.Form := rfl

theorem State.Kept.dieOff (h : s.Kept o i) (n cause : Nat) : (s.dieOff n cause).Kept o i := by
  unfold State.dieOff
  split
  · extract_lets l s1 _ _ s2 s3
    have h1 : s1.Kept o i := (h.voidStreams l).haltStreams l
    clear_value s1
    have h2 : s2.Kept o i := { h1 with
      fabric := fun hi => (h1.fabric hi).modDie _ _
      shoal := fun hi => (h1.shoal hi).modCluster _ fun c _ => Cluster.Form.lost c
      straits := fun hi => (h1.straits hi).modPort _ _ }
    clear_value s2
    have h3 : s3.Kept o i := h2.fault _
    clear_value s3
    refine State.Kept.settleReady ?_
    split
    · exact h3
    · exact h3.selectFallback _ _
  · exact h

theorem State.Kept.countTrip (h : s.Kept o i) (n : Nat) :
    ({ s with ret := { s.ret with trips := bumpAt s.ret.trips n } } : State).Kept o i := { h with }

theorem kept_execDieThermalTrip (h : s.Kept o i) (die : Fin 12) : keptNext o i (execDieThermalTrip die s) := by
  refine State.Kept.toNext ?_
  split
  · exact ((h.countTrip _).dieOff _ _).track _
  · exact h

theorem kept_execHubThermalTrip (h : s.Kept o i) : keptNext o i (execHubThermalTrip s) := by
  refine State.Kept.toNext ?_
  split
  · exact (h.countTrip _).internalReset
  · exact h

theorem kept_execVfabOvercurrentOff (h : s.Kept o i) (die : Fin 12) : keptNext o i (execVfabOvercurrentOff die s) := by
  refine State.Kept.toNext ?_
  split
  · exact ((h.countTrip _).dieOff _ _).track _
  · exact h

theorem kept_execDieOffline (h : s.Kept o i) (die : Fin 12) : keptNext o i (execDieOffline die s) := by
  refine State.Kept.toNext ?_
  split
  · exact (h.dieOff _ _).track _
  · exact h

end Sys2Proof.Machine
end

section
/-! The form of a core, kept by what its operations do (09). -/

namespace Sys2Proof.Machine

variable {o : Otp} {i : Prop} {s : State}

/-! ### What operations leave of a core -/

theorem Core.Form.writeLine {c : Core} (h : c.Form) (l n v : Nat) (tag : Bool) : (c.writeLine l n v tag).1.Form := by
  unfold Core.writeLine
  split
  · exact h
  · have hl := SMap.wf_modify {} c.lagoon l (fun x => x.write n v tag) h.2
    exact ⟨h.1, hl⟩

theorem Core.Form.writeBits {c : Core} (h : c.Form) (l n v : Nat) (tag : Nat → Bool) : (c.writeBits l n v tag).1.Form := by
  unfold Core.writeBits
  refine kept_foldl (P := fun r : Core × Nat => r.1.Form) (fun r k hr => ?_) _ (b := (c, 0)) h
  exact hr.writeLine (l + k) _ _ _

theorem Core.Form.finishRow {c : Core} (h : c.Form) (arrays : List Nat) (per : Nat) (vals : List Int) : (c.finishRow arrays per vals).Form :=
  kept_foldl (P := Core.Form) (fun _ _ hc => hc.modArray _ _) _ h

theorem Core.Form.handOff {c : Core} (h : c.Form) (arrays : List Nat) : (c.handOff arrays).Form :=
  kept_foldl (P := Core.Form) (fun _ _ hc => hc.modArray _ _) _ h

theorem Core.Form.awaken {c : Core} (h : c.Form) (arrays : List Nat) : (c.awaken arrays).Form :=
  kept_foldl (P := Core.Form) (fun _ _ hc => hc.modArray _ _) _ h

theorem Core.Form.issue {c : Core} (h : c.Form) (st : CoreStep) : (c.issue st).Form := by
  cases st <;> exact h

section
variable {x : CoreFx}

theorem CoreFx.form_setVreg (h : x.core.Form) (d : Nat) (vals : List (Int × Bool)) (tag : Bool) : (x.setVreg d vals tag).core.Form := h

theorem CoreFx.form_emit (h : x.core.Form) (core slot : Nat) (dst : BitVec 16) (data : List (Bytes × Bool)) :
    (x.emit core slot dst data).core.Form := h

theorem CoreFx.form_deliverRow (h : x.core.Form) (core dest dst per m : Nat) (q : Option Requant) (partner : BitVec 16) (g : GangRow) :
    (x.deliverRow core dest dst per m q partner g).core.Form := by
  unfold CoreFx.deliverRow
  dsimp only
  split
  · exact h.writeBits _ _ _ _
  · exact h.writeBits _ _ _ _
  · exact h

theorem CoreFx.form_drainRow (h : x.core.Form) (core : Nat) (arrays : List Nat) (dest dst per m : Nat) (q : Option Requant)
    (partner : BitVec 16) (g : GangRow) : (x.drainRow core arrays dest dst per m q partner g).core.Form :=
  (CoreFx.form_deliverRow (x := x.modCore fun c => c.finishRow arrays per g.vals) (h.finishRow arrays per g.vals)
    core dest dst per m q partner g).handOff arrays

theorem CoreFx.form_runStream (h : x.core.Form) (core : Nat) (f : StreamF) (fed : List UnitLine) : (x.runStream core f fed).core.Form :=
  kept_foldl (P := fun y : CoreFx => y.core.Form) (fun _ _ hy => CoreFx.form_drainRow hy _ _ _ _ _ _ _ _ _) _ h

theorem CoreFx.form_runDrain (h : x.core.Form) (core a dest dst dparam : Nat) : (x.runDrain core a dest dst dparam).core.Form :=
  kept_foldl (P := fun y : CoreFx => y.core.Form) (fun _ _ hy => CoreFx.form_drainRow hy _ _ _ _ _ _ _ _ _) _ (h.modArray a _)

theorem CoreFx.form_runArrayOp (h : x.core.Form) (core : Nat) (op : Issued) : (x.runArrayOp core op).core.Form := by
  unfold CoreFx.runArrayOp
  split
  · exact h
  · split
    · exact CoreFx.form_runStream h core _ _
    · exact h.modArray _ _
    · exact CoreFx.form_runDrain h core _ _ _ _
    · exact h

theorem CoreFx.form_write (h : x.core.Form) (line n v : Nat) (tag : Nat → Bool) : (x.write line n v tag).core.Form :=
  h.writeBits line n v tag

theorem CoreFx.form_vst (h : x.core.Form) (f : VecF) : (x.vst f).core.Form := CoreFx.form_write h _ _ _ _

theorem CoreFx.form_vst48 (h : x.core.Form) (f : VecF) : (x.vst48 f).core.Form := CoreFx.form_write h _ _ _ _

theorem CoreFx.form_vsmax (h : x.core.Form) (f : VecF) (e r : LutTable × Bool) : (x.vsmax f e r).core.Form :=
  h.writeBits _ _ _ _

theorem CoreFx.form_runVec (h : x.core.Form) (f : VecF) (step : Nat) : (x.runVec f step).core.Form := by
  unfold CoreFx.runVec
  split
  · exact h
  · exact h
  · exact CoreFx.form_vst h f
  · exact CoreFx.form_vst48 h f
  · split
    · exact h
    · exact h
  · split
    · exact h
    · exact h
  · exact h
  · dsimp only
    split
    · exact CoreFx.form_vsmax h f _ _
    · exact h
  · exact h

theorem CoreFx.form_runSend (h : x.core.Form) (core slot line n step : Nat) : (x.runSend core slot line n step).core.Form := by
  unfold CoreFx.runSend
  split
  · split <;> exact h
  · exact h

theorem CoreFx.form_land (ls : List UnitLine) (h : x.core.Form) (line : Nat) : (x.land line ls).core.Form := by
  induction ls generalizing x line with
  | nil => exact h
  | cons l ls ih => exact ih (x := x.write line l.bits l.data.toNat fun _ => l.tag) (h.writeBits _ _ _ _) (line + 1)

theorem CoreFx.form_landBuffered (h : x.core.Form) (slot line n landed : Nat) : (x.landBuffered slot line n landed).1.core.Form :=
  CoreFx.form_land (takeLines slot (n - landed) x.core.recvBuf).1
    (x := x.modCore fun c => { c with recvBuf := (takeLines slot (n - landed) x.core.recvBuf).2 }) h _

theorem CoreFx.form_advance (h : x.core.Form) (core : Nat) (op : Issued) : (x.advance core op).1.core.Form := by
  unfold CoreFx.advance
  split
  · exact CoreFx.form_runVec h _ _
  · exact CoreFx.form_runSend h _ _ _ _ _
  · exact CoreFx.form_landBuffered h _ _ _ _
  · split <;> exact h
  · exact h

theorem CoreFx.form_settleFrom (core : Nat) (ops kept : List Issued) (h : x.core.Form) : (CoreFx.settleFrom core ops kept x).core.Form := by
  induction ops generalizing x kept with
  | nil => exact h
  | cons op ops ih =>
    unfold CoreFx.settleFrom
    split
    · exact ih _ h
    · exact ih _ (CoreFx.form_advance h core op)

theorem CoreFx.form_settle (h : x.core.Form) (core : Nat) : (x.settle core).core.Form := CoreFx.form_settleFrom core _ _ h

end

/-! ### Steps -/

theorem State.Kept.coreFail (h : s.Kept o i) (core code step : Nat) : (s.coreFail core code step).Kept o i :=
  (h.modDie (dieOf core) _).planFault core code step

theorem Fabric.Form.applyFx {f : Fabric} (h : f.Form) (core : Nat) {x : CoreFx} (hx : x.core.Form) : (f.applyFx core x).Form :=
  (h.setCore core hx).modDie _ _

theorem State.Kept.applyFx (h : s.Kept o i) (core : Nat) {x : CoreFx} (hx : i → x.core.Form) : (s.applyFx core x).Kept o i := by
  have h' : ({ s with fabric := s.fabric.applyFx core { x with core := { x.core with lastProgress := s.clock.count } } } : State).Kept o i :=
    { h with fabric := fun hi => (h.fabric hi).applyFx core (hx hi) }
  unfold State.applyFx
  dsimp only
  split
  · exact h'
  · exact h'.coreFail core _ _

theorem State.Kept.coreForm (h : s.Kept o i) (core : Nat) (hi : i) : (s.fabric.core core).Form := (h.fabric hi).2.2 core

theorem State.Kept.runStep (h : s.Kept o i) (core : Nat) (st : CoreStep) : (s.runStep core st).Kept o i := by
  unfold State.runStep
  dsimp only
  split
  · exact h.coreFail _ _ _
  · exact (h.modDie (dieOf core) _).applyFx core fun hi =>
      CoreFx.form_settle (x := { core := { (s.fabric.core core).issue st with lastIssue := s.clock.count } })
        ((h.coreForm core hi).issue st) core

theorem State.Kept.issueStep (h : s.Kept o i) (core : Nat) (row : CoreStep → Bool) : (s.issueStep core row).Kept o i := by
  unfold State.issueStep
  split
  · split
    · exact h.coreFail _ _ _
    · split
      · exact h.runStep _ _
      · exact h
  · exact h

theorem State.Kept.started (h : s.Kept o i) (core : Nat) (rest : List Issued) {run : CoreFx → CoreFx}
    (hrun : ∀ x : CoreFx, x.core.Form → (run x).core.Form) : (s.started core rest run).Kept o i := by
  refine h.applyFx core fun hi => ?_
  have hx := hrun { core := { s.fabric.core core with ops := rest } } (h.coreForm core hi)
  split
  · exact hx
  · exact CoreFx.form_settle hx core

theorem kept_execFrontStart (h : s.Kept o i) (core : Fin 1200) (waitBeats : Nat) : keptNext o i (execFrontStart core waitBeats s) := by
  unfold execFrontStart
  refine State.Kept.toNext ?_
  split
  · split
    · exact h
    · refine State.Kept.modDie (h.started core.val _ fun x hx => ?_) _ _
      unfold CoreFx.runFront
      split
      · exact hx.modArray _ _
      · exact hx
  · exact h

theorem kept_execArrayOperationStart (h : s.Kept o i) (core : Fin 1200) (gapBeats : List Nat) :
    keptNext o i (execArrayOperationStart core gapBeats s) := by
  unfold execArrayOperationStart
  refine State.Kept.toNext ?_
  split
  · split
    · exact h
    · next op rest _ =>
      split
      · have h' : ({ s with fabric := s.fabric.modCore core.val fun c => { c with ops := rest } } : State).Kept o i :=
          { h with fabric := fun hi => (h.fabric hi).modCore _ fun _ hc => hc }
        exact h'.coreFail _ _ _
      · refine State.Kept.modDie (h.started core.val _ fun x hx => ?_) _ _
        have hx' : (x.modCore fun c => c.awaken (stepArrays op.step)).core.Form := hx.awaken _
        exact CoreFx.form_runArrayOp hx' core.val _
  · exact h

theorem kept_execArrayFreeze (h : s.Kept o i) (core : Fin 1200) (draining : Option (Fin 4)) : keptNext o i (execArrayFreeze core draining s) := by
  unfold execArrayFreeze
  refine State.Kept.toNext ?_
  split
  · exact h.modDie _ _
  · exact h

/-! ### Sound units -/

theorem Fabric.Form.accepted {f : Fabric} (h : f.Form) (u : SoundUnit) : (f.accepted u).Form := by
  unfold Fabric.accepted
  split
  · exact h
  · dsimp only
    split
    · have h' : ({ f with flight := f.flight.erase ‹InFlight› } : Fabric).Form := h
      exact h'.modCore _ fun _ hc => hc
    · exact h

theorem Fabric.Form.hold {f : Fabric} (h : f.Form) (core : Nat) (u : SoundUnit) : (f.hold core u).Form := by
  unfold Fabric.hold
  dsimp only
  split
  · exact h.modDie _ _
  · split
    · exact h
    · exact h.modDie _ _

theorem State.Kept.accept (h : s.Kept o i) (u : SoundUnit) : ({ s with fabric := s.fabric.accepted u } : State).Kept o i :=
  { h with fabric := fun hi => (h.fabric hi).accepted u }

theorem State.Kept.receive (h : s.Kept o i) (core : Nat) (u : SoundUnit) : (s.receive core u).Kept o i :=
  (h.accept u).applyFx core fun hi => by
    have hc := (h.accept u).coreForm core hi
    refine CoreFx.form_settle ?_ core
    exact hc

theorem State.Kept.carried (h : s.Kept o i) (e : SlotEntry) (u : SoundUnit) : (s.carried e u).1.Kept o i := by
  unfold State.carried
  split
  · unfold State.hbmSource
    dsimp only
    split
    · exact { h with }
    · exact h
  · split <;> exact h

theorem State.Kept.unitAtCore (h : s.Kept o i) (core : Nat) (u : SoundUnit) : (s.unitAtCore core u).Kept o i := by
  unfold State.unitAtCore
  dsimp only
  split
  · exact h.coreFail _ _ _
  · split
    · exact h.coreFail _ _ _
    · split
      · exact h
      · split
        · exact (h.carried _ _).receive _ _
        · exact { h with fabric := fun hi => (h.fabric hi).hold _ _ }

theorem State.Kept.unitAtHbm (h : s.Kept o i) (n : Nat) (u : SoundUnit) : (s.unitAtHbm n u).Kept o i := by
  unfold State.unitAtHbm
  split
  · exact h
  · split
    · exact h
    · extract_lets row add f s1
      have h1 : s1.Kept o i := by
        refine { h with fabric := fun hi => ?_ }
        have hf := (h.fabric hi).accepted u
        change (if _ then _ else _ : Fabric).Form
        split
        · exact hf
        · exact hf
      split
      · exact h1.coreFail _ _ _
      · exact h1.modDie _ _

theorem State.Kept.unitAtFerry (h : s.Kept o i) (u : SoundUnit) : (s.unitAtFerry u).Kept o i := by
  unfold State.unitAtFerry
  split
  · exact h
  · split
    · exact { h with fabric := fun hi => (h.fabric hi).accepted u }
    · exact h

theorem State.Kept.unitAtStrait (h : s.Kept o i) (p : Nat) (u : SoundUnit) : (s.unitAtStrait p u).Kept o i := by
  unfold State.unitAtStrait
  split
  · split
    · exact { h with fabric := fun hi => (h.fabric hi).accepted u }
    · exact h
  · exact h

theorem State.Kept.unitArrives (h : s.Kept o i) (u : SoundUnit) : (s.unitArrives u).Kept o i := by
  unfold State.unitArrives
  dsimp only
  split_ifs
  · exact h
  · exact h.unitAtCore _ _
  · exact h.unitAtHbm _ _
  · exact h.unitAtFerry _
  · exact h.unitAtStrait _ _
  · exact h.accept u

theorem kept_execNoProgressFault (h : s.Kept o i) (core : Fin 1200) : keptNext o i (execNoProgressFault core s) := by
  unfold execNoProgressFault
  refine State.Kept.toNext ?_
  split
  · exact h.coreFail _ _ _
  · exact h

end Sys2Proof.Machine
end

section
/-! The form of the state and the fuses: plans, tides, the time tree, core faults and HBM errors (10, 02, 15, 20). -/

namespace Sys2Proof.Machine

variable {o : Otp} {i : Prop} {s : State}

/-! ### Admission -/

theorem State.Kept.refusePlan (h : s.Kept o i) (code : Nat) : (s.refusePlan code).Kept o i := { h with }

theorem WindowCopy.form_core (w : WindowCopy) : w.core.Form :=
  ⟨rfl, SMap.wf_setMany _ _ _ _ (SMap.wf_setMany _ _ _ _ rfl)⟩

theorem Fabric.Form.writeWindows {f : Fabric} (h : f.Form) (p : PlanInfo) (models : List (Digest × Bytes)) : (f.writeWindows p models).Form := by
  refine kept_foldl (P := Fabric.Form) (fun g k hg => ?_) p.cores (b := { f with windows := [] }) h
  have hs := hg.setCore k (p.windowsOf models k).form_core
  exact hs

theorem State.Kept.haltPoisoned (h : s.Kept o i) (cores : List Nat) : (s.haltPoisoned cores).Kept o i := by
  refine kept_foldl (P := State.Kept o i) (fun t k ht => ?_) cores h
  dsimp only
  split
  · exact ht
  · have h' : ({ t with fabric := t.fabric.modCore k fun c => { c with idle := true } } : State).Kept o i :=
      { ht with fabric := fun hi => (ht.fabric hi).modCore k fun _ hc => hc }
    exact (h'.haltStreams _).selectFallback _ _

theorem State.Kept.takePlan (h : s.Kept o i) (p : PlanInfo) (poisoned : List Nat) : (s.takePlan p poisoned).Kept o i := by
  unfold State.takePlan
  extract_lets carried f _ _ s'
  have hf (hi : i) : f.Form := (h.fabric hi).writeWindows p _
  have hh (hi : i) := (h.host hi).parkWaiting (~~~carried) 4 s.start.condition.debugClass
  clear_value f
  have h' : s'.Kept o i := by
    refine { h with fabric := fun hi => ?_, host := hh, shoal := h.shoal, straits := h.straits }
    exact hf hi
  exact (h'.extendMr _ _).haltPoisoned _

theorem State.Kept.admission (h : s.Kept o i) (p : PlanInfo) (poisoned : List Nat) : (s.admission p poisoned).Kept o i := by
  unfold State.admission
  split
  · exact h.takePlan p poisoned
  · exact h.refusePlan _

/-! ### The time tree -/

theorem State.Kept.settleMarks (h : s.Kept o i) : s.settleMarks.Kept o i := by
  unfold State.settleMarks
  split
  · dsimp only
    split
    · split <;> exact { h with }
    · exact h
  · exact h

theorem HostPath.Form.raiseFence {x : HostPath} (h : x.Form) (f v : Nat) : (x.raiseFence f v).Form :=
  ⟨h.1, SMap.wf_modify _ _ _ _ h.2.1, h.2.2⟩

theorem State.Kept.writeFence (h : s.Kept o i) (f v : Nat) (origin : Option Nat) : (s.writeFence f v origin).Kept o i := by
  unfold State.writeFence
  extract_lets old s'
  have h' : s'.Kept o i := { h with host := fun hi => (h.host hi).raiseFence f v }
  split
  · exact { h' with }
  · exact h'

/-! ### Plans as commands -/

theorem State.Kept.stagePlan (h : s.Kept o i) (addr len : BitVec 64) : (s.stagePlan addr len).Kept o i := by
  unfold State.stagePlan
  split
  · exact { h with }
  · exact { h.takeF0 with }

theorem State.Kept.writePlanDelivery {t : State} (ht : t.Kept o i) (addr len : BitVec 64) :
    keptSome o i (t.writePlanDelivery addr len) := by
  unfold State.writePlanDelivery
  split
  · exact (ht.stagePlan addr len).toSome
  · exact keptSome_none

theorem kept_execPlanDelivery (h : s.Kept o i) (ch : Channel) (addr len : BitVec 64) :
    keptNext o i (execPlanDelivery ch addr len s) :=
  (h.odRow fun _ ht => ht.writePlanDelivery _ _).toNext

theorem kept_execPlanCheck (h : s.Kept o i) (file : HostFetch) : keptNext o i (execPlanCheck file s) := by
  unfold execPlanCheck
  refine State.Kept.toNext ?_
  split
  · split
    · unfold State.planFetched
      split
      · exact h.refusedAccess _ (h.refusePlan _)
      · exact h.refusePlan _
      · split
        · exact { h with }
        · exact h.refusePlan _
    · exact h
  · exact h

theorem State.Kept.planCommand (h : s.Kept o i) (v : Byte) : keptSome o i (if s.sessionOpen then s.planCommand v else none) := by
  unfold State.planCommand
  split
  · split
    · split_ifs
      · exact State.Kept.toSome { h with }
      · exact State.Kept.toSome { h with }
      · exact keptSome_none
    · exact keptSome_none
  · exact keptSome_none

theorem kept_execPlanSwitch (h : s.Kept o i) (ch : Channel) (v : Byte) : keptNext o i (execPlanSwitch ch v s) :=
  (h.odRow fun _ ht => ht.planCommand v).toNext

theorem kept_execPlanDiscard (h : s.Kept o i) (ch : Channel) (v : Byte) : keptNext o i (execPlanDiscard ch v s) :=
  (h.odRow fun _ ht => ht.planCommand v).toNext

theorem kept_execPlanAdmission (h : s.Kept o i) (l : List (Fin 1200)) : keptNext o i (execPlanAdmission l s) := by
  unfold execPlanAdmission
  refine State.Kept.toNext ?_
  split
  · exact h.admission _ _
  · exact h

theorem kept_execSpanAdmission (h : s.Kept o i) (report : SpanReport) : keptNext o i (execSpanAdmission report s) := by
  unfold execSpanAdmission
  refine State.Kept.toNext ?_
  split
  · split
    · split
      · exact h.admission _ _
      · exact h
    · exact h
  · exact h

/-! ### Tides -/

theorem Core.Form.clearArrays {c : Core} (h : c.Form) : c.clearArrays.Form := ⟨(List.length_map _).trans h.1, h.2⟩

theorem Core.Form.depart {c : Core} (h : c.Form) (takes : Bool) (count : Nat) : (c.depart takes count).Form :=
  ⟨h.clearArrays.1, SMap.wf_filter _ _ _ h.2⟩

theorem Fabric.Form.clearForTide {f : Fabric} (h : f.Form) (p : PlanInfo) (takes : List Nat) (count : Nat) :
    (f.clearForTide p takes count).Form :=
  kept_foldl (P := Fabric.Form) (fun _ k hg => hg.modCore k fun _ hc => hc.depart _ _) _
    (kept_foldl (P := Fabric.Form) (fun _ e hg => hg.modCore e.1 fun _ hc => hc.clearArrays) _ h)

theorem Fabric.Form.mapDies {f : Fabric} (h : f.Form) (g : Die → Die) : ({ f with dies := f.dies.map g } : Fabric).Form :=
  ⟨(List.length_map _).trans h.1, h.2⟩

theorem State.Kept.departTide (h : s.Kept o i) (p : PlanInfo) (floor : Nat) (paced : Bool) : (s.departTide p floor paced).Kept o i := by
  unfold State.departTide
  extract_lets t rows no tide f _ _
  have hf (hi : i) : f.Form := (h.fabric hi).clearForTide p _ _
  have hh (hi : i) : (s.host.board p (tagsIn rows) no s.now s.ret.generation).Form := (h.host hi).mapSubs _
  clear_value f rows no tide
  refine { h with fabric := fun hi => ?_, host := hh }
  obtain ⟨hdies, hcores⟩ := hf hi
  exact ⟨(List.length_map _).trans hdies, hcores⟩

theorem kept_execTideDeparture (h : s.Kept o i) : keptNext o i (execTideDeparture s) := by
  unfold execTideDeparture
  refine State.Kept.toNext ?_
  split
  · dsimp only
    split
    · exact h.departTide _ _ _
    · exact h
  · exact h

theorem State.Kept.finishTide (h : s.Kept o i) (p : PlanInfo) (t : Tide) : (s.finishTide p t).Kept o i := by
  unfold State.finishTide
  extract_lets now late f
  have hf (hi : i) : f.Form := (h.fabric hi).mapDies _
  exact { h with fabric := hf, host := fun hi => (h.host hi).mapSubs _ }

theorem State.Kept.settleTide (h : s.Kept o i) : s.settleTide.Kept o i := by
  unfold State.settleTide
  split
  · split
    · exact (h.finishTide _ _).settleReady.settleClose.settleDebug
    · exact h
  · exact h

theorem State.Kept.ownTide (h : s.Kept o i) (t : Tide) : (s.ownTide t).Kept o i := by
  unfold State.ownTide
  split
  · exact h
  · have h' : ({ s with fabric := { s.fabric with ownFinish := some (t.no, s.gridNow) } } : State).Kept o i := { h with }
    exact h'.settleMarks

theorem kept_execTideFinish (h : s.Kept o i) : keptNext o i (execTideFinish s) := by
  unfold execTideFinish
  refine State.Kept.toNext ?_
  split
  · split
    · exact (h.ownTide _).settleTide
    · exact h
  · exact h

theorem kept_execSpanWaitExpiry (h : s.Kept o i) (missing : BitVec 12) : keptNext o i (execSpanWaitExpiry missing s) := by
  unfold execSpanWaitExpiry
  refine State.Kept.toNext ?_
  split
  · dsimp only
    split
    · exact (((h.voidStreams _).haltStreams _).fault _).selectFallback _ _
    · exact h
  · exact h

/-! ### Core faults, HBM errors, the record queue -/

theorem State.Kept.modRet (h : s.Kept o i) {r : Retained} (hr : i → r.Form) : ({ s with ret := r } : State).Kept o i := { h with ret := hr }

theorem State.Kept.noSpare (h : s.Kept o i) (die k : Nat) (l : List Nat) : (s.noSpare die k l).Kept o i := by
  unfold State.noSpare
  extract_lets p s1 s2
  have h1 : s1.Kept o i := h.modRet h.ret
  have h2 : s2.Kept o i := h1.fault _
  split
  · exact h2
  · exact ((h2.haltStreams l).selectFallback _ l).settleReady

theorem kept_execCoreFault (h : s.Kept o i) (core : Fin 1200) : keptNext o i (execCoreFault core s) := by
  unfold execCoreFault
  extract_lets die k d due s1
  have h1 : s1.Kept o i := h.voidStreams _
  refine State.Kept.toNext ?_
  split
  · exact h
  · split
    · exact h1.modDie _ _
    · exact (h1.modDie die fun d => { d with swaps := due.dropLast }).noSpare _ _ _

theorem State.Kept.swap (h : s.Kept o i) (die k spare : Nat) : (s.swap die k spare).Kept o i := by
  unfold State.swap
  extract_lets core old r fresh f
  have hfresh : fresh.Form := by
    change (match s.fabric.windows.find? (fun e => e.1 == core) with
      | some e => e.2.core
      | none => {} : Core).Form
    split
    · exact WindowCopy.form_core _
    · exact Core.Form.default
  refine State.Kept.fault ?_ _
  exact { h with ret := h.ret, fabric := fun hi => ((h.fabric hi).modDie _ _).setCore core hfresh }

theorem kept_execCoreSwap (h : s.Kept o i) (die : Fin 12) : keptNext o i (execCoreSwap die s) := by
  unfold execCoreSwap
  refine State.Kept.toNext ?_
  split
  · split
    · exact h.swap _ _ _
    · exact h
  · exact h

theorem Cluster.Form.poison {c : Cluster} (h : c.Form) (k : Nat) : (c.poison k).Form := by
  unfold Cluster.poison
  split <;> exact h

theorem State.Kept.poisonLine (h : s.Kept o i) (stack line : Nat) : (s.poisonLine stack line).Kept o i := by
  unfold State.poisonLine
  split
  · exact { h with }
  · exact { h with shoal := fun hi => (h.shoal hi).modCluster stack fun _ hc => hc.poison _ }

theorem kept_execHbmUncorrectableRead (h : s.Kept o i) (stack : Fin 12) (line : Nat) :
    keptNext o i (execHbmUncorrectableRead stack line s) := by
  unfold execHbmUncorrectableRead
  extract_lets n s1 _ s2 count due _
  have h1 : s1.Kept o i := h.poisonLine _ _
  have h2 : s2.Kept o i := h1.modRet h1.ret
  refine State.Kept.toNext ?_
  split
  · have h3 : ({ s2 with faults := { s2.faults with
        poisonAt := modifyAt s2.faults.poisonAt n fun _ => some s2.clock.count
        poisonSince := modifyAt s2.faults.poisonSince n fun _ => 0 } } : State).Kept o i := { h2 with }
    exact h3.fault _
  · exact { h2 with }

theorem kept_execFaultRecordExtend (h : s.Kept o i) (cleared : Bool) : keptNext o i (execFaultRecordExtend cleared s) := by
  unfold execFaultRecordExtend
  refine State.Kept.toNext ?_
  split
  · exact h
  · split
    · exact h
    · have h' := h.extendFault ‹FaultRec›
      generalize s.extendFault ‹FaultRec› = t at h'
      exact { h' with }

end Sys2Proof.Machine
end

section
/-! The form of the state and the fuses: the Shoal engine, receipts, rings and completions (11, 12, 13). -/

namespace Sys2Proof.Machine

variable {o : Otp} {i : Prop} {s : State}

/-! ### The Shoal engine -/

theorem Shoal.Form.act {h : Shoal} (hh : h.Form) (e : ShoalEvent) : (h.act e).Form := by
  unfold Shoal.act
  dsimp only
  have ht := hh.take e
  split
  · split
    · exact ht
    · refine kept_foldl (P := Shoal.Form) (fun _ x hx => hx.deliver x) _ ?_
      exact ht.modCluster e.target fun _ hc => hc.write _ _
  · exact ht

theorem kept_execShoalEventApply (h : s.Kept o i) (n : Fin 12) : keptNext o i (execShoalEventApply n s) := by
  unfold execShoalEventApply
  refine State.Kept.toNext ?_
  split
  · split
    · split
      · refine { h with shoal := fun hi => ?_ }
        unfold Shoal.holdRelay
        split <;> exact h.shoal hi
      · have h' : ({ s with shoal := ((s.shoal.release n.val).act ‹ShoalEvent›).drainRelay } : State).Kept o i :=
          { h with shoal := fun hi => (Shoal.Form.act (h := s.shoal.release n.val) (h.shoal hi) _).drainRelay }
        exact h'.pump
    · exact h
  · exact h

theorem kept_execShoalSample (h : s.Kept o i) (tag : BitVec 18) : keptNext o i (execShoalSample tag s) := by
  unfold execShoalSample
  refine State.Kept.toNext ?_
  split
  · split
    · exact { h with host := fun hi => (h.host hi).modSub _ _ }
    · exact h
  · exact h

theorem kept_execShoalSleep (h : s.Kept o i) (n : Fin 12) : keptNext o i (execShoalSleep n s) := by
  unfold execShoalSleep
  refine State.Kept.toNext ?_
  split
  · exact { h with shoal := fun hi => (h.shoal hi).modCluster _ fun _ hc => hc }
  · exact h

theorem State.Kept.writeShoalImageLoad {t : State} (ht : t.Kept o i) (addr len : BitVec 64) :
    keptSome o i (t.writeShoalImageLoad addr len) := by
  unfold State.writeShoalImageLoad
  split
  · refine State.Kept.toSome { ht with shoal := fun hi => ?_ }
    unfold Shoal.requestLoad
    split_ifs <;> exact ht.shoal hi
  · exact keptSome_none

theorem kept_execShoalImageLoad (h : s.Kept o i) (ch : Channel) (addr len : BitVec 64) :
    keptNext o i (execShoalImageLoad ch addr len s) :=
  (h.odRow fun _ ht => ht.writeShoalImageLoad _ _).toNext

theorem SMap.wf_ofFn {α : Type} [DecidableEq α] (d : α) (n : Nat) (f : Nat → α) : SMap.wf d (SMap.ofFn d n f) = true := by
  have hfrom (k a : Nat) (lo : Option Nat) (hlo : ∀ l, lo = some l → l < a) :
      SMap.wfFrom d lo ((List.range' a k).filterMap fun j => if f j = d then none else some (j, f j)) = true := by
    induction k generalizing a lo with
    | zero => rfl
    | succ k ih =>
      rw [List.range'_succ, List.filterMap_cons]
      by_cases hd : f a = d
      · rw [if_pos hd]
        exact ih (a + 1) lo fun l hl => Nat.lt_succ_of_lt (hlo l hl)
      · rw [if_neg hd]
        simp only [SMap.wfFrom, Bool.and_eq_true, decide_eq_true_eq]
        refine ⟨⟨?_, hd⟩, ih (a + 1) (some a) fun l hl => by cases hl; exact Nat.lt_succ_self a⟩
        cases lo with
        | none => rfl
        | some l => exact decide_eq_true (hlo l rfl)
  rw [SMap.ofFn, List.range_eq_range']
  exact hfrom n 0 none fun _ hl => nomatch hl

theorem Cluster.form_loaded (b : Bytes) (n : Nat) : (loadedCluster b n).Form := by
  unfold loadedCluster
  dsimp only
  split
  · rfl
  · exact SMap.wf_ofFn _ _ _

theorem Shoal.Form.mapClusters {h : Shoal} (hh : h.Form) (g : Nat → Cluster → Cluster) (hg : ∀ n c, c.Form → (g n c).Form) :
    ({ h with clusters := h.clusters.mapIdx g } : Shoal).Form := by
  refine ⟨(List.length_mapIdx).trans hh.1, fun n => ?_⟩
  have hc := hh.2 n
  rw [Shoal.cluster, List.getD_eq_getElem?_getD] at hc ⊢
  rw [List.getElem?_mapIdx]
  cases hn : h.clusters[n]? with
  | none => exact (rfl : Cluster.Form {})
  | some c => rw [hn] at hc; exact hg n c hc

theorem State.Kept.loadImage (h : s.Kept o i) (b : Bytes) : (s.loadImage b).Kept o i := by
  unfold State.loadImage
  extract_lets l _ s1 s2 _
  have h1 : s1.Kept o i := { h with
    shoal := fun hi => (h.shoal hi).mapClusters (fun n c => c.replace (loadedCluster b n)) fun n c _ => Cluster.form_loaded b n }
  have h2 : s2.Kept o i := h1.extendMr _ _
  exact { h2 with shoal := h2.shoal }

theorem State.Kept.refuseImage (h : s.Kept o i) (code : Nat) : (s.refuseImage code).Kept o i := { h with shoal := h.shoal }

theorem kept_execShoalImageLoaded (h : s.Kept o i) (img : Option Bytes) : keptNext o i (execShoalImageLoaded img s) := by
  unfold execShoalImageLoaded
  refine State.Kept.toNext ?_
  split
  · exact h
  · split
    · exact h
    · split
      · exact h.refuseImage _
      · split
        · exact h.loadImage _
        · exact h.refuseImage _

theorem State.Kept.writeShoalSnapshot {t : State} (ht : t.Kept o i) (addr len : BitVec 64) :
    keptSome o i (t.writeShoalSnapshot addr len) := by
  unfold State.writeShoalSnapshot
  split
  · refine State.Kept.toSome { ht with shoal := fun hi => ?_ }
    split <;> exact ht.shoal hi
  · exact keptSome_none

theorem kept_execShoalSnapshot (h : s.Kept o i) (ch : Channel) (addr len : BitVec 64) :
    keptNext o i (execShoalSnapshot ch addr len s) :=
  (h.odRow fun _ ht => ht.writeShoalSnapshot _ _).toNext

theorem kept_execSnapshotCapture (h : s.Kept o i) : keptNext o i (execSnapshotCapture s) := by
  unfold execSnapshotCapture
  refine State.Kept.toNext ?_
  split
  · split
    · dsimp only
      split
      · exact { h with shoal := h.shoal }
      · exact { h with shoal := h.shoal, host := h.host }
    · exact h
  · exact h

theorem State.Kept.endSnapshot (h : s.Kept o i) (code : Nat) : (s.endSnapshot code).Kept o i := by
  have h' : ({ s with
     shoal := { s.shoal with snapshot := none, image := none, snapResult := code }
     host := { s.host with snapshotHold := false } } : State).Kept o i := { h with shoal := h.shoal, host := h.host }
  exact h'.pump

theorem State.Kept.store (h : s.Kept o i) (a : Nat) (b : Bytes) : ({ s with hostMem := storeBytes s.hostMem a b } : State).Kept o i :=
  { h with hostMem := fun hi => Memory.wf_storeBytes b _ a (h.hostMem hi) }

theorem kept_execSnapshotComplete (h : s.Kept o i) (translated : Bool) : keptNext o i (execSnapshotComplete translated s) := by
  unfold execSnapshotComplete
  refine State.Kept.toNext ?_
  split
  · next addr _ b _ _ =>
    split
    · exact h
    · split
      · have h' : ({ s with hostMem := storeBytes s.hostMem addr.toNat b, shoal := { s.shoal with snapDigest := sha384 b } } : State).Kept o i :=
          { h.store addr.toNat b with shoal := h.shoal }
        exact h'.endSnapshot _
      · exact h.refusedAccess _ (h.endSnapshot _)
  · exact h

/-! ### Interrupts and receipts -/

theorem HostPath.Form.send {x : HostPath} (h : x.Form) (dma : Bool) (v : Nat) : (x.send dma v).Form := by
  obtain ⟨hr, hf, hs, hm, hsent⟩ := h
  unfold HostPath.send
  split
  · exact ⟨hr, hf, hs, hm, hsent⟩
  · split
    · exact ⟨hr, hf, hs, hm, hsent⟩
    · have hmod := SMap.wf_modify 0 x.msixSent v (· + 1) hsent
      exact ⟨hr, hf, hs, hm, hmod⟩

theorem HostPath.Form.sendPending {x : HostPath} (h : x.Form) (dma : Bool) (v : Nat) : (x.sendPending dma v).Form := by
  unfold HostPath.sendPending
  split
  · have h' : ({ x with msixPending := x.msixPending.filter fun y => y != v } : HostPath).Form := h
    exact h'.send dma v
  · exact h

theorem State.Kept.sendVectors (h : s.Kept o i) : s.sendVectors.Kept o i :=
  { h with host := fun hi => kept_foldl (P := HostPath.Form) (fun _ v hx => hx.sendPending _ v) _ (h.host hi) }

theorem State.Kept.raiseVector (h : s.Kept o i) (v : Nat) : (s.raiseVector v).Kept o i := by
  unfold State.raiseVector
  dsimp only
  split_ifs
  · exact h
  · exact { h with host := h.host }
  · exact { h with host := h.host }
  · exact { h with host := fun hi => (h.host hi).send _ _ }
  · exact { h with host := fun hi => (h.host hi).send _ _ }

theorem State.Kept.modMeasure (h : s.Kept o i) {m : Measure} (hm : m.mrs = s.measure.mrs) : ({ s with measure := m } : State).Kept o i :=
  { h with measure := fun hi => (congrArg List.length hm).trans (h.measure hi) }

theorem State.Kept.flushReceiptsFrom (translated : Bool) (l : List Bytes) (h : s.Kept o i) : (s.flushReceiptsFrom translated l).Kept o i := by
  induction l generalizing s with
  | nil => exact h.modMeasure rfl
  | cons r rs ih =>
    unfold State.flushReceiptsFrom
    split
    · exact h.modMeasure rfl
    · split
      · exact h.modMeasure rfl
      · refine ih (State.Kept.raiseVector ?_ _)
        have hs := h.store (s.measure.receiptRing.slot 160) r
        exact { hs with measure := h.measure, ret := h.ret }

theorem State.Kept.flushReceipts (h : s.Kept o i) (translated : Bool) : (s.flushReceipts translated).Kept o i := h.flushReceiptsFrom _ _

theorem State.Kept.flushCheckpointsFrom (translated : Bool) (l : List Bytes) (h : s.Kept o i) :
    (s.flushCheckpointsFrom translated l).Kept o i := by
  induction l generalizing s with
  | nil => exact h.modMeasure rfl
  | cons r rs ih =>
    unfold State.flushCheckpointsFrom
    split
    · exact h.modMeasure rfl
    · split
      · exact h.modMeasure rfl
      · refine ih (State.Kept.raiseVector ?_ _)
        have hs := h.store (s.measure.ckptRing.slot 4096) r
        exact { hs with measure := h.measure }

theorem State.Kept.flushCheckpoints (h : s.Kept o i) (translated : Bool) : (s.flushCheckpoints translated).Kept o i := h.flushCheckpointsFrom _ _

theorem State.Kept.settleCut (h : s.Kept o i) : s.settleCut.Kept o i := by
  unfold State.settleCut
  split
  · exact h
  · split
    · exact h.makeCut _
    · exact h

theorem State.Kept.makeReceipt (h : s.Kept o i) (x : Submission) (a : Answer) : (s.makeReceipt x a).Kept o i := by
  unfold State.makeReceipt
  extract_lets gen r held _ _ s1
  have h1 : s1.Kept o i := { h with ret := h.ret, measure := h.measure }
  split
  · exact h1.cut 1
  · exact h1

/-! ### Rings and entries -/

theorem State.Kept.mmio (h : s.Kept o i) (tee : Bool) {f : State → State} (hf : (f s).Kept o i) : (s.mmio tee f).Kept o i := by
  unfold State.mmio
  split_ifs
  · exact h
  · exact h.countTee
  · exact hf

theorem HostPath.Form.modRing {x : HostPath} (h : x.Form) (r : Nat) (g : Ring → Ring) : (x.modRing r g).Form :=
  ⟨SMap.wf_modify _ _ _ _ h.1, h.2⟩

theorem State.Kept.modHost (h : s.Kept o i) {x : HostPath} (hx : s.host.Form → x.Form) : ({ s with host := x } : State).Kept o i :=
  { h with host := fun hi => hx (h.host hi) }

theorem State.Kept.sqTail (h : s.Kept o i) (r v : Nat) : (s.sqTail r v).Kept o i := by
  unfold State.sqTail
  dsimp only
  have h' : ({ s with host := s.host.modRing r fun q => q.tail v } : State).Kept o i := h.modHost fun hx => hx.modRing _ _
  split_ifs
  · exact h.modHost id
  · exact { h' with fabric := h'.fabric }
  · exact h'

theorem State.Kept.cqHead (h : s.Kept o i) (r v : Nat) : (s.cqHead r v).Kept o i := by
  unfold State.cqHead
  dsimp only
  split
  · exact h.modHost id
  · exact h.modHost fun hx => hx.modRing _ _

theorem State.Kept.configureRing (h : s.Kept o i) (c : RingCfg) : keptSome o i (s.configureRing c) := by
  unfold State.configureRing
  dsimp only
  split_ifs
  · exact (h.modHost fun hx => hx.modRing _ _).toSome
  · exact (h.modHost (x := s.host.countIgnored) id).toSome
  · exact keptSome_none
  · exact keptSome_none
  · exact (h.modHost fun hx => hx.modRing _ _).toSome

theorem Engines.Form.lanes {e : Engines} (h : e.Form) {b : List (Option Nat)} {q : List (List (Nat × Nat))}
    (hb : b.length = e.laneBusy.length) (hq : q.length = e.laneQueue.length) : ({ e with laneBusy := b, laneQueue := q } : Engines).Form :=
  ⟨h.1, hb.trans h.2.1, hq.trans h.2.2.1, h.2.2.2⟩

theorem Engines.Form.enterLane {e : Engines} (h : e.Form) (l tag : Nat) : (e.enterLane l tag).Form :=
  h.lanes (modifyAt_length _ _ _) rfl

theorem Engines.Form.laneDone {e : Engines} (h : e.Form) (tag len : Nat) : (e.laneDone tag len).Form :=
  h.lanes (List.length_map _) rfl

theorem Engines.Form.awaitLane {e : Engines} (h : e.Form) (f tag : Nat) : (e.awaitLane f tag).Form :=
  h.lanes rfl (modifyAt_length _ _ _)

theorem State.Kept.startFetch (h : s.Kept o i) (tag ring : Nat) : (s.startFetch tag ring).Kept o i := by
  unfold State.startFetch
  split
  · exact { h with engines := fun hi => (h.engines hi).enterLane _ _, host := fun hi => (h.host hi).modSub _ _ }
  · exact { h with engines := fun hi => (h.engines hi).awaitLane _ _, host := fun hi => (h.host hi).modSub _ _ }

theorem State.Kept.inputFault (h : s.Kept o i) (tag : Nat) : (s.inputFault tag).Kept o i := by
  unfold State.inputFault
  extract_lets x
  have h' : ({ s with host := { x with inputFaults := bump x.inputFaults } } : State).Kept o i := h.modHost fun hx => hx.modSub _ _
  exact h'.pump

theorem State.Kept.refusedFetch (h : s.Kept o i) (tag : Nat) : (s.refusedFetch tag).Kept o i := by
  have h' : ({ s with host := s.host.modSub tag fun x => { x with phase := .pageWait } } : State).Kept o i :=
    h.modHost fun hx => hx.modSub _ _
  exact h'.refusedAccess _ (h'.inputFault tag)

theorem State.Kept.clearLane (h : s.Kept o i) (tag : Nat) : (s.clearLane tag).Kept o i := by
  unfold State.clearLane
  split
  · split
    · have h' : ({ s with host := s.host.modSub tag fun y => { y with clears := y.clears + 1 } } : State).Kept o i :=
        h.modHost fun hx => hx.modSub _ _
      dsimp only
      split
      · refine State.Kept.inputFault ?_ tag
        exact { h' with engines := fun hi => (h'.engines hi).lanes (List.length_map _) rfl }
      · exact h'
    · exact h
  · exact h

theorem State.Kept.parkStaged (h : s.Kept o i) (st : Nat) : (s.parkStaged st).Kept o i := by
  unfold State.parkStaged
  dsimp only
  split_ifs
  · exact h.modHost fun hx => hx.parkWaiting _ _ _
  · exact h.modHost fun hx => hx.parkWaiting _ _ _
  · exact h.modHost fun hx => hx.parkWaiting _ _ _
  · exact h

theorem State.Kept.sequence (h : s.Kept o i) (ring st : Nat) (e : SqEntry) : (s.sequence ring st e).Kept o i := by
  unfold State.sequence
  extract_lets q x subs _
  have hx (hi : i) : x.Form := (h.host hi).modRing _ _
  have hsubs (hi : i) : SMap.wf none subs = true := SMap.wf_set none x.subs s.host.freeTag _ (hx hi).2.2.1
  refine { h with ret := h.ret, host := fun hi => ?_ }
  obtain ⟨hr, hf, -, hm⟩ := hx hi
  exact ⟨hr, hf, hsubs hi, hm⟩

theorem HostPath.Form.visit {x : HostPath} (h : x.Form) (r : Nat) : (x.visit r).Form := h

theorem State.Kept.acceptEntry (h : s.Kept o i) (ring st : Nat) (e : SqEntry) (translated : Bool) : (s.accept ring st e translated).Kept o i := by
  unfold State.accept
  extract_lets tag s1
  have h1 : s1.Kept o i := h.sequence _ _ _
  refine State.Kept.pump ?_
  split
  · have h2 : ({ s1 with host := s1.host.cache e.inputAddr e.inputLen } : State).Kept o i := h1.modHost fun hx => hx.cache _ _
    exact h2.startFetch _ _
  · exact h1.refusedFetch _

theorem HostPath.Form.stopReplay {x : HostPath} (h : x.Form) (r : Nat) : (x.stopReplay r).Form := by
  have hm := h.modRing r fun q => { q with stop := .entry }
  exact ⟨hm.1, hm.2⟩

theorem State.Kept.stopMalformed (h : s.Kept o i) (r k : Nat) : (s.stopMalformed r k).Kept o i :=
  h.modHost fun hx => by
    have hm := hx.modRing r fun q => { q with stop := .entry }
    exact ⟨hm.1, hm.2⟩

theorem State.Kept.matchParked (h : s.Kept o i) (ring st : Nat) (e : SqEntry) : (s.matchParked ring st e).Kept o i := by
  unfold State.matchParked
  split
  · exact h.modHost fun hx => (hx.modRing _ _).modSub _ _
  · exact h.modHost fun hx => hx.stopReplay _

theorem State.Kept.readEntry (h : s.Kept o i) (r : Nat) (w : BitVec 512) {act : State → Nat → SqEntry → State}
    (hact : ∀ t st e, t.Kept o i → (act t st e).Kept o i) : (s.readEntry r w act).Kept o i := by
  unfold State.readEntry
  extract_lets e st max s1
  have h1 : s1.Kept o i := h.modHost fun hx => hx.visit _
  split
  · exact h1
  · split
    · exact h1.stopMalformed _ _
    · split_ifs
      · exact h1.modHost fun hx => hx.stopReplay _
      · exact h1.modHost fun hx => hx.modRing _ _
      · exact hact _ _ _ h1

/-! ### Completions -/

theorem State.Kept.outputFault (h : s.Kept o i) (tag : Nat) : (s.outputFault tag).Kept o i := by
  unfold State.outputFault
  split
  · exact h
  · refine State.Kept.drawn ?_
    exact { h.store _ _ with host := fun hi => (h.host hi).modSub _ _ }

theorem State.Kept.digestOutput (h : s.Kept o i) (tag : Nat) (x : Submission) : (s.digestOutput tag x).Kept o i := by
  unfold State.digestOutput
  dsimp only
  split_ifs
  · exact h
  · exact { h with engines := fun hi => (h.engines hi).laneDone _ _, host := fun hi => (h.host hi).modSub _ _ }
  · exact { h with engines := fun hi => ((h.engines hi).enterLane _ _).laneDone _ _, host := fun hi => (h.host hi).modSub _ _ }
  · exact h
  · exact { h with engines := fun hi => (h.engines hi).awaitLane _ _, host := fun hi => (h.host hi).modSub _ _ }

theorem State.Kept.writeOutput (h : s.Kept o i) (tag : Nat) (x : Submission) (translated : Bool) : (s.writeOutput tag x translated).Kept o i := by
  unfold State.writeOutput
  dsimp only
  split
  · exact { h.store _ _ with host := fun hi => ((h.host hi).modSub _ _).cache _ _ }
  · have h' : ({ s with host := s.host.modSub tag fun y => { y with outPending := true } } : State).Kept o i := h.modHost fun hx => hx.modSub _ _
    exact h'.refusedAccess _ (h'.outputFault tag)

theorem State.Kept.giveReceipt (h : s.Kept o i) (tag : Nat) (x : Submission) (a : Answer) : (s.giveReceipt tag x a).Kept o i := by
  unfold State.giveReceipt
  split
  · exact h
  · exact (h.makeReceipt _ _).modHost fun hx => hx.modSub _ _

theorem HostPath.Form.afterPost {x : HostPath} (h : x.Form) (tag : Nat) (y : Submission) : (x.afterPost tag y).Form := by
  unfold HostPath.afterPost
  split
  · exact h.modSub _ _
  · split
    · exact h.modSub _ _
    · have hs := SMap.wf_set none x.subs tag none h.2.2.1
      exact ⟨h.1, h.2.1, hs, h.2.2.2⟩

theorem HostPath.Form.holdCompletion {x : HostPath} (h : x.Form) (tag ring : Nat) (a : Answer) : (x.holdCompletion tag ring a).Form := by
  unfold HostPath.holdCompletion
  extract_lets x1 x2
  have h1 : x1.Form := h.modRing _ _
  have h2 : x2.Form := h1.modSub _ _
  split
  · exact h1
  · exact ⟨h2.1, h2.2⟩

theorem State.Kept.signal (h : s.Kept o i) (a : Answer) (vector : Nat) : (s.signal a vector).Kept o i := by
  unfold State.signal
  extract_lets s1
  have h1 : s1.Kept o i := by
    change (match a.fenceSignal with
      | some (f, v) => s.writeFence f v none
      | none => s : State).Kept o i
    split
    · exact h.writeFence _ _ _
    · exact h
  split
  · exact h1
  · exact h1.raiseVector _

theorem State.Kept.postEntry (h : s.Kept o i) (tag : Nat) (x : Submission) (a : Answer) (translated : Bool) :
    (s.postEntry tag x a translated).Kept o i := by
  unfold State.postEntry
  dsimp only
  split_ifs
  · exact h.modHost fun hx => hx.holdCompletion _ _ _
  · refine h.modHost fun hx => ?_
    have hm := hx.modRing a.ring fun q => { q with cqStop := .faulted }
    exact ⟨hm.1, hm.2⟩
  · refine (State.Kept.signal ?_ _ _).settleClose
    exact { h.store _ _ with host := fun hi => (((h.host hi).modRing _ _).cache _ _).afterPost _ _ }

theorem State.Kept.postAnswer (h : s.Kept o i) (tag : Nat) (tr : PostTranslation) : (s.postAnswer tag tr).Kept o i := by
  unfold State.postAnswer
  split
  · exact h
  · split
    · exact h
    · have h' := (h.giveReceipt tag ‹_› ‹_›).flushReceipts tr.receipt
      dsimp only
      split
      · exact h'
      · split
        · split
          · exact h'.postEntry _ _ _ _
          · exact h'
        · exact h'

theorem kept_execCompletionPost (h : s.Kept o i) (tag : BitVec 18) (tr : PostTranslation) : keptNext o i (execCompletionPost tag tr s) := by
  unfold execCompletionPost State.post
  refine State.Kept.toNext ?_
  split
  · exact h
  · next x _ =>
    have hd := h.digestOutput tag.toNat x
    have hw := hd.writeOutput tag.toNat x tr.output
    dsimp only
    split_ifs
    · exact h
    · exact hw
    · exact hw.postAnswer _ _
    · exact hd
    · exact h.postAnswer _ _

end Sys2Proof.Machine
end

section
/-! The form of the state and the fuses: evidence, checkpoints, the start, firmware sets and provisioning (04, 05, 13). -/

namespace Sys2Proof.Machine

variable {o : Otp} {i : Prop} {s : State}

/-! ### Evidence -/

theorem State.Kept.readyIdevidCert (h : s.Kept o i) : s.readyIdevidCert.Kept o i := by
  unfold State.readyIdevidCert
  split
  · exact h.issueDebugCert _
  · exact h

theorem State.Kept.token (h : s.Kept o i) (nonce : Bytes) : (s.token nonce).1.Kept o i :=
  h.readyIdevidCert.signCose _ (cborMap [(-70100, cborArr s.readyIdevidCert.evidenceCerts)]) _

theorem State.Kept.keepToken (h : s.Kept o i) (ch : Channel) (t : Option (Claims × Bytes)) : (s.keepToken ch t).Kept o i := by
  unfold State.keepToken
  split <;> exact h.modMeasure rfl

theorem State.Kept.makeToken (h : s.Kept o i) (ch : Channel) (nonce : Bytes) : (s.makeToken ch nonce).Kept o i :=
  (h.token nonce).keepToken _ _

theorem State.Kept.writeEvidenceRequest {t : State} (ht : t.Kept o i) (ch : Channel) (nonce : Bytes) :
    keptSome o i (t.writeEvidenceRequest ch nonce) := by
  unfold State.writeEvidenceRequest
  split
  · exact (ht.makeToken _ _).toSome
  · exact keptSome_none

theorem kept_execEvidenceRequest (h : s.Kept o i) (ch : Channel) (nonce : Bytes) :
    keptNext o i (execEvidenceRequest ch nonce s) :=
  (h.odRow fun _ ht => ht.writeEvidenceRequest _ _).toNext

theorem State.Kept.writeTenantExtend {t : State} (ht : t.Kept o i) (mr : Byte) (data : Bytes) :
    keptSome o i (t.writeTenantExtend mr data) := by
  unfold State.writeTenantExtend
  split
  · exact (ht.extendMr _ _).toSome
  · exact keptSome_none

theorem kept_execTenantExtend (h : s.Kept o i) (ch : Channel) (mr : Byte) (data : Bytes) :
    keptNext o i (execTenantExtend ch mr data s) :=
  (h.odRow fun _ ht => ht.writeTenantExtend _ _).toNext

/-! ### Checkpoints -/

theorem kept_execCheckpointInterval (h : s.Kept o i) : keptNext o i (execCheckpointInterval s) := by
  unfold execCheckpointInterval
  refine State.Kept.toNext ?_
  split
  · exact h.cut 2
  · exact h

theorem State.Kept.writeCheckpointRequest {t : State} (ht : t.Kept o i) (v : Byte) :
    keptSome o i (t.writeCheckpointRequest v) := by
  unfold State.writeCheckpointRequest
  split
  · exact (ht.cut 3).toSome
  · exact keptSome_none

theorem kept_execCheckpointRequest (h : s.Kept o i) (ch : Channel) (v : Byte) :
    keptNext o i (execCheckpointRequest ch v s) :=
  (h.odRow fun _ ht => ht.writeCheckpointRequest _).toNext

theorem State.Kept.queueCheckpoint (h : s.Kept o i) (c : Cut) (entry : Bytes) : (s.queueCheckpoint c entry).Kept o i := by
  unfold State.queueCheckpoint
  extract_lets m held me _
  exact { h with ret := h.ret, measure := h.measure }

theorem State.Kept.receiptsFor (x : Submission) (l : List Answer) (h : s.Kept o i) : (s.receiptsFor x l).1.Kept o i := by
  induction l generalizing s with
  | nil => exact h
  | cons a l ih =>
    unfold State.receiptsFor
    dsimp only
    split
    · exact ih h
    · exact ih (h.makeReceipt _ _)

theorem State.Kept.receiptAll (h : s.Kept o i) (tag : Nat) (x : Submission) : (s.receiptAll tag x).Kept o i :=
  (h.receiptsFor x x.answers).modHost fun hx => hx.modSub _ _

theorem State.Kept.receiptsOwed (h : s.Kept o i) : s.receiptsOwed.Kept o i :=
  kept_foldl (P := State.Kept o i) (fun _ e ht => ht.receiptAll e.1 e.2) _ h

theorem State.Kept.unlockTdi (h : s.Kept o i) : s.unlockTdi.Kept o i := by
  have h' : ({ s with hosting := { s.hosting with tdi := .unlocked, startNonce := none, stopping := false } } : State).Kept o i :=
    { h with hosting := h.hosting }
  exact h'.sendVectors

theorem State.Kept.stopNow (h : s.Kept o i) : s.stopNow.Kept o i := by
  unfold State.stopNow
  extract_lets busy s1 _ _ s2
  have h1 : s1.Kept o i := by
    change (if _ then _ else _ : State).Kept o i
    split
    · exact h
    · exact h.finishClose
  clear_value s1
  have h2 : s2.Kept o i := { h1 with measure := h1.measure, hosting := h1.hosting }
  exact h2.settleClosed.unlockTdi

theorem State.Kept.settleStop (h : s.Kept o i) : s.settleStop.Kept o i := by
  unfold State.settleStop
  extract_lets s1
  have h1 : s1.Kept o i := by
    change (if _ then _ else _ : State).Kept o i
    split
    · exact h
    · exact h.receiptsOwed
  split
  · split
    · exact h1.stopNow
    · exact h1
  · exact h

theorem State.Kept.stopSession (h : s.Kept o i) : s.stopSession.Kept o i := by
  unfold State.stopSession
  split
  · exact h.unlockTdi
  · refine State.Kept.settleStop ?_
    exact { h with od := h.od, hosting := h.hosting }

theorem State.Kept.settleCheckpoint (h : s.Kept o i) : s.settleCheckpoint.Kept o i := h.settleCut.settleStop.settleClosed.settleReset

theorem State.Kept.signCheckpoint (h : s.Kept o i) (c : Cut) (translated : Bool) : (s.signCheckpoint c translated).Kept o i := by
  unfold State.signCheckpoint
  extract_lets b r
  have hr : r.1.Kept o i := h.sign _ _ _
  split
  · exact ((hr.queueCheckpoint _ _).flushCheckpoints _).settleCheckpoint
  · exact hr

theorem kept_execCheckpointSigned (h : s.Kept o i) (translated : Bool) : keptNext o i (execCheckpointSigned translated s) := by
  unfold execCheckpointSigned
  refine State.Kept.toNext ?_
  split
  · exact h.signCheckpoint _ _
  · exact h

theorem State.Kept.setRing (h : s.Kept o i) (r : EvRing) (x : EvRingState) : (s.setRing r x).Kept o i := by
  cases r <;> exact h.modMeasure rfl

theorem State.Kept.flushRing (h : s.Kept o i) (r : EvRing) (translated : Bool) : (s.flushRing r translated).Kept o i := by
  cases r
  · exact (h.flushReceipts _).settleStop
  · exact (h.flushCheckpoints _).settleCheckpoint

theorem kept_execRingControlEnable (h : s.Kept o i) (tee : Bool) (r : EvRing) (v : Byte) (translated : Bool) :
    keptNext o i (execRingControlEnable tee r v translated s) := by
  unfold execRingControlEnable
  refine (h.mmio tee ?_).toNext
  unfold State.enableRing
  dsimp only
  split_ifs
  · exact (h.setRing _ _).flushRing _ _
  · exact h.setRing _ _
  · exact h

theorem kept_execRingControlHead (h : s.Kept o i) (tee : Bool) (r : EvRing) (v : BitVec 64) (translated : Bool) :
    keptNext o i (execRingControlHead tee r v translated s) := by
  unfold execRingControlHead
  refine (h.mmio tee ?_).toNext
  unfold State.headRing
  dsimp only
  split
  · exact (h.setRing _ _).flushRing _ _
  · exact h

/-! ### The start -/

theorem kept_execColdStart (h : s.Kept o i) (c : StartConds) : keptNext o i (execColdStart c s) := by
  unfold execColdStart
  refine State.Kept.toNext ?_
  split
  · exact h.coldStart c
  · exact h

theorem kept_execEntropyContinuousFail (h : s.Kept o i) : keptNext o i (execEntropyContinuousFail s) := by
  unfold execEntropyContinuousFail
  refine State.Kept.toNext ?_
  split
  · exact h.tamperAt _ _
  · exact h

theorem kept_execDrbgReseed (h : s.Kept o i) : keptNext o i (execDrbgReseed s) := by
  unfold execDrbgReseed
  refine State.Kept.toNext ?_
  split
  · exact { h with }
  · exact h

theorem kept_execMainLoss (h : s.Kept o i) (c : StartConds) : keptNext o i (execMainLoss c s) := by
  have h' : ({ s with pins := { s.pins with mainValid := false } } : State).Kept o i := { h with }
  exact (h'.warmReset c).toNext

theorem kept_execStbyLoss (h : s.Kept o i) : keptNext o i (execStbyLoss s) := by
  have hv := h.volatile
  unfold execStbyLoss
  dsimp only
  generalize s.volatile = v at hv
  exact State.Kept.toNext { hv with }

theorem kept_execVhubRamp (h : s.Kept o i) : keptNext o i (execVhubRamp s) := by
  unfold execVhubRamp
  refine State.Kept.toNext ?_
  split
  · exact { h with }
  · exact h

theorem kept_execModResetAssert (h : s.Kept o i) (lowNs : Nat) (recognised : Bool) (c : StartConds) :
    keptNext o i (execModResetAssert lowNs recognised c s) := by
  unfold execModResetAssert
  refine State.Kept.toNext ?_
  split
  · have h' : ({ s with pins := { s.pins with modResetN := false } } : State).Kept o i := { h with }
    exact h'.warmReset c
  · exact h

theorem State.Kept.writeWarmResetRequest {t : State} (ht : t.Kept o i) (v : Byte) (c : StartConds) :
    keptSome o i (t.writeWarmResetRequest v c) := by
  unfold State.writeWarmResetRequest
  split
  · exact (ht.warmReset c).toSome
  · exact keptSome_none

theorem kept_execWarmResetRequest (h : s.Kept o i) (ch : Channel) (v : Byte) (c : StartConds) :
    keptNext o i (execWarmResetRequest ch v c s) :=
  (h.odRow fun _ ht => ht.writeWarmResetRequest _ _).toNext

theorem kept_execTamperFire (h : s.Kept o i) (src : TamperSource) : keptNext o i (execTamperFire src s) := by
  unfold execTamperFire
  refine State.Kept.toNext ?_
  split
  · exact h.tamper _
  · exact h

theorem State.Kept.writeHostDelivery {t : State} (ht : t.Kept o i) (addr : BitVec 64) (len : BitVec 32) (img : SetImage) :
    keptSome o i (t.writeHostDelivery addr len img) := by
  unfold State.writeHostDelivery
  extract_lets _ s1
  have h1 : s1.Kept o i := { ht with }
  refine State.Kept.toSome ?_
  split_ifs
  · exact h1.refuseBusy
  · exact h1.deliver _ _ _
  · exact h1.refuseBusy

theorem kept_execHostDelivery (h : s.Kept o i) (ch : Channel) (addr : BitVec 64) (len : BitVec 32) (img : SetImage) :
    keptNext o i (execHostDelivery ch addr len img s) :=
  (h.odRow fun _ ht => ht.writeHostDelivery _ _ _).toNext

theorem kept_execItemVerified (h : s.Kept o i) (data : Bytes) (govFail vfabFail : BitVec 12) :
    keptNext o i (execItemVerified data govFail vfabFail s) := by
  unfold execItemVerified
  refine State.Kept.toNext ?_
  split
  · exact h
  · split
    · exact h
    · dsimp only
      split_ifs
      · exact h
      · exact (h.acceptItem _ _).loadComplete _ _
      · exact h.acceptItem _ _
      · exact h.refuseAfterRuntime _ _
      · exact h.refuseSet _

/-- R90: a raised SVN counter undoes no step. -/
theorem Otp.Kept.raiseSvn {p : Otp} (h : p.Kept o i) (n m : Nat) :
    ({ p with svn := modifyAt p.svn n fun t => t.raiseTo m } : Otp).Kept o i := by
  refine h.blown rfl ⟨Thermo.within_refl _, Thermo.within_refl _, Thermo.within_refl _, fun k => ?_⟩ (modifyAt_length _ _ _) rfl
  by_cases hk : k = n
  · subst hk
    by_cases hlt : k < p.svn.length
    · rw [getD_modifyAt_same _ _ _ _ hlt]
      exact Thermo.within_raiseTo _ _
    · rw [List.getD_eq_default _ _ (Nat.not_lt.mp hlt),
        List.getD_eq_default _ _ (by rw [modifyAt_length]; exact Nat.not_lt.mp hlt)]
      exact Thermo.within_refl _
  · rw [getD_modifyAt_ne _ _ _ hk]
    exact Thermo.within_refl _

theorem State.Kept.writeSvnCommit {t : State} (ht : t.Kept o i) (n : Byte) :
    keptSome o i (t.writeSvnCommit n) := by
  unfold State.writeSvnCommit
  split_ifs
  · exact keptSome_none
  · have hsvn := ht.otp.raiseSvn n.toNat (t.svnTarget n.toNat)
    exact State.Kept.toSome { ht with otp := hsvn }
  · exact State.Kept.toSome { ht with }

theorem kept_execSvnCommit (h : s.Kept o i) (ch : Channel) (n : Byte) :
    keptNext o i (execSvnCommit ch n s) :=
  (h.odRow fun _ ht => ht.writeSvnCommit _).toNext

theorem kept_execUpdateCheckDone (h : s.Kept o i) (items : List Bytes) : keptNext o i (execUpdateCheckDone items s) := by
  unfold execUpdateCheckDone
  refine State.Kept.toNext ?_
  split
  · exact h
  · next l _ =>
    have h0 : ({ s with start := { s.start with update := none } } : State).Kept o i := { h with }
    have h1 := h0.endTransfer l.fromHost
    dsimp only
    generalize ({ s with start := { s.start with update := none } } : State).endTransfer l.fromHost = s1 at h1
    split
    · exact h0
    · split
      · exact h
      · split
        · exact h
        · split
          · refine State.Kept.keyEvent ?_ _ _ _
            cases s1.ret.pendingAlias with
            | none => exact { h1 with ret := h1.ret }
            | some p =>
              have h2 := h1.keyEvent 4 0 (sha384 p)
              dsimp only
              generalize s1.keyEvent 4 0 (sha384 p) = s2 at h2
              exact { h2 with ret := h2.ret }
          · exact { h1 with }

theorem kept_execProvisioning (h : s.Kept o i) (tamperPolicy : BitVec 6) (vendorDebug : Bool) (anchor : Bytes) :
    keptNext o i (execProvisioning tamperPolicy vendorDebug anchor s) := by
  unfold execProvisioning
  refine State.Kept.toNext ?_
  split
  · extract_lets _ p q
    have hp : p.Kept o i := h.otp.blown rfl (Otp.grownTo_refl _) rfl rfl
    have hq : q.Kept o i := hp.blown rfl (Otp.grownTo_refl _) rfl (modifyAt_length _ _ _)
    clear_value q
    have h' : ({ s with otp := q.takeLifecycle 1 } : State).Kept o i := { h with otp := hq.takeLifecycle 1 }
    exact h'.internalReset
  · exact h

theorem kept_execIdevidCertificateReturn (h : s.Kept o i) (cert : Bytes) : keptNext o i (execIdevidCertificateReturn cert s) := by
  unfold execIdevidCertificateReturn
  refine State.Kept.toNext ?_
  split
  · extract_lets _ p q _
    have hp : p.Kept o i := h.otp.blown rfl (Otp.grownTo_refl _) rfl rfl
    have hq : q.Kept o i := hp.blown rfl (Otp.grownTo_refl _) rfl rfl
    clear_value q
    exact { h with otp := hq }
  · exact h

theorem Retained.Form.afterTraining {r : Retained} (h : r.Form) : r.afterTraining.Form := by
  obtain ⟨hs, ht, hp, hr⟩ := h
  refine ⟨(List.length_map _).trans hs, ht, hp, SMap.wf_map {} (fun e : Nat × Region => (e.1, e.2.afterTraining)) (fun _ => rfl) (fun x hx => ?_) _ hr⟩
  dsimp only
  unfold Region.afterTraining
  split
  · exact fun h => nomatch congrArg Region.state h
  · exact hx

theorem kept_execHbmTrainingComplete (h : s.Kept o i) (hbmFail : BitVec 12) : keptNext o i (execHbmTrainingComplete hbmFail s) := by
  unfold execHbmTrainingComplete
  refine State.Kept.toNext ?_
  split
  · refine State.Kept.recordStartFailures ?_ _
    exact { h with
      fabric := fun hi => ⟨List.length_mapIdx.trans (h.fabric hi).1, (h.fabric hi).2⟩
      straits := fun hi => List.length_mapIdx.trans (h.straits hi)
      ret := fun hi => (h.ret hi).afterTraining }
  · exact h

theorem kept_execPcieLinkUp (h : s.Kept o i) : keptNext o i (execPcieLinkUp s) := by
  unfold execPcieLinkUp
  refine State.Kept.toNext ?_
  split
  · exact { h with }
  · exact h

end Sys2Proof.Machine
end

section
/-! The form of the state and the fuses: the Causeway, its sessions, deliveries and budgets, and the lifecycle (17, 19). -/

namespace Sys2Proof.Machine

variable {o : Otp} {i : Prop} {s : State}

theorem State.Kept.modCauseway (h : s.Kept o i) {c : Causeway} (hc : c.sessions.length = s.causeway.sessions.length) :
    ({ s with causeway := c } : State).Kept o i :=
  { h with causeway := fun hi => hc.trans (h.causeway hi) }

theorem State.Kept.sendFrame (h : s.Kept o i) (ftype : Nat) (body : Bytes) : (s.sendFrame ftype body).Kept o i := h.modCauseway rfl

theorem State.Kept.modCwSession (h : s.Kept o i) (k : Nat) (f : CwSession → CwSession) :
    ({ s with causeway := { s.causeway with sessions := modifyAt s.causeway.sessions k f } } : State).Kept o i :=
  h.modCauseway (modifyAt_length _ _ _)

theorem kept_execIdentReq (h : s.Kept o i) (dest : CwDest) : keptNext o i (execIdentReq s dest) := by
  unfold execIdentReq
  refine State.Kept.toNext ?_
  split
  · exact h.sendFrame _ _
  · exact h

theorem State.Kept.holdSession (h : s.Kept o i) (k : Nat) (m : ClientHello) (seed : MaskedKey) (reply : Bytes) :
    (s.holdSession k m seed reply).Kept o i := (h.modCwSession k _).sendFrame _ _

theorem kept_releaseHello (k : Nat) (m : ClientHello) (seed bare : Bytes) {r : State × Option (Bytes × Bytes)} (h : r.1.Kept o i) :
    (releaseHello k m seed bare r).Kept o i := by
  unfold releaseHello
  split
  · exact (h.transfer seed).holdSession _ _ _ _
  · exact h

theorem State.Kept.beginSession (h : s.Kept o i) (k : Nat) (m : ClientHello) : (s.beginSession k m).Kept o i :=
  kept_releaseHello _ _ _ _ ((h.readyIdevidCert.generatedBy 2).sign _ _ _)

theorem kept_execCHello (h : s.Kept o i) (m : ClientHello) : keptNext o i (execCHello m s) := by
  unfold execCHello
  refine State.Kept.toNext ?_
  split
  · split
    · exact h.beginSession _ _
    · exact h.modCauseway rfl
  · exact h

/-- R132: a CA slot closed leaves the other fuses as they were. -/
theorem Otp.Kept.closeSlot {p : Otp} (h : p.Kept o i) (k : Nat) (c : CaSlot) :
    ({ p with caSlots := modifyAt p.caSlots k fun _ => some c } : Otp).Kept o i :=
  h.blown rfl (Otp.grownTo_refl _) rfl (modifyAt_length _ _ _)

theorem State.Kept.closeCaSlot (h : s.Kept o i) (a : BitVec 768) : (s.closeCaSlot a).Kept o i := by
  unfold State.closeCaSlot
  split
  · exact h
  · next k _ =>
    have hslot := h.otp.closeSlot k (CaSlot.ofAnchor a)
    have h1 : ({ s with
        otp := { s.otp with caSlots := modifyAt s.otp.caSlots k fun _ => some (CaSlot.ofAnchor a) }
        ret := { s.ret with stagedCa := none, caClosedAt := some s.clock.count } } : State).Kept o i := { h with otp := hslot, ret := h.ret }
    refine State.Kept.keyCommand (State.Kept.keyEvent (kept_foldl (P := State.Kept o i) (fun t n ht => ?_) _ h1) _ _ _) _
    split
    · exact ht.endCauseway n
    · exact ht

theorem State.Kept.keyCauseway (h : s.Kept o i) (k : Nat) (sig : Bytes) : (s.keyCauseway k sig).Kept o i :=
  (((h.agreeEc _ _).transfer _).transfer _).modCwSession k _

theorem State.Kept.openSession (h : s.Kept o i) (k : Nat) (sig : Bytes) : (s.openSession k sig).Kept o i := by
  unfold State.openSession
  extract_lets x slot s1 _ s2 s3
  have h1 : s1.Kept o i := h.keyCauseway k sig
  have h2 : s2.Kept o i := h1.modCwSession k _
  refine State.Kept.sendFrame ?_ _ _
  change (match x.anchor with
    | some a => s2.closeCaSlot a
    | none => s2 : State).Kept o i
  split
  · exact h2.closeCaSlot _
  · exact h2

theorem State.Kept.failSetup (h : s.Kept o i) (k code : Nat) : (s.failSetup k code).Kept o i := (h.modCwSession k _).modCauseway rfl

theorem kept_execCFinish (h : s.Kept o i) (f : CwFrame) (sigOk : Bool) (sigR sigS : BitVec 384) :
    keptNext o i (execCFinish f sigOk sigR sigS s) := by
  unfold execCFinish
  refine State.Kept.toNext ?_
  split_ifs
  · exact h
  · exact h.modCauseway rfl
  · exact h.failSetup _ _
  · exact h.failSetup _ _
  · exact h.openSession _ _

theorem State.Kept.onSession (h : s.Kept o i) (f : CwFrame) {g : State → State} (hg : ∀ t : State, t.Kept o i → (g t).Kept o i) :
    (s.onSession f g).Kept o i := by
  unfold State.onSession
  dsimp only
  split_ifs
  · exact h
  · exact h.modCauseway rfl
  · exact hg _ (h.modCwSession _ _)

theorem State.Kept.sendOn (h : s.Kept o i) (k ftype : Nat) (body : Bytes) : (s.sendOn k ftype body).Kept o i :=
  (h.modCwSession k _).sendFrame _ _

theorem kept_execCausewayClose (h : s.Kept o i) (f : CwFrame) : keptNext o i (execCausewayClose f s) :=
  (h.onSession f fun _ ht => ht.endCauseway _).toNext

theorem kept_execCausewaySessionIdle (h : s.Kept o i) (k : Fin 8) : keptNext o i (execCausewaySessionIdle k s) := by
  unfold execCausewaySessionIdle
  refine State.Kept.toNext ?_
  split
  · exact h.endCauseway _
  · exact h

theorem kept_execCausewayFrameLimit (h : s.Kept o i) (k : Fin 8) : keptNext o i (execCausewayFrameLimit k s) := by
  unfold execCausewayFrameLimit
  refine State.Kept.toNext ?_
  split
  · exact h.endCauseway _
  · exact h

/-! ### Firmware delivery -/

theorem State.Kept.refuseHead (h : s.Kept o i) (code : Nat) : (s.refuseHead code).Kept o i := by
  unfold State.refuseHead
  split
  · exact { h with }
  · exact h.refuseSet code

theorem kept_execFwBegin (h : s.Kept o i) (f : CwFrame) (len : BitVec 32) : keptNext o i (execFwBegin f len s) := by
  refine (h.onSession f fun t ht => ?_).toNext
  split
  · unfold State.beginDelivery
    split_ifs
    · exact ht.refuseBusy
    · exact ht.refuseHead 7
    · exact ht.modCauseway rfl
  · exact ht

theorem State.Kept.fwAck (h : s.Kept o i) : s.fwAck.Kept o i := by
  unfold State.fwAck
  split
  · exact h.sendOn _ _ _
  · exact h

theorem State.Kept.fwTake (h : s.Kept o i) (t : FwTransfer) (data : Bytes) (e d : Bool) : (s.fwTake t data e d).Kept o i := by
  unfold State.fwTake
  extract_lets t' _ s1 s2
  have h1 : s1.Kept o i := h.modCauseway rfl
  have h2 : s2.Kept o i := by
    change (if _ then _ else _ : State).Kept o i
    split
    · exact h1.fwAck
    · exact h1
  clear_value s2
  split
  · unfold State.fwHead
    dsimp only
    split
    · exact h2.deliver _ _ _
    · exact (h2.deliver _ _ _).modCauseway rfl
  · exact h2

theorem kept_execFwData (h : s.Kept o i) (f : CwFrame) (offset : BitVec 32) (data : Bytes) (e d : Bool) :
    keptNext o i (execFwData f offset data e d s) := by
  refine (h.onSession f fun t ht => ?_).toNext
  unfold State.fwSegment
  split
  · split
    · split
      · exact ht.fwTake _ _ _ _
      · exact ht.fwAck
    · exact ht
  · exact ht

theorem kept_execFwEnd (h : s.Kept o i) (f : CwFrame) : keptNext o i (execFwEnd f s) := by
  refine (h.onSession f fun t ht => ?_).toNext
  unfold State.fwFinish
  split
  · split
    · split
      · exact State.Kept.fwAck (ht.modCauseway rfl)
      · exact ht.fwAck
    · exact ht
  · exact ht

theorem kept_execFwTransferStall (h : s.Kept o i) : keptNext o i (execFwTransferStall s) := by
  unfold execFwTransferStall
  refine State.Kept.toNext ?_
  split
  · split
    · exact h.refuseDelivery _
    · exact h
  · exact h

/-! ### Budgets, co-signature, lifecycle -/

theorem kept_execBudget (h : s.Kept o i) (f : CwFrame) (cap : BitVec 16) (ms ident : BitVec 32) : keptNext o i (execBudget f cap ms ident s) := by
  refine (h.onSession f fun t ht => ?_).toNext
  dsimp only
  split
  · refine State.Kept.sendOn ?_ _ _ _
    exact ht.modCauseway rfl
  · exact ht

theorem kept_execBudgetLapse (h : s.Kept o i) : keptNext o i (execBudgetLapse s) := by
  refine State.Kept.toNext (h.modCauseway ?_)
  rfl

theorem State.Kept.writeCosignGrantWrite {t : State} (ht : t.Kept o i) (d : Digest) (expiry : BitVec 64) :
    keptSome o i (t.writeCosignGrantWrite d expiry) := by
  unfold State.writeCosignGrantWrite
  split
  · refine State.Kept.toSome (ht.modCauseway ?_)
    rfl
  · exact keptSome_none

theorem kept_execCosignGrantWrite (h : s.Kept o i) (ch : Channel) (d : Digest) (expiry : BitVec 64) :
    keptNext o i (execCosignGrantWrite ch d expiry s) :=
  (h.odRow fun _ ht => ht.writeCosignGrantWrite _ _).toNext

theorem State.Kept.writeLifecycleStage {t : State} (ht : t.Kept o i) (v : Byte) :
    keptSome o i (t.writeLifecycleStage v) := by
  unfold State.writeLifecycleStage
  split
  · exact State.Kept.toSome { ht with }
  · exact keptSome_none

theorem kept_execLifecycleStage (h : s.Kept o i) (ch : Channel) (v : Byte) :
    keptNext o i (execLifecycleStage ch v s) :=
  (h.odRow fun _ ht => ht.writeLifecycleStage _).toNext

theorem State.Kept.takeLifecycle (h : s.Kept o i) (v : Nat) : (s.takeLifecycle v).Kept o i := by
  have h' : ({ s with otp := s.otp.takeLifecycle v } : State).Kept o i := { h with otp := h.otp.takeLifecycle v }
  exact h'.restart _

theorem State.Kept.writeLifecycleConfirm {t : State} (ht : t.Kept o i) (v : Byte) (blowOk : Bool) :
    keptSome o i (t.writeLifecycleConfirm v blowOk) := by
  unfold State.writeLifecycleConfirm
  split
  · exact (ht.takeLifecycle _).toSome
  · refine State.Kept.toSome (State.Kept.keyCommand ?_ 6)
    exact { ht with }
  · exact (ht.keyCommand _).toSome

theorem kept_execLifecycleConfirm (h : s.Kept o i) (ch : Channel) (v : Byte) (blowOk : Bool) :
    keptNext o i (execLifecycleConfirm ch v blowOk s) :=
  (h.odRow fun _ ht => ht.writeLifecycleConfirm _ _).toNext

end Sys2Proof.Machine
end

section
/-! The form of the state and the fuses: digest jobs, SPDM, IDE and TDISP, models, consent, regions and leases (06, 13, 14, 20). -/

namespace Sys2Proof.Machine

variable {o : Otp} {i : Prop} {s : State}

/-! ### Digest jobs -/

theorem State.Kept.modJob (h : s.Kept o i) (j : Nat) (f : JobChannel → JobChannel) : (s.modJob j f).Kept o i :=
  { h with engines := fun hi => ⟨(modifyAt_length _ _ _).trans (h.engines hi).1, (h.engines hi).2⟩ }

theorem kept_execDigestResult (h : s.Kept o i) (j : Fin 8) : keptNext o i (execDigestResult j s) := by
  unfold execDigestResult
  refine State.Kept.toNext ?_
  dsimp only
  split
  · have h' := h.modJob j.val fun c => { c with early := true, resultOut := List.replicate 48 0 }
    exact { h' with engines := h'.engines }
  · exact h.modJob _ _
  · exact h.modJob _ _
  · exact h.modJob _ _

theorem State.Kept.extendJob (h : s.Kept o i) (j mr : Nat) (aux : Bytes) : (s.extendJob j mr aux).Kept o i := by
  unfold State.extendJob
  split
  · exact h.modJob _ _
  · split
    · exact h.extendMr _ _
    · exact h.modJob _ _

theorem State.Kept.exportJob (h : s.Kept o i) (j : Nat) : (s.exportJob j).Kept o i := by
  unfold State.exportJob
  split <;> exact h.modJob _ _

theorem State.Kept.runHeld (h : s.Kept o i) (j : Nat) (op : HeldOp) : (s.runHeld j op).Kept o i := by
  unfold State.runHeld
  split
  · exact h.modJob _ _
  · cases op with
    | compare aux => exact h.modJob _ _
    | extend mr aux => exact h.extendJob _ _ _
    | exportCtx => exact h.exportJob _

theorem State.Kept.jobOp (h : s.Kept o i) (j : Nat) (op : HeldOp) : (s.jobOp j op).Kept o i := by
  unfold State.jobOp
  split
  · exact h.runHeld _ _
  · exact h.modJob _ _
  · exact h.modJob _ _

theorem kept_execImportCtx (h : s.Kept o i) (j : Fin 8) (blob : Bytes) : keptNext o i (execImportCtx j blob s) := by
  unfold execImportCtx
  refine State.Kept.toNext ?_
  split
  · exact h.modJob _ _
  · split
    · exact h.modJob _ _
    · have h' := h.modJob j.val fun c => { c with err := 7 }
      exact { h' with engines := h'.engines }

theorem State.Kept.finishJob (h : s.Kept o i) (j : Nat) (bytes : Bytes) : (s.finishJob j bytes).Kept o i := by
  unfold State.finishJob
  extract_lets c
  split
  · dsimp only
    split
    · refine kept_foldl (P := State.Kept o i) (fun t op ht => ht.runHeld j op) _ ?_
      split
      · exact State.Kept.transfer (h.modJob j _) _
      · exact h.modJob j _
    · exact h.modJob _ _
  · exact h

theorem kept_execInlineLaneGrant (h : s.Kept o i) (ferry : Fin 16) : keptNext o i (execInlineLaneGrant ferry s) := by
  unfold execInlineLaneGrant
  extract_lets l
  refine State.Kept.toNext ?_
  split
  · exact { h with
      engines := fun hi => (h.engines hi).lanes (modifyAt_length _ _ _) (modifyAt_length _ _ _)
      host := fun hi => (h.host hi).mapSubs _ }
  · exact h

/-! ### SPDM -/

theorem State.Kept.modHosting (h : s.Kept o i) {x : Hosting} (hx : s.hosting.Form → x.Form) : ({ s with hosting := x } : State).Kept o i :=
  { h with hosting := fun hi => hx (h.hosting hi) }

theorem State.Kept.respond (h : s.Kept o i) (code : Nat) (body : Bytes) : (s.respond code body).Kept o i := { h with hosting := h.hosting }

theorem State.Kept.spdmError (h : s.Kept o i) (code : Nat) : (s.spdmError code).Kept o i := h.respond _ _

theorem State.Kept.respondLarge (h : s.Kept o i) (code : Nat) (body : Bytes) : (s.respondLarge code body).Kept o i := by
  unfold State.respondLarge
  split
  · exact h.respond _ _
  · refine State.Kept.spdmError ?_ _
    exact { h with hosting := h.hosting }

theorem State.Kept.inPhase (h : s.Kept o i) (phase : Nat) {f : State → State} (hf : (f s).Kept o i) : (s.inPhase phase f).Kept o i := by
  unfold State.inPhase
  split_ifs
  · exact h
  · exact h.spdmError _
  · exact hf

theorem State.Kept.respondSigned (h : s.Kept o i) (code : Nat) (content : Bytes) : (s.respondSigned code content).Kept o i := by
  unfold State.respondSigned
  extract_lets r
  have hr : r.1.Kept o i := h.drawn.signEc _ _
  split
  · exact hr.respondLarge _ _
  · exact hr.spdmError _

theorem State.Kept.endSpdm (h : s.Kept o i) (k : Nat) : (s.endSpdm k).Kept o i :=
  { h with hosting := fun hi => (h.hosting hi).modSession k _, od := fun hi => (h.od hi).closeTransfer _ }

theorem kept_execGetVersion (h : s.Kept o i) : keptNext o i (execGetVersion s) := by
  unfold execGetVersion
  refine State.Kept.toNext ?_
  split
  · refine State.Kept.respond ?_ _ _
    have h' : ((List.range 4).foldl State.endSpdm s).Kept o i := kept_foldl (P := State.Kept o i) (fun _ k ht => ht.endSpdm k) _ h
    generalize (List.range 4).foldl State.endSpdm s = t at h'
    exact { h' with hosting := h'.hosting }
  · exact h

theorem kept_execGetCapabilities (h : s.Kept o i) : keptNext o i (execGetCapabilities s) := by
  refine (h.inPhase 1 (State.Kept.respond ?_ _ _)).toNext
  exact { h with hosting := h.hosting }

theorem kept_execNegotiateAlgorithms (h : s.Kept o i) (offers : Bool) : keptNext o i (execNegotiateAlgorithms offers s) := by
  refine (h.inPhase 2 ?_).toNext
  split
  · refine State.Kept.respond ?_ _ _
    exact { h with hosting := h.hosting }
  · exact h.spdmError _

theorem kept_execGetDigests (h : s.Kept o i) : keptNext o i (execGetDigests s) := (h.inPhase 3 (h.readyIdevidCert.respond _ _)).toNext

theorem kept_execGetCertificate (h : s.Kept o i) (slot : Byte) (offset len : Nat) : keptNext o i (execGetCertificate slot offset len s) := by
  refine (h.inPhase 3 ?_).toNext
  dsimp only
  split
  · exact h.readyIdevidCert.respondLarge _ _
  · exact h.readyIdevidCert.spdmError _

theorem kept_execChallenge (h : s.Kept o i) (slot : Byte) (nonce : BitVec 256) : keptNext o i (execChallenge slot nonce s) := by
  refine (h.inPhase 3 ?_).toNext
  dsimp only
  split
  · exact h.readyIdevidCert.respondSigned _ _
  · exact h.readyIdevidCert.spdmError _

theorem State.Kept.manifestBlock (h : s.Kept o i) (nonce : Bytes) : (s.manifestBlock nonce).1.Kept o i := by
  unfold State.manifestBlock
  split
  · exact h.token nonce
  · exact h

theorem State.Kept.measurements (h : s.Kept o i) (index : Nat) (nonce : Bytes) : (s.measurements index nonce).1.Kept o i := by
  unfold State.measurements
  split_ifs
  · exact h
  · exact h
  · exact h.manifestBlock nonce
  · exact h.manifestBlock nonce
  · exact h

theorem kept_execGetMeasurements (h : s.Kept o i) (index : Byte) (nonce : BitVec 256) : keptNext o i (execGetMeasurements index nonce s) := by
  refine (h.inPhase 3 ?_).toNext
  have hm := h.measurements index.toNat (beBytes 32 nonce.toNat)
  dsimp only
  split
  · exact hm.respondSigned _ _
  · exact hm.spdmError _

theorem kept_execChunkGet (h : s.Kept o i) (seq : Nat) : keptNext o i (execChunkGet seq s) := by
  refine (h.inPhase 1 ?_).toNext
  split
  · exact h.respond _ _
  · exact h.spdmError _

theorem State.Kept.modSession (h : s.Kept o i) (k : Nat) (f : SpdmSession → SpdmSession) : (s.modSession k f).Kept o i :=
  h.modHosting fun hx => hx.modSession k f

theorem State.Kept.keySession (h : s.Kept o i) (k : Nat) (key : Bytes × Bytes) : (s.keySession k key).Kept o i :=
  ((h.transfer _).transfer _).modSession _ _

theorem State.Kept.rekeySession (h : s.Kept o i) (k : Nat) : (s.rekeySession k).Kept o i := h.keySession _ _

theorem State.Kept.exchangeKeys (h : s.Kept o i) (k : Nat) (data : Bytes) : (s.exchangeKeys k data).Kept o i :=
  (((h.generated.agreeEc _ _).modSession _ _).keySession _ _).respondSigned _ _

theorem kept_execKeyExchange (h : s.Kept o i) (data : Bytes) : keptNext o i (execKeyExchange data s) := by
  refine (h.inPhase 3 ?_).toNext
  split
  · exact h.spdmError _
  · split
    · exact h.spdmError _
    · split
      · exact h.spdmError _
      · exact h.exchangeKeys _ _

theorem kept_execFinish (h : s.Kept o i) (k : Fin 4) (verifyOk : Bool) (heartbeatS : Byte) : keptNext o i (execFinish k verifyOk heartbeatS s) := by
  unfold execFinish
  refine State.Kept.toNext ?_
  split_ifs
  · exact ((h.rekeySession _).modSession _ _).respond _ _
  · exact (h.endSpdm _).spdmError _
  · exact h.spdmError _
  · exact h

theorem State.Kept.secured (h : s.Kept o i) (k : Nat) {f : State → State} (hf : ∀ t : State, t.Kept o i → (f t).Kept o i) :
    (s.secured k f).Kept o i := by
  unfold State.secured
  split_ifs
  · exact hf _ (h.modSession _ _)
  · exact h.spdmError _
  · exact h

theorem kept_execEndSession (h : s.Kept o i) (k : Fin 4) : keptNext o i (execEndSession k s) :=
  (h.secured k.val fun _ ht => (ht.endSpdm _).respond _ _).toNext

theorem kept_execHeartbeat (h : s.Kept o i) (k : Fin 4) : keptNext o i (execHeartbeat k s) :=
  (h.secured k.val fun _ ht => ht.respond _ _).toNext

theorem kept_execKeyUpdate (h : s.Kept o i) (k : Fin 4) : keptNext o i (execKeyUpdate k s) :=
  (h.secured k.val fun _ ht => ((ht.rekeySession _).modSession _ _).respond _ _).toNext

theorem kept_execSpdmHeartbeatTimeout (h : s.Kept o i) (k : Fin 4) : keptNext o i (execSpdmHeartbeatTimeout k s) := by
  unfold execSpdmHeartbeatTimeout
  refine State.Kept.toNext ?_
  split
  · exact h.endSpdm _
  · exact h

/-! ### IDE and TDISP -/

theorem Hosting.Form.setSlot {x : Hosting} (h : x.Form) (k : Nat) (v : IdeSlot) : (x.setSlot k v).Form :=
  ⟨h.1, h.2.1, h.2.2.1, SMap.wf_set {} x.ide k v h.2.2.2⟩

theorem Hosting.Form.stopSet {x : Hosting} (h : x.Form) (id : IdeKeyId) : (x.stopSet id).Form := by
  unfold Hosting.stopSet
  dsimp only
  have hs := h.setSlot (ideKey id) {}
  split <;> exact hs

theorem kept_execQuery (h : s.Kept o i) (k : Fin 4) : keptNext o i (execQuery k s) :=
  (h.secured k.val fun _ ht => ht.respond _ _).toNext

theorem State.Kept.programKey (h : s.Kept o i) (id : IdeKeyId) (key : BitVec 256) : (s.programKey id key).Kept o i := by
  unfold State.programKey
  extract_lets r _ _
  have hr : r.1.Kept o i := h.transfer _
  clear_value r
  refine { hr with hosting := fun hi => ?_ }
  have hs := (hr.hosting hi).setSlot (ideKey id) { key := some r.2 }
  exact ⟨hs.1, hs.2.1, (modifyAt_length _ _ _).trans (hr.hosting hi).2.2.1, hs.2.2.2⟩

theorem kept_execKeyProg (h : s.Kept o i) (k : Fin 4) (id : IdeKeyId) (key : BitVec 256) : keptNext o i (execKeyProg k id key s) :=
  (h.secured k.val fun t ht => by
    split
    · exact ht.respond _ _
    · exact (ht.programKey _ _).respond _ _).toNext

theorem kept_execKSetGo (h : s.Kept o i) (k : Fin 4) (id : IdeKeyId) : keptNext o i (execKSetGo k id s) :=
  (h.secured k.val fun t ht => by
    refine State.Kept.respond (ht.modHosting fun hx => ?_) _ _
    split
    · exact hx.setSlot _ _
    · exact hx).toNext

theorem kept_execKSetStop (h : s.Kept o i) (k : Fin 4) (id : IdeKeyId) : keptNext o i (execKSetStop k id s) :=
  (h.secured k.val fun _ ht => State.Kept.respond (ht.modHosting fun hx => hx.stopSet id) _ _).toNext

theorem kept_execIdeIntegrityFail (h : s.Kept o i) (stream : Fin 9) : keptNext o i (execIdeIntegrityFail stream s) := by
  unfold execIdeIntegrityFail
  refine State.Kept.toNext ?_
  split
  · exact { h with hosting := h.hosting }
  · exact h

theorem kept_execGetTdispVersion (h : s.Kept o i) (k : Fin 4) : keptNext o i (execGetTdispVersion k s) :=
  (h.secured k.val fun _ ht => ht.respond _ _).toNext

theorem kept_execGetTdispCapabilities (h : s.Kept o i) (k : Fin 4) : keptNext o i (execGetTdispCapabilities k s) :=
  (h.secured k.val fun _ ht => (ht.respond _ _).drawn).toNext

theorem kept_execLockInterfaceRequest (h : s.Kept o i) (k : Fin 4) : keptNext o i (execLockInterfaceRequest k s) :=
  (h.secured k.val fun t ht => by
    split
    · refine State.Kept.drawn (State.Kept.respond ?_ _ _)
      exact { ht with hosting := ht.hosting }
    · exact ht.respond _ _).toNext

theorem kept_execGetDeviceInterfaceReport (h : s.Kept o i) (k : Fin 4) : keptNext o i (execGetDeviceInterfaceReport k s) :=
  (h.secured k.val fun t ht => by
    split
    · exact (ht.respond _ _).drawn
    · exact ht.respond _ _).toNext

theorem kept_execGetDeviceInterfaceState (h : s.Kept o i) (k : Fin 4) : keptNext o i (execGetDeviceInterfaceState k s) :=
  (h.secured k.val fun _ ht => ht.respond _ _).toNext

theorem kept_execStartInterfaceRequest (h : s.Kept o i) (k : Fin 4) (nonce : BitVec 256) :
    keptNext o i (execStartInterfaceRequest k nonce s) :=
  (h.secured k.val fun t ht => by
    split_ifs
    · exact ht.respond _ _
    · exact ht.respond _ _
    · refine State.Kept.respond (State.Kept.sendVectors ?_) _ _
      exact { ht with hosting := ht.hosting }).toNext

theorem kept_execStopInterfaceRequest (h : s.Kept o i) (k : Fin 4) : keptNext o i (execStopInterfaceRequest k s) :=
  (h.secured k.val fun _ ht => ht.stopSession.respond _ _).toNext

theorem kept_execLockedConfigurationChange (h : s.Kept o i) : keptNext o i (execLockedConfigurationChange s) := by
  unfold execLockedConfigurationChange
  refine State.Kept.toNext ?_
  split
  · exact { h with hosting := h.hosting }
  · exact h

/-! ### Model loads -/

theorem State.Kept.loadCode (h : s.Kept o i) (code : Nat) : (s.loadCode code).Kept o i := { h with hosting := h.hosting }

theorem Hosting.Form.modLoad {x : Hosting} (h : x.Form) (k : Nat) (f : Option ModelLoad → Option ModelLoad) :
    ({ x with loads := modifyAt x.loads k f } : Hosting).Form :=
  ⟨h.1, (modifyAt_length _ _ _).trans h.2.1, h.2.2⟩

theorem State.Kept.startLoad (h : s.Kept o i) (l : ModelLoad) : (s.startLoad l).Kept o i := by
  unfold State.startLoad
  split
  · exact h.loadCode _
  · split
    · exact h.loadCode _
    · exact h.modHosting fun hx => hx.modLoad _ _

theorem State.Kept.writeClearModelLoad {t : State} (ht : t.Kept o i) (addr len : BitVec 64) :
    keptSome o i (t.writeClearModelLoad addr len) := by
  unfold State.writeClearModelLoad
  split
  · exact (ht.startLoad _).toSome
  · exact keptSome_none

theorem kept_execClearModelLoad (h : s.Kept o i) (ch : Channel) (addr len : BitVec 64) :
    keptNext o i (execClearModelLoad ch addr len s) :=
  (h.odRow fun _ ht => ht.writeClearModelLoad _ _).toNext

theorem State.Kept.unwrapContent (h : s.Kept o i) (a b : Bytes) : (s.unwrapContent a b).1.Kept o i :=
  h.agreeEc (s.bindingFor b).1 (slice b 24 97)

theorem State.Kept.openBundle (h : s.Kept o i) (addr len : BitVec 64) (head : Bytes) : (s.openBundle addr len head).1.Kept o i := by
  unfold State.openBundle
  split
  · have hu := h.unwrapContent head ((s.bundleRecipient head).getD [])
    dsimp only
    split
    · exact hu
    · exact hu.transfer _
  · exact h

theorem State.Kept.startBundle (h : s.Kept o i) (addr len : BitVec 64) (head : Option Bytes) : (s.startBundle addr len head).Kept o i := by
  unfold State.startBundle
  split
  · exact h.loadCode _
  · split
    · exact h.startLoad _
    · split
      · exact h.loadCode _
      · dsimp only
        split
        · exact (h.openBundle _ _ _).startLoad _
        · exact (h.openBundle _ _ _).loadCode _

theorem State.Kept.writeBoundBundleLoad {t : State} (ht : t.Kept o i) (addr len : BitVec 64) (head : Option Bytes) :
    keptSome o i (t.writeBoundBundleLoad addr len head) := by
  unfold State.writeBoundBundleLoad
  split
  · exact (ht.startBundle _ _ _).toSome
  · exact keptSome_none

theorem kept_execBoundBundleLoad (h : s.Kept o i) (ch : Channel) (addr len : BitVec 64) (head : Option Bytes) :
    keptNext o i (execBoundBundleLoad ch addr len head s) :=
  (h.odRow fun _ ht => ht.writeBoundBundleLoad _ _ _).toNext

theorem State.Kept.loadPlain (h : s.Kept o i) (l : ModelLoad) (r : ModelResult) : (s.loadPlain l r).1.Kept o i := by
  unfold State.loadPlain
  split
  · exact h
  · split
    · exact h
    · split
      · exact h
      · have ho := h.openBundle l.addr l.len (r.data.take (128 + 1280 * bundleRecipients r.data))
        dsimp only
        split <;> exact ho

theorem State.Kept.acceptModel (h : s.Kept o i) (l : ModelLoad) (plain : Bytes) : (s.acceptModel l plain).Kept o i := by
  have h' := h.extendMr 10 (eventRecord (if l.bound then 2 else 1) (sha384 plain) s.now)
  unfold State.acceptModel
  dsimp only
  generalize s.extendMr 10 _ = t at h'
  exact { h' with hosting := h'.hosting }

theorem kept_execModelLoadComplete (h : s.Kept o i) (slot : Fin 4) (r : ModelResult) : keptNext o i (execModelLoadComplete slot r s) := by
  unfold execModelLoadComplete
  refine State.Kept.toNext ?_
  split
  · exact h
  · next l _ =>
    split
    · have h0 : ({ s with hosting := { s.hosting with loads := modifyAt s.hosting.loads slot.val fun _ => none } } : State).Kept o i :=
        h.modHosting fun hx => hx.modLoad _ _
      have ho := h0.loadPlain l r
      unfold State.endLoad
      dsimp only
      split
      · exact ho.acceptModel _ _
      · exact ho.loadCode _
    · exact h

/-! ### Consent -/

theorem Retained.Form.modToken {r : Retained} (h : r.Form) (k : Nat) (f : Option TokenInForce → Option TokenInForce) :
    ({ r with tokens := modifyAt r.tokens k f } : Retained).Form :=
  ⟨h.1, (modifyAt_length _ _ _).trans h.2.1, h.2.2⟩

theorem State.Kept.endToken (h : s.Kept o i) (k code : Nat) : (s.endToken k code).Kept o i := by
  unfold State.endToken
  split
  · exact h
  · next t _ =>
    have h1 := h.extendMr 12 (eventRecord code t.digest s.now)
    dsimp only
    generalize s.extendMr 12 _ = s1 at h1
    have h2 : ({ s1 with ret := { s1.ret with tokens := modifyAt s1.ret.tokens k fun _ => none } } : State).Kept o i :=
      h1.modRet fun hi => (h1.ret hi).modToken k _
    split
    · refine State.Kept.settleDebug ?_
      exact { h2 with ret := h2.ret }
    · exact h2

theorem State.Kept.writeConsentKeyWrite {t : State} (ht : t.Kept o i) (d : Digest) :
    keptSome o i (t.writeConsentKeyWrite d) := by
  unfold State.writeConsentKeyWrite
  extract_lets old _ s1
  have h1 : s1.Kept o i := ht.modRet ht.ret
  refine State.Kept.toSome ?_
  split
  · exact h1
  · exact ((h1.endToken _ _).endToken _ _).endToken _ _

theorem kept_execConsentKeyWrite (h : s.Kept o i) (ch : Channel) (d : Digest) :
    keptNext o i (execConsentKeyWrite ch d s) :=
  (h.odRow fun _ ht => ht.writeConsentKeyWrite _).toNext

theorem State.Kept.acceptToken (h : s.Kept o i) (t : ConsentToken) : (s.acceptToken t).Kept o i := by
  unfold State.acceptToken
  extract_lets d s1 _ _
  have h1 : s1.Kept o i := h.extendMr _ _
  clear_value s1
  refine { h1 with ret := fun hi => ?_, hosting := h1.hosting }
  exact (h1.ret hi).modToken _ _

theorem State.Kept.writeConsentTokenSubmit {u : State} (hu : u.Kept o i) (ch : Channel) (t : ConsentToken) :
    keptSome o i (u.writeConsentTokenSubmit ch t) := by
  unfold State.writeConsentTokenSubmit
  split
  · exact keptSome_none
  · split
    · exact (hu.acceptToken t).toSome
    · exact State.Kept.toSome { hu with hosting := hu.hosting }

theorem kept_execConsentTokenSubmit (h : s.Kept o i) (ch : Channel) (t : ConsentToken) :
    keptNext o i (execConsentTokenSubmit ch t s) :=
  (h.odRow fun _ ht => ht.writeConsentTokenSubmit _ _).toNext

theorem kept_execConsentTokenExpiry (h : s.Kept o i) (sc : Scope) : keptNext o i (execConsentTokenExpiry sc s) := by
  unfold execConsentTokenExpiry
  refine State.Kept.toNext ?_
  split
  · split
    · exact h.endToken _ _
    · exact h
  · exact h

theorem State.Kept.writeConsentWithdraw {t : State} (ht : t.Kept o i) (v : Byte) :
    keptSome o i (t.writeConsentWithdraw v) := by
  unfold State.writeConsentWithdraw
  split
  · exact (ht.endToken _ _).toSome
  · exact keptSome_none

theorem kept_execConsentWithdraw (h : s.Kept o i) (ch : Channel) (v : Byte) :
    keptNext o i (execConsentWithdraw ch v s) :=
  (h.odRow fun _ ht => ht.writeConsentWithdraw _).toNext

/-! ### Regions -/

theorem Retained.Form.setRegion {r : Retained} (h : r.Form) (k : Nat) (x : Region) : (r.setRegion k x).Form :=
  ⟨h.1, h.2.1, h.2.2.1, SMap.wf_set _ _ _ _ h.2.2.2⟩

theorem State.Kept.setRegion (h : s.Kept o i) (k : Nat) (x : Region) : ({ s with ret := s.ret.setRegion k x } : State).Kept o i :=
  h.modRet fun hi => (h.ret hi).setRegion k x

theorem State.Kept.regionCode (h : s.Kept o i) (code : Nat) : (s.regionCode code).Kept o i := { h with hosting := h.hosting }

theorem State.Kept.writeRegionAllocate {t : State} (ht : t.Kept o i) (region : BitVec 16) (stack : Byte) (size : BitVec 32) :
    keptSome o i (t.writeRegionAllocate region stack size) := by
  unfold State.writeRegionAllocate
  split
  · refine State.Kept.toSome ?_
    unfold State.allocate
    split
    · exact ht.regionCode _
    · split
      · exact ht.regionCode _
      · split
        · exact ht.regionCode _
        · exact ((ht.setRegion _ _).regionCode _).drawn
  · exact keptSome_none

theorem kept_execRegionAllocate (h : s.Kept o i) (ch : Channel) (region : BitVec 16) (stack : Byte) (size : BitVec 32) :
    keptNext o i (execRegionAllocate ch region stack size s) :=
  (h.odRow fun _ ht => ht.writeRegionAllocate _ _ _).toNext

theorem State.Kept.writeRegionFree {t : State} (ht : t.Kept o i) (region : BitVec 16) :
    keptSome o i (t.writeRegionFree region) := by
  unfold State.writeRegionFree
  split
  · refine State.Kept.toSome ?_
    unfold State.freeRegion
    split_ifs
    · exact ht.regionCode _
    · exact ht.regionCode _
    · exact (ht.setRegion _ _).regionCode _
  · exact keptSome_none

theorem kept_execRegionFree (h : s.Kept o i) (ch : Channel) (region : BitVec 16) :
    keptNext o i (execRegionFree ch region s) :=
  (h.odRow fun _ ht => ht.writeRegionFree _).toNext

theorem State.Kept.writeScrubSuspend {t : State} (ht : t.Kept o i) (region : BitVec 16) :
    keptSome o i (t.writeScrubSuspend region) := by
  unfold State.writeScrubSuspend
  dsimp only
  split
  · exact ((ht.setRegion _ _).darkenRegion _).toSome
  · exact keptSome_none

theorem kept_execScrubSuspend (h : s.Kept o i) (ch : Channel) (region : BitVec 16) :
    keptNext o i (execScrubSuspend ch region s) :=
  (h.odRow fun _ ht => ht.writeScrubSuspend _).toNext

theorem State.Kept.writeScrubResume {t : State} (ht : t.Kept o i) (region : BitVec 16) :
    keptSome o i (t.writeScrubResume region) := by
  unfold State.writeScrubResume
  dsimp only
  split
  · exact (ht.setRegion _ _).toSome
  · exact keptSome_none

theorem kept_execScrubResume (h : s.Kept o i) (ch : Channel) (region : BitVec 16) :
    keptNext o i (execScrubResume ch region s) :=
  (h.odRow fun _ ht => ht.writeScrubResume _).toNext

theorem State.Kept.setStore (h : s.Kept o i) (k : Nat) (f : Region → Region) :
    ({ s with ret := { s.ret with stores := modifyAt s.ret.stores k f } } : State).Kept o i :=
  h.modRet fun hi => ⟨(modifyAt_length _ _ _).trans (h.ret hi).1, (h.ret hi).2⟩

theorem State.Kept.zeroLines (h : s.Kept o i) (stack base lines : Nat) :
    ({ s with fabric := s.fabric.zeroLines stack base lines } : State).Kept o i := { h with fabric := h.fabric }

theorem kept_execScrubComplete (h : s.Kept o i) (t : ScrubTarget) : keptNext o i (execScrubComplete t s) := by
  refine State.Kept.toNext ?_
  unfold State.endScrub
  split
  · next r =>
    dsimp only
    split
    · have hz := (h.setRegion r.val {}).zeroLines (s.ret.region r.val).stack ((s.ret.region r.val).base * 16384)
        ((s.ret.region r.val).size * 16384)
      exact hz
    · exact h
  · split
    · exact { h with ret := h.ret, fabric := h.fabric }
    · exact h
  · split
    · exact State.Kept.settleClosed (h.setStore _ _)
    · exact h

theorem kept_execScrubReadbackFail (h : s.Kept o i) (t : ScrubTarget) (mib : Nat) : keptNext o i (execScrubReadbackFail t mib s) := by
  refine State.Kept.toNext ?_
  unfold State.failScrub
  split
  · dsimp only
    split
    · exact State.Kept.darkenRegion (State.Kept.fault (h.setRegion _ _) _) _
    · exact h
  · split
    · exact h.fault _
    · exact h
  · dsimp only
    split
    · exact State.Kept.fault (h.setStore _ _) _
    · exact h

/-! ### Leases -/

theorem State.Kept.modOd (h : s.Kept o i) {d : Od} (hd : s.od.Form → d.Form) : ({ s with od := d } : State).Kept o i :=
  { h with od := fun hi => hd (h.od hi) }

theorem State.Kept.breakLock (h : s.Kept o i) : s.breakLock.Kept o i := by
  unfold State.breakLock
  split
  · exact h
  · dsimp only
    refine h.modOd fun hd => ?_
    have hc := hd.closeTransfer (channelIndex ‹Channel›)
    exact (modifyAt_length _ _ _).trans hc

theorem Engines.Form.endBnLease {e : Engines} (h : e.Form) (c : BnCtx) (v : BnEnv) : (e.endBnLease c v).Form := by
  unfold Engines.endBnLease
  extract_lets _ e1 e2
  have h1 : e1.Form := by
    have hm := h.modCtx c fun _ _ => BnContext.Form.cleared 0x0E
    exact hm
  have h2 : e2.Form := by
    change (if _ then _ else _ : Engines).Form
    split <;> exact h1
  split_ifs
  · exact h2.settle _ _
  · exact (h2.runLong h2.2.2.2.1 _ _).settle _ _
  · exact h2

theorem State.Kept.endLease (h : s.Kept o i) (l : Lease) (how : Nat) : (s.endLease l how).Kept o i := by
  have hcount (k : Nat) : (s.countLease k).Kept o i := { h with }
  cases l with
  | regulator k => exact (hcount 0).fault _
  | odLock =>
    unfold State.endLease
    dsimp only
    split
    · exact h.breakLock
    · exact h.breakLock.fault _
  | spanFences =>
    refine State.Kept.fault ?_ _
    exact { hcount 1 with straits := h.straits }
  | scrub k => exact (hcount 2).fault _
  | strait k =>
    refine State.Kept.fault ?_ _
    exact { hcount 3 with straits := fun hi => (modifyAt_length _ _ _).trans (h.straits hi) }
  | bignum c =>
    refine State.Kept.fault ?_ _
    exact { h with engines := fun hi => (h.engines hi).endBnLease c _ }

theorem kept_execLeaseLapse (h : s.Kept o i) (l : Lease) : keptNext o i (execLeaseLapse l s) := by
  unfold execLeaseLapse
  refine State.Kept.toNext ?_
  split
  · exact h.endLease _ _
  · exact h

theorem State.Kept.revokeBy (h : s.Kept o i) (ch : Channel) (l : Lease) : (s.revokeBy ch l).Kept o i := by
  have hf (t : State) (ht : t.Kept o i) : keptSome o i (some (if t.leaseHeld l then t.endLease l 2 else t)) := by
    refine State.Kept.toSome ?_
    split
    · exact ht.endLease _ _
    · exact ht
  unfold State.revokeBy
  dsimp only
  split
  · split
    · split
      · exact h.applyWrite _ _ (hf s h)
      · exact h.violate _ _ _ _
    · exact h
  · exact h.odRow hf

theorem kept_execLeaseRevoke (h : s.Kept o i) (by_ : Option Channel) (l : Lease) : keptNext o i (execLeaseRevoke by_ l s) := by
  unfold execLeaseRevoke
  refine State.Kept.toNext ?_
  split
  · split
    · exact h.endLease _ _
    · exact h
  · exact h.revokeBy _ _

end Sys2Proof.Machine
end

section
/-! The form of the state and the fuses: rings, translations, interrupts, Strait ports and the time tree (11, 15). -/

namespace Sys2Proof.Machine

variable {o : Otp} {i : Prop} {s : State}

/-! ### Rings, records and pages -/

theorem kept_execRingConfigWrite (h : s.Kept o i) (ch : Channel) (cfg : RingCfg) : keptNext o i (execRingConfigWrite ch cfg s) :=
  (h.odRow fun _ ht => ht.configureRing cfg).toNext

theorem State.Kept.writeIngestModeWrite {t : State} (ht : t.Kept o i) (v : Byte) :
    keptSome o i (t.writeIngestModeWrite v) := by
  unfold State.writeIngestModeWrite
  split
  · refine State.Kept.toSome ?_
    exact { ht with host := ht.host }
  · exact keptSome_none

theorem kept_execIngestModeWrite (h : s.Kept o i) (ch : Channel) (v : Byte) :
    keptNext o i (execIngestModeWrite ch v s) :=
  (h.odRow fun _ ht => ht.writeIngestModeWrite _).toNext

theorem kept_execScore (h : s.Kept o i) (ring : BitVec 16) (entry : BitVec 512) (translated : Bool) :
    keptNext o i (execScore ring entry translated s) := by
  unfold execScore
  refine State.Kept.toNext ?_
  split
  · exact h.readEntry _ _ fun _ _ _ ht => ht.acceptEntry _ _ _ _
  · exact h

theorem kept_execEvents (h : s.Kept o i) (ring : BitVec 16) (entry : BitVec 512) (translated : Bool) :
    keptNext o i (execEvents ring entry translated s) := by
  unfold execEvents
  refine State.Kept.toNext ?_
  split
  · exact h.readEntry _ _ fun _ _ _ ht => ht.acceptEntry _ _ _ _
  · exact h

theorem kept_execResubmit (h : s.Kept o i) (ring : BitVec 16) (entry : BitVec 512) : keptNext o i (execResubmit ring entry s) := by
  unfold execResubmit
  refine State.Kept.toNext ?_
  split
  · exact h.readEntry _ _ fun _ _ _ ht => ht.matchParked _ _ _
  · exact h

theorem kept_execFenceWaitRelease (h : s.Kept o i) (ring : BitVec 16) : keptNext o i (execFenceWaitRelease ring s) := by
  unfold execFenceWaitRelease
  refine State.Kept.toNext ?_
  split
  · exact h.modHost fun hx => hx.modRing _ _
  · exact h

theorem kept_execRecordFetchDone (h : s.Kept o i) (tag : BitVec 18) (record : Bytes) : keptNext o i (execRecordFetchDone tag record s) := by
  unfold execRecordFetchDone
  refine State.Kept.toNext ?_
  split
  · split
    · refine State.Kept.pump (State.Kept.parkStaged ?_ _)
      exact { h with engines := fun hi => (h.engines hi).laneDone _ _, host := fun hi => (h.host hi).modSub _ _ }
    · exact h
  · exact h

theorem State.Kept.failPlanFetch (h : s.Kept o i) : s.failPlanFetch.Kept o i := by
  unfold State.failPlanFetch
  split
  · split
    · exact h.refusePlan _
    · exact h
  · exact h

theorem State.Kept.failSnapshot (h : s.Kept o i) : s.failSnapshot.Kept o i := by
  unfold State.failSnapshot
  split
  · exact h.endSnapshot _
  · exact h

theorem State.Kept.retryAccess (h : s.Kept o i) (p : PageOwner) : (s.retryAccess p).Kept o i := by
  cases p with
  | record tag =>
    unfold State.retryAccess
    dsimp only
    split
    · split
      · exact h.startFetch _ _
      · exact h
    · exact h
  | output tag => exact h.modHost fun hx => hx.modSub _ _
  | plan => exact h
  | snapshot => exact h

theorem State.Kept.failAccess (h : s.Kept o i) (p : PageOwner) : (s.failAccess p).Kept o i := by
  cases p with
  | record tag =>
    unfold State.failAccess
    dsimp only
    split
    · split
      · exact h.inputFault _
      · exact h
    · exact h
  | output tag => exact h.outputFault _
  | plan => exact h.failPlanFetch
  | snapshot => exact h.failSnapshot

theorem State.Kept.endPage (h : s.Kept o i) (p : PageOwner) (now : Nat) : ({ s with host := s.host.endPage p now } : State).Kept o i :=
  h.modHost fun hx => hx.endPage _ _

theorem kept_execPageRequestResponse (h : s.Kept o i) (p : PageOwner) (success : Bool) :
    keptNext o i (execPageRequestResponse p success s) := by
  unfold execPageRequestResponse
  refine State.Kept.toNext ?_
  split
  · dsimp only
    split
    · exact (h.endPage _ _).retryAccess _
    · exact (h.endPage _ _).failAccess _
  · exact h

theorem kept_execPriTimeout (h : s.Kept o i) (p : PageOwner) : keptNext o i (execPriTimeout p s) := by
  unfold execPriTimeout
  refine State.Kept.toNext ?_
  split
  · exact (h.endPage _ _).failAccess _
  · exact h

/-! ### Interrupts and the digest alarm -/

theorem kept_execMsixHoldoffExpiry (h : s.Kept o i) (vec : Fin 2048) : keptNext o i (execMsixHoldoffExpiry vec s) := by
  unfold execMsixHoldoffExpiry
  refine State.Kept.toNext ?_
  split
  · dsimp only
    split
    · refine State.Kept.raiseVector ?_ _
      exact { h with host := h.host }
    · exact { h with host := h.host }
  · exact h

theorem State.Kept.unmask (h : s.Kept o i) (v : Nat) : (s.unmask v).Kept o i := by
  unfold State.unmask
  refine h.modHost fun hx => HostPath.Form.sendPending ?_ _ _
  obtain ⟨hr, hf, hs, hm, ht⟩ := hx
  exact ⟨hr, hf, hs, SMap.wf_modify _ _ v (fun e => (e.1, e.2.1, false)) hm, ht⟩

theorem State.Kept.refuseLoads (h : s.Kept o i) : s.refuseLoads.Kept o i := by
  unfold State.refuseLoads
  split
  · split
    · exact h.refuseAfterRuntime _ _
    · exact h.refuseSet _
  · exact { h with }
  · exact h

theorem kept_execDigestAlarm (h : s.Kept o i) (busError : Bool) : keptNext o i (execDigestAlarm busError s) := by
  unfold execDigestAlarm
  refine State.Kept.toNext (State.Kept.refuseLoads ?_)
  refine kept_foldl (P := State.Kept o i) (fun t tag ht => ht.clearLane tag) _ ?_
  exact { h with engines := fun hi => (h.engines hi).alarm _ }

/-! ### Strait ports -/

theorem State.Kept.modStraits (h : s.Kept o i) {x : Straits} (hx : x.ports.length = s.straits.ports.length) :
    ({ s with straits := x } : State).Kept o i := { h with straits := fun hi => hx.trans (h.straits hi) }

theorem State.Kept.modPort (h : s.Kept o i) (p : Nat) (f : Port → Port) : (s.modPort p f).Kept o i := h.modStraits (modifyAt_length _ _ _)

theorem State.Kept.emitFrame (h : s.Kept o i) (p : Nat) : (s.emitFrame p).Kept o i := by
  unfold State.emitFrame
  dsimp only
  split
  · exact h.modStraits (modifyAt_length _ _ _)
  · split
    · exact h
    · exact h.modStraits (modifyAt_length _ _ _)

theorem State.Kept.sendFrames (h : s.Kept o i) : s.sendFrames.Kept o i := by
  refine kept_foldl (P := State.Kept o i) (fun t p ht => ?_) _ h
  split
  · exact ht.emitFrame _
  · exact ht

theorem State.Kept.agree (h : s.Kept o i) (p epoch : Nat) (f : Port → Port) : (s.agree p epoch f).Kept o i :=
  State.Kept.modPort (((h.generatedBy 3).transfer _).transfer _) _ _

theorem State.Kept.bringUp (h : s.Kept o i) (p : Nat) : (s.bringUp p).Kept o i := h.agree _ _ _

theorem State.Kept.refusePort (h : s.Kept o i) (p : Nat) : (s.refusePort p).Kept o i := h.modPort _ _

theorem kept_execTrainingDone (h : s.Kept o i) (p : Fin 12) : keptNext o i (execTrainingDone p s) := by
  unfold execTrainingDone
  refine State.Kept.toNext ?_
  split
  · exact h.bringUp _
  · exact h

theorem kept_execHello (h : s.Kept o i) (p : Fin 12) (m : HelloMsg) : keptNext o i (execHello p m s) := by
  unfold execHello
  refine State.Kept.toNext ?_
  split
  · split
    · exact h
    · split
      · exact (h.generated.transfer _).modPort _ _
      · exact h.refusePort _
  · exact h

theorem State.Kept.deriveLink (h : s.Kept o i) (p : Nat) (a : Agreement) (m : HelloMsg) (ct : Bytes) :
    (s.deriveLink p a m ct).1.Kept o i :=
  ((((h.agreeEc _ _).transfer _).transfer _).transfer _).modPort _ _

theorem State.Kept.encapped (h : s.Kept o i) (p : Nat) (a : Agreement) (m : HelloMsg) (ct : Bytes) : (s.encapped p a m ct).Kept o i :=
  ((h.deriveLink p a m ct).sign _ _ _).modPort _ _

theorem kept_execEncap (h : s.Kept o i) (p : Fin 12) (ct : Bytes) : keptNext o i (execEncap p ct s) := by
  unfold execEncap
  refine State.Kept.toNext ?_
  split
  · split
    · split
      · exact h.encapped _ _ _ _
      · exact h
    · exact h
  · exact h

theorem kept_execConfirm (h : s.Kept o i) (p : Fin 12) (ecdsaOk mldsaOk : Bool) : keptNext o i (execConfirm p ecdsaOk mldsaOk s) := by
  unfold execConfirm
  refine State.Kept.toNext ?_
  split
  · split
    · split_ifs
      · exact h
      · exact h.modPort _ _
      · exact h.refusePort _
    · exact h
  · exact h

theorem kept_execRefusedRetry (h : s.Kept o i) (p : Fin 12) : keptNext o i (execRefusedRetry p s) := by
  unfold execRefusedRetry
  refine State.Kept.toNext ?_
  split
  · exact h.bringUp _
  · exact h

theorem kept_execEpochExchangeStart (h : s.Kept o i) (p : Fin 12) : keptNext o i (execEpochExchangeStart p s) := by
  unfold execEpochExchangeStart
  refine State.Kept.toNext ?_
  split
  · exact h.agree _ _ _
  · exact h

theorem kept_execEpochBound (h : s.Kept o i) (p : Fin 12) : keptNext o i (execEpochBound p s) := by
  unfold execEpochBound
  refine State.Kept.toNext ?_
  split
  · exact (h.bringUp _).modPort _ _
  · exact h

/-! ### Frames -/

theorem State.Kept.takeUnit (h : s.Kept o i) (p : Nat) (u : FrameUnit) : (State.takeUnit p s u).Kept o i := by
  unfold State.takeUnit
  split
  · exact h
  · split
    · refine State.Kept.unitArrives ?_ _
      exact { h with fabric := h.fabric }
    · split
      · exact h.modStraits rfl
      · exact h.modStraits rfl

theorem State.Kept.releaseFrame (h : s.Kept o i) (p : Nat) (f : DataFrame) : (s.releaseFrame p f).Kept o i :=
  kept_foldl (P := State.Kept o i) (fun _ u ht => ht.takeUnit p u) _ (h.modPort _ _)

theorem State.Kept.frame (h : s.Kept o i) (p : Nat) (f : DataFrame) : (s.frame p f).Kept o i := by
  unfold State.frame
  extract_lets s1 x
  have h1 : s1.Kept o i := h.modPort _ _
  clear_value s1
  split
  · exact h1.modPort _ _
  · split
    · split_ifs
      · exact h1
      · exact h1.releaseFrame _ _
      · exact h1.modPort _ _
    · split
      · split_ifs
        · exact h1
        · exact (h1.modPort _ _).releaseFrame _ _
        · exact h1.modPort _ _
      · exact h1.modPort _ _

theorem kept_execDataFrame (h : s.Kept o i) (p : Fin 12) (f : DataFrame) : keptNext o i (execDataFrame p f s) := by
  unfold execDataFrame
  refine State.Kept.toNext ?_
  split
  · exact h.frame _ _
  · exact h

theorem State.Kept.settleSpan (h : s.Kept o i) : s.settleSpan.Kept o i := by
  unfold State.settleSpan
  split
  · exact h
  · split
    · split
      · exact h
      · exact h.modStraits rfl
    · exact h

theorem kept_execRetransmissionExhausted (h : s.Kept o i) (p : Fin 12) : keptNext o i (execRetransmissionExhausted p s) := by
  unfold execRetransmissionExhausted
  refine State.Kept.toNext ?_
  split
  · exact (h.modPort _ _).settleSpan
  · exact h

theorem kept_execStraitLinkLoss (h : s.Kept o i) (p : Fin 12) : keptNext o i (execStraitLinkLoss p s) := by
  unfold execStraitLinkLoss
  refine State.Kept.toNext ?_
  split
  · exact h
  · exact (h.modPort _ _).settleSpan

/-! ### The time tree -/

theorem kept_execFinishMark (h : s.Kept o i) (p : Fin 12) (m : Mark) : keptNext o i (execFinishMark p m s) := by
  unfold execFinishMark
  refine State.Kept.toNext ?_
  split_ifs
  · exact h
  · exact h.modStraits rfl
  · refine State.Kept.settleTide (State.Kept.settleMarks ?_)
    exact { h with fabric := h.fabric }

theorem kept_execAllFinished (h : s.Kept o i) (p : Fin 12) (m : Mark) : keptNext o i (execAllFinished p m s) := by
  unfold execAllFinished
  refine State.Kept.toNext ?_
  split_ifs
  · exact h
  · exact h.modStraits rfl
  · refine State.Kept.settleTide ?_
    exact { h with fabric := h.fabric, straits := h.straits }

theorem kept_execSpanFenceUnit (h : s.Kept o i) (p : Fin 12) (f : BitVec 12) (v : BitVec 64) :
    keptNext o i (execSpanFenceUnit p f v s) := by
  unfold execSpanFenceUnit
  refine State.Kept.toNext ?_
  split
  · exact h.writeFence _ _ _
  · exact h

theorem Straits.ports_heard (x : Straits) (p : Option Nat) (count : Nat) : (x.heard p count).ports.length = x.ports.length := by
  cases p with
  | none => rfl
  | some p => exact modifyAt_length _ _ _

theorem kept_execSpanSyncExchange (h : s.Kept o i) (t1 t2 t3 t4 : Int) (hops : Nat) :
    keptNext o i (execSpanSyncExchange t1 t2 t3 t4 hops s) := by
  unfold execSpanSyncExchange
  refine State.Kept.toNext ?_
  split
  · split
    · exact h
    · exact h.modStraits (Straits.ports_heard _ _ _)
  · exact h

theorem State.Kept.writeModuleAddressWrite {t : State} (ht : t.Kept o i) (v : BitVec 16) :
    keptSome o i (t.writeModuleAddressWrite v) := by
  unfold State.writeModuleAddressWrite
  split
  · refine State.Kept.toSome ?_
    exact { ht with ret := ht.ret }
  · exact keptSome_none

theorem kept_execModuleAddressWrite (h : s.Kept o i) (ch : Channel) (v : BitVec 16) :
    keptNext o i (execModuleAddressWrite ch v s) :=
  (h.odRow fun _ ht => ht.writeModuleAddressWrite _).toNext

end Sys2Proof.Machine
end

section
/-! The form of the state and the fuses: device time, sessions, and the object dictionary's writes (15, 16). -/

namespace Sys2Proof.Machine

variable {o : Otp} {i : Prop} {s : State}

/-! ### Device time and the time outputs -/

theorem State.Kept.writeTimeStepStage (h : s.Kept o i) (cmd : Bytes) : keptSome o i (s.writeTimeStepStage cmd) := by
  unfold State.writeTimeStepStage
  split
  · exact State.Kept.toSome { h with }
  · exact keptSome_none

theorem State.Kept.writeTimeStepConfirm (h : s.Kept o i) (d : Digest) : keptSome o i (s.writeTimeStepConfirm d) := by
  unfold State.writeTimeStepConfirm
  split
  · refine State.Kept.toSome ?_
    unfold State.confirmStep
    dsimp only
    split_ifs
    · exact { h with }
    · exact { h with }
    · exact { h with }
  · exact keptSome_none

theorem State.Kept.applyStep (h : s.Kept o i) : s.applyStep.Kept o i := by
  have h1 := h.extendMr 13 (stepEvent s.now s.stepResult.toNat (sha384 s.stepRecord))
  unfold State.applyStep
  extract_lets r delta s1
  have h1 : s1.Kept o i := h1
  clear_value s1
  exact { h1 with fabric := h1.fabric, measure := h1.measure, ret := h1.ret }

theorem State.Kept.endTokens (h : s.Kept o i) : s.endTokens.Kept o i := by
  refine kept_foldl (P := State.Kept o i) (fun t k ht => ?_) _ h
  split
  · exact ht.endToken _ _
  · exact ht

theorem kept_execTimeStepApply (h : s.Kept o i) : keptNext o i (execTimeStepApply s) := by
  unfold execTimeStepApply
  refine State.Kept.toNext ?_
  split
  · split
    · exact h.applyStep.endTokens
    · exact { h with }
  · exact h

theorem kept_execTimeStepLapse (h : s.Kept o i) : keptNext o i (execTimeStepLapse s) := by
  unfold execTimeStepLapse
  refine State.Kept.toNext ?_
  split
  · exact { h with }
  · exact h

theorem kept_execTimePpsSecond (h : s.Kept o i) : keptNext o i (execTimePpsSecond s) := by
  unfold execTimePpsSecond
  refine State.Kept.toNext ?_
  split_ifs
  · exact { h with }
  · exact { h with }
  · exact h

theorem State.Kept.writeTimeRefWrite (h : s.Kept o i) (v : Byte) : keptSome o i (s.writeTimeRefWrite v) := by
  unfold State.writeTimeRefWrite
  split
  · exact State.Kept.toSome { h with ret := h.ret }
  · exact keptSome_none

theorem kept_execTimeRefLock (h : s.Kept o i) : keptNext o i (execTimeRefLock s) := by
  unfold execTimeRefLock
  refine State.Kept.toNext ?_
  split
  · exact { h with }
  · exact h

theorem kept_execTimeRefRelease (h : s.Kept o i) : keptNext o i (execTimeRefRelease s) := by
  unfold execTimeRefRelease
  refine State.Kept.toNext ?_
  split
  · exact { h with }
  · exact h

theorem kept_execSync (h : s.Kept o i) : keptNext o i (execSync s) := by
  unfold execSync
  refine State.Kept.toNext ?_
  split
  · exact { h with }
  · exact h

theorem kept_execAnnounce (h : s.Kept o i) : keptNext o i (execAnnounce s) := by
  unfold execAnnounce
  refine State.Kept.toNext ?_
  split
  · exact { h with }
  · exact h

theorem kept_execDelayReq (h : s.Kept o i) (toMulticast toOwnMac : Bool) (seqId : BitVec 16) :
    keptNext o i (execDelayReq toMulticast toOwnMac seqId s) := by
  unfold execDelayReq
  refine State.Kept.toNext ?_
  split
  · exact { h with }
  · exact h

/-! ### Sessions -/

theorem Fabric.Form.openSession {f : Fabric} (h : f.Form) : f.openSession.Form := ⟨h.1, rfl, fun _ => Core.Form.default⟩

/-- The state of a session that starts on a genesis, under the digest of its start state. -/
def State.opened (s : State) (plane : Nat) (g d : Digest) : State :=
  { s with
    fabric := s.fabric.openSession
    host := s.host.openSession
    shoal := { s.shoal with planAdmitted := false, startState := d }
    measure := s.measure.openSession g s.now s.clock.count
    ret := { s.ret with receiptsMade := 0, receiptsWritten := 0, headWritten := g, sessionsOpened := bump s.ret.sessionsOpened }
    od := { s.od with session := 1, owner := plane, lastCommand := 0, drained := false } }

theorem State.openTheSession_eq (s : State) (plane : Nat) : ∃ d, s.openTheSession plane = s.opened plane s.genesisNow d := ⟨_, rfl⟩

theorem State.Kept.opened (h : s.Kept o i) (plane : Nat) (g d : Digest) : (s.opened plane g d).Kept o i :=
  { h with
    fabric := fun hi => (h.fabric hi).openSession, host := h.host, shoal := h.shoal, measure := h.measure, ret := h.ret, od := h.od }

theorem State.Kept.openTheSession (h : s.Kept o i) (plane : Nat) : (s.openTheSession plane).Kept o i := by
  obtain ⟨d, hd⟩ := s.openTheSession_eq plane
  exact hd ▸ h.opened plane _ d

theorem State.Kept.sessionCode (h : s.Kept o i) (code : Nat) : (s.sessionCode code).Kept o i := { h with od := h.od }

theorem State.Kept.writeSessionOpen (h : s.Kept o i) (ch : Channel) : keptSome o i (s.writeSessionOpen ch) := by
  unfold State.writeSessionOpen
  split
  · exact (h.openTheSession _).toSome
  · exact (h.sessionCode _).toSome

theorem State.Kept.closeSession (h : s.Kept o i) : s.closeSession.Kept o i := by
  refine State.Kept.settleClosed (State.Kept.settleClose ?_)
  exact { h with od := h.od }

theorem State.Kept.writeSessionClose (h : s.Kept o i) (ch : Channel) : keptSome o i (s.writeSessionClose ch) := by
  unfold State.writeSessionClose
  split_ifs
  · exact (h.sessionCode _).toSome
  · exact h.closeSession.toSome
  · exact keptSome_none

end Sys2Proof.Machine
end

section
/-! The form of the state and the fuses: what each object of the dictionary takes (16). -/

namespace Sys2Proof.Machine

variable {o : Otp} {i : Prop} {s : State}

/-! ### Values of one length, in a range -/

theorem keptSome_ofLen {n : Nat} {b : Bytes} {f : Nat → Option State} (hf : ∀ x, keptSome o i (f x)) : keptSome o i (ofLen n b f) := by
  unfold ofLen
  split
  · exact hf _
  · exact keptSome_none

theorem keptSome_addrLen {b : Bytes} {f : BitVec 64 → BitVec 64 → Option State} (hf : ∀ a l, keptSome o i (f a l)) :
    keptSome o i (addrLen b f) := by
  unfold addrLen
  split
  · exact hf _ _
  · exact keptSome_none

theorem State.Kept.ranged (h : s.Kept o i) (lo hi v : Nat) : keptSome o i (ranged lo hi v s) := by
  unfold Sys2Proof.Machine.ranged
  split
  · exact h.toSome
  · exact keptSome_none

theorem State.Kept.setRet (h : s.Kept o i) {r : Retained} (hr : s.ret.Form → r.Form) : (s.setRet r).Kept o i :=
  h.modRet fun hi => hr (h.ret hi)

/-- A number of one object, kept in a RETAINED field that has no fixed form. -/
theorem State.Kept.rangedRet (h : s.Kept o i) {n : Nat} {b : Bytes} (lo hi : Nat) {r : Nat → Retained} (hr : ∀ x, s.ret.Form → (r x).Form) :
    keptSome o i (ofLen n b fun x => Sys2Proof.Machine.ranged lo hi x (s.setRet (r x))) :=
  keptSome_ofLen fun x => (h.setRet (hr x)).ranged _ _ _

/-! ### Leases -/

theorem State.Kept.writeLease (h : s.Kept o i) (k : Nat) (v : Bytes) : keptSome o i (s.writeLease k v) := h.rangedRet _ _ fun _ hr => hr

theorem State.Kept.endIfHeld (h : s.Kept o i) (l : Lease) : (if s.leaseHeld l then s.endLease l 2 else s).Kept o i := by
  split
  · exact h.endLease _ _
  · exact h

theorem State.Kept.writeRevoke (h : s.Kept o i) (n : Nat) (v : Bytes) (l : Nat → Lease) : keptSome o i (s.writeRevoke n v l) :=
  keptSome_ofLen fun x => by
    split
    · exact (h.endIfHeld _).toSome
    · exact keptSome_none

theorem State.Kept.writeRevokeOne (h : s.Kept o i) (v : Bytes) (l : Lease) : keptSome o i (s.writeRevokeOne v l) :=
  keptSome_ofLen fun x => by
    split
    · exact (h.endIfHeld _).toSome
    · exact keptSome_none

/-! ### The objects, by chapter -/

theorem State.Kept.writeSession (h : s.Kept o i) (ch : Channel) (v : Bytes) : keptSome o i (s.writeSession ch v) :=
  keptSome_ofLen fun x => by
    split_ifs
    · exact h.writeSessionOpen _
    · exact h.writeSessionClose _
    · exact keptSome_none

theorem State.Kept.writeSkerry (h : s.Kept o i) (ch : Channel) (index sub : Nat) (v : Bytes) :
    keptSome o i (s.writeSkerry ch index sub v) := by
  unfold State.writeSkerry
  split
  · exact h.writeSession _ _
  · exact h.rangedRet _ _ fun _ hr => hr
  · exact h.writeRevokeOne _ _
  · exact keptSome_ofLen fun _ => h.writeLifecycleStage _
  · exact keptSome_ofLen fun _ => h.drawn.writeLifecycleConfirm _ _
  · exact keptSome_ofLen fun _ => h.writeSvnCommit _
  · exact keptSome_ofLen fun _ => h.writeWarmResetRequest _ _
  · split
    · exact h.drawn.writeHostDelivery _ _ _
    · exact keptSome_none
  · exact keptSome_none

theorem State.Kept.writeKeys (h : s.Kept o i) (index sub : Nat) (v : Bytes) : keptSome o i (s.writeKeys index sub v) := by
  unfold State.writeKeys
  split
  · exact h.rangedRet _ _ fun _ hr => hr
  · exact h.writeIdevidCertCopyWrite _
  · exact keptSome_ofLen fun _ => h.writeAliasCommit _
  · exact h.rangedRet _ _ fun _ hr => hr
  · exact h.rangedRet _ _ fun _ hr => hr
  · exact keptSome_ofLen fun _ => h.drawn.writeBindingAdvance _ _ _
  · exact h.rangedRet _ _ fun _ hr => hr
  · exact h.rangedRet _ _ fun _ hr => hr
  · exact h.writeLease _ _
  · exact h.writeRevoke _ _ _
  · exact keptSome_none

theorem State.Kept.writeEvidence (h : s.Kept o i) (ch : Channel) (index sub : Nat) (v : Bytes) :
    keptSome o i (s.writeEvidence ch index sub v) := by
  unfold State.writeEvidence
  split
  · exact h.writeEvidenceRequest _ _
  · exact h.writeTenantExtend _ _
  · exact h.rangedRet _ _ fun _ hr => hr
  · exact h.rangedRet _ _ fun _ hr => hr
  · exact keptSome_ofLen fun _ => h.writeCheckpointRequest _
  · split
    · exact h.writeConsentKeyWrite _
    · exact keptSome_none
  · exact h.writeConsentTokenSubmit _ _
  · exact keptSome_ofLen fun _ => h.writeConsentWithdraw _
  · exact keptSome_none

theorem State.Kept.writePower (h : s.Kept o i) (index sub : Nat) (v : Bytes) : keptSome o i (s.writePower index sub v) := by
  unfold State.writePower
  split
  · exact h.rangedRet _ _ fun _ hr => hr
  · exact h.rangedRet _ _ fun _ hr => hr
  · exact h.rangedRet _ _ fun _ hr => hr
  · exact h.rangedRet _ _ fun _ hr => hr
  · exact h.writeLease _ _
  · exact h.writeRevoke _ _ _
  · exact keptSome_ofLen fun _ => h.modMonitors _
  · exact keptSome_addrLen fun _ _ => h.writePlanDelivery _ _
  · exact keptSome_ofLen fun _ => h.planCommand _
  · exact keptSome_ofLen fun _ => State.Kept.toSome { h with fabric := h.fabric }
  · exact h.rangedRet _ _ fun _ hr => hr
  · exact h.rangedRet _ _ fun _ hr => hr
  · exact keptSome_none

theorem State.Kept.selectRing (h : s.Kept o i) (ch : Channel) (x : Nat) : (s.selectRing ch x).Kept o i := { h with host := h.host }

theorem State.Kept.writeMemory (h : s.Kept o i) (ch : Channel) (index sub : Nat) (v : Bytes) :
    keptSome o i (s.writeMemory ch index sub v) := by
  unfold State.writeMemory
  split
  · split
    · exact h.writeRegionAllocate _ _ _
    · exact keptSome_none
  · refine keptSome_ofLen fun _ => State.Kept.ranged ?_ _ _ _
    exact { h with hosting := h.hosting }
  · exact keptSome_ofLen fun _ => h.writeRegionFree _
  · exact keptSome_ofLen fun _ => h.writeScrubSuspend _
  · exact keptSome_ofLen fun _ => h.writeScrubResume _
  · exact h.writeLease _ _
  · exact h.writeRevoke _ _ _
  · exact keptSome_addrLen fun _ _ => h.writeClearModelLoad _ _
  · exact keptSome_addrLen fun _ _ => h.drawn.writeBoundBundleLoad _ _ _
  · exact keptSome_ofLen fun _ => h.writeIngestModeWrite _
  · exact keptSome_ofLen fun _ => State.Kept.toSome { h with host := h.host }
  · split
    · exact h.configureRing _
    · exact keptSome_none
  · exact keptSome_ofLen fun _ => (h.selectRing _ _).toSome
  · refine keptSome_ofLen fun _ => State.Kept.ranged ?_ _ _ _
    exact { h with host := h.host }
  · refine keptSome_ofLen fun _ => State.Kept.ranged ?_ _ _ _
    exact { h with host := h.host }
  · exact h.writeLease _ _
  · exact h.writeRevokeOne _ _
  · exact keptSome_addrLen fun _ _ => h.writeShoalImageLoad _ _
  · exact keptSome_addrLen fun _ _ => h.writeShoalSnapshot _ _
  · exact keptSome_none

theorem State.Kept.enablePort (h : s.Kept o i) (n x : Nat) : (s.enablePort n x).Kept o i := by
  unfold State.enablePort
  extract_lets was _ s1 _
  have h1 : s1.Kept o i := h.setRet fun hr => by
    obtain ⟨hs, ht, hp, hg⟩ := hr
    exact ⟨hs, ht, (modifyAt_length _ _ _).trans hp, hg⟩
  clear_value s1
  split
  · exact h1
  · exact h1.modStraits (modifyAt_length _ _ _)

theorem State.Kept.writePtp (h : s.Kept o i) (sub : Nat) (v : Bytes) : keptSome o i (s.writePtp sub v) := by
  have hput (p : List Int) : (s.setRet { s.ret with ptp := p }).Kept o i := h.setRet id
  unfold State.writePtp
  dsimp only
  split
  · exact keptSome_ofLen fun _ => (hput _).ranged _ _ _
  · exact keptSome_ofLen fun _ => (hput _).toSome
  · exact keptSome_ofLen fun _ => (hput _).toSome
  · refine keptSome_ofLen fun _ => ?_
    split
    · exact (hput _).toSome
    · exact keptSome_none
  · exact keptSome_ofLen fun _ => (hput _).toSome
  · exact h.rangedRet _ _ fun _ hr => hr

theorem State.Kept.writePlca (h : s.Kept o i) (sub : Nat) (v : Bytes) : keptSome o i (s.writePlca sub v) := by
  have hput (p : List Nat) : (s.setRet { s.ret with plca := p }).Kept o i := h.setRet id
  unfold State.writePlca
  refine keptSome_ofLen fun x => ?_
  split
  · split
    · exact (hput _).toSome
    · exact keptSome_none
  · exact (hput _).ranged _ _ _
  · exact (hput _).ranged _ _ _
  · exact (hput _).ranged _ _ _

theorem State.Kept.writeLinks (h : s.Kept o i) (ch : Channel) (index sub : Nat) (v : Bytes) :
    keptSome o i (s.writeLinks ch index sub v) := by
  unfold State.writeLinks
  split
  · exact keptSome_ofLen fun _ => h.writeModuleAddressWrite _
  · exact h.rangedRet _ _ fun _ hr => hr
  · exact keptSome_ofLen fun _ => (h.enablePort _ _).ranged _ _ _
  · split
    · exact h.writeLease _ _
    · exact h.writeRevoke _ _ _
  · split_ifs
    · exact h.writeTimeStepStage _
    · exact keptSome_none
    · exact h.writeTimeStepConfirm _
    · exact keptSome_none
  · exact keptSome_ofLen fun _ => h.writeTimeRefWrite _
  · exact h.writePtp _ _
  · exact h.writePlca _ _
  · exact h.rangedRet _ _ fun _ hr => hr
  · split
    · exact h.writeCosignGrantWrite _ _
    · exact keptSome_none
  · split
    · exact h.writeCaStage _ _
    · exact keptSome_none
  · exact keptSome_none

theorem State.Kept.writeObject (h : s.Kept o i) (ch : Channel) (index sub : Nat) (v : Bytes) :
    keptSome o i (s.writeObject ch index sub v) := by
  unfold State.writeObject
  split_ifs
  · exact h.writeSkerry _ _ _ _
  · exact h.writeKeys _ _ _
  · exact h.writeEvidence _ _ _ _
  · exact h.writePower _ _ _
  · exact h.writeMemory _ _ _ _
  · exact h.writeLinks _ _ _ _

end Sys2Proof.Machine
end

section
/-! The form of the state and the fuses: transfer units, register writes, the test port, and an idle step (16, 21). -/

namespace Sys2Proof.Machine

variable {o : Otp} {i : Prop} {s : State}

/-! ### Transfer units -/

theorem State.Kept.setOpen (h : s.Kept o i) (ch : Channel) (t : Option OpenTransfer) : (s.setOpen ch t).Kept o i :=
  h.modOd fun hd => hd.modChannel _ _

theorem State.Kept.endTransferOn (h : s.Kept o i) (ch : Channel) : (s.endTransferOn ch).Kept o i := h.modOd fun hd => hd.closeTransfer _

theorem State.Kept.noteRead (h : s.Kept o i) (ch : Channel) (index sub : Nat) : (s.noteRead ch index sub).Kept o i := by
  unfold State.noteRead
  split
  · exact h
  · exact h.violate _ _ _ _

theorem State.Kept.noteWrite (h : s.Kept o i) (ch : Channel) (index sub : Nat) : (s.noteWrite ch index sub).Kept o i := by
  unfold State.noteWrite
  split
  · exact h
  · exact h.violate _ _ _ _

theorem State.Kept.drawRead (h : s.Kept o i) (index : Nat) : (s.drawRead index).Kept o i := by
  unfold State.drawRead
  split
  · exact h.drawn
  · exact h

theorem State.Kept.applyValue (h : s.Kept o i) (ch : Channel) (index sub : Nat) (v : Bytes) : (s.applyValue ch index sub v).1.Kept o i :=
  h.applyWrite _ _ (h.writeObject _ _ _ _)

theorem State.Kept.tuReadShort (h : s.Kept o i) (ch : Channel) (u : TuHeader) : (s.tuReadShort ch u).1.Kept o i := by
  unfold State.tuReadShort
  split
  · exact h.noteRead _ _ _
  · split_ifs
    · exact h
    · exact h
    · exact h.drawRead _

theorem State.Kept.startRead (h : s.Kept o i) (ch : Channel) (u : TuHeader) (total : Nat) (data : Bytes) (silent : Bool) :
    (s.startRead ch u total data silent).1.Kept o i := by
  unfold State.startRead
  dsimp only
  split
  · exact h
  · exact h.setOpen _ _

theorem State.Kept.tuReadLong (h : s.Kept o i) (ch : Channel) (u : TuHeader) : (s.tuReadLong ch u).1.Kept o i := by
  unfold State.tuReadLong
  split
  · dsimp only
    split
    · exact h.noteRead _ _ _
    · exact (h.noteRead _ _ _).startRead _ _ _ _ _
  · split_ifs
    · exact h
    · exact h
    · exact (h.drawRead _).startRead _ _ _ _ _

theorem State.Kept.tuWriteShort (h : s.Kept o i) (ch : Channel) (u : TuHeader) (data : Bytes) : (s.tuWriteShort ch u data).1.Kept o i := by
  unfold State.tuWriteShort
  dsimp only
  split_ifs
  · exact h.noteWrite _ _ _
  · exact h
  · exact h
  · exact h.applyValue _ _ _ _

theorem State.Kept.finishWrite (h : s.Kept o i) (ch : Channel) (op : Nat) (u : TuHeader) (v : Bytes) :
    (s.finishWrite ch op u v).1.Kept o i := by
  unfold State.finishWrite
  extract_lets k n s1 r
  have h1 : s1.Kept o i := h.endTransferOn ch
  split
  · exact h1.noteWrite _ _ _
  · exact h1.applyValue _ _ _ _

theorem State.Kept.startWrite (h : s.Kept o i) (ch : Channel) (u : TuHeader) (v : Bytes) (silent : Bool) :
    (s.startWrite ch u v silent).Kept o i := by
  unfold State.startWrite
  extract_lets s1 _
  have h1 : s1.Kept o i := h.setOpen ch _
  clear_value s1
  split
  · exact h1
  · exact { h1 with od := h1.od }

theorem State.Kept.silentWrite (h : s.Kept o i) (ch : Channel) (u : TuHeader) (v : Bytes) : (s.silentWrite ch u v).1.Kept o i := by
  unfold State.silentWrite
  extract_lets s1 s2
  have h1 : s1.Kept o i := h.noteWrite _ _ _
  change (if _ then s1 else s1.startWrite ch u v true : State).Kept o i
  split
  · exact h1
  · exact h1.startWrite _ _ _ _

theorem State.Kept.tuWriteLong (h : s.Kept o i) (ch : Channel) (u : TuHeader) (data : Bytes) : (s.tuWriteLong ch u data).1.Kept o i := by
  unfold State.tuWriteLong
  dsimp only
  split_ifs
  · exact h.silentWrite _ _ _
  · exact h
  · exact h
  · exact h
  · exact h.finishWrite _ _ _ _
  · exact State.Kept.startWrite h ch u (segment u data) false

theorem State.Kept.continueRead (h : s.Kept o i) (ch : Channel) (u : TuHeader) (t : OpenTransfer) : (s.continueRead ch u t).1.Kept o i := by
  unfold State.continueRead
  dsimp only
  split
  · exact h.setOpen _ _
  · exact h.setOpen _ _

theorem State.Kept.continueWrite (h : s.Kept o i) (ch : Channel) (u : TuHeader) (t : OpenTransfer) (data : Bytes) :
    (s.continueWrite ch u t data).1.Kept o i := by
  unfold State.continueWrite
  dsimp only
  split_ifs
  · exact h.endTransferOn _
  · exact h.endTransferOn _
  · exact h.finishWrite _ _ _ _
  · exact h.setOpen _ _

theorem State.Kept.tuContinue (h : s.Kept o i) (ch : Channel) (u : TuHeader) (data : Bytes) : (s.tuContinue ch u data).1.Kept o i := by
  unfold State.tuContinue
  split
  · exact h
  · split_ifs
    · exact h.endTransferOn _
    · exact h.continueWrite _ _ _ _
    · exact h.endTransferOn _
    · exact h.continueRead _ _ _

theorem State.Kept.tuAbort (h : s.Kept o i) (ch : Channel) (u : TuHeader) : (s.tuAbort ch u).1.Kept o i := by
  unfold State.tuAbort
  split
  · exact h
  · split
    · exact h.endTransferOn _
    · exact h

theorem State.Kept.setChannel (h : s.Kept o i) (ch : Channel) (f : ChannelState → ChannelState) :
    ({ s with od := s.od.setChannel ch f } : State).Kept o i := h.modOd fun hd => hd.modChannel _ _

theorem State.Kept.tuServe (h : s.Kept o i) (ch : Channel) (op : Nat) (u : TuHeader) (data : Bytes) : (s.tuServe ch op u data).1.Kept o i := by
  unfold State.tuServe
  split_ifs
  · exact h
  · exact h.setChannel _ _
  · exact h.tuReadShort _ _
  · exact h.tuWriteShort _ _ _
  · exact h.tuReadLong _ _
  · exact h.tuWriteLong _ _ _
  · exact h.tuContinue _ _ _
  · exact h.tuAbort _ _

theorem State.Kept.carry (h : s.Kept o i) (ch : Channel) (op : Nat) (u : TuHeader) (data : Bytes) (r : TuResponse) :
    (s.carry ch op u data r).Kept o i := by
  unfold State.carry
  split
  · have h1 : (s.putResponse ch r).Kept o i := h.setChannel _ _
    cases ch with
    | bar0 tee =>
      refine State.Kept.raiseVector ?_ _
      exact { h1 with od := h1.od }
    | spdm k => exact h1.respond _ _
    | causeway k => exact h1.sendFrame _ _
  · exact h

theorem State.Kept.tu (h : s.Kept o i) (ch : Channel) (op : Nat) (u : TuHeader) (data : Bytes) : (s.tu ch op u data).Kept o i := by
  unfold State.tu
  dsimp only
  split_ifs
  · exact h.countTee.setChannel _ _
  · exact ((h.touch ch).tuServe _ _ _ _).carry _ _ _ _ _
  · exact h

theorem State.Kept.tuOutcome (h : s.Kept o i) (ch : Channel) (op : Nat) (u : TuHeader) (data : Bytes) :
    keptNext o i (s.tuOutcome ch op u data) := by
  unfold State.tuOutcome
  split
  · split
    · exact keptNext_refused _
    · exact (h.tu _ _ _ _).toNext
  · exact (h.tu _ _ _ _).toNext

theorem kept_execOdTransferIdle (h : s.Kept o i) (ch : Channel) : keptNext o i (execOdTransferIdle ch s) := by
  unfold execOdTransferIdle
  refine State.Kept.toNext ?_
  split
  · exact (h.endTransferOn ch).setChannel _ _
  · exact h

/-! ### Registers -/

theorem State.Kept.setRingField (h : s.Kept o i) (r : EvRing) (f : EvRingState → EvRingState) : (s.setRingField r f).Kept o i := by
  unfold State.setRingField
  split
  · exact h
  · exact h.setRing _ _

theorem State.Kept.setRingBase (h : s.Kept o i) (r : EvRing) (v : BitVec 64) : (s.setRingBase r v).Kept o i := by
  unfold State.setRingBase
  split
  · exact h.setRingField _ _
  · exact h

theorem State.Kept.setRingDepth (h : s.Kept o i) (r : EvRing) (v : Nat) : (s.setRingDepth r v).Kept o i := by
  unfold State.setRingDepth
  split
  · exact h.setRingField _ _
  · exact h

theorem State.Kept.setPcie (h : s.Kept o i) (ats pri msix mask master d3hot : Bool) :
    (s.setPcie ats pri msix mask master d3hot).Kept o i := by
  unfold State.setPcie
  extract_lets x changed s1 _
  have h1 : s1.Kept o i := { h with host := h.host }
  clear_value s1
  split
  · exact { h1 with hosting := h1.hosting }
  · exact h1.sendVectors

theorem HostPath.Form.setMsix {x : HostPath} (h : x.Form) {m : SMap (BitVec 64 × BitVec 32 × Bool)} (hm : SMap.wf (0, 0, true) m = true) :
    ({ x with msix := m } : HostPath).Form := by
  obtain ⟨hr, hf, hs, -, ht⟩ := h
  exact ⟨hr, hf, hs, hm, ht⟩

theorem HostPath.Form.setVector {x : HostPath} (h : x.Form) (dma : Bool) (v : Nat) (addr : BitVec 64) (data : BitVec 32) (masked : Bool) :
    (x.setVector dma v addr data masked).Form := by
  obtain ⟨-, -, -, hm, -⟩ := id h
  exact (h.setMsix (SMap.wf_set _ _ v (addr, data, masked) hm)).sendPending _ _

theorem State.Kept.writeRegister (h : s.Kept o i) (w : WriteTarget) : (s.writeRegister w).Kept o i := by
  cases w with
  | od ch index sub v => exact h
  | mbVector tee v =>
    refine State.Kept.mmio h tee (f := fun s => { s with od := { s.od with mbVector := v } }) ?_
    exact { h with od := h.od }
  | mbHeader tee off b =>
    refine State.Kept.mmio h tee (f := fun s =>
      { s with od := { s.od with header := (s.od.header.take off ++ b ++ s.od.header.drop (off + b.length)).take 32 } }) ?_
    exact { h with od := h.od }
  | mbData tee off b =>
    refine State.Kept.mmio h tee (f := fun s =>
      { s with od := { s.od with window := SMap.setMany (0 : Byte) s.od.window off (b.take (3840 - off)) } }) ?_
    exact { h with od := h.od }
  | ringBase tee r v => exact State.Kept.mmio h tee (f := fun s => s.setRingBase r v) (h.setRingBase r v)
  | ringLog2Depth tee r v => exact State.Kept.mmio h tee (f := fun s => s.setRingDepth r v.toNat) (h.setRingDepth r v.toNat)
  | ringVector tee r v =>
    exact State.Kept.mmio h tee (f := fun s => s.setRingField r fun x => { x with vector := v }) (h.setRingField r _)
  | msixTable tee vec addr data masked =>
    exact State.Kept.mmio h tee (f := fun s => { s with host := s.host.setVector s.dmaOk vec.val addr data masked })
      (h.modHost fun hx => hx.setVector _ _ _ _ _)
  | mmioOther tee => exact h.mmio _ h
  | pcieConfig ats pri msix mask master d3hot =>
    unfold State.writeRegister
    dsimp only
    split
    · exact h.setPcie _ _ _ _ _ _
    · exact h

theorem State.Kept.odObjectWrite (h : s.Kept o i) (ch : Channel) (index sub : Nat) (v : Bytes) : (s.odObjectWrite ch index sub v).Kept o i := by
  have h1 := h.touch ch
  unfold State.odObjectWrite
  dsimp only
  split_ifs
  · exact h1
  · exact h1.countTee
  · exact h1.noteWrite _ _ _
  · exact h1
  · exact h1.applyValue _ _ _ _

theorem kept_execObjectWrite (h : s.Kept o i) (w : WriteTarget) : keptNext o i (execObjectWrite w s) := by
  cases w with
  | od ch index sub v =>
    unfold execObjectWrite
    dsimp only
    split
    · exact keptNext_refused _
    · exact (h.odObjectWrite _ _ _ _).toNext
  | mbVector => exact (h.writeRegister _).toNext
  | mbHeader => exact (h.writeRegister _).toNext
  | mbData => exact (h.writeRegister _).toNext
  | ringBase => exact (h.writeRegister _).toNext
  | ringLog2Depth => exact (h.writeRegister _).toNext
  | ringVector => exact (h.writeRegister _).toNext
  | msixTable => exact (h.writeRegister _).toNext
  | mmioOther => exact (h.writeRegister _).toNext
  | pcieConfig => exact (h.writeRegister _).toNext

/-! ### The test port and an idle step -/

theorem State.Kept.tapInstr (h : s.Kept o i) (f : Tap → Tap) : (s.tapInstr f).Kept o i := by
  unfold State.tapInstr
  split
  · exact { h with }
  · exact h

theorem Retained.Form.scrubOn {r : Retained} (h : r.Form) (served : Nat → Bool) : (r.scrubOn served).Form := by
  refine kept_foldl (P := Retained.Form) (fun r n hr => ?_) _ h
  split
  · next e _ =>
    split
    · exact hr.setRegion e.1 { e.2 with progress := min e.2.size (e.2.progress + 382) }
    · exact hr
  · exact hr

theorem State.Kept.scrubOn (h : s.Kept o i) : s.scrubOn.Kept o i := by
  unfold State.scrubOn
  split
  · exact h.modRet fun hi => (h.ret hi).scrubOn _
  · exact h

theorem State.Kept.endWindows (h : s.Kept o i) : s.endWindows.Kept o i := by
  unfold State.endWindows
  extract_lets s1 s2
  have h1 : s1.Kept o i := by
    change (if _ then _ else _ : State).Kept o i
    split
    · refine State.Kept.scrubOn ?_
      exact { h with power := h.power }
    · exact h
  clear_value s1
  have h2 : s2.Kept o i := by
    change (if _ then _ else _ : State).Kept o i
    split
    · exact { h1 with power := h1.power }
    · exact h1
  clear_value s2
  split
  · exact { h2 with }
  · exact h2

theorem State.Kept.ppsFall (h : s.Kept o i) : s.ppsFall.Kept o i := by
  unfold State.ppsFall
  split
  · exact { h with }
  · exact h

theorem State.Kept.tick (h : s.Kept o i) : s.tick.Kept o i := by
  unfold State.tick
  split
  · refine State.Kept.endWindows (State.Kept.sendFrames (State.Kept.ppsFall ?_))
    exact { h with }
  · exact h

end Sys2Proof.Machine
end

section
/-! The form of the state and the fuses, over every command and step (04, 16). -/

namespace Sys2Proof.Machine

variable {o : Otp} {i : Prop} {s : State}

/-- Every command keeps the form of the state, and lets the fuses only grow. -/
theorem kept_exec (h : s.Kept o i) (c : Instr) : keptNext o i (exec c s) := by
  cases c with
  | coldStart c => exact kept_execColdStart h c
  | entropyContinuousFail => exact kept_execEntropyContinuousFail h
  | drbgReseed => exact kept_execDrbgReseed h
  | mainValid => exact State.Kept.toNext { h with }
  | mainLoss c => exact kept_execMainLoss h c
  | stbyLoss => exact kept_execStbyLoss h
  | vhubRamp => exact kept_execVhubRamp h
  | modResetAssert lowNs recognised c => exact kept_execModResetAssert h lowNs recognised c
  | modResetRelease => exact State.Kept.toNext { h with }
  | warmResetRequest ch v c => exact kept_execWarmResetRequest h ch v c
  | tamperFire src => exact kept_execTamperFire h src
  | hostDelivery ch addr len img => exact kept_execHostDelivery h ch addr len img
  | itemVerified data govFail vfabFail => exact kept_execItemVerified h data govFail vfabFail
  | svnCommit ch n => exact kept_execSvnCommit h ch n
  | updateCheckDone items => exact kept_execUpdateCheckDone h items
  | aliasCommit ch v => exact (h.odRow fun _ ht => ht.writeAliasCommit _).toNext
  | idevidCertCopyWrite ch cert => exact (h.odRow fun _ ht => ht.writeIdevidCertCopyWrite _).toNext
  | remaskPass => exact kept_execRemaskPass h
  | bindingAdvance ch v selfTestOk blowOk => exact (h.odRow fun _ ht => ht.writeBindingAdvance _ _ _).toNext
  | bindingOverlapEnd => exact kept_execBindingOverlapEnd h
  | caStage ch anchor => exact (h.odRow fun _ ht => ht.writeCaStage _ _).toNext
  | caStageLapse => exact kept_execCaStageLapse h
  | caOverlapEnd => exact kept_execCaOverlapEnd h
  | digestStart j d => exact (h.modJob _ _).toNext
  | digestResult j => exact kept_execDigestResult h j
  | compare j aux => exact (h.jobOp _ _).toNext
  | extend j mr aux => exact (h.jobOp _ _).toNext
  | exportCtx j => exact (h.jobOp _ _).toNext
  | importCtx j blob => exact kept_execImportCtx h j blob
  | digestAbort j => exact (h.modJob _ _).toNext
  | digestJobDone j bytes => exact (h.finishJob _ _).toNext
  | digestAlarm busError => exact kept_execDigestAlarm h busError
  | inlineLaneGrant ferry => exact kept_execInlineLaneGrant h ferry
  | wmac c f a b dst => exact (h.command _ _).toNext
  | lmac c f a b dst => exact (h.command _ _).toNext
  | keyload c dst => exact (h.command _ _).toNext
  | bnEnd c => exact (h.command _ _).toNext
  | bnYield => exact kept_execBnYield h
  | bnSealedAccess c word => exact kept_execBnSealedAccess h c word
  | bnAlarm => exact h.bnAlarm.toNext
  | leaseLapse l => exact kept_execLeaseLapse h l
  | leaseRevoke by_ l => exact kept_execLeaseRevoke h by_ l
  | paceMonitorWindow die readings => exact (h.modDie _ _).toNext
  | beatFloorUpdate => exact kept_execBeatFloorUpdate h
  | temperatureSample die readings => exact kept_execTemperatureSample h die readings
  | voltageSample m mv => exact kept_execVoltageSample h m mv
  | ballastThresholdReached core array => exact kept_execBallastThresholdReached h core array
  | ballastThresholdWrite ch v => exact kept_execBallastThresholdWrite h ch v
  | nop core => exact (h.issueStep _ _).toNext
  | loadw core => exact (h.issueStep _ _).toNext
  | frontStart core waitBeats => exact kept_execFrontStart h core waitBeats
  | stream core => exact (h.issueStep _ _).toNext
  | opacc core => exact (h.issueStep _ _).toNext
  | drain core => exact (h.issueStep _ _).toNext
  | arrayOperationStart core gapBeats => exact kept_execArrayOperationStart h core gapBeats
  | arrayFreeze core draining => exact kept_execArrayFreeze h core draining
  | vld core => exact (h.issueStep _ _).toNext
  | vld48 core => exact (h.issueStep _ _).toNext
  | vst core => exact (h.issueStep _ _).toNext
  | vst48 core => exact (h.issueStep _ _).toNext
  | vadd core => exact (h.issueStep _ _).toNext
  | vsub core => exact (h.issueStep _ _).toNext
  | vmul core => exact (h.issueStep _ _).toNext
  | vmax core => exact (h.issueStep _ _).toNext
  | vmin core => exact (h.issueStep _ _).toNext
  | vreq core => exact (h.issueStep _ _).toNext
  | vlut core => exact (h.issueStep _ _).toNext
  | vsum core => exact (h.issueStep _ _).toNext
  | vsmax core => exact (h.issueStep _ _).toNext
  | send core => exact (h.issueStep _ _).toNext
  | recv core => exact (h.issueStep _ _).toNext
  | waitslot core => exact (h.issueStep _ _).toNext
  | fence core => exact (h.issueStep _ _).toNext
  | endStep core => exact (h.issueStep _ _).toNext
  | soundUnitArrive u => exact (h.unitArrives _).toNext
  | noProgressFault core => exact kept_execNoProgressFault h core
  | planDelivery ch addr len => exact kept_execPlanDelivery h ch addr len
  | planCheck file => exact kept_execPlanCheck h file
  | planSwitch ch v => exact kept_execPlanSwitch h ch v
  | planDiscard ch v => exact kept_execPlanDiscard h ch v
  | planAdmission poisoned => exact kept_execPlanAdmission h poisoned
  | spanAdmission report => exact kept_execSpanAdmission h report
  | tideDeparture => exact kept_execTideDeparture h
  | tideFinish => exact kept_execTideFinish h
  | spanWaitExpiry missing => exact kept_execSpanWaitExpiry h missing
  | sqTailWrite tee ring v => exact (h.mmio _ (h.sqTail _ _)).toNext
  | cqHeadWrite tee ring v => exact (h.mmio _ (h.cqHead _ _)).toNext
  | ringConfigWrite ch cfg => exact kept_execRingConfigWrite h ch cfg
  | ingestModeWrite ch v => exact kept_execIngestModeWrite h ch v
  | score ring entry translated => exact kept_execScore h ring entry translated
  | events ring entry translated => exact kept_execEvents h ring entry translated
  | resubmit ring entry => exact kept_execResubmit h ring entry
  | fenceWaitRelease ring => exact kept_execFenceWaitRelease h ring
  | recordFetchDone tag record => exact kept_execRecordFetchDone h tag record
  | pageRequestResponse o success => exact kept_execPageRequestResponse h o success
  | priTimeout o => exact kept_execPriTimeout h o
  | atsInvalidation iova len => exact (h.modHost fun hx => hx.invalidate _ _).toNext
  | completionPost tag tr => exact kept_execCompletionPost h tag tr
  | msixHoldoffExpiry vec => exact kept_execMsixHoldoffExpiry h vec
  | fenceObjectWrite tee f v => exact (h.mmio _ (h.writeFence _ _ _)).toNext
  | shoalEventApply n => exact kept_execShoalEventApply h n
  | shoalSample tag => exact kept_execShoalSample h tag
  | shoalSleep n => exact kept_execShoalSleep h n
  | shoalImageLoad ch addr len => exact kept_execShoalImageLoad h ch addr len
  | shoalImageLoaded img => exact kept_execShoalImageLoaded h img
  | shoalSnapshot ch addr len => exact kept_execShoalSnapshot h ch addr len
  | snapshotCapture => exact kept_execSnapshotCapture h
  | evidenceRequest ch nonce => exact kept_execEvidenceRequest h ch nonce
  | tenantExtend ch mr data => exact kept_execTenantExtend h ch mr data
  | checkpointInterval => exact kept_execCheckpointInterval h
  | checkpointRequest ch v => exact kept_execCheckpointRequest h ch v
  | checkpointSigned translated => exact kept_execCheckpointSigned h translated
  | ringControlEnable tee r v translated => exact kept_execRingControlEnable h tee r v translated
  | ringControlHead tee r v translated => exact kept_execRingControlHead h tee r v translated
  | getVersion => exact kept_execGetVersion h
  | getCapabilities => exact kept_execGetCapabilities h
  | negotiateAlgorithms offersP384Sha384 => exact kept_execNegotiateAlgorithms h offersP384Sha384
  | getDigests => exact kept_execGetDigests h
  | getCertificate slot offset len => exact kept_execGetCertificate h slot offset len
  | challenge slot nonce => exact kept_execChallenge h slot nonce
  | getMeasurements index nonce => exact kept_execGetMeasurements h index nonce
  | chunkGet seq => exact kept_execChunkGet h seq
  | keyExchange exchangeData => exact kept_execKeyExchange h exchangeData
  | finish idx verifyOk heartbeatS => exact kept_execFinish h idx verifyOk heartbeatS
  | endSession idx => exact kept_execEndSession h idx
  | heartbeat idx => exact kept_execHeartbeat h idx
  | keyUpdate idx => exact kept_execKeyUpdate h idx
  | vendorDefinedRequest idx op u data => exact (h.secured _ fun _ ht => ht.tu _ _ _ _).toNext
  | query idx => exact kept_execQuery h idx
  | keyProg idx id key => exact kept_execKeyProg h idx id key
  | kSetGo idx id => exact kept_execKSetGo h idx id
  | kSetStop idx id => exact kept_execKSetStop h idx id
  | getTdispVersion idx => exact kept_execGetTdispVersion h idx
  | getTdispCapabilities idx => exact kept_execGetTdispCapabilities h idx
  | lockInterfaceRequest idx => exact kept_execLockInterfaceRequest h idx
  | getDeviceInterfaceReport idx => exact kept_execGetDeviceInterfaceReport h idx
  | getDeviceInterfaceState idx => exact kept_execGetDeviceInterfaceState h idx
  | startInterfaceRequest idx nonce => exact kept_execStartInterfaceRequest h idx nonce
  | stopInterfaceRequest idx => exact kept_execStopInterfaceRequest h idx
  | ideIntegrityFail stream => exact kept_execIdeIntegrityFail h stream
  | clearModelLoad ch addr len => exact kept_execClearModelLoad h ch addr len
  | boundBundleLoad ch addr len head => exact kept_execBoundBundleLoad h ch addr len head
  | modelLoadComplete slot r => exact kept_execModelLoadComplete h slot r
  | consentKeyWrite ch d => exact kept_execConsentKeyWrite h ch d
  | consentTokenSubmit ch t => exact kept_execConsentTokenSubmit h ch t
  | consentTokenExpiry sc => exact kept_execConsentTokenExpiry h sc
  | consentWithdraw ch v => exact kept_execConsentWithdraw h ch v
  | regionAllocate ch region stack size => exact kept_execRegionAllocate h ch region stack size
  | regionFree ch region => exact kept_execRegionFree h ch region
  | scrubSuspend ch region => exact kept_execScrubSuspend h ch region
  | scrubResume ch region => exact kept_execScrubResume h ch region
  | scrubComplete t => exact kept_execScrubComplete h t
  | scrubReadbackFail t mib => exact kept_execScrubReadbackFail h t mib
  | trainingDone p => exact kept_execTrainingDone h p
  | hello p m => exact kept_execHello h p m
  | encap p ct => exact kept_execEncap h p ct
  | confirm p ecdsaOk mldsaOk => exact kept_execConfirm h p ecdsaOk mldsaOk
  | refusedRetry p => exact kept_execRefusedRetry h p
  | dataFrame p f => exact kept_execDataFrame h p f
  | retransmissionExhausted p => exact kept_execRetransmissionExhausted h p
  | straitLinkLoss p => exact kept_execStraitLinkLoss h p
  | epochExchangeStart p => exact kept_execEpochExchangeStart h p
  | epochBound p => exact kept_execEpochBound h p
  | finishMark p m => exact kept_execFinishMark h p m
  | allFinished p m => exact kept_execAllFinished h p m
  | spanFenceUnit p f v => exact kept_execSpanFenceUnit h p f v
  | spanSyncExchange t1 t2 t3 t4 parentHops => exact kept_execSpanSyncExchange h t1 t2 t3 t4 parentHops
  | moduleAddressWrite ch v => exact kept_execModuleAddressWrite h ch v
  | timeStepStage ch cmd => exact (h.odRow fun _ ht => ht.writeTimeStepStage _).toNext
  | timeStepConfirm ch d => exact (h.odRow fun _ ht => ht.writeTimeStepConfirm _).toNext
  | timeStepApply => exact kept_execTimeStepApply h
  | timeStepLapse => exact kept_execTimeStepLapse h
  | timePpsSecond => exact kept_execTimePpsSecond h
  | timeRefWrite ch v => exact (h.odRow fun _ ht => ht.writeTimeRefWrite _).toNext
  | timeRefLock => exact kept_execTimeRefLock h
  | timeRefRelease => exact kept_execTimeRefRelease h
  | sync => exact kept_execSync h
  | announce => exact kept_execAnnounce h
  | delayReq toMulticast toOwnMac seqId => exact kept_execDelayReq h toMulticast toOwnMac seqId
  | foreignPtpMessage => exact h.toNext
  | readShort ch u => exact (h.tu _ _ _ _).toNext
  | writeShort ch u data => exact h.tuOutcome _ _ _ _
  | objectWrite w => exact kept_execObjectWrite h w
  | readLong ch u => exact (h.tu _ _ _ _).toNext
  | writeLong ch u data => exact h.tuOutcome _ _ _ _
  | continueTu ch u data => exact h.tuOutcome _ _ _ _
  | abortTu ch u => exact (h.tu _ _ _ _).toNext
  | odTransferIdle ch => exact kept_execOdTransferIdle h ch
  | sessionOpen ch => exact (h.odRow fun _ ht => ht.writeSessionOpen _).toNext
  | sessionClose ch => exact (h.odRow fun _ ht => ht.writeSessionClose _).toNext
  | identReq dest => exact kept_execIdentReq h dest
  | cHello m => exact kept_execCHello h m
  | cFinish f sigOk sigR sigS => exact kept_execCFinish h f sigOk sigR sigS
  | causewayClose f => exact kept_execCausewayClose h f
  | causewaySessionIdle idx => exact kept_execCausewaySessionIdle h idx
  | causewayFrameLimit idx => exact kept_execCausewayFrameLimit h idx
  | fwBegin f len => exact kept_execFwBegin h f len
  | fwData f offset data ecdsaOk mldsaOk => exact kept_execFwData h f offset data ecdsaOk mldsaOk
  | fwEnd f => exact kept_execFwEnd h f
  | fwTransferStall => exact kept_execFwTransferStall h
  | budget f cap validityMs ident => exact kept_execBudget h f cap validityMs ident
  | budgetLapse => exact kept_execBudgetLapse h
  | cosignGrantWrite ch d expiry => exact kept_execCosignGrantWrite h ch d expiry
  | vfabSetpointStep die powerW => exact kept_execVfabSetpointStep h die powerW
  | thermalLoopStep die => exact kept_execThermalLoopStep h die
  | powerCapStep moduleW hubW dieW => exact kept_execPowerCapStep h moduleW hubW dieW
  | watchdogFire g imageEqual => exact kept_execWatchdogFire h g imageEqual
  | governorRestart g => exact kept_execGovernorRestart h g
  | dieThermalTrip die => exact kept_execDieThermalTrip h die
  | hubThermalTrip => exact kept_execHubThermalTrip h
  | vfabCurrentLimit die => exact (h.modDie _ _).toNext
  | vfabOvercurrentOff die => exact kept_execVfabOvercurrentOff h die
  | dieOffline die => exact kept_execDieOffline h die
  | coreFault core => exact kept_execCoreFault h core
  | coreSwap die => exact kept_execCoreSwap h die
  | hbmUncorrectableRead stack line => exact kept_execHbmUncorrectableRead h stack line
  | faultRecordExtend cleared => exact kept_execFaultRecordExtend h cleared
  | lifecycleStage ch v => exact kept_execLifecycleStage h ch v
  | lifecycleConfirm ch v blowOk => exact kept_execLifecycleConfirm h ch v blowOk
  | bypass => exact (h.tapInstr _).toNext
  | idcode => exact (h.tapInstr _).toNext
  | samplePreload shiftIn => exact (h.tapInstr _).toNext
  | extest => exact (h.tapInstr _).toNext
  | clamp => exact (h.tapInstr _).toNext
  | highz => exact (h.tapInstr _).toNext
  | tapPrivateInstruction code => exact (h.tapInstr _).drawn.toNext
  | hbmTrainingComplete hbmFail => exact kept_execHbmTrainingComplete h hbmFail
  | pcieLinkUp => exact kept_execPcieLinkUp h
  | snapshotComplete translated => exact kept_execSnapshotComplete h translated
  | spdmHeartbeatTimeout idx => exact kept_execSpdmHeartbeatTimeout h idx
  | idevidCertificateReturn cert => exact kept_execIdevidCertificateReturn h cert
  | lockedConfigurationChange => exact kept_execLockedConfigurationChange h
  | msixVectorUnmask a => exact (h.mmio _ (h.unmask _)).toNext
  | provisioning tamperPolicy vendorDebug anchor => exact kept_execProvisioning h tamperPolicy vendorDebug anchor

theorem kept_step (h : s.Kept o i) : keptNext o i (step s) := by
  unfold step
  split
  · exact h.tick.toNext
  · refine kept_exec ?_ _
    exact { h with }

theorem Otp.kept_self (p : Otp) : p.Kept p False := ⟨rfl, Otp.grownTo_refl p, False.elim⟩

/-- With nothing asked of the form, a state is kept over its own fuses. -/
theorem State.kept_self (s : State) : s.Kept s.otp False :=
  ⟨s.otp.kept_self, False.elim, False.elim, False.elim, False.elim, False.elim, False.elim, False.elim, False.elim, False.elim,
    False.elim, False.elim, False.elim, False.elim⟩

/-- Over the fuses of another state the form alone is what `State.Kept` asks. -/
theorem State.Kept.inv {t : State} (h : t.Kept o True) : t.Inv :=
  (State.inv_iff t).2 { h with otp := ⟨rfl, Otp.grownTo_refl _, h.otp.2.2⟩ }

/-- Settles O59: every command keeps each part of the state in its form. -/
theorem stepKeepsForm : Obligations.StepKeepsForm := fun s t hs ht => (kept_step ((State.inv_iff s).1 hs) t ht).inv

/-- Settles O60: every command leaves the identity fuses and only grows the others. -/
theorem fusesOnlyGrow : Obligations.FusesOnlyGrow := by
  intro s t ht
  obtain ⟨hid, hgrown, -⟩ := (kept_step s.kept_self t ht).otp
  exact ⟨hid, hgrown⟩

end Sys2Proof.Machine
end

section
/-! The time outputs: TIME_PPS, the TIME_REF relock and PTP (R462-R467, R471). -/

namespace Sys2Proof.Machine

/-! ### A permitted write with its effect, or without -/

/-- A write that its object accepts has its effect. -/
theorem State.odRow_applied {s t : State} {ch : Channel} {index sub : Nat} {r : Rights} {f : State → Option State}
    (ha : s.accepts ch index sub r) (hf : f (s.touch ch) = some t) : s.odRow ch index sub r f = t := by
  rw [State.odRow_of_accepts _ _ _ _ _ _ ha, State.writtenBy, hf]

/-- R485: a write that its object does not accept is ignored. -/
theorem State.odRow_ignored {s : State} {ch : Channel} {index sub : Nat} {r : Rights} {f : State → Option State}
    (ha : s.accepts ch index sub r) (hf : f (s.touch ch) = none) : s.odRow ch index sub r f = (s.touch ch).ignoreWrite index sub := by
  rw [State.odRow_of_accepts _ _ _ _ _ _ ha, State.writtenBy, hf]

/-! ### Served, or not -/

theorem State.timeServed_of_unset {s : State} (h : s.ret.timeSet = false) : s.timeServed = false := by
  simp [State.timeServed, h]

theorem State.ptpServed_of_unserved {s : State} (h : s.timeServed = false ∨ s.ret.ptpEnable = 0) : s.ptpServed = false := by
  rcases h with h | h
  · simp [State.ptpServed, h]
  · simp [State.ptpServed, h]

/-- R466: with PTP not served, none of its messages has an effect. -/
theorem exec_ptp_unserved {s : State} (h : s.ptpServed = false) :
    exec .sync s = .next s ∧ exec .announce s = .next s ∧ ∀ a b q, exec (.delayReq a b q) s = .next s := by
  refine ⟨?_, ?_, fun a b q => ?_⟩
  · change Host.Outcome.next (if s.ptpServed then _ else s) = _
    rw [h, if_neg Bool.false_ne_true]
  · change Host.Outcome.next (if s.ptpServed then _ else s) = _
    rw [h, if_neg Bool.false_ne_true]
  · change Host.Outcome.next (if s.ptpServed ∧ _ then _ else s) = _
    rw [if_neg fun hp => Bool.false_ne_true (h.symm.trans hp.1)]

theorem refPeriod_pos (code : Nat) : 0 < refPeriod code := by
  unfold refPeriod
  split <;> decide

/-- The next multiple of a period is at or after an instant, by less than the period. -/
theorem next_multiple (now p : Nat) (hp : 0 < p) :
    now ≤ (now + p - 1) / p * p ∧ (now + p - 1) / p * p < now + p ∧ (now + p - 1) / p * p % p = 0 := by
  have hdiv := Nat.div_add_mod (now + p - 1) p
  have hmod := Nat.mod_lt (now + p - 1) hp
  rw [Nat.mul_comm] at hdiv
  exact ⟨by omega, by omega, Nat.mul_mod_left _ _⟩

/-! ### The rows -/

theorem exec_timePps_served {s : State} (hs : s.timeServed = true) (hsec : s.now % 1000000000 = 0)
    (hnew : s.time.lastPps ≠ some s.clock.count) :
    exec .timePpsSecond s = .next
      (if s.time.tooSoon s.clock.count then { s with time := { s.time with ppsOmitted := bump s.time.ppsOmitted } }
      else { s with pins := { s.pins with timePps := true }, time := { s.time with lastPps := some s.clock.count } }) := by
  change Host.Outcome.next (if _ then _ else s) = _
  rw [if_pos ⟨hs, hsec, hnew⟩]

theorem TimeOut.tooSoon_eq_false {t : TimeOut} {count : Nat} (h : ∀ p, t.lastPps = some p → p + 500000000 ≤ count) :
    t.tooSoon count = false := by
  unfold TimeOut.tooSoon
  split
  · next p hp => exact decide_eq_false (by have := h p hp; omega)
  · rfl

theorem TimeOut.tooSoon_eq_true {t : TimeOut} {count p : Nat} (hp : t.lastPps = some p) (h : count < p + 500000000) :
    t.tooSoon count = true := by
  simp [TimeOut.tooSoon, hp, h]

theorem exec_timeRefWrite_relock {s : State} {ch : Channel} {v : Byte} (ha : s.accepts ch 0x7420 1 .hOpCu) (hv : v.toNat < 4) :
    exec (.timeRefWrite ch v) s = .next ((s.touch ch).relock v.toNat) :=
  congrArg Host.Outcome.next (State.odRow_applied ha (by rw [State.writeTimeRefWrite, if_pos hv]))

theorem exec_timeRefWrite_ignored {s : State} {ch : Channel} {v : Byte} (ha : s.accepts ch 0x7420 1 .hOpCu) (hv : 4 ≤ v.toNat) :
    exec (.timeRefWrite ch v) s = .next ((s.touch ch).ignoreWrite 0x7420 1) :=
  congrArg Host.Outcome.next (State.odRow_ignored ha (by rw [State.writeTimeRefWrite, if_neg hv.not_gt]))

/-- Settles O44, message by message. -/
theorem timeOutputsServe : Obligations.TimeOutputsServe := by
  intro s
  refine ⟨?pps, ?unset, ?write, ?lock, ?release, ?disabled, ?ptp, rfl⟩
  case pps =>
    intro hs hsec hnew
    rw [exec_timePps_served hs hsec hnew]
    refine ⟨fun h => ?_, fun p hp h => ?_⟩
    · rw [TimeOut.tooSoon_eq_false h, if_neg Bool.false_ne_true]
    · rw [TimeOut.tooSoon_eq_true hp h, if_pos rfl]
  case unset =>
    intro h
    have hserved := State.timeServed_of_unset h
    refine ⟨?_, exec_ptp_unserved (State.ptpServed_of_unserved (.inl hserved))⟩
    change Host.Outcome.next (if s.timeServed ∧ _ then _ else s) = _
    rw [if_neg fun hp => Bool.false_ne_true (hserved.symm.trans hp.1)]
  case write =>
    intro ch v ha
    refine ⟨fun hv => ⟨_, exec_timeRefWrite_relock ha hv, ?_, ?_, rfl, ?_⟩, exec_timeRefWrite_ignored ha⟩
    · simp only [State.relock, State.touch_ret]
    · have hzero : v.toNat = 0 ↔ v = 0 := ⟨fun h => BitVec.eq_of_toNat_eq h, fun h => h ▸ rfl⟩
      simp only [State.relock, State.touch_time, hzero]
    · simp only [State.relock, State.touch_clock]
  case lock =>
    intro h
    change Host.Outcome.next (if s.time.refState = 1 then _ else s) = _
    rw [if_pos h]
  case release =>
    intro k hstate hlock hover
    have hheld : s.refHeld = true := by
      simp [State.refHeld, hlock, hstate, hover]
    obtain ⟨hle, hlt, hmod⟩ := next_multiple s.now _ (refPeriod_pos s.ret.timeRef)
    have hrow : exec .timeRefRelease s = .next _ := congrArg Host.Outcome.next (if_pos hheld)
    exact ⟨_, hrow, rfl, rfl, hle, hlt, hmod, rfl, rfl⟩
  case disabled => exact fun h => exec_ptp_unserved (State.ptpServed_of_unserved (.inr h))
  case ptp =>
    intro hs hon
    have hserved : s.ptpServed = true := by simp [State.ptpServed, hs, hon]
    refine ⟨?_, ?_, fun a b q hab => ?_, fun q => ?_⟩
    · change Host.Outcome.next (if s.ptpServed then _ else s) = _
      rw [if_pos hserved]
      rfl
    · change Host.Outcome.next (if s.ptpServed then _ else s) = _
      rw [if_pos hserved]
      rfl
    · change Host.Outcome.next (if s.ptpServed ∧ _ then _ else s) = _
      rw [if_pos ⟨hserved, hab⟩]
      rfl
    · change Host.Outcome.next (if s.ptpServed ∧ _ then _ else s) = _
      rw [if_neg fun hp => Bool.false_ne_true hp.2]

end Sys2Proof.Machine
end

section
/-! Steps of device time: staged, confirmed, applied with the record of MR13, refused or lapsed (R423, R457-R461). -/

namespace Sys2Proof.Machine

/-! ### A token that the new time carries past its expiry (R423) -/

/-- The token's expiry has come at an instant. -/
def TokenInForce.over (tk : TokenInForce) (now : Nat) : Bool := decide (tk.expiry ≤ now)

/-- MR12 after the end of a scope's token at an instant, where its expiry has come. -/
def endRecorded (d : Digest) (token : Option TokenInForce) (now : Nat) : Digest :=
  match token with
  | some tk => if tk.over now then extendValue d (eventRecord 2 tk.digest now) else d
  | none => d

/-- One of the three checks of a time step. -/
def State.endIfOver (s : State) (k : Nat) : State := if s.tokenOver k then s.endToken k 2 else s

theorem State.endTokens_chain (s : State) : s.endTokens = ((s.endIfOver 0).endIfOver 1).endIfOver 2 := rfl

/-- Scope `k`'s token ends where its expiry has come, with its record in MR12, and nothing else that a time step sets is touched. -/
structure State.TokenChecked (s t : State) (k : Nat) : Prop where
  clock : t.clock = s.clock
  start : t.start = s.start
  time : t.time = s.time
  timeSet : t.ret.timeSet = s.ret.timeSet
  lastStep : t.measure.lastStep = s.measure.lastStep
  mrs : t.measure.mrs.length = s.measure.mrs.length
  token : t.ret.token k = (s.ret.token k).filter fun tk => !tk.over s.now
  others : ∀ j, j ≠ k → t.ret.token j = s.ret.token j
  mr12 : t.mr 12 = endRecorded (s.mr 12) (s.ret.token k) s.now
  mr : ∀ j, j ≠ 12 → t.mr j = s.mr j

theorem Measure.extend_lastStep (m : Measure) (r : Nat) (d : Bytes) : (m.extend r d).lastStep = m.lastStep := by
  unfold Measure.extend
  dsimp only
  split <;> rfl

theorem State.tokenOver_eq (s : State) (k : Nat) : s.tokenOver k = ((s.ret.token k).map fun tk => tk.over s.now).getD false := by
  unfold State.tokenOver
  cases s.ret.token k <;> rfl

/-- Nothing ends where no token of the scope has expired. -/
theorem State.tokenChecked_refl {s : State} {k : Nat} (h : s.tokenOver k = false) : s.TokenChecked s k := by
  rw [State.tokenOver_eq] at h
  refine ⟨rfl, rfl, rfl, rfl, rfl, rfl, ?_, fun _ _ => rfl, ?_, fun _ _ => rfl⟩
  · cases htk : s.ret.token k with
    | none => rfl
    | some tk =>
      have hover : tk.over s.now = false := by rwa [htk] at h
      rw [Option.filter_some, hover]
      rfl
  · cases htk : s.ret.token k with
    | none => rfl
    | some tk =>
      have hover : tk.over s.now = false := by rwa [htk] at h
      rw [endRecorded, hover, if_neg Bool.false_ne_true]

theorem State.tokenChecked_endIfOver {s : State} {k : Nat} (hs : s.start.condition.debugClass = false ∨ s.tokenOver k = false)
    (hmrs : s.measure.mrs.length = 32) : s.TokenChecked (s.endIfOver k) k := by
  unfold State.endIfOver
  cases hover : s.tokenOver k with
  | false => exact State.tokenChecked_refl hover
  | true =>
    have hsealed : s.start.condition.debugClass = false := hs.resolve_right (by rw [hover]; decide)
    rw [if_pos rfl]
    obtain ⟨tk, htk, htkover⟩ : ∃ tk, s.ret.token k = some tk ∧ tk.over s.now = true := by
      rw [State.tokenOver_eq] at hover
      cases htk : s.ret.token k with
      | none => rw [htk] at hover; cases hover
      | some tk => exact ⟨tk, rfl, by rwa [htk] at hover⟩
    obtain ⟨hgone, hothers, hmr, hstart⟩ := State.endToken_recorded hsealed htk hmrs 2
    have heq := State.endToken_of_some hsealed htk 2
    refine ⟨?_, hstart, ?_, ?_, ?_, ?_, ?_, hothers, ?_, fun j hj => ?_⟩
    · rw [heq]
    · rw [heq]
    · rw [heq]; rfl
    · rw [heq]; exact Measure.extend_lastStep _ _ _
    · rw [heq]; exact Measure.extend_mrs_length _ _ _
    · rw [hgone, htk, Option.filter_some, htkover]; rfl
    · rw [hmr, htk, endRecorded, htkover, if_pos rfl]
    · rw [heq]; exact State.extendMr_mr_ne s 12 j _ hj

/-- R423: the three checks of a time step, one after the other. -/
theorem State.endTokens_spec {s : State} (hmrs : s.measure.mrs.length = 32)
    (hs : s.start.condition.debugClass = false ∨ ∀ k, k < 3 → s.tokenOver k = false) :
    let t := s.endTokens
    t.clock = s.clock ∧ t.time = s.time ∧ t.ret.timeSet = s.ret.timeSet ∧ t.measure.lastStep = s.measure.lastStep ∧
      (∀ k, k < 3 → t.ret.token k = (s.ret.token k).filter fun tk => !tk.over s.now) ∧
      t.mr 12 = [0, 1, 2].foldl (fun d k => endRecorded d (s.ret.token k) s.now) (s.mr 12) ∧ ∀ j, j ≠ 12 → t.mr j = s.mr j := by
  rw [State.endTokens_chain]
  have h0 := State.tokenChecked_endIfOver (k := 0) (hs.imp_right fun h => h 0 (by decide)) hmrs
  generalize s.endIfOver 0 = a at h0 ⊢
  have hnow0 : a.now = s.now := congrArg (·.device) h0.clock
  have h1 := State.tokenChecked_endIfOver (s := a) (k := 1) (by
    rw [h0.start, State.tokenOver_eq, hnow0, h0.others 1 (by decide), ← State.tokenOver_eq]
    exact hs.imp_right fun h => h 1 (by decide)) (h0.mrs.trans hmrs)
  generalize a.endIfOver 1 = b at h1 ⊢
  have hnow1 : b.now = s.now := (congrArg (·.device) h1.clock).trans hnow0
  have h2 := State.tokenChecked_endIfOver (s := b) (k := 2) (by
    rw [h1.start, h0.start, State.tokenOver_eq, hnow1, h1.others 2 (by decide), h0.others 2 (by decide), ← State.tokenOver_eq]
    exact hs.imp_right fun h => h 2 (by decide)) ((h1.mrs.trans h0.mrs).trans hmrs)
  generalize b.endIfOver 2 = t at h2 ⊢
  refine ⟨h2.clock.trans (h1.clock.trans h0.clock), h2.time.trans (h1.time.trans h0.time), h2.timeSet.trans (h1.timeSet.trans h0.timeSet),
    h2.lastStep.trans (h1.lastStep.trans h0.lastStep), fun k hk => ?_, ?_, fun j hj => (h2.mr j hj).trans ((h1.mr j hj).trans (h0.mr j hj))⟩
  · match k, hk with
    | 0, _ => rw [h2.others 0 (by decide), h1.others 0 (by decide), h0.token]
    | 1, _ => rw [h2.others 1 (by decide), h1.token, h0.others 1 (by decide), hnow0]
    | 2, _ => rw [h2.token, h1.others 2 (by decide), h0.others 2 (by decide), hnow1]
  · rw [h2.mr12, h1.mr12, h0.mr12, h1.others 2 (by decide), h0.others 2 (by decide), h0.others 1 (by decide), hnow1, hnow0]
    rfl

/-! ### The rows -/

theorem State.stageStep_time (s : State) (c : Bytes) : (s.stageStep c).time =
    (if stepApplyAt c ≤ s.now then TimeOut.endStep { s.time with command := c, staged := true, confirmed := false, status := 1 } 2
    else { s.time with command := c, staged := true, confirmed := false, status := 1 }) := rfl

theorem exec_timeStepStage_wellFormed {s : State} {ch : Channel} {c : Bytes} (ha : s.accepts ch 0x7410 1 .cust) (hc : stepFormOk c = true) :
    exec (.timeStepStage ch c) s = .next ((s.touch ch).stageStep c) :=
  congrArg Host.Outcome.next (State.odRow_applied ha (by rw [State.writeTimeStepStage, if_pos hc]))

theorem exec_timeStepStage_malformed {s : State} {ch : Channel} {c : Bytes} (ha : s.accepts ch 0x7410 1 .cust) (hc : stepFormOk c = false) :
    exec (.timeStepStage ch c) s = .next ((s.touch ch).ignoreWrite 0x7410 1) :=
  congrArg Host.Outcome.next (State.odRow_ignored ha (by rw [State.writeTimeStepStage, if_neg (by rw [hc]; decide)]))

theorem exec_timeStepConfirm_staged {s : State} {ch : Channel} {d : Digest} (ha : s.accepts ch 0x7410 2 .aud) (hst : s.time.staged = true) :
    exec (.timeStepConfirm ch d) s = .next ((s.touch ch).confirmStep d) :=
  congrArg Host.Outcome.next (State.odRow_applied ha (by rw [State.writeTimeStepConfirm, State.touch_time, if_pos hst]))

@[simp] theorem State.touch_stepRecord (s : State) (ch : Channel) : (s.touch ch).stepRecord = s.stepRecord := by
  rw [State.stepRecord, State.touch_time, State.touch_otp, State.stepRecord]

theorem exec_timeStepApply_due {s : State} (hst : s.time.staged = true) (hco : s.time.confirmed = true)
    (hat : stepApplyAt s.time.command ≤ s.now) :
    exec .timeStepApply s = .next (match s.stepRefusal with
      | 0 => s.applyStep.endTokens
      | code => { s with time := s.time.endStep code }) :=
  congrArg Host.Outcome.next (if_pos ⟨hst, hco, hat⟩)

/-- R460: what refusal code 0 says of the step's result. -/
theorem State.stepResult_of_unrefused {s : State} (h : s.stepRefusal = 0) : (s.stepResult.toNat : Int) = s.stepResult := by
  unfold State.stepRefusal at h
  dsimp only at h
  split_ifs at h with _ _ hrange
  exact Int.toNat_of_nonneg (by omega)

theorem State.stepRefusal_span {s : State} (h : (s.fabric.plan.bind (·.span)).isSome = true) : s.stepRefusal = 5 := if_pos h

theorem State.stepRefusal_backward {s : State} (h : (s.fabric.plan.bind (·.span)).isSome = false) (hopen : s.od.session ≠ 0)
    (hback : s.stepResult < s.now) : s.stepRefusal = 4 := by
  unfold State.stepRefusal
  rw [if_neg (by rw [h]; decide), if_pos ⟨hopen, hback⟩]

/-- R461: what the applied step leaves in the time base, the registers and the tokens. -/
theorem State.applyStep_spec (s : State) (hmrs : s.measure.mrs.length = 32) :
    s.applyStep.clock.device = s.stepResult.toNat ∧ s.applyStep.clock.count = s.clock.count ∧ s.applyStep.start = s.start ∧
      s.applyStep.ret.tokens = s.ret.tokens ∧ s.applyStep.ret.timeSet = true ∧ s.applyStep.time.staged = false ∧
      s.applyStep.time.status = 0 ∧ s.applyStep.measure.lastStep = s.stepResult.toNat ∧ s.applyStep.measure.mrs.length = 32 ∧
      s.applyStep.mr 13 = extendValue (s.mr 13) (stepEvent s.now s.stepResult.toNat (sha384 s.stepRecord)) ∧
      ∀ k, k ≠ 13 → s.applyStep.mr k = s.mr k := by
  unfold State.applyStep
  dsimp only
  generalize stepEvent s.now s.stepResult.toNat (sha384 s.stepRecord) = e
  have hlen := Measure.extend_mrs_length s.measure 13 e
  have h13 := State.extendMr_mr_same s 13 e (by omega)
  exact ⟨rfl, rfl, rfl, rfl, rfl, rfl, rfl, rfl, hlen.trans hmrs, h13, fun k => State.extendMr_mr_ne s 13 k e⟩

/-- The end of a token by the step's result is its end by the new time. -/
theorem TokenInForce.over_stepResult {s : State} (h : s.stepRefusal = 0) (tk : TokenInForce) :
    decide ((tk.expiry : Int) ≤ s.stepResult) = tk.over s.stepResult.toNat := by
  have hres := State.stepResult_of_unrefused h
  exact decide_eq_decide.2 (by omega)

/-- Settles O43: the staging, the confirmation and the instant of a step, each by its row. -/
theorem timeStepsApply : Obligations.TimeStepsApply := by
  intro s
  refine ⟨?stage, ?confirm, ?apply, ?lapse⟩
  case stage =>
    intro ch c ha
    refine ⟨fun hc hat => ⟨_, exec_timeStepStage_wellFormed ha hc, s.touch_clock ch, s.touch_od ch, ?_⟩,
      fun hc hat => ⟨_, exec_timeStepStage_wellFormed ha hc, s.touch_clock ch, ?_, ?_⟩, exec_timeStepStage_malformed ha⟩
    · rw [State.stageStep_time, State.touch_now, State.touch_time, if_neg hat.not_ge]
    · rw [State.stageStep_time, State.touch_now, if_pos hat]
      rfl
    · rw [State.stageStep_time, State.touch_now, if_pos hat]
      rfl
  case confirm =>
    intro ch d ha hst
    rw [show s.time.command ++ beBytes 16 s.otp.serial.toNat = s.stepRecord from rfl]
    refine ⟨fun hd hlt hle => ?_, fun hd => ?_⟩
    · have hstep : (s.touch ch).confirmStep d = { s.touch ch with time := { s.time with confirmed := true, status := 1 } } := by
        unfold State.confirmStep
        dsimp only
        rw [State.touch_stepRecord, State.touch_time, State.touch_now, if_neg (not_not_intro hd.symm), if_pos ⟨hlt, hle⟩]
      exact ⟨_, exec_timeStepConfirm_staged ha hst, congrArg State.time hstep, (congrArg State.clock hstep).trans (s.touch_clock ch)⟩
    · have hstep : (s.touch ch).confirmStep d = { s.touch ch with time := { s.time with status := 3 } } := by
        unfold State.confirmStep
        dsimp only
        rw [State.touch_stepRecord, State.touch_time, if_pos (Ne.symm hd)]
      exact ⟨_, exec_timeStepConfirm_staged ha hst, congrArg State.time hstep, (congrArg State.clock hstep).trans (s.touch_clock ch)⟩
  case apply =>
    intro hst hco hat
    refine ⟨?_, fun hspan => ?_, fun hspan hopen hback => ?_⟩
    · intro h0 hmrs _ ended hs
      obtain ⟨hdev, hcount, hstart, htok, hset, hstaged, hstatus, hlast, hlen, h13, hmr⟩ := s.applyStep_spec hmrs
      have hended : ended = fun tk => tk.over s.stepResult.toNat := funext fun tk => TokenInForce.over_stepResult h0 tk
      clear_value ended
      subst hended
      have htoken (k : Nat) : s.applyStep.ret.token k = s.ret.token k := congrArg (·.getD k none) htok
      have hnow : s.applyStep.now = s.stepResult.toNat := hdev
      have hover : s.applyStep.start.condition.debugClass = false ∨ ∀ k, k < 3 → s.applyStep.tokenOver k = false := by
        rw [hstart]
        refine hs.imp_right fun h k hk => ?_
        rw [State.tokenOver_eq, htoken, hnow]
        cases htk : s.ret.token k with
        | none => rfl
        | some tk => exact h k tk hk htk
      obtain ⟨tclock, ttime, tset, tlast, ttoken, t12, tmr⟩ := State.endTokens_spec hlen hover
      have htdev : s.applyStep.endTokens.clock.device = s.stepResult.toNat := (congrArg (·.device) tclock).trans hdev
      refine ⟨s.applyStep.endTokens, ?_, ?_, ?_, ?_, fun k h12 h13' => ?_, fun k hk => ?_, ?_, tset.trans hset, ?_, ?_, ?_⟩
      · rw [exec_timeStepApply_due hst hco hat, h0]
        rfl
      · rw [htdev]
        exact State.stepResult_of_unrefused h0
      · rw [tclock, hcount]
      · rw [tmr 13 (by decide), h13, htdev]
        rfl
      · rw [tmr k h12, hmr k h13']
      · rw [ttoken k hk, htoken, hnow]
      · rw [t12, hmr 12 (by decide), hnow, htdev]
        simp only [htoken]
        rfl
      · rw [ttime, hstaged]
      · rw [ttime, hstatus]
      · rw [tlast, hlast, htdev]
    · rw [exec_timeStepApply_due hst hco hat, State.stepRefusal_span hspan]
      rfl
    · rw [exec_timeStepApply_due hst hco hat, State.stepRefusal_backward hspan hopen hback]
      rfl
  case lapse =>
    intro hst hco
    refine ⟨fun hat => ?_, fun hlt => ?_⟩
    · refine congrArg Host.Outcome.next ((if_pos ⟨hst, hco, hat⟩).trans ?_)
      simp only [TimeOut.endStep, hco]
    · exact congrArg Host.Outcome.next (if_neg fun h => absurd h.2.2 hlt.not_ge)

end Sys2Proof.Machine
end

section
/-! Sessions of the device: open where nothing forbids it, closed by the owner or a Custodian (R502-R507, R382, R426). -/

namespace Sys2Proof.Machine

/-! ### What a channel's own record of time does not change -/

@[simp] theorem State.touch_roleOf (s : State) (ch c : Channel) : (s.touch ch).roleOf c = s.roleOf c := by
  cases c with
  | bar0 tee => rfl
  | spdm k => rfl
  | causeway k =>
    unfold State.touch
    split
    · cases ch with
      | bar0 tee => rfl
      | spdm j => rfl
      | causeway j => exact congrArg some (getD_modifyAt_proj CwSession.role s.causeway.sessions j.val k.val _ {} fun _ => rfl)
    · rfl

theorem State.touch_mayClose (s : State) (ch : Channel) : (s.touch ch).mayClose ch = s.mayClose ch := by
  rw [State.mayClose, State.mayClose, State.touch_od, State.touch_roleOf]

theorem State.mayClose_iff (s : State) (ch : Channel) :
    s.mayClose ch = true ↔ planeCode ch = s.od.owner ∨ s.roleOf ch = some .custodian := by
  simp [State.mayClose]

theorem State.touch_openCode (s : State) (ch : Channel) : (s.touch ch).openCode = s.openCode := by
  rw [State.openCode, State.openCode, State.touch_start, State.touch_od, State.touch_ret]

theorem State.openCode_zero {s : State} (h : s.openCode = 0) : s.start.power = .ready ∧ s.od.session = 0 := by
  unfold State.openCode at h
  split_ifs at h with hpower hsession _
  exact ⟨not_not.1 hpower, not_not.1 hsession⟩

/-! ### Open -/

theorem exec_sessionOpen_opens {s : State} {ch : Channel} (ha : s.accepts ch 0x1400 1 .hCu) (h : s.openCode = 0) :
    exec (.sessionOpen ch) s = .next ((s.touch ch).openTheSession (planeCode ch)) :=
  congrArg Host.Outcome.next (State.odRow_applied ha (by rw [State.writeSessionOpen, State.touch_openCode, h]; rfl))

theorem exec_sessionOpen_refused {s : State} {ch : Channel} (ha : s.accepts ch 0x1400 1 .hCu) (h : s.openCode ≠ 0) :
    exec (.sessionOpen ch) s = .next ((s.touch ch).sessionCode s.openCode) := by
  refine congrArg Host.Outcome.next (State.odRow_applied ha ?_)
  rw [State.writeSessionOpen, State.touch_openCode]
  split
  · next h0 => exact absurd h0 h
  · rfl

theorem State.touch_genesisNow (s : State) (ch : Channel) : (s.touch ch).genesisNow = s.genesisNow := by
  rw [State.genesisNow, State.genesisNow, State.touch_otp, State.touch_now, State.touch_ret]

/-- R503: what an opened session stands in. -/
theorem State.opened_spec (s : State) (plane : Nat) (g d : Digest) :
    let t := s.opened plane g d
    t.od.session = 1 ∧ t.od.owner = plane ∧ t.od.lastCommand = 0 ∧ t.fabric.tideCount = 0 ∧ t.fabric.cores = [] ∧
      t.ret.receiptsMade = 0 ∧ t.host.modeLatched = s.host.mode ∧ t.measure.genesis = g ∧ t.chainHead = t.measure.genesis ∧
      t.measure.mrs = s.measure.mrs ∧ t.ret.sessionsOpened = bump s.ret.sessionsOpened ∧ t.ret.nextSeq = s.ret.nextSeq ∧
      t.hostMem = s.hostMem := ⟨rfl, rfl, rfl, rfl, rfl, rfl, rfl, rfl, rfl, rfl, rfl, rfl, rfl⟩

/-! ### Close -/

theorem exec_sessionClose_eq {s : State} {ch : Channel} (ha : s.accepts ch 0x1400 1 .hCu) :
    exec (.sessionClose ch) s = .next (s.writtenBy ch 0x1400 1 fun u => u.writeSessionClose ch) :=
  congrArg Host.Outcome.next (State.odRow_of_accepts _ _ _ _ _ _ ha)

theorem exec_sessionClose_closes {s : State} {ch : Channel} (ha : s.accepts ch 0x1400 1 .hCu) (hopen : s.od.session = 1)
    (hmay : s.mayClose ch = true) : exec (.sessionClose ch) s = .next (s.touch ch).closeSession :=
  congrArg Host.Outcome.next (State.odRow_applied ha (by
    rw [State.writeSessionClose, State.touch_od, State.touch_mayClose, if_neg (by omega), if_pos ⟨hopen, hmay⟩]))

/-- A session that reads CLOSING, with nothing drained yet. -/
def State.closing (s : State) : State := { s with od := { s.od with session := 2, lastCommand := 0, drained := false } }

/-- What CLOSED changes of a session that has drained. -/
theorem State.settleClosed_eq (s : State) :
    s.settleClosed = s ∨ s.settleClosed = { s with od := { s.od with session := 0, owner := 0, drained := false } } := by
  unfold State.settleClosed
  split
  · exact .inr rfl
  · exact .inl rfl

theorem State.closeSession_drains {s : State} (hsubs : s.host.subs = []) (htide : s.fabric.tide = none) :
    s.closeSession = s.closing.finishClose.settleClosed := by
  change s.closing.settleClose.settleClosed = _
  have hall : (s.closing.host.subs.all fun e => match e.2 with | none => true | some x => !x.due) = true := by
    rw [show s.closing.host.subs = [] from hsubs]
    rfl
  rw [State.settleClose, if_pos ⟨rfl, rfl, hall, htide⟩]

theorem State.closeSession_waits {s : State} (htide : s.fabric.tide.isSome = true) : s.closeSession = s.closing := by
  change s.closing.settleClose.settleClosed = _
  have hwait : s.closing.settleClose = s.closing := if_neg fun h => by
    have hnone : s.fabric.tide = none := h.2.2.2
    rw [hnone] at htide
    cases htide
  rw [hwait]
  exact if_neg fun h => absurd (show false = true from h.2.1) (by decide)

/-- What a cut leaves of the state it is made in. -/
theorem State.cut_keeps (s : State) (cause : Nat) :
    (s.cut cause).measure.mrs = s.measure.mrs ∧ (s.cut cause).od = s.od ∧ (s.cut cause).ret.stores = s.ret.stores ∧
      (s.cut cause).ret.regions = s.ret.regions := by
  unfold State.cut
  split
  · exact ⟨rfl, rfl, rfl, rfl⟩
  · split
    · exact ⟨rfl, rfl, rfl, rfl⟩
    · exact ⟨rfl, rfl, rfl, rfl⟩

theorem Retained.scrubAll_stores {r : Retained} : ∀ x ∈ r.scrubAll.stores, x.state = .scrubbing := by
  intro x hx
  obtain ⟨y, -, rfl⟩ := List.mem_map.1 hx
  rfl

theorem Retained.scrubAll_regions {r : Retained} : ∀ e ∈ r.scrubAll.regions, e.2.state ≠ .allocated := by
  intro e he
  obtain ⟨f, -, rfl⟩ := List.mem_map.1 he
  split
  · exact fun h => by cases h
  · next h => exact h

/-- R426, R505: what a drained session leaves. -/
theorem State.finishClose_spec (s : State) :
    s.finishClose.fabric.plan = none ∧ s.finishClose.fabric.cores = [] ∧ s.finishClose.shoal.clusters = List.replicate 12 {} ∧
      s.finishClose.hosting.models = [] ∧ (∀ x ∈ s.finishClose.ret.stores, x.state = .scrubbing) ∧
      (∀ e ∈ s.finishClose.ret.regions, e.2.state ≠ .allocated) ∧ s.finishClose.measure.mrs = s.measure.mrs ∧
      s.finishClose.od.session = s.od.session ∧ s.finishClose.od.lastCommand = s.od.lastCommand ∧
      s.finishClose.measure = (s.cut 6).measure := by
  obtain ⟨hmrs, hod, -, -⟩ := s.cut_keeps 6
  exact ⟨rfl, rfl, rfl, rfl, Retained.scrubAll_stores, Retained.scrubAll_regions, hmrs, congrArg (·.session) hod,
    congrArg (·.lastCommand) hod, rfl⟩

/-- The chain's head is the same from OPEN to CLOSING. -/
theorem State.closing_chainHead {s : State} (hopen : s.od.session = 1) : s.closing.chainHead = s.chainHead := by
  simp [State.chainHead, State.closing, hopen]

/-- Settles O48: the opened state is written out, the closed one read part by part. -/
theorem sessionsOpenAndClose : Obligations.SessionsOpenAndClose := by
  intro s ch ha
  refine ⟨fun h0 => ?opens, exec_sessionOpen_refused ha, fun h0 => ?none, fun hopen howner => ⟨fun hsubs htide => ?drained, fun htide => ?waits⟩,
    fun hopen hplane hrole => ?other⟩
  case opens =>
    obtain ⟨hpower, hsession⟩ := State.openCode_zero h0
    obtain ⟨d, hd⟩ := (s.touch ch).openTheSession_eq (planeCode ch)
    have hrow : exec (.sessionOpen ch) s = .next ((s.touch ch).opened (planeCode ch) s.genesisNow d) := by
      rw [exec_sessionOpen_opens ha h0, hd, State.touch_genesisNow]
    obtain ⟨hsess, howner, hcmd, htide, hcores, hmade, hmode, hgenesis, hhead, hmrs, hopened, hseq, hmem⟩ :=
      (s.touch ch).opened_spec (planeCode ch) s.genesisNow d
    rw [State.touch_host] at hmode
    rw [State.touch_measure] at hmrs
    rw [State.touch_ret] at hopened hseq
    rw [State.touch_hostMem] at hmem
    exact ⟨hpower, hsession, _, hrow, hsess, howner, hcmd, htide, hcores, hmade, hmode, hgenesis, hhead, hmrs, hopened, hseq, hmem⟩
  case none =>
    rw [exec_sessionClose_eq ha, State.writtenBy, State.writeSessionClose, State.touch_od, if_pos h0]
  case drained =>
    have hrow := exec_sessionClose_closes ha hopen ((s.mayClose_iff ch).2 howner)
    rw [State.closeSession_drains (by rw [State.touch_host, hsubs]) (by rw [State.touch_fabric, htide])] at hrow
    obtain ⟨hplan, hcores, hclusters, hmodels, hstores, hregions, hmrs, hsess, hcmd, hmeasure⟩ := (s.touch ch).closing.finishClose_spec
    have hmrs' : (s.touch ch).closing.measure.mrs = s.measure.mrs := congrArg Measure.mrs (s.touch_measure ch)
    have hfinal : s.aliasExists = true → s.measure.signing = none → s.measure.checkpoints.length < 16 →
        ∃ c, (s.touch ch).closing.finishClose.measure.signing = some c ∧ c.cause = 6 ∧ c.head = s.chainHead := by
      intro halias hsign hroom
      have hcut := State.cut_of_free (s := (s.touch ch).closing) (by
          change (!(s.touch ch).keys.aliasPub.isEmpty) = true
          rw [State.touch_keys]
          exact halias)
        ((congrArg Measure.signing (s.touch_measure ch)).trans hsign)
        (by rw [show (s.touch ch).closing.measure = s.measure from s.touch_measure ch]; exact hroom) 6
      refine ⟨(s.touch ch).closing.cutNow 6, ?_, rfl, ?_⟩
      · rw [hmeasure, hcut]
        rfl
      · refine (State.closing_chainHead (by rw [State.touch_od, hopen])).trans ?_
        rw [State.chainHead, State.chainHead, State.touch_ret, State.touch_od, State.touch_measure]
    refine ⟨_, hrow, ?_⟩
    rcases (s.touch ch).closing.finishClose.settleClosed_eq with hsame | hclosed
    · rw [hsame]
      exact ⟨fun h => absurd (show 2 = 1 from hsess.symm.trans h) (by decide), hcmd, hplan, hcores, hclusters, hmodels, hstores, hregions, hmrs.trans hmrs', hfinal⟩
    · rw [hclosed]
      exact ⟨fun h => absurd (show 0 = 1 from h) (by decide), hcmd, hplan, hcores, hclusters, hmodels, hstores, hregions, hmrs.trans hmrs', hfinal⟩
  case waits =>
    have hrow := exec_sessionClose_closes ha hopen ((s.mayClose_iff ch).2 howner)
    rw [State.closeSession_waits (by rw [State.touch_fabric]; exact htide)] at hrow
    exact ⟨_, hrow, rfl, s.touch_fabric ch, s.touch_host ch⟩
  case other =>
    have hmay : ¬ s.mayClose ch = true := fun h => ((s.mayClose_iff ch).1 h).elim hplane hrole
    rw [exec_sessionClose_eq ha, State.writtenBy, State.writeSessionClose, State.touch_od, State.touch_mayClose, if_neg (by omega),
      if_neg fun h => hmay h.2]

end Sys2Proof.Machine
end

section
/-! A CA rollover that ends a session with a firmware delivery under way (R87, R102, R132, R133, R522). -/

namespace Sys2Proof.Machine

/-! ### A start leaves the time of the last CA closing, and no Causeway session -/

theorem Retained.afterReset_caClosedAt (r : Retained) (session : Bool) : (r.afterReset session).caClosedAt = r.caClosedAt := by
  cases session <;> rfl

/-- The time of the last CA closing stands, and no session appears. -/
def State.KeepsClosing (s t : State) : Prop := t.ret.caClosedAt = s.ret.caClosedAt ∧ (s.causeway = {} → t.causeway = {})

theorem State.keepsClosing_bootChecked (s : State) (c : StartConds) : s.KeepsClosing (s.bootChecked c) := by
  unfold State.bootChecked
  extract_lets _ s1 s2 _ s3 _ _ s4
  have h2 : s.KeepsClosing s2 := ⟨rfl, id⟩
  clear_value s2
  have h4 : s.KeepsClosing s4 := by
    change s.KeepsClosing (if _ then _ else _)
    split
    · exact h2
    · exact h2
  clear_value s4
  split_ifs
  · exact h2
  · exact h2
  · exact h2
  · exact h4

theorem State.keepsClosing_boot (s : State) (c : StartConds) (held : Bool) : s.KeepsClosing (s.boot c held) := by
  unfold State.boot
  extract_lets _ _ s1
  have h1 : s.KeepsClosing s1 := ⟨rfl, id⟩
  clear_value s1
  split_ifs
  · exact h1
  · exact ⟨(Retained.afterReset_caClosedAt _ _).trans h1.1, fun _ => rfl⟩
  · exact h1
  · obtain ⟨hclosed, hsessions⟩ := s1.keepsClosing_bootChecked c
    exact ⟨hclosed.trans h1.1, fun h => hsessions (h1.2 h)⟩

/-- R102: a reset whose silicon meets a retention failure leaves no time of a CA closing and no session. -/
theorem State.internalReset_retention {s : State} (hr : s.resettable = true) (hf : s.silicon.retentionFault = true) :
    s.internalReset.ret.caClosedAt = none ∧ s.internalReset.causeway = {} := by
  rw [State.internalReset, State.warmReset, if_pos hr]
  unfold State.restart
  extract_lets v
  have hfree : v.causeway = {} := rfl
  clear_value v
  obtain ⟨hclosed, hsessions⟩ := State.keepsClosing_boot { v with ret := v.ret.checked s.silicon s.now } s.silicon (s.start.halt == .tamper)
  have hnone : (v.ret.checked s.silicon s.now).caClosedAt = none := by rw [Retained.checked, if_pos hf]
  exact ⟨hclosed.trans hnone, hsessions hfree⟩

/-- R87, R522: the end of a session whose delivery runs while a set loads past its runtime resets the device. -/
theorem State.endCauseway_resets {s : State} {k : Nat} {t : FwTransfer} (hfw : s.causeway.fw = some t) (hk : t.session = k)
    (hended : t.ended = false) (hup : s.up = false) (hload : s.start.load = none) (hruntime : s.start.runtime = true)
    (hr : s.resettable = true) (hf : s.silicon.retentionFault = true) :
    (s.endCauseway k).ret.caClosedAt = none ∧ (s.endCauseway k).causeway = {} := by
  unfold State.endCauseway
  simp only [hfw, hk, hended, and_self, if_true]
  unfold State.refuseDelivery
  dsimp only
  rw [if_neg (by change ¬ s.up = true; rw [hup]; decide), hload, if_neg (by decide), if_pos hruntime]
  exact State.internalReset_retention hr hf

/-- The sessions of slots below the one that was active end, one after the other. -/
def State.endBelow (s : State) (old i : Nat) : State :=
  if (s.causeway.session i).phase ≠ 0 ∧ (s.causeway.session i).anchorSlot < old then s.endCauseway i else s

theorem State.endBelow_free {s : State} (h : s.causeway = {}) (old : Nat) (l : List Nat) :
    l.foldl (fun s i => s.endBelow old i) s = s := by
  induction l with
  | nil => rfl
  | cons i rest ih =>
    have hstays : s.endBelow old i = s := by
      have hfree : (s.causeway.session i).phase = 0 := by
        rw [h, Causeway.session, List.getD_eq_getElem?_getD, List.getElem?_replicate]
        split <;> rfl
      exact if_neg fun hp => hp.1 hfree
    rw [List.foldl_cons, hstays, ih]

/-- The state in which the slots' sessions end: the staged anchor has closed. -/
def State.caClosed (s : State) (k : Nat) (a : BitVec 768) : State :=
  { s with
    otp := { s.otp with caSlots := modifyAt s.otp.caSlots k fun _ => some (CaSlot.ofAnchor a) }
    ret := { s.ret with stagedCa := none, caClosedAt := some s.clock.count } }

theorem State.closeCaSlot_ret {s : State} {k : Nat} (hk : s.otp.freeSlot = some k) (a : BitVec 768) :
    (s.closeCaSlot a).ret = ((List.range 8).foldl (fun u i => u.endBelow s.otp.activeSlot i) (s.caClosed k a)).ret := by
  have hevent (u : State) (d : Digest) : ((u.keyEvent 8 2 d).keyCommand 0).ret = u.ret := by simp
  unfold State.closeCaSlot
  rw [hk]
  exact hevent _ _

/-! ### The witness -/

/-- A set loads past its runtime, delivered over session 2, which slot 0 authenticates; slot 1 is active, and a Custodian under the staged
anchor waits for C-FINISH on session 1. The silicon's next start meets a retention failure. -/
def rolloverUnderDelivery : State :=
  { otp := { caSlots := [some { anchor := 0, digest := 0 }, some { anchor := 0, digest := 0 }, none, none, none, none, none, none] }
    ret := { stagedCa := some (0, 0) }
    silicon := { eccUncorrectable := false, eccCorrected := 0, pufFailures := 0, entropyFailures := 0, retentionFault := true
                 tamperActive := 0, tamperRecent := 0 }
    pins := { stby := true }
    start := { power := .standby, runtime := true }
    causeway :=
      { sessions := { phase := 1, role := .custodian, anchorSlot := 8, anchor := some 0 } :: { phase := 2 } :: List.replicate 6 {}
        fw := some { session := 1, total := 0, data := [], frames := 0, lastFrame := 0, ended := false } } }

/-- C-FINISH on session 1. -/
def finishFrame : CwFrame := { dest := .device, session := 0, seq := 1, intact := true }

/-- A key through the Working Key Register touches that register and the DRBG. -/
theorem State.transfer_fst_eq (s : State) (key : Bytes) : ∃ k n d, (s.transfer key).1 = { s with
    keys := k, draws := d, start := { s.start with drbgRequests := n } } := ⟨_, _, _, rfl⟩

/-- What keying a session touches. -/
theorem State.keyCauseway_eq (s : State) (i : Nat) (sig : Bytes) : ∃ k n d a b, s.keyCauseway i sig = { s with
    keys := k, draws := d, start := { s.start with drbgRequests := n }
    causeway := { s.causeway with
      sessions := modifyAt s.causeway.sessions i fun x => { x with keyIn := some a, keyOut := some b, ephemeral := none } } } := by
  unfold State.keyCauseway State.agreeEc
  dsimp only
  generalize CwSession.sessionKeys _ _ _ = z
  generalize hv : (State.transfer _ (z.take 32)).2 = a
  obtain ⟨k1, n1, d1, h1⟩ := (s.generatedBy 2).transfer_fst_eq (z.take 32)
  rw [h1]
  generalize hw : (State.transfer _ (z.drop 32)).2 = b
  obtain ⟨k2, n2, d2, h2⟩ := State.transfer_fst_eq
    { s.generatedBy 2 with keys := k1, draws := d1, start := { (s.generatedBy 2).start with drbgRequests := n1 } } (z.drop 32)
  rw [h2]
  exact ⟨k2, n2, d2, a, b, rfl⟩

/-- The session under its two keys. -/
def CwSession.keyedBy (x : CwSession) (a b : MaskedKey) : CwSession := { x with keyIn := some a, keyOut := some b, ephemeral := none }

/-- The session opened on its slot. -/
def CwSession.openedOn (x : CwSession) (slot now count : Nat) (sig : Bytes) : CwSession :=
  { x with
    phase := 2, anchorSlot := slot, anchor := none, opened := now, lastFrame := count, transcript := x.transcript ++ sig, framesIn := 1
    framesOut := 1 }

/-- A state with what keying a session touches, and its sessions. -/
def State.keyedWith (s : State) (k : Keys) (n d : Nat) (l : List CwSession) : State :=
  { s with keys := k, draws := d, start := { s.start with drbgRequests := n }, causeway := { s.causeway with sessions := l } }

/-- R111, R132: under a staged anchor a session opens with its slot, and the anchor closes. -/
theorem State.openSession_staged {s : State} {i slot : Nat} {anchor : BitVec 768} (h : (s.causeway.session i).anchor = some anchor)
    (hslot : (if (s.causeway.session i).anchorSlot = 8 then s.otp.freeSlot.getD 0 else (s.causeway.session i).anchorSlot) = slot)
    (sig : Bytes) : ∃ k n d a b, (s.openSession i sig).ret = ((s.keyedWith k n d
      (modifyAt (modifyAt s.causeway.sessions i fun x => x.keyedBy a b) i fun x => x.openedOn slot s.now s.clock.count sig)).closeCaSlot
        anchor).ret := by
  obtain ⟨k, n, d, a, b, hkey⟩ := s.keyCauseway_eq i sig
  refine ⟨k, n, d, a, b, ?_⟩
  unfold State.openSession
  rw [hkey]
  dsimp only
  rw [h, hslot]
  rfl

/-- R133, R522: the closing ends session 2, whose delivery goes with it, and nothing is left of the closing's time. -/
theorem rolloverKeyed_resets (k : Keys) (n d : Nat) {l : List CwSession} (hl : (l.getD 0 {}).anchorSlot = 2) (hl2 : l.getD 1 {} = { phase := 2 })
    (a : BitVec 768) : ((rolloverUnderDelivery.keyedWith k n d l).closeCaSlot a).ret.caClosedAt = none := by
  rw [State.closeCaSlot_ret (k := 2) rfl]
  have hactive : (rolloverUnderDelivery.keyedWith k n d l).otp.activeSlot = 1 := rfl
  rw [hactive]
  generalize hu : (rolloverUnderDelivery.keyedWith k n d l).caClosed 2 a = u
  have hfw : u.causeway.fw = some { session := 1, total := 0, data := [], frames := 0, lastFrame := 0, ended := false } := hu ▸ rfl
  have hslot : (u.causeway.session 0).anchorSlot = 2 := hu ▸ hl
  have hold : u.causeway.session 1 = { phase := 2 } := hu ▸ hl2
  have hreset : u.resettable = true := hu ▸ (show rolloverUnderDelivery.resettable = true by decide)
  have hfirst : u.endBelow 1 0 = u := if_neg fun h => absurd (hslot ▸ h.2) (by decide)
  have hsecond : u.endBelow 1 1 = u.endCauseway 1 := if_pos (by rw [hold]; decide)
  obtain ⟨hnone, hfree⟩ := State.endCauseway_resets (k := 1) hfw rfl rfl (hu ▸ rfl) (hu ▸ rfl) (hu ▸ rfl) hreset (hu ▸ rfl)
  rw [show List.range 8 = 0 :: 1 :: [2, 3, 4, 5, 6, 7] from rfl, List.foldl_cons, List.foldl_cons, hfirst, hsecond, State.endBelow_free hfree]
  exact hnone

/-- The rollover ends session 2, and with it the device's start. -/
theorem rolloverUnderDelivery_resets (sig : Bytes) : (rolloverUnderDelivery.openSession 0 sig).ret.caClosedAt = none := by
  obtain ⟨k, n, d, a, b, hret⟩ := State.openSession_staged (s := rolloverUnderDelivery) (i := 0) (slot := 2) rfl (by decide) sig
  rw [hret]
  exact rolloverKeyed_resets k n d rfl rfl 0

/-- Refutes O49: it asks that a C-FINISH under the staged anchor leave the closing's time. In `rolloverUnderDelivery` the closing ends the
session of slot 0 (R133), the end of that session refuses its delivery (R522), the refusal past the runtime resets the device (R87), and
the reset meets a retention failure that clears every RETAINED object (R102). -/
theorem not_causewaySessionsLive : ¬ Obligations.CausewaySessionsLive := by
  intro h
  obtain ⟨-, -, -, -, -, hfinish, -⟩ := h rolloverUnderDelivery rfl rfl
  have hhears : rolloverUnderDelivery.hears finishFrame = true := by decide
  have hphase : (rolloverUnderDelivery.causeway.session 0).phase = 1 := rfl
  have haccepts : (rolloverUnderDelivery.causeway.session 0).accepts finishFrame = true := by decide
  have hstands : rolloverUnderDelivery.anchorStands (rolloverUnderDelivery.causeway.session 0) = true := by
    have hruns : rolloverUnderDelivery.stageRuns = true := by decide
    have hsame : (rolloverUnderDelivery.ret.stagedCa.map (·.1)) = some (0 : BitVec 768) := rfl
    change (rolloverUnderDelivery.stageRuns && (rolloverUnderDelivery.ret.stagedCa.map (·.1)) == some (0 : BitVec 768)) = true
    rw [hruns, hsame, beq_self_eq_true, Bool.and_self]
  obtain ⟨-, haccepted⟩ := hfinish finishFrame 0 0 hhears
  obtain ⟨hopens, -⟩ := haccepted hphase haccepts
  obtain ⟨t, hrow, -, hcloses⟩ := hopens hstands
  obtain ⟨-, -, -, htime⟩ := hcloses 0 2 rfl rfl
  have hopened : exec (.cFinish finishFrame true 0 0) rolloverUnderDelivery =
      .next (rolloverUnderDelivery.openSession 0 (beBytes 48 (0 : BitVec 384).toNat ++ beBytes 48 (0 : BitVec 384).toNat)) := by
    refine congrArg Host.Outcome.next ?_
    have hwaits : ¬ ((rolloverUnderDelivery.causeway.session 0).phase ≠ 1 ∨
        (rolloverUnderDelivery.causeway.session 0).accepts finishFrame = false) := by
      rw [hphase, haccepts]
      decide
    exact (if_neg (by rw [hhears]; decide)).trans ((if_neg hwaits).trans ((if_neg (by decide)).trans (if_neg (by
      change ¬ rolloverUnderDelivery.anchorStands (rolloverUnderDelivery.causeway.session 0) = false
      rw [hstands]
      decide))))
  rw [hopened, Host.Outcome.next.injEq] at hrow
  rw [← hrow, rolloverUnderDelivery_resets] at htime
  cases htime

end Sys2Proof.Machine
end

section
/-! Regions and stores: allocated, freed, suspended, resumed, scrubbed or left DARK (R426-R432, R583). -/

namespace Sys2Proof.Machine

/-! ### A Custodian's channel -/

/-- Only the Causeway carries a Custodian's right. -/
theorem State.causeway_of_cust {s : State} {ch : Channel} {index sub : Nat} (ha : s.accepts ch index sub .cust) :
    ∃ i, ch = .causeway i := by
  unfold State.accepts State.writeReaches State.mayWrite at ha
  simp only [Bool.and_eq_true] at ha
  obtain ⟨⟨⟨-, hpermits, -⟩, -⟩, -⟩ := ha
  cases ch with
  | bar0 tee => exact absurd hpermits Bool.false_ne_true
  | spdm k => exact absurd hpermits Bool.false_ne_true
  | causeway i => exact ⟨i, rfl⟩

theorem State.touch_hosting_causeway (s : State) (i : Fin 8) : (s.touch (.causeway i)).hosting = s.hosting := by
  unfold State.touch
  split <;> rfl

/-! ### Free space (R432) -/

theorem Retained.fits_iff (r : Retained) (stack base size : Nat) : r.fits stack base size = true ↔
    base + size ≤ regionSpace ∧ ∀ t ∈ r.taken stack, base + size ≤ t.1 ∨ t.1 + t.2 ≤ base := by
  simp [Retained.fits]

/-- The highest end of the taken space at or below an instant, 0 with none. -/
def lastEnd (l : List (Nat × Nat)) (b : Nat) : Nat := (l.map fun t => if t.1 + t.2 ≤ b then t.1 + t.2 else 0).foldl max 0

theorem lastEnd_mem (l : List (Nat × Nat)) (b : Nat) : lastEnd l b = 0 ∨ ∃ t ∈ l, lastEnd l b = t.1 + t.2 := by
  induction l using List.reverseRecOn with
  | nil => exact .inl rfl
  | append_singleton l t ih =>
    have hstep : lastEnd (l ++ [t]) b = max (lastEnd l b) (if t.1 + t.2 ≤ b then t.1 + t.2 else 0) := by
      simp [lastEnd, List.foldl_append]
    rcases max_choice (lastEnd l b) (if t.1 + t.2 ≤ b then t.1 + t.2 else 0) with hm | hm
    · rw [hstep, hm]
      exact ih.imp_right fun ⟨u, hu, he⟩ => ⟨u, List.mem_append_left _ hu, he⟩
    · rw [hstep, hm]
      split
      · exact .inr ⟨t, List.mem_append_right _ (List.mem_singleton_self t), rfl⟩
      · exact .inl rfl

theorem lastEnd_bounds (l : List (Nat × Nat)) (b : Nat) : lastEnd l b ≤ b ∧ ∀ t ∈ l, t.1 + t.2 ≤ b → t.1 + t.2 ≤ lastEnd l b := by
  induction l using List.reverseRecOn with
  | nil => exact ⟨Nat.zero_le b, fun _ h => nomatch h⟩
  | append_singleton l t ih =>
    have hstep : lastEnd (l ++ [t]) b = max (lastEnd l b) (if t.1 + t.2 ≤ b then t.1 + t.2 else 0) := by
      simp [lastEnd, List.foldl_append]
    obtain ⟨hle, hends⟩ := ih
    rw [hstep]
    refine ⟨max_le hle (by split <;> omega), fun u hu hub => ?_⟩
    rcases List.mem_append.1 hu with hu | hu
    · exact (hends u hu hub).trans (le_max_left _ _)
    · cases List.mem_singleton.1 hu
      rw [if_pos hub]
      exact le_max_right _ _

/-- Where any place fits, so does the end of the taken space below it. -/
theorem Retained.fits_lastEnd {r : Retained} {stack b size : Nat} (h : r.fits stack b size = true) :
    r.fits stack (lastEnd (r.taken stack) b) size = true := by
  obtain ⟨hspace, hclear⟩ := (r.fits_iff stack b size).1 h
  obtain ⟨hle, hends⟩ := lastEnd_bounds (r.taken stack) b
  refine (r.fits_iff _ _ _).2 ⟨by omega, fun t ht => ?_⟩
  rcases hclear t ht with habove | hbelow
  · exact .inl (by omega)
  · exact .inr (hends t ht hbelow)

/-- R432: a request that fits somewhere gets a place that fits. -/
theorem State.placeRegion_of_fits {s : State} {stack b size : Nat} (h : s.ret.fits stack b size = true) :
    ∃ c, s.placeRegion stack size = some c ∧ s.ret.fits stack c size = true := by
  have hmem : lastEnd (s.ret.taken stack) b ∈ [Config.regionBase s.draws, 0] ++ (s.ret.taken stack).map fun t => t.1 + t.2 := by
    rcases lastEnd_mem (s.ret.taken stack) b with hz | ⟨t, ht, he⟩
    · rw [hz]
      simp
    · rw [he]
      exact List.mem_append_right _ (List.mem_map.2 ⟨t, ht, rfl⟩)
  have hsome : (s.placeRegion stack size).isSome = true :=
    List.find?_isSome.2 ⟨_, hmem, Retained.fits_lastEnd h⟩
  obtain ⟨c, hc⟩ := Option.isSome_iff_exists.1 hsome
  exact ⟨c, hc, List.find?_some (p := fun b => s.ret.fits stack b size) hc⟩

/-! ### Regions read back -/

theorem Retained.region_set_same {r : Retained} (hw : SMap.wf {} r.regions = true) (k : Nat) (x : Region) : (r.setRegion k x).region k = x :=
  SMap.get_set_same _ _ _ _ hw

theorem Retained.region_set_ne (r : Retained) (k : Nat) (x : Region) : ∀ j, j ≠ k → (r.setRegion k x).region j = r.region j :=
  fun _ hj => SMap.get_set_ne _ _ _ hj

/-- R433: a region that darkens for its plan stops its streams, and touches nothing else. -/
theorem State.darkenRegion_eq (s : State) (k : Nat) : ∃ d h, s.darkenRegion k = { s with fabric := { s.fabric with dark := d }, host := h } := by
  unfold State.darkenRegion
  split
  · exact ⟨_, _, rfl⟩
  · split
    · exact ⟨_, _, rfl⟩
    · exact ⟨_, _, rfl⟩

theorem Fabric.get_zeroLines (f : Fabric) (stack base lines key : Nat) :
    SMap.get {} (f.zeroLines stack base lines).hbm key =
      if inStack stack base lines key then {} else SMap.get {} f.hbm key := by
  rw [Fabric.zeroLines, SMap.get_filter _ fun k => !inStack stack base lines k]
  cases inStack stack base lines key <;> rfl

/-! ### The rows -/

theorem exec_regionAllocate_placed {s : State} {ch : Channel} {k : BitVec 16} {stack : Byte} {size : BitVec 32} {c : Nat}
    (ha : s.accepts ch 0x5000 1 .hOpCu) (hopen : s.od.session = 1) (hk : k.toNat < 1024) (hstack : stack.toNat < 12)
    (hsize : 1 ≤ size.toNat) (hfree : (s.ret.region k.toNat).state = .free) (hscrub : s.ret.stackScrub.getLsbD stack.toNat = false)
    (hc : s.placeRegion stack.toNat size.toNat = some c) :
    exec (.regionAllocate ch k stack size) s = .next (({ s.touch ch with
      ret := s.ret.setRegion k.toNat ⟨stack.toNat, c, size.toNat, .allocated, 0⟩ } : State).regionCode 0).drawn := by
  have hsession : (s.touch ch).sessionOpen = true := by rw [State.touch_sessionOpen, State.sessionOpen, hopen]; rfl
  have hplace : (s.touch ch).placeRegion stack.toNat size.toNat = some c := by
    rw [State.placeRegion, State.touch_ret, State.touch_draws]
    exact hc
  refine congrArg Host.Outcome.next (State.odRow_applied ha ?_)
  rw [State.writeRegionAllocate, if_pos ⟨hsession, hk, hstack, hsize⟩, State.allocate, State.touch_ret, if_neg (not_not_intro hfree),
    if_neg (by rw [hscrub]; decide), hplace]

theorem exec_regionFree_eq {s : State} {ch : Channel} {k : BitVec 16} (ha : s.accepts ch 0x5000 5 .hOpCu) (hk : k.toNat < 1024) :
    exec (.regionFree ch k) s = .next ((s.touch ch).freeRegion k.toNat) :=
  congrArg Host.Outcome.next (State.odRow_applied ha (by rw [State.writeRegionFree, if_pos hk]))

@[simp] theorem State.touch_regionNamed (s : State) (ch : Channel) (k : Nat) : (s.touch ch).regionNamed k = s.regionNamed k := by
  rw [State.regionNamed, State.touch_fabric, State.regionNamed]

/-- R432: what a free request leaves. -/
theorem State.freeRegion_spec (s : State) (k : Nat) (hw : SMap.wf {} s.ret.regions = true) :
    (s.freeRegion k).fabric = s.fabric ∧ (∀ j, j ≠ k → (s.freeRegion k).ret.region j = s.ret.region j) ∧
      (s.regionNamed k = true → (s.freeRegion k).hosting.regionResult = 3 ∧ (s.freeRegion k).ret = s.ret) ∧
      (s.regionNamed k = false → (s.ret.region k).state = .allocated →
        (s.freeRegion k).hosting.regionResult = 0 ∧ (s.freeRegion k).ret.region k = (s.ret.region k).scrub) := by
  unfold State.freeRegion
  cases s.regionNamed k with
  | true => exact ⟨rfl, fun _ _ => rfl, fun _ => ⟨rfl, rfl⟩, (fun h => nomatch h)⟩
  | false =>
    rw [if_neg Bool.false_ne_true]
    split
    · next hstate => exact ⟨rfl, fun _ _ => rfl, (fun h => nomatch h), fun _ h => absurd h hstate⟩
    · exact ⟨rfl, Retained.region_set_ne _ _ _, (fun h => nomatch h), fun _ _ => ⟨rfl, Retained.region_set_same hw _ _⟩⟩

/-- R583: the record of a failed scrub stands past what its region darkens. -/
theorem exec_scrubReadbackFail_region {s : State} {r : Fin 1024} (hx : (s.ret.region r.val).state = .scrubbing) (mib : Nat) :
    ∃ d h, exec (.scrubReadbackFail (.region r) mib) s = .next { s with
      ret := s.ret.setRegion r.val { s.ret.region r.val with state := .dark, progress := mib }
      faults := s.faults.record { code := 0x0F, unit := (s.ret.region r.val).stack, a := r.val, b := mib, time := s.now }
      fabric := { s.fabric with dark := d }, host := h } := by
  obtain ⟨d, h, hdark⟩ := State.darkenRegion_eq (({ s with
    ret := s.ret.setRegion r.val { s.ret.region r.val with state := .dark, progress := mib } } : State).scrubFault (s.ret.region r.val).stack
      r.val mib) r.val
  exact ⟨d, h, congrArg Host.Outcome.next ((if_pos hx).trans hdark)⟩

theorem State.endScrub_store {s : State} {x : ScrubTarget} (hx : x ∈ [ScrubTarget.modelStore, .shoalStore, .planStaging, .windowStore])
    (hs : (s.ret.stores.getD (storeIndex x) {}).state = .scrubbing) (hup : s.up = true) :
    s.endScrub x = ({ s with ret := { s.ret with stores := modifyAt s.ret.stores (storeIndex x) fun _ => {} } } : State).settleClosed := by
  simp only [List.mem_cons, List.not_mem_nil, or_false] at hx
  obtain rfl | rfl | rfl | rfl := hx
  all_goals exact if_pos ⟨hs, hup⟩

theorem State.failScrub_store {s : State} {x : ScrubTarget} (hx : x ∈ [ScrubTarget.modelStore, .shoalStore, .planStaging, .windowStore])
    (hs : (s.ret.stores.getD (storeIndex x) {}).state = .scrubbing) (mib : Nat) :
    s.failScrub mib x = ({ s with ret := { s.ret with
      stores := modifyAt s.ret.stores (storeIndex x) fun x => { x with state := .dark, progress := mib } } } : State).scrubFault
        0xFFFF 0xFFFF mib := by
  simp only [List.mem_cons, List.not_mem_nil, or_false] at hx
  obtain rfl | rfl | rfl | rfl := hx
  all_goals exact if_pos hs

theorem storeIndex_lt (x : ScrubTarget) : storeIndex x < 4 := by
  unfold storeIndex
  split <;> decide

/-- A bit of the stacks' mask that is cleared, and every other. -/
theorem getLsbD_clearBit (v : BitVec 12) (i j : Nat) :
    (v &&& ~~~(BitVec.ofNat 12 (2 ^ i))).getLsbD j = (v.getLsbD j && decide (j ≠ i)) := by
  by_cases hj : j < 12
  · have hbit : (BitVec.ofNat 12 (2 ^ i)).getLsbD j = decide (i = j) := by
      rw [BitVec.getLsbD_ofNat, Nat.testBit_two_pow, decide_eq_true hj, Bool.true_and]
    rw [BitVec.getLsbD_and, BitVec.getLsbD_not, hbit, decide_eq_true hj, Bool.true_and]
    by_cases hji : j = i
    · simp [hji]
    · simp [hji, Ne.symm hji]
  · rw [BitVec.getLsbD_of_ge _ _ (by omega), BitVec.getLsbD_of_ge _ _ (by omega), Bool.false_and]

/-- Settles O39: region by region through the canonical map, line by line through the filtered one. -/
theorem regionsScrub : Obligations.RegionsScrub := by
  intro s hinv
  have hw : SMap.wf {} s.ret.regions = true := by
    obtain ⟨-, -, -, -, -, -, -, -, -, -, -, -, hregions, -⟩ := hinv
    exact hregions
  refine ⟨?allocate, ?free, ?suspend, ?resume, ?region, ?store, ?stack⟩
  case allocate =>
    intro ch k stack size b ha hopen hk hstack hsize hfree hscrub hfits
    obtain ⟨c, hc, hcfits⟩ := State.placeRegion_of_fits hfits
    exact ⟨_, c, exec_regionAllocate_placed ha hopen hk hstack hsize hfree hscrub hc, hcfits, Retained.region_set_same hw _ _,
      Retained.region_set_ne _ _ _, rfl, s.touch_fabric ch⟩
  case free =>
    intro ch k ha hk
    have hspec := (s.touch ch).freeRegion_spec k.toNat (by rw [State.touch_ret]; exact hw)
    rw [State.touch_regionNamed, State.touch_ret, State.touch_fabric] at hspec
    exact ⟨_, exec_regionFree_eq ha hk, hspec⟩
  case suspend =>
    intro ch k ha hstate
    obtain ⟨i, rfl⟩ := State.causeway_of_cust ha
    obtain ⟨d, h, hdark⟩ := State.darkenRegion_eq { s.touch (.causeway i) with
      ret := s.ret.setRegion k.toNat { s.ret.region k.toNat with state := .suspended } } k.toNat
    have hrow : exec (.scrubSuspend (.causeway i) k) s = .next { s.touch (.causeway i) with
        ret := s.ret.setRegion k.toNat { s.ret.region k.toNat with state := .suspended }
        fabric := { (s.touch (.causeway i)).fabric with dark := d }, host := h } := by
      refine congrArg Host.Outcome.next (State.odRow_applied ha ?_)
      rw [State.writeScrubSuspend, State.touch_ret]
      dsimp only
      rw [if_pos hstate, hdark]
    exact ⟨_, hrow, Retained.region_set_same hw _ _, Retained.region_set_ne _ _ _, s.touch_hosting_causeway i⟩
  case resume =>
    intro ch k ha hstate
    have hrow : exec (.scrubResume ch k) s = .next { s.touch ch with
        ret := s.ret.setRegion k.toNat { s.ret.region k.toNat with state := .scrubbing } } := by
      refine congrArg Host.Outcome.next (State.odRow_applied ha ?_)
      rw [State.writeScrubResume, State.touch_ret]
      exact if_pos hstate
    exact ⟨_, hrow, Retained.region_set_same hw _ _, Retained.region_set_ne _ _ _, s.touch_fabric ch⟩
  case region =>
    intro r x hx
    refine ⟨fun hup hon => ?_, fun mib => ?_⟩
    · have hserved : s.scrubs? x.stack = true := by rw [State.scrubs?, hup, hon]; rfl
      have hrow : exec (.scrubComplete (.region r)) s = .next { s with
          ret := s.ret.setRegion r.val {}, fabric := s.fabric.zeroLines x.stack (x.base * 16384) (x.size * 16384) } :=
        congrArg Host.Outcome.next (if_pos ⟨hx, hserved⟩)
      exact ⟨_, hrow, Retained.region_set_same hw _ _, Retained.region_set_ne _ _ _, Fabric.get_zeroLines _ _ _ _⟩
    · obtain ⟨d, h, hrow⟩ := exec_scrubReadbackFail_region hx mib
      exact ⟨_, hrow, Retained.region_set_same hw _ _, Retained.region_set_ne _ _ _, rfl, rfl⟩
  case store =>
    intro x hx hs hlen
    have hlt : storeIndex x < s.ret.stores.length := hlen ▸ storeIndex_lt x
    refine ⟨fun hup => ?_, fun mib => ?_⟩
    · have hrow : exec (.scrubComplete x) s = .next _ := congrArg Host.Outcome.next (State.endScrub_store hx hs hup)
      refine ⟨_, hrow, ?_⟩
      rcases State.settleClosed_eq { s with ret := { s.ret with stores := modifyAt s.ret.stores (storeIndex x) fun _ => {} } } with h | h
      · rw [h]
        exact ⟨getD_modifyAt_same _ _ _ _ hlt, fun k hk => getD_modifyAt_ne _ _ _ hk, rfl⟩
      · rw [h]
        exact ⟨getD_modifyAt_same _ _ _ _ hlt, fun k hk => getD_modifyAt_ne _ _ _ hk, rfl⟩
    · have hrow : exec (.scrubReadbackFail x mib) s = .next _ := congrArg Host.Outcome.next (State.failScrub_store hx hs mib)
      exact ⟨_, hrow, getD_modifyAt_same _ _ _ _ hlt, fun k hk => getD_modifyAt_ne _ _ _ hk, rfl, rfl⟩
  case stack =>
    intro i hi hup hon
    have hserved : s.scrubs? i.val = true := by rw [State.scrubs?, hup, hon]; rfl
    have hrow : exec (.scrubComplete (.stack i)) s = .next { s with
        ret := { s.ret with stackScrub := s.ret.stackScrub &&& ~~~(BitVec.ofNat 12 (2 ^ i.val)) }
        fabric := s.fabric.zeroLines i.val 0 (2 ^ 29) } := congrArg Host.Outcome.next (if_pos ⟨hi, hserved⟩)
    refine ⟨_, hrow, ?_, fun j hj => ?_, Fabric.get_zeroLines _ _ _ _⟩
    · rw [getLsbD_clearBit _ i.val]
      simp
    · rw [getLsbD_clearBit _ i.val, decide_eq_true hj, Bool.and_true]

end Sys2Proof.Machine
end

section
/-! The time tree of a span: finish marks, ALL-FINISHED, span fences, span time and the module address (R296, R328, R450-R454). -/

namespace Sys2Proof.Machine

/-! ### A tide that settles in an open session -/

theorem State.settleReady_eq (s : State) : ∃ p, s.settleReady = { s with start := { s.start with power := p } } := by
  unfold State.settleReady
  split <;> (try split) <;> exact ⟨_, rfl⟩

theorem State.settleClose_of_open {s : State} (hopen : s.od.session = 1) : s.settleClose = s := by
  rw [State.settleClose, if_neg]
  rw [hopen]
  rintro ⟨h, -⟩
  contradiction

theorem State.settleDebug_of_none {s : State} (hdebug : s.start.debugEnd = 0) : s.settleDebug = s := by
  rw [State.settleDebug, if_neg]
  rw [hdebug]
  rintro ⟨h, -⟩
  contradiction

/-- A tide settles when the module has finished it and its marks are held; in an open session nothing closes with it. -/
theorem State.settleTide_cases {s : State} (hopen : s.od.session = 1) (hdebug : s.start.debugEnd = 0) :
    s.settleTide = s ∨ ∃ p td, s.fabric.plan = some p ∧ s.fabric.tide = some td ∧ s.settleTide = (s.finishTide p td).settleReady := by
  unfold State.settleTide
  split
  · next p td hp ht =>
    split
    · obtain ⟨q, hq⟩ := (s.finishTide p td).settleReady_eq
      refine .inr ⟨p, td, hp, ht, ?_⟩
      rw [hq, State.settleClose_of_open (by exact hopen), State.settleDebug_of_none (by exact hdebug)]
    · exact .inl rfl
  · exact .inl rfl

theorem State.settleTide_of_unfinished {s : State} (hown : s.fabric.ownFinish = none) : s.settleTide = s := by
  unfold State.settleTide
  rw [hown]
  split <;> rfl

theorem State.settleMarks_of_unfinished {s : State} (hown : s.fabric.ownFinish = none) : s.settleMarks = s := by
  unfold State.settleMarks
  rw [hown]
  split
  · next h => cases h
  · rfl

/-- Marks that settle move on in the tree and name ALL-FINISHED at the master. -/
theorem State.settleMarks_eq (s : State) :
    ∃ out sent fin, s.settleMarks = { s with
      straits := { s.straits with markOut := out, markSent := sent }, fabric := { s.fabric with allFinished := fin } } := by
  unfold State.settleMarks
  split
  · dsimp only
    split
    · split <;> exact ⟨_, _, _, rfl⟩
    · exact ⟨s.straits.markOut, s.straits.markSent, s.fabric.allFinished, rfl⟩
  · exact ⟨s.straits.markOut, s.straits.markSent, s.fabric.allFinished, rfl⟩

/-- A tide that settles changes the fabric, the host path and the power state alone. -/
theorem State.settleTide_frame {s : State} (hopen : s.od.session = 1) (hdebug : s.start.debugEnd = 0) :
    ∃ f h p, s.settleTide = { s with fabric := f, host := h, start := { s.start with power := p } } := by
  obtain heq | ⟨p, td, -, -, heq⟩ := State.settleTide_cases hopen hdebug
  · exact ⟨s.fabric, s.host, s.start.power, heq⟩
  · obtain ⟨q, hq⟩ := (s.finishTide p td).settleReady_eq
    exact ⟨_, _, q, heq.trans hq⟩

theorem State.settled_marks_frame {s : State} (hopen : s.od.session = 1) (hdebug : s.start.debugEnd = 0) :
    ∃ out sent f h p, s.settleMarks.settleTide = { s with
      straits := { s.straits with markOut := out, markSent := sent }, fabric := f, host := h, start := { s.start with power := p } } := by
  obtain ⟨out, sent, fin, hmarks⟩ := s.settleMarks_eq
  rw [hmarks]
  obtain ⟨f, h, q, hsettle⟩ := State.settleTide_frame (s := { s with
    straits := { s.straits with markOut := out, markSent := sent }, fabric := { s.fabric with allFinished := fin } }) hopen hdebug
  exact ⟨out, sent, f, h, q, hsettle⟩

theorem State.settleTide_allFinished {s : State} (hopen : s.od.session = 1) (hdebug : s.start.debugEnd = 0) :
    s.settleTide.fabric.allFinished = s.fabric.allFinished := by
  obtain heq | ⟨p, td, -, -, heq⟩ := State.settleTide_cases hopen hdebug
  · rw [heq]
  · rw [heq, State.settleReady_fabric]
    rfl

/-! ### Marks that are not late -/

/-- R296: a mark that is not late finds a plan with a span section. -/
theorem State.span_of_not_late {s : State} {j : Nat} (h : s.lateMark j = false) :
    ∃ p sp, s.fabric.plan = some p ∧ p.span = some sp := by
  unfold State.lateMark at h
  split at h
  · cases h
  · next p hp =>
    cases hsp : p.span with
    | none => rw [hsp] at h; cases h
    | some sp => exact ⟨p, sp, hp, hsp⟩

/-- R296: the tide that the module has finished is over once ALL-FINISHED names it, at the later of its own and that finish. -/
theorem State.settleTide_of_allFinished {s : State} {j own latest : Nat} {p : PlanInfo} {sp : SpanInfo} (hopen : s.od.session = 1)
    (hdebug : s.start.debugEnd = 0) (hp : s.fabric.plan = some p) (hsp : p.span = some sp)
    (hown : s.fabric.ownFinish = some (j, own)) (hall : s.fabric.allFinished = some (j, latest)) :
    s.settleTide.fabric.tide = none ∧ ∀ td, s.fabric.tide = some td → td.no = j →
      s.settleTide.fabric.lastTide = some (td.paced, td.nextGrid, max own latest) := by
  cases ht : s.fabric.tide with
  | none =>
    have heq : s.settleTide = s := by
      unfold State.settleTide
      rw [hp, ht]
    exact ⟨by rw [heq, ht], fun _ h => nomatch h⟩
  | some td =>
    have hheld : s.marksHeld p = true := by simp [State.marksHeld, hown, hall]
    have heq : s.settleTide = (s.finishTide p td).settleReady := by
      obtain ⟨q, hq⟩ := (s.finishTide p td).settleReady_eq
      unfold State.settleTide
      rw [hp, ht]
      dsimp only
      rw [hown, hheld, Option.isSome_some, Bool.true_and, if_pos rfl, hq,
        State.settleClose_of_open (by exact hopen), State.settleDebug_of_none (by exact hdebug)]
    rw [heq, State.settleReady_fabric]
    refine ⟨rfl, fun td' htd hno => ?_⟩
    cases htd
    have hfin : s.finishTime p td = max own latest := by
      rw [State.finishTime, hsp, hown, hall]
      exact if_pos hno.symm
    rw [← hfin]
    rfl

/-! ### A span fence -/

/-- R328, R453: a span fence that the tree holds rises to the greater value and goes on, where it rises, to every other neighbour. -/
theorem State.writeFence_span {s : State} {f v p : Nat} (hwf : SMap.wf 0 s.host.fences = true) (htree : s.straits.spanFences = true)
    (hf : 3072 ≤ f) :
    SMap.get 0 (s.writeFence f v (some p)).host.fences f = max v (SMap.get 0 s.host.fences f) ∧
    (∀ k, k ≠ f → SMap.get 0 (s.writeFence f v (some p)).host.fences k = SMap.get 0 s.host.fences k) ∧
    (SMap.get 0 s.host.fences f < v → ∀ q ∈ s.treePorts, sameNeighbour q p = false →
      (q, f, v) ∈ (s.writeFence f v (some p)).straits.fenceOut) ∧
    (v ≤ SMap.get 0 s.host.fences f → (s.writeFence f v (some p)).straits.fenceOut = s.straits.fenceOut) ∧
    (s.writeFence f v (some p)).host.subs = s.host.subs := by
  have hget k := s.host.get_fences_raiseFence f v k hwf
  have hhost : (s.writeFence f v (some p)).host = s.host.raiseFence f v := by
    unfold State.writeFence
    dsimp only
    split <;> rfl
  rw [hhost]
  refine ⟨by rw [hget, if_pos rfl], fun k hk => by rw [hget, if_neg (Ne.symm hk)], fun hrise q hq hother => ?_, fun hlow => ?_, rfl⟩
  · have hout : (s.writeFence f v (some p)).straits.fenceOut = s.straits.fenceOut ++
        (s.treePorts.filter fun q => !sameNeighbour q p).map fun q => (q, f, v) := by
      unfold State.writeFence
      dsimp only
      rw [if_pos ⟨hrise, hf, htree⟩]
    rw [hout]
    exact List.mem_append_right _ (List.mem_map_of_mem (List.mem_filter.mpr ⟨hq, by rw [hother]; rfl⟩))
  · unfold State.writeFence
    dsimp only
    rw [if_neg fun h => Nat.not_lt.mpr hlow h.1]

/-! ### Span time -/

theorem Straits.heard_eq (x : Straits) (p : Option Nat) (count : Nat) : ∃ l, x.heard p count = { x with ports := l } := by
  cases p <;> exact ⟨_, rfl⟩

@[simp] theorem State.touch_spanHeld (s : State) (ch : Channel) : (s.touch ch).spanHeld = s.spanHeld := by
  rw [State.spanHeld, State.touch_fabric, State.spanHeld]

/-- Settles O42: a mark settles through `settleMarks` and `settleTide`, which in an open session change the tree, the fabric, the
host path and the power state alone, and a fence through `writeFence_span`. -/
theorem theTreeCarries : Obligations.TheTreeCarries := by
  unfold Obligations.TheTreeCarries
  intro s p hinv
  obtain ⟨-, -, -, -, -, -, -, hwf, -⟩ := hinv
  refine ⟨fun j latest hup => ⟨?held, ?taken, ?late, ?all⟩, ?fence, ?sync, ?address⟩
  case held =>
    intro hlate hown
    have hrow : exec (.finishMark p ⟨j, latest⟩) s = .next { s with
        fabric := { s.fabric with marks := s.fabric.marks ++ [(p.val, j.toNat, latest.toNat)] } } := by
      refine congrArg Host.Outcome.next ?_
      rw [if_neg (not_not_intro hup), hlate, if_neg Bool.false_ne_true, State.settleMarks_of_unfinished (by exact hown),
        State.settleTide_of_unfinished (by exact hown)]
    exact ⟨_, hrow, rfl, rfl, rfl⟩
  case taken =>
    intro hlate hown hopen hdebug
    obtain ⟨out, sent, f, h, q, hsettle⟩ := State.settled_marks_frame (s := { s with
      fabric := { s.fabric with marks := s.fabric.marks ++ [(p.val, j.toNat, latest.toNat)] } }) hopen hdebug
    have hrow : exec (.finishMark p ⟨j, latest⟩) s = .next ({ s with
        fabric := { s.fabric with marks := s.fabric.marks ++ [(p.val, j.toNat, latest.toNat)] } } : State).settleMarks.settleTide := by
      refine congrArg Host.Outcome.next ?_
      rw [if_neg (not_not_intro hup), hlate, if_neg Bool.false_ne_true]
    refine ⟨_, hrow, ?_⟩
    rw [hsettle]
    exact ⟨rfl, rfl, rfl, rfl⟩
  case late =>
    intro hlate
    refine congrArg Host.Outcome.next ?_
    rw [if_neg (not_not_intro hup), hlate, if_pos rfl]
    rfl
  case all =>
    intro hlate hparent hopen hdebug
    obtain ⟨pl, sp, hpl, hsp⟩ := State.span_of_not_late hlate
    have hrow : exec (.allFinished p ⟨j, latest⟩) s = .next ({ s with
        fabric := { s.fabric with allFinished := some (j.toNat, latest.toNat), marks := s.fabric.marks.filter fun k => decide (j.toNat < k.2.1) }
        straits := { s.straits with markOut := s.straits.markOut ++ s.kids.map fun k => (k, true, j.toNat, latest.toNat) } } :
          State).settleTide := by
      refine congrArg Host.Outcome.next ?_
      rw [if_neg (by rw [hparent]; simpa using hup), hlate, if_neg Bool.false_ne_true]
    obtain ⟨f, h, q, hsettle⟩ := State.settleTide_frame (s := { s with
      fabric := { s.fabric with allFinished := some (j.toNat, latest.toNat), marks := s.fabric.marks.filter fun k => decide (j.toNat < k.2.1) }
      straits := { s.straits with markOut := s.straits.markOut ++ s.kids.map fun k => (k, true, j.toNat, latest.toNat) } })
      hopen hdebug
    refine ⟨_, hrow, State.settleTide_allFinished (by exact hopen) (by exact hdebug), by rw [hsettle], fun hown => ?_, fun own hown => ?_⟩
    · rw [State.settleTide_of_unfinished (by exact hown)]
      exact ⟨rfl, rfl⟩
    · exact State.settleTide_of_allFinished (by exact hopen) (by exact hdebug) hpl hsp hown rfl
  case fence =>
    intro f v hup htree hf
    have hrow : exec (.spanFenceUnit p f v) s = .next (s.writeFence f.toNat v.toNat (some p.val)) :=
      congrArg Host.Outcome.next (if_pos ⟨hup, htree, hf⟩)
    exact ⟨_, hrow, State.writeFence_span hwf htree hf⟩
  case sync =>
    intro t1 t2 t3 t4 h sp hspan hmaster
    refine ⟨fun hdown => ?_, fun hup => ?_⟩
    · refine congrArg Host.Outcome.next ?_
      rw [hspan]
      exact if_pos (.inr hdown)
    · obtain ⟨l, hheard⟩ := (s.straits.sync (exchangeOffset t1 t2 t3 t4) s.clock.count (h + 1)).heard_eq (s.parentPort sp) s.clock.count
      have hrow : exec (.spanSyncExchange t1 t2 t3 t4 h) s = .next { s with
          straits := { s.straits.sync (exchangeOffset t1 t2 t3 t4) s.clock.count (h + 1) with ports := l } } := by
        refine congrArg Host.Outcome.next ?_
        rw [hspan]
        dsimp only
        rw [if_neg (by rw [hup]; simpa using hmaster), hheard]
      exact ⟨_, hrow, rfl, rfl, rfl, rfl, rfl⟩
  case address =>
    intro ch v ha
    refine ⟨fun hheld hrange => ?_, fun hheld => congrArg Host.Outcome.next (State.odRow_ignored ha ?_)⟩
    · have hrow : exec (.moduleAddressWrite ch v) s = .next { s.touch ch with ret := { s.ret with moduleAddr := v.toNat } } := by
        refine congrArg Host.Outcome.next (State.odRow_applied ha ?_)
        rw [State.writeModuleAddressWrite, State.touch_spanHeld, State.touch_ret]
        exact if_pos ⟨hheld, hrange⟩
      exact ⟨_, hrow, rfl, s.touch_od ch⟩
    · rw [State.writeModuleAddressWrite, State.touch_spanHeld]
      exact if_neg fun h => by rw [hheld] at h; exact nomatch h.1

end Sys2Proof.Machine
end

section
/-! Registers and objects without a row of their own (R327, R389, R399, R401, R406, R472, R497, R551). -/

namespace Sys2Proof.Machine

/-! ### What a channel's activity note leaves of its rights -/

theorem State.touch_spdm_proj {β : Type} (p : SpdmSession → β) (hp : ∀ x t, p { x with lastMessage := t } = p x) (s : State)
    (ch : Channel) (k : Nat) : p ((s.touch ch).hosting.sessions.getD k {}) = p (s.hosting.sessions.getD k {}) := by
  unfold State.touch
  split_ifs
  · cases ch with
    | bar0 => rfl
    | spdm => exact getD_modifyAt_proj p _ _ _ _ _ fun _ => hp _ _
    | causeway => rfl
  · rfl

@[simp] theorem State.touch_channelUp (s : State) (ch c : Channel) : (s.touch ch).channelUp c = s.channelUp c := by
  cases c with
  | bar0 => simp [State.channelUp]
  | spdm i => simp only [State.channelUp, State.touch_start, State.touch_pins, State.touch_spdm_proj SpdmSession.phase fun _ _ => rfl]
  | causeway i => simp [State.channelUp, State.touch_session_proj CwSession.phase fun _ _ _ _ => rfl]

@[simp] theorem State.touch_teeBlocked (s : State) (ch c : Channel) : (s.touch ch).teeBlocked c = s.teeBlocked c := by
  obtain ⟨h, hh⟩ := s.touch_hosting_eq ch
  cases c with
  | bar0 => simp [State.teeBlocked, hh]
  | spdm => rfl
  | causeway => rfl

@[simp] theorem State.touch_cosigned (s : State) (ch : Channel) (i : Nat) : (s.touch ch).cosigned i = s.cosigned i := by
  simp [State.cosigned, State.touch_session_proj CwSession.certDigest fun _ _ _ _ => rfl]

@[simp] theorem State.touch_permits (s : State) (ch c : Channel) (r : Rights) : (s.touch ch).permits c r = s.permits c r := by
  cases c with
  | bar0 => rfl
  | spdm => rfl
  | causeway i => simp only [State.permits, State.touch_session_proj CwSession.role fun _ _ _ _ => rfl]

@[simp] theorem State.touch_mayWrite (s : State) (ch c : Channel) (index sub : Nat) (r : Rights) :
    (s.touch ch).mayWrite c index sub r = s.mayWrite c index sub r := by
  cases c with
  | bar0 => rfl
  | spdm => rfl
  | causeway i => simp only [State.mayWrite, State.touch_permits, State.touch_roleOf, State.touch_cosigned]

@[simp] theorem State.touch_notYet (s : State) (ch : Channel) (index sub : Nat) : (s.touch ch).notYet index sub = s.notYet index sub := by
  rw [State.notYet, State.notYet, State.touch_start]

/-- An object outside the vendor diagnostic range is writable to a channel as before it noted its activity. -/
theorem State.touch_writeRight {index : Nat} (hv : vendorIndex index = false) (s : State) (ch c : Channel) (sub : Nat) :
    (s.touch ch).writeRight c index sub = s.writeRight c index sub := by
  simp only [State.writeRight, State.hasWrite, hv, Bool.false_eq_true, if_false, State.touch_notYet, State.touch_mayWrite]

/-! ### An object written as one transfer -/

section
variable {s : State} {ch : Channel} {index sub : Nat} (hv : vendorIndex index = false) (hup : s.channelUp ch = true)
  (htee : s.teeBlocked ch = false) (hright : s.writeRight ch index sub = true) (hidle : s.openOn ch = none)
  (hfree : s.lockedOut ch = false)
include hv hup htee hright hidle hfree

/-- R476: a permitted whole write applies its value, or is ignored (R485). -/
theorem State.odObjectWrite_of_writeRight (v : Bytes) :
    s.odObjectWrite ch index sub v = ((s.touch ch).applyValue ch index sub v).1 := by
  have hopen : (s.touch ch).openOn ch = none := by rw [State.openOn, State.touch_od]; exact hidle
  have hlock : (s.touch ch).lockedFor ch index sub = false := by
    rw [State.lockedFor, State.lockedOut, State.touch_od, ← State.lockedOut, hfree]
    rfl
  simp only [State.odObjectWrite, State.touch_channelUp, State.touch_teeBlocked, State.touch_writeRight hv, hup, htee, hright, hopen,
    hlock]
  rfl

end

/-- R551: the thermal target. -/
theorem State.writeObject_thermalTarget (s : State) (ch : Channel) (v : Bytes) :
    s.writeObject ch 0x3050 1 v = ofLen 1 v fun x => ranged 60 85 x (s.setRet { s.ret with thermalTarget := x }) := rfl

theorem exec_objectWrite_of_not_vendor {s : State} {index : BitVec 16} (hv : vendorIndex index.toNat = false) (ch : Channel) (sub : Byte)
    (v : Bytes) : exec (.objectWrite (.od ch index sub v)) s = .next (s.odObjectWrite ch index.toNat sub.toNat v) := by
  have hvendor : s.vendorWrite ch index.toNat sub.toNat = false := by simp [State.vendorWrite, hv]
  change execObjectWrite (.od ch index sub v) s = _
  rw [execObjectWrite, hvendor]
  rfl

/-- R389, R497: a register that the host reaches takes what is written. -/
theorem exec_objectWrite_register {s : State} {tee : Bool} (hreach : s.hostReaches tee) {w : WriteTarget} {f : State → State}
    (hw : exec (.objectWrite w) s = .next (s.mmio tee f)) : exec (.objectWrite w) s = .next (f s) :=
  hw.trans (congrArg Host.Outcome.next (State.mmio_of_hostReaches hreach f))

/-! ### Vectors -/

theorem HostPath.send_eq (h : HostPath) (dma : Bool) (v : Nat) :
    ∃ l m, h.send dma v = { h with msixPending := l, msixSent := m } := by
  unfold HostPath.send
  split
  · exact ⟨h.msixPending, h.msixSent, rfl⟩
  split
  · exact ⟨_, h.msixSent, rfl⟩
  · exact ⟨h.msixPending, _, rfl⟩

/-- R327: a pending vector that is sent changes the two records of vectors alone. -/
theorem HostPath.sendPending_eq (h : HostPath) (dma : Bool) (v : Nat) :
    ∃ l m, h.sendPending dma v = { h with msixPending := l, msixSent := m } := by
  unfold HostPath.sendPending
  split_ifs
  · obtain ⟨l, m, hsend⟩ := HostPath.send_eq { h with msixPending := h.msixPending.filter fun x => x != v } dma v
    exact ⟨l, m, hsend⟩
  · exact ⟨h.msixPending, h.msixSent, rfl⟩

theorem HostPath.sendPending_of_held {h : HostPath} {dma : Bool} {v : Nat} (hheld : h.msixOn = false ∨ h.masked v = true ∨ dma = false) :
    h.sendPending dma v = h := by
  rw [HostPath.sendPending, if_neg]
  obtain hheld | hheld | hheld := hheld <;> simp [hheld]

theorem HostPath.foldl_sendPending_eq (dma : Bool) (l : List Nat) (h : HostPath) :
    ∃ p m, l.foldl (fun h v => h.sendPending dma v) h = { h with msixPending := p, msixSent := m } := by
  induction l generalizing h with
  | nil => exact ⟨h.msixPending, h.msixSent, rfl⟩
  | cons v l ih =>
    obtain ⟨p, m, hv⟩ := h.sendPending_eq dma v
    obtain ⟨p', m', hl⟩ := ih { h with msixPending := p, msixSent := m }
    exact ⟨p', m', by rw [List.foldl_cons, hv, hl]⟩

theorem HostPath.foldl_sendPending_of_held {h : HostPath} {dma : Bool}
    (hheld : ∀ v, h.msixOn = false ∨ h.masked v = true ∨ dma = false) (l : List Nat) :
    l.foldl (fun h v => h.sendPending dma v) h = h := by
  induction l with
  | nil => rfl
  | cons v l ih => rw [List.foldl_cons, HostPath.sendPending_of_held (hheld v), ih]

/-- R327: vectors that are let go change the two records of vectors alone. -/
theorem State.sendVectors_eq (s : State) : ∃ p m, s.sendVectors = { s with host := { s.host with msixPending := p, msixSent := m } } := by
  obtain ⟨p, m, h⟩ := HostPath.foldl_sendPending_eq s.dmaOk s.host.msixPending s.host
  exact ⟨p, m, by rw [State.sendVectors, h]⟩

theorem State.sendVectors_of_held {s : State} (hheld : ∀ v, s.host.msixOn = false ∨ s.host.masked v = true ∨ s.dmaOk = false) :
    s.sendVectors = s := by
  rw [State.sendVectors, HostPath.foldl_sendPending_of_held hheld]

/-! ### The PCIe enables -/

/-- The enables and the power state of the function. -/
def HostPath.withPcie (h : HostPath) (a p m k b d : Bool) : HostPath :=
  { h with ats := a, pri := p, msixOn := m, msixMask := k, busMaster := b, d3hot := d }

/-- R399: what a lock fixes of the enables. -/
def HostPath.locks (x : HostPath) : Bool × Bool × Bool × Bool × Bool := (x.ats, x.pri, x.msixOn, x.busMaster, x.d3hot)

theorem HostPath.locks_ne_iff (h : HostPath) (a p m k b d : Bool) : (h.withPcie a p m k b d).locks ≠ h.locks ↔
    (h.ats != a || h.pri != p || h.msixOn != m || h.busMaster != b || h.d3hot != d) = true := by
  simp only [HostPath.locks, HostPath.withPcie, ne_eq, Prod.mk.injEq, Bool.or_eq_true, bne_iff_ne]
  tauto

/-- R399: a change of what the lock fixes moves the TDI to ERROR; otherwise the enables take what is written and the vectors go. -/
theorem State.setPcie_eq (s : State) (a p m k b d : Bool) : s.setPcie a p m k b d =
    if (s.host.withPcie a p m k b d).locks ≠ s.host.locks ∧ (s.hosting.tdi = .locked ∨ s.hosting.tdi = .run) then
      { s with host := s.host.withPcie a p m k b d, hosting := { s.hosting with tdi := .error, startNonce := none } }
    else ({ s with host := s.host.withPcie a p m k b d } : State).sendVectors := by
  unfold State.setPcie
  dsimp only
  refine ite_congr (propext ?_) (fun _ => rfl) fun _ => rfl
  rw [HostPath.locks_ne_iff, Bool.and_eq_true, Bool.or_eq_true (_ == _), beq_iff_eq, beq_iff_eq]

/-! ### Evidence rings -/

theorem State.ring_setRing (s : State) (r : EvRing) (x : EvRingState) : (s.setRing r x).measure.ring r = x := by
  cases r <;> rfl

theorem State.hostMem_setRing (s : State) (r : EvRing) (x : EvRingState) : (s.setRing r x).hostMem = s.hostMem := by
  cases r <;> rfl

theorem State.setRingField_of_enabled {s : State} {r : EvRing} (h : (s.measure.ring r).enabled = true) (f : EvRingState → EvRingState) :
    s.setRingField r f = s := by
  rw [State.setRingField, h, if_pos rfl]

/-! ### A unit over a secured session -/

/-- R492: a short read answers a response and leaves every channel up that was. -/
theorem State.tuReadShort_channelUp (s : State) (ch : Channel) (h : TuHeader) (c : Channel) :
    (s.tuReadShort ch h).1.channelUp c = s.channelUp c := by
  unfold State.tuReadShort
  split
  · dsimp only
    unfold State.noteRead
    split_ifs <;> rfl
  · split_ifs
    · rfl
    · rfl
    · dsimp only
      unfold State.drawRead
      split_ifs <;> rfl

theorem State.tuReadShort_channels (s : State) (ch : Channel) (h : TuHeader) :
    (s.tuReadShort ch h).1.od.channels = s.od.channels := by
  unfold State.tuReadShort
  split
  · dsimp only
    unfold State.noteRead
    split_ifs <;> rfl
  · split_ifs
    · rfl
    · rfl
    · dsimp only
      unfold State.drawRead
      split_ifs <;> rfl

/-- R406: a well-formed READ-SHORT over a secured session is answered on that session. -/
theorem State.tu_readShort_spdm {s : State} {i : Fin 4} {h : TuHeader} {data : Bytes} (hlen : s.od.channels.length = 13)
    (hasks : s.asks (.spdm i) 1 h data) :
    ∃ r, (s.tu (.spdm i) 1 h data).replied (.spdm i) r ∧ (s.tu (.spdm i) 1 h data).hosting.response = some (0x7E, r.bytes) := by
  obtain ⟨hup, htee, hreach, hform, hfresh⟩ := hasks
  have hserve : (s.touch (.spdm i)).tuServe (.spdm i) 1 h data = (s.touch (.spdm i)).tuReadShort (.spdm i) h := by
    have hexp : (s.touch (.spdm i)).expired (.spdm i) h = false := by rw [State.expired, State.touch_od]; exact hfresh
    rw [State.tuServe, hform, hexp]
    rfl
  have hupr : ((s.touch (.spdm i)).tuReadShort (.spdm i) h).1.channelUp (.spdm i) = true := by
    rw [State.tuReadShort_channelUp, State.touch_channelUp, hup]
  have hlenr : ((s.touch (.spdm i)).tuReadShort (.spdm i) h).1.od.channels.length = 13 := by
    rw [State.tuReadShort_channels, State.touch_od, hlen]
  have htu : s.tu (.spdm i) 1 h data =
      (((s.touch (.spdm i)).tuReadShort (.spdm i) h).1.putResponse (.spdm i) ((s.touch (.spdm i)).tuReadShort (.spdm i) h).2).respond 0x7E
        ((s.touch (.spdm i)).tuReadShort (.spdm i) h).2.bytes := by
    rw [State.tu, htee, Bool.and_false, if_neg Bool.false_ne_true, hreach, if_pos rfl]
    dsimp only
    rw [hserve, State.carry, hupr, if_pos rfl]
  rw [htu]
  exact ⟨_, congrArg ChannelState.response (State.channel_putResponse hlenr _ _), rfl⟩

/-- R406: a message of the session restarts its period before the unit is served. -/
theorem exec_vendorDefinedRequest_of_inSession {s : State} {i : Fin 4} (hin : s.inSession i.val) (op : Byte) (h : TuHeader)
    (data : Bytes) : exec (.vendorDefinedRequest i op h data) s =
      .next ((s.modSession i.val fun x => { x with lastMessage := s.clock.count }).tu (.spdm i) op.toNat h data) :=
  congrArg Host.Outcome.next (if_pos ⟨hin.1, hin.2⟩)

theorem State.asks_modSession {s : State} {i : Fin 4} {op : Nat} {h : TuHeader} {data : Bytes} (t : Nat)
    (hasks : s.asks (.spdm i) op h data) :
    (s.modSession i.val fun x => { x with lastMessage := t }).asks (.spdm i) op h data := by
  obtain ⟨hup, htee, hreach, hform, hfresh⟩ := hasks
  have hup' : (s.modSession i.val fun x => { x with lastMessage := t }).channelUp (.spdm i) = true := by
    rw [← hup]
    simp only [State.channelUp, State.modSession,
      getD_modifyAt_proj SpdmSession.phase _ _ _ (fun x => { x with lastMessage := t }) _ fun _ => rfl]
  exact ⟨hup', rfl, (Bool.and_true _).trans hup', hform, hfresh⟩

/-- Settles O47: each register write is its row's own function of `State.writeRegister`, the enables through `State.setPcie_eq`, and a
unit over a secured session through `State.tu`. -/
theorem registersTake : Obligations.RegistersTake := by
  unfold Obligations.RegistersTake
  intro s
  refine ⟨?object, ?register, ?other, ?pcie, ?vendor⟩
  case object =>
    intro ch val hup htee hright hidle hfree
    have hexec : exec (.objectWrite (.od ch 0x3050 1 val)) s = .next ((s.touch ch).applyValue ch 0x3050 1 val).1 := by
      rw [exec_objectWrite_of_not_vendor rfl]
      exact congrArg Host.Outcome.next (State.odObjectWrite_of_writeRight rfl hup htee hright hidle hfree val)
    rw [hexec]
    refine ⟨fun hlen hlo hhi => ?_, fun hbad => congrArg Host.Outcome.next ?_⟩
    · have hput : (s.touch ch).writeObject ch 0x3050 1 val =
          some { s.touch ch with ret := { (s.touch ch).ret with thermalTarget := leNat val } } := by
        rw [State.writeObject_thermalTarget, ofLen, if_pos hlen, ranged, if_pos ⟨hlo, hhi⟩]
        rfl
      rw [State.applyValue, State.applyWrite, hput]
      exact ⟨_, rfl, by rw [State.touch_ret], s.touch_od ch⟩
    · have hput : (s.touch ch).writeObject ch 0x3050 1 val = none := by
        rw [State.writeObject_thermalTarget, ofLen, ranged]
        split_ifs with hlen hrange
        · omega
        · rfl
        · rfl
      rw [State.applyValue, State.applyWrite, hput]
  case register =>
    intro tee hreach
    refine ⟨fun v => exec_objectWrite_register (f := fun s => { s with od := { s.od with mbVector := v } }) hreach rfl, fun r v hv hoff => ?_, fun r v hon => ⟨?_, ?_⟩, fun vec addr data hwf => ?_⟩
    · have hrow : exec (.objectWrite (.ringBase tee r v)) s = .next (s.setRing r { s.measure.ring r with base := v }) := by
        refine (exec_objectWrite_register (f := fun s => s.setRingBase r v) hreach rfl).trans (congrArg Host.Outcome.next ?_)
        rw [State.setRingBase, if_pos hv, State.setRingField, if_neg (by rw [hoff]; exact Bool.false_ne_true)]
      exact ⟨_, hrow, s.ring_setRing r _, s.hostMem_setRing r _⟩
    · refine (exec_objectWrite_register (f := fun s => s.setRingBase r v) hreach rfl).trans (congrArg Host.Outcome.next ?_)
      rw [State.setRingBase, State.setRingField_of_enabled hon]
      split_ifs <;> rfl
    · exact (exec_objectWrite_register (f := fun s => s.setRingField r fun x => { x with vector := v.setWidth 16 }) hreach
        rfl).trans (congrArg Host.Outcome.next (State.setRingField_of_enabled hon _))
    · have hsame := SMap.get_set_same (0, 0, true) s.host.msix vec.val (addr, data, true) hwf
      have hkept : s.host.setVector s.dmaOk vec.val addr data true =
          { s.host with msix := SMap.set (0, 0, true) s.host.msix vec.val (addr, data, true) } := by
        refine HostPath.sendPending_of_held (.inr (.inl ?_))
        rw [HostPath.masked, hsame, Bool.or_true]
      have hrow : exec (.objectWrite (.msixTable tee vec addr data true)) s = .next { s with
          host := { s.host with msix := SMap.set (0, 0, true) s.host.msix vec.val (addr, data, true) } } := by
        refine (exec_objectWrite_register (f := fun s => { s with host := s.host.setVector s.dmaOk vec.val addr data true })
          hreach rfl).trans (congrArg Host.Outcome.next ?_)
        rw [hkept]
      exact ⟨_, hrow, hsame, rfl, fun k hk => SMap.get_set_ne _ _ _ hk⟩
  case other =>
    intro tee hlink hpower
    refine congrArg Host.Outcome.next ?_
    change s.mmio tee id = _
    rw [State.mmio, hlink, hpower]
    rfl
  case pcie =>
    intro a p m k b d hlink h locks
    have hrow : exec (.objectWrite (.pcieConfig a p m k b d)) s = .next (s.setPcie a p m k b d) :=
      congrArg Host.Outcome.next (if_pos hlink)
    rw [hrow, State.setPcie_eq]
    refine ⟨fun htdi hchanged => congrArg Host.Outcome.next (if_pos ⟨hchanged, htdi⟩), fun hsame => ?_⟩
    rw [if_neg]
    · obtain ⟨q, n, hsend⟩ := ({ s with host := s.host.withPcie a p m k b d } : State).sendVectors_eq
      refine ⟨_, rfl, ?_, fun hheld => State.sendVectors_of_held fun v => ?_⟩
      · rw [hsend]
        rfl
      · obtain hm | hk | hb | hd := hheld
        · exact .inl hm
        · exact .inr (.inl (by simp [HostPath.masked, HostPath.withPcie, hk]))
        · exact .inr (.inr (by simp [State.dmaOk, HostPath.withPcie, hb]))
        · exact .inr (.inr (by simp [State.dmaOk, HostPath.withPcie, hd]))
    · rintro ⟨hchanged, htdi⟩
      obtain hoff | hsame := hsame
      · obtain hoff | hoff := hoff <;> obtain htdi | htdi := htdi <;> exact nomatch hoff.symm.trans htdi
      · exact hchanged hsame
  case vendor =>
    intro i op h data hin _ hlen hasks
    rw [exec_vendorDefinedRequest_of_inSession hin]
    refine ⟨_, rfl, ?_⟩
    rintro rfl
    exact State.tu_readShort_spdm hlen (State.asks_modSession _ hasks)

end Sys2Proof.Machine
end

section
/-! What forwarding and the parking of staged submissions leave of the host path (R291, R294, R316, R317, R322, R331, R433). -/

namespace Sys2Proof.Machine

/-! ### Submissions by tag -/

theorem SMap.get_map_keyed {α : Type} (d : α) (g : Nat → α → α) (hg : ∀ k, g k d = d) (m : SMap α) (k : Nat) :
    SMap.get d (m.map fun e => (e.1, g e.1 e.2)) k = g k (SMap.get d m k) := by
  induction m with
  | nil => exact (hg k).symm
  | cons e m ih =>
    rw [List.map_cons, SMap.get_cons, ih, SMap.get_cons]
    split
    · next h => rw [h]
    · rfl

theorem HostPath.sub_mapSubs (h : HostPath) (g : Nat → Submission → Submission) (k : Nat) :
    (h.mapSubs g).sub k = (h.sub k).map (g k) :=
  SMap.get_map_keyed none (fun k x => x.map (g k)) (fun _ => rfl) h.subs k

theorem HostPath.wf_mapSubs {h : HostPath} (hw : SMap.wf none h.subs = true) (g : Nat → Submission → Submission) :
    SMap.wf none (h.mapSubs g).subs = true :=
  SMap.wf_map none (fun e => (e.1, e.2.map (g e.1))) (fun _ => rfl) (fun x hx => by simpa using hx) _ hw

theorem HostPath.wf_modSub {h : HostPath} (hw : SMap.wf none h.subs = true) (tag : Nat) (g : Submission → Submission) :
    SMap.wf none (h.modSub tag g).subs = true := SMap.wf_modify _ _ _ _ hw

theorem HostPath.sub_modSub_same {h : HostPath} (hw : SMap.wf none h.subs = true) (tag : Nat) (g : Submission → Submission) :
    (h.modSub tag g).sub tag = (h.sub tag).map g := by
  rw [HostPath.sub, HostPath.modSub, SMap.get_modify _ _ _ _ _ hw, if_pos rfl, HostPath.sub]

theorem HostPath.sub_modSub_ne (h : HostPath) {tag k : Nat} (hk : k ≠ tag) (g : Submission → Submission) :
    (h.modSub tag g).sub k = h.sub k := SMap.get_modify_ne _ _ _ hk

/-! ### Forwarding (R316, R317, R322, R331) -/

/-- What a run of forwarding leaves of a submission: how many of its events are out and, for EVENTS that was staged, its completion. -/
def Submission.Pumped (x y : Submission) : Prop :=
  ∃ n, y = { x with forwarded := n } ∨ (x.kind = 2 ∧ x.phase = .staged ∧ ∃ debug, y = { x with forwarded := n }.eventsDone debug)

theorem Submission.Pumped.keeps {x y : Submission} (h : x.Pumped y) :
    y.record = x.record ∧ y.inputDigest = x.inputDigest ∧ y.seq = x.seq := by
  obtain ⟨n, rfl | ⟨-, -, d, rfl⟩⟩ := h <;> exact ⟨rfl, rfl, rfl⟩

theorem Submission.Pumped.standing {x y : Submission} (h : x.Pumped y) : y.standing = x.standing := by
  obtain ⟨n, rfl | ⟨hkind, -, d, rfl⟩⟩ := h
  · rfl
  · have hdone : ({ x with forwarded := n }.eventsDone d).kind = 2 := hkind
    rw [Submission.standing, if_pos hdone, Submission.standing, if_pos hkind]
    rfl

/-- A submission that is not staged goes on as it is. -/
theorem Submission.Pumped.of_not_staged {x y : Submission} (h : x.Pumped y) (hphase : x.phase ≠ .staged) :
    ∃ n, y = { x with forwarded := n } := by
  obtain ⟨n, h | ⟨-, hstaged, -⟩⟩ := h
  · exact ⟨n, h⟩
  · exact absurd hstaged hphase

/-- A step of forwarding: the watermark, the hold, the Shoal engine, and how many events of each submission are out. -/
structure State.Forwards (s t : State) : Prop where
  only : t = { s with
    host := { s.host with
      subs := t.host.subs, watermark := t.host.watermark, forwardHold := t.host.forwardHold, forwardHolds := t.host.forwardHolds }
    shoal := t.shoal }
  wf : SMap.wf none s.host.subs = true → SMap.wf none t.host.subs = true
  sub : SMap.wf none s.host.subs = true → ∀ k, ∃ n : Option Nat,
    t.host.sub k = (s.host.sub k).map fun x => { x with forwarded := n.getD x.forwarded }

theorem State.Forwards.refl (s : State) : s.Forwards s :=
  ⟨rfl, id, fun _ _ => ⟨none, by simp⟩⟩

theorem State.Forwards.trans {s t u : State} (hst : s.Forwards t) (htu : t.Forwards u) : s.Forwards u := by
  refine ⟨htu.only.trans (by rw [hst.only]), fun hw => htu.wf (hst.wf hw), fun hw k => ?_⟩
  obtain ⟨n, hn⟩ := hst.sub hw k
  obtain ⟨m, hm⟩ := htu.sub (hst.wf hw) k
  refine ⟨m.orElse fun _ => n, ?_⟩
  rw [hm, hn, Option.map_map]
  cases m <;> rfl

/-- A step that writes no submission. -/
theorem State.Forwards.of_subs {s t : State} (honly : t = { s with
    host := { s.host with
      watermark := t.host.watermark, forwardHold := t.host.forwardHold, forwardHolds := t.host.forwardHolds }
    shoal := t.shoal }) : s.Forwards t := by
  rw [honly]
  exact ⟨rfl, id, fun _ _ => ⟨none, by simp [HostPath.sub]⟩⟩

theorem State.forwards_modSub (s : State) (tag k : Nat) :
    s.Forwards { s with host := s.host.modSub tag fun y => { y with forwarded := k } } := by
  refine ⟨rfl, fun hw => HostPath.wf_modSub hw _ _, fun hw i => ?_⟩
  by_cases hi : i = tag
  · subst hi
    exact ⟨some k, HostPath.sub_modSub_same hw i _⟩
  · exact ⟨none, by simp [HostPath.sub_modSub_ne _ hi]⟩

theorem State.forwards_hold (s : State) : s.Forwards { s with host := s.host.hold } := by
  refine .of_subs ?_
  unfold HostPath.hold
  split <;> rfl

theorem State.forwards_held (s : State) (tag k : Nat) :
    s.Forwards { s with host := (s.host.modSub tag fun y => { y with forwarded := k }).hold } :=
  (s.forwards_modSub tag k).trans (State.forwards_hold { s with host := s.host.modSub tag fun y => { y with forwarded := k } })

theorem State.forwards_forwardEvents (s : State) (tag : Nat) (x : Submission) (fuel k : Nat) :
    s.Forwards (s.forwardEvents tag x fuel k).1 := by
  induction fuel generalizing s k with
  | zero => exact s.forwards_modSub tag k
  | succ fuel ih =>
    simp only [State.forwardEvents]
    split
    · exact (State.Forwards.of_subs rfl).trans (ih _ _)
    · split
      · exact State.forwards_held _ tag k
      · exact (State.Forwards.of_subs rfl).trans (State.forwards_held _ tag k)

theorem State.forwards_forwardFrom (l : List (Nat × Submission)) (s : State) : s.Forwards (s.forwardFrom l) := by
  induction l generalizing s with
  | nil => exact .of_subs rfl
  | cons p l ih =>
    obtain ⟨tag, x⟩ := p
    simp only [State.forwardFrom]
    split
    · exact (State.Forwards.of_subs rfl).trans (ih _)
    · split
      · exact .of_subs rfl
      · have hevents := (State.Forwards.of_subs (s := s) (t := { s with host := s.host.passBelow x.seq }) rfl).trans
          (State.forwards_forwardEvents _ tag x (x.eventCount - x.forwarded) x.forwarded)
        split
        · exact (hevents.trans (.of_subs rfl)).trans (ih _)
        · exact hevents

theorem State.forwards_forward (s : State) : s.Forwards s.forward := by
  rw [State.forward]
  split
  · exact .refl s
  · exact State.forwards_forwardFrom _ s

/-- R322: EVENTS that are complete are answered. -/
def State.completes (s : State) (x : Submission) : Submission :=
  if x.kind = 2 ∧ x.phase = .staged ∧ s.host.passed x.seq = true ∧ s.shoal.clearTo x.seq = true then
    x.eventsDone s.start.condition.debugClass
  else x

theorem State.settleShoal_eq (s : State) : s.settleShoal = { s with
    host := { s.host.mapSubs (fun _ => s.completes) with shoalMark := s.shoalMark } } := rfl

/-- A run of forwarding changes the watermarks, the hold, the Shoal engine and what `Submission.Pumped` allows of submissions. -/
structure State.Pumps (s t : State) : Prop where
  only : t = { s with
    host := { s.host with
      subs := t.host.subs, watermark := t.host.watermark, forwardHold := t.host.forwardHold, forwardHolds := t.host.forwardHolds
      shoalMark := t.host.shoalMark }
    shoal := t.shoal }
  wf : SMap.wf none s.host.subs = true → SMap.wf none t.host.subs = true
  sub : SMap.wf none s.host.subs = true → ∀ k, Option.Rel Submission.Pumped (s.host.sub k) (t.host.sub k)

theorem State.pumps_pump (s : State) : s.Pumps s.pump := by
  have hforward := s.forwards_forward
  rw [State.pump, State.settleShoal_eq]
  refine ⟨?_, fun hw => HostPath.wf_mapSubs (hforward.wf hw) fun _ => s.forward.completes, fun hw k => ?_⟩
  · have honly := hforward.only
    revert honly
    generalize s.forward = t
    intro honly
    rw [honly]
    rfl
  · obtain ⟨n, hn⟩ := hforward.sub hw k
    have hsub := s.forward.host.sub_mapSubs (fun _ => s.forward.completes) k
    rw [hn, Option.map_map] at hsub
    change Option.Rel _ _ ((s.forward.host.mapSubs fun _ => s.forward.completes).sub k)
    rw [hsub]
    cases s.host.sub k with
    | none => exact .none
    | some x =>
      refine .some ⟨n.getD x.forwarded, ?_⟩
      rw [Function.comp_apply, State.completes]
      split
      · next h => exact .inr ⟨h.1, h.2.1, _, rfl⟩
      · exact .inl rfl

theorem State.Pumps.engines {s t : State} (h : s.Pumps t) : t.engines = s.engines := by rw [h.only]

theorem State.Pumps.ret {s t : State} (h : s.Pumps t) : t.ret = s.ret := by rw [h.only]

theorem State.Pumps.measure {s t : State} (h : s.Pumps t) : t.measure = s.measure := by rw [h.only]

theorem State.Pumps.inputFaults {s t : State} (h : s.Pumps t) : t.host.inputFaults = s.host.inputFaults := by rw [h.only]

/-- A submission held before forwarding is held after it. -/
theorem State.Pumps.some {s t : State} (h : s.Pumps t) (hw : SMap.wf none s.host.subs = true) {k : Nat} {x : Submission}
    (hx : s.host.sub k = some x) : ∃ y, t.host.sub k = some y ∧ x.Pumped y := by
  have hk := h.sub hw k
  rw [hx] at hk
  revert hk
  generalize t.host.sub k = o
  rintro ⟨⟩
  next y hy => exact ⟨y, rfl, hy⟩

theorem State.Pumps.standing {s t : State} (h : s.Pumps t) (hw : SMap.wf none s.host.subs = true) (k : Nat) :
    (t.host.sub k).map Submission.standing = (s.host.sub k).map Submission.standing := by
  have hk := h.sub hw k
  revert hk
  generalize t.host.sub k = o
  generalize s.host.sub k = o'
  rintro (h | _)
  · exact congrArg Option.some h.standing
  · rfl

/-! ### Parking (R291, R294, R433) -/

/-- What parking leaves of a submission: its record, its digest and its number stand. -/
def Submission.ParkedFrom (x y : Submission) : Prop := y = x ∨ ∃ code flags,
  y = { x.park code flags with tide := none, depart := 0, form := none }

theorem Submission.ParkedFrom.keeps {x y : Submission} (h : x.ParkedFrom y) :
    y.record = x.record ∧ y.inputDigest = x.inputDigest ∧ y.seq = x.seq := by
  obtain rfl | ⟨code, flags, rfl⟩ := h <;> exact ⟨rfl, rfl, rfl⟩

theorem State.parkStaged_eq (s : State) (st : Nat) :
    ∃ g : Nat → Submission → Submission, (∀ k x, Submission.ParkedFrom x (g k x)) ∧ s.parkStaged st = { s with host := s.host.mapSubs g } := by
  have hpark (m : BitVec 64) (code : Nat) (debug : Bool) : ∃ g : Nat → Submission → Submission, (∀ k x, Submission.ParkedFrom x (g k x)) ∧
      ({ s with host := s.host.parkWaiting m code debug } : State) = { s with host := s.host.mapSubs g } := by
    refine ⟨_, fun k x => ?_, rfl⟩
    dsimp only
    split
    · exact .inr ⟨_, _, rfl⟩
    · exact .inl rfl
  unfold State.parkStaged
  dsimp only
  split
  · exact hpark _ _ _
  split
  · exact hpark _ _ _
  split
  · exact hpark _ _ _
  · refine ⟨fun _ x => x, fun _ x => .inl rfl, ?_⟩
    simp [HostPath.mapSubs]

end Sys2Proof.Machine
end

section
/-! Record fetches, page requests, invalidations and MSI-X vectors (R156, R303, R316-R318, R327, R332, R333, R401-R403). -/

namespace Sys2Proof.Machine

/-! ### Lanes and record fetches -/

theorem Engines.inLane_laneDone (e : Engines) (tag len : Nat) : (e.laneDone tag len).inLane tag = false := by
  rw [Engines.inLane, Engines.laneDone, List.any_map, List.any_eq_false]
  intro b _
  dsimp only [Function.comp_apply]
  split
  · simp
  · next h => simpa using h

/-- R316: the record that has been fetched stands with its digest, whatever parking and forwarding do next. -/
theorem State.recorded_parked_pumped {s : State} {tag : Nat} {x : Submission} (hx : s.host.sub tag = some x)
    (hw : SMap.wf none s.host.subs = true) (e : Engines) (b : Bytes) (st : Nat) :
    let t := (({ s with engines := e, host := s.host.modSub tag fun y => y.recorded b } : State).parkStaged st).pump
    (∃ y, t.host.sub tag = some y ∧ y.record = b ∧ y.inputDigest = some (sha384 b) ∧ y.seq = x.seq) ∧ t.engines = e ∧
      t.ret = s.ret ∧ t.measure = s.measure := by
  intro t
  obtain ⟨g, hg, hpark⟩ := ({ s with engines := e, host := s.host.modSub tag fun y => y.recorded b } : State).parkStaged_eq st
  have ht : t = ({ s with engines := e, host := (s.host.modSub tag fun y => y.recorded b).mapSubs g } : State).pump := by
    change State.pump _ = _
    rw [hpark]
  have hpump := State.pumps_pump { s with engines := e, host := (s.host.modSub tag fun y => y.recorded b).mapSubs g }
  rw [← ht] at hpump
  have hsub : ((s.host.modSub tag fun y => y.recorded b).mapSubs g).sub tag = some (g tag (x.recorded b)) := by
    rw [HostPath.sub_mapSubs, HostPath.sub_modSub_same hw, hx, Option.map_some, Option.map_some]
  obtain ⟨y, hy, hxy⟩ := hpump.some (HostPath.wf_mapSubs (HostPath.wf_modSub hw _ _) g) hsub
  obtain ⟨hrec, hdig, hseq⟩ := hxy.keeps
  obtain ⟨hrec', hdig', hseq'⟩ := (hg tag (x.recorded b)).keeps
  refine ⟨⟨y, hy, hrec.trans hrec', hdig.trans hdig', hseq.trans hseq'⟩, hpump.engines, hpump.ret, hpump.measure⟩

/-! ### Page requests -/

/-- R318: a page request that succeeded begins the fetch again. -/
theorem State.startFetch_spec {s : State} {tag : Nat} {x : Submission} (hx : s.host.sub tag = some x)
    (hw : SMap.wf none s.host.subs = true) (ring : Nat) :
    (∃ y, (s.startFetch tag ring).host.sub tag = some y ∧ (y.phase = .fetching ∨ y.phase = .laneWait) ∧ y.seq = x.seq) ∧
      (s.startFetch tag ring).ret = s.ret := by
  have hsub (g : Submission → Submission) : (s.host.modSub tag g).sub tag = some (g x) :=
    (HostPath.sub_modSub_same hw tag g).trans (congrArg (Option.map g) hx)
  unfold State.startFetch
  split
  · exact ⟨⟨_, hsub _, .inl rfl, rfl⟩, rfl⟩
  · exact ⟨⟨_, hsub _, .inr rfl, rfl⟩, rfl⟩

/-- R318: INPUT_FAULT answers the submission and is counted. -/
theorem State.inputFault_spec {s : State} {tag : Nat} {x : Submission} (hx : s.host.sub tag = some x)
    (hw : SMap.wf none s.host.subs = true) :
    (∃ y, (s.inputFault tag).host.sub tag = some y ∧ y.status = some 2 ∧ y.phase = .answered ∧ y.inputDigest = none ∧ y.seq = x.seq) ∧
      (s.inputFault tag).host.inputFaults = bump s.host.inputFaults := by
  let h := s.host.modSub tag fun x => x.faultInput s.start.condition.debugClass
  have hpump := State.pumps_pump { s with host := { h with inputFaults := bump h.inputFaults } }
  have hsub : h.sub tag = some (x.faultInput s.start.condition.debugClass) := by rw [HostPath.sub_modSub_same hw, hx]; rfl
  obtain ⟨y, hy, hxy⟩ := hpump.some (HostPath.wf_modSub hw _ _) (x := x.faultInput s.start.condition.debugClass) hsub
  obtain ⟨n, rfl⟩ := hxy.of_not_staged (by rw [Submission.faultInput]; exact nofun)
  exact ⟨⟨_, hy, rfl, rfl, rfl, rfl⟩, hpump.inputFaults⟩

section
variable {s : State} {tag : BitVec 18} {x : Submission} (hx : s.host.sub tag.toNat = some x) (hw : SMap.wf none s.host.subs = true)
  (hwait : x.phase = .pageWait)
include hx hw hwait

theorem State.retryAccess_spec :
    let t := ({ s with host := s.host.endPage (.record tag) s.clock.count } : State).retryAccess (.record tag)
    (∃ y, t.host.sub tag.toNat = some y ∧ (y.phase = .fetching ∨ y.phase = .laneWait) ∧ y.seq = x.seq) ∧ t.ret = s.ret := by
  intro t
  have hsub : (s.host.endPage (.record tag) s.clock.count).sub tag.toNat = some x := hx
  have ht : t = ({ s with host := s.host.endPage (.record tag) s.clock.count } : State).startFetch tag.toNat x.ring := by
    change State.retryAccess _ _ = _
    rw [State.retryAccess]
    dsimp only
    rw [hsub]
    exact if_pos hwait
  rw [ht]
  exact State.startFetch_spec (s := { s with host := s.host.endPage (.record tag) s.clock.count }) hsub hw _

theorem State.failAccess_spec :
    let t := ({ s with host := s.host.endPage (.record tag) s.clock.count } : State).failAccess (.record tag)
    (∃ y, t.host.sub tag.toNat = some y ∧ y.status = some 2 ∧ y.phase = .answered ∧ y.inputDigest = none ∧ y.seq = x.seq) ∧
      t.host.inputFaults = bump s.host.inputFaults := by
  intro t
  have hsub : (s.host.endPage (.record tag) s.clock.count).sub tag.toNat = some x := hx
  have ht : t = ({ s with host := s.host.endPage (.record tag) s.clock.count } : State).inputFault tag.toNat := by
    change State.failAccess _ _ = _
    rw [State.failAccess]
    dsimp only
    rw [hsub]
    exact if_pos hwait
  rw [ht]
  exact State.inputFault_spec (s := { s with host := s.host.endPage (.record tag) s.clock.count }) hsub hw

end

/-! ### Invalidations (R303, R333) -/

theorem coversRange_eq_false_iff (t : Nat × Nat) (iova len : Nat) :
    coversRange t iova len = false ↔ 4096 * (t.1 + 2 ^ t.2) ≤ iova ∨ iova + len ≤ 4096 * t.1 := by
  rw [coversRange, Bool.and_eq_false_iff, decide_eq_false_iff_not, decide_eq_false_iff_not, Nat.not_lt, Nat.not_lt, or_comm]

theorem SMap.mem_of_get {α : Type} {d x : α} {m : SMap α} {k : Nat} (hget : SMap.get d m k = x) (hx : x ≠ d) : (k, x) ∈ m := by
  induction m with
  | nil => exact absurd hget.symm hx
  | cons e m ih =>
    obtain ⟨i, v⟩ := e
    rw [SMap.get_cons] at hget
    split at hget
    · next h =>
      subst h hget
      exact List.mem_cons_self
    · exact List.mem_cons_of_mem _ (ih hget)

/-- R333: an invalidation that is taken waits for every fetch that reads its range. -/
theorem HostPath.waits_invalidate {h : HostPath} (iova len : Nat) (hroom : h.invalidationsOut.length < 32) {k : Nat} {y : Submission}
    (hy : h.sub k = some y) (hfetch : y.inFetch = true) (hlow : y.inputAddr < iova + len) (hhigh : iova < y.inputAddr + y.inputLen) :
    ∃ i ∈ (h.invalidate iova len).invalidationsOut, (k, y.seq) ∈ i.waits := by
  have hmem : (k, y.seq) ∈ h.fetchesIn iova len := by
    refine List.mem_filterMap.mpr ⟨(k, some y), SMap.mem_of_get hy (by exact nofun), ?_⟩
    simp [hfetch, hlow, hhigh]
  have hsome : (h.fetchesIn iova len).isEmpty = false := by
    rw [List.isEmpty_eq_false_iff]
    exact List.ne_nil_of_mem hmem
  rw [HostPath.invalidate, if_pos hroom, hsome]
  refine ⟨⟨iova, len, h.fetchesIn iova len⟩, List.mem_filter.mpr ⟨List.mem_append_right _ List.mem_cons_self, ?_⟩, hmem⟩
  refine List.any_eq_true.mpr ⟨_, hmem, ?_⟩
  have hsub : HostPath.sub { h with
      atc := h.atc.filter fun t => !coversRange t iova len
      invalidations := h.invalidationsOut ++ [⟨iova, len, h.fetchesIn iova len⟩] } k = some y := hy
  simp [HostPath.stillFetching, hsub, hfetch]

/-! ### Vectors (R327) -/

theorem contains_filter_bne (l : List Nat) (v : Nat) : (l.filter fun x => x != v).contains v = false := by
  rw [List.contains_eq_any_beq, List.any_eq_false]
  intro x hx
  have hne := (List.mem_filter.mp hx).2
  rw [beq_iff_eq]
  rintro rfl
  simp at hne

section
variable {h : HostPath} {dma : Bool} {v : Nat} (hon : h.msixOn = true)
include hon

theorem HostPath.send_of_free (hmask : h.masked v = false) (hdma : dma = true) :
    h.send dma v = { h with msixSent := SMap.modify 0 h.msixSent v (· + 1) } := by
  rw [HostPath.send, hon, hmask, hdma]
  rfl

/-- R327: a vector that something holds back is pending. -/
theorem HostPath.send_of_held (hheld : h.masked v = true ∨ dma = false) :
    (h.send dma v).msixSent = h.msixSent ∧ (h.send dma v).msixPending.contains v = true := by
  have hcond : (h.masked v || !dma) = true := by obtain hm | hd := hheld <;> simp [*]
  rw [HostPath.send, hon, hcond]
  refine ⟨rfl, ?_⟩
  simp only [Bool.not_true, Bool.false_eq_true, if_false, if_true]
  split
  · next hmem => exact hmem
  · simp

end

/-- R327: a vector raised outside a hold-off interval is sent; its interval begins. -/
theorem State.raiseVector_of_free {s : State} {v : Nat} (hv : v < 2048) (hfree : (s.host.holding.any fun e => e.1 == v) = false) :
    ∃ l, s.raiseVector v = { s with host := { s.host.send s.dmaOk v with holding := l } } := by
  rw [State.raiseVector]
  dsimp only
  rw [if_neg (Nat.not_le.mpr hv), if_neg (by rw [hfree]; exact Bool.false_ne_true)]
  exact ⟨_, rfl⟩

theorem HostPath.send_frame (h : HostPath) (dma : Bool) (v : Nat) :
    (h.send dma v).deferred = h.deferred ∧ (h.send dma v).rings = h.rings ∧
      ∀ k, k ≠ v → SMap.get 0 (h.send dma v).msixSent k = SMap.get 0 h.msixSent k := by
  unfold HostPath.send
  split
  · exact ⟨rfl, rfl, fun _ _ => rfl⟩
  split
  · exact ⟨rfl, rfl, fun _ _ => rfl⟩
  · exact ⟨rfl, rfl, fun k hk => SMap.get_modify_ne 0 h.msixSent (· + 1) hk⟩

theorem HostPath.any_holding_filter (l : List (Nat × Nat)) (v : Nat) :
    ((l.filter fun e => e.1 != v).any fun e => e.1 == v) = false := by
  rw [List.any_eq_false]
  intro e he
  simpa using (List.mem_filter.mp he).2

/-- R327: a vector unmasked is sent where nothing holds it back. -/
theorem State.unmask_frame (s : State) (v : Nat) (hw : SMap.wf (0, 0, true) s.host.msix = true) :
    (SMap.get (0, 0, true) (s.unmask v).host.msix v).2.2 = false ∧ (s.unmask v).host.subs = s.host.subs := by
  obtain ⟨l, m, hsend⟩ := HostPath.sendPending_eq
    { s.host with msix := SMap.modify (0, 0, true) s.host.msix v fun e => (e.1, e.2.1, false) } s.dmaOk v
  rw [State.unmask]
  dsimp only
  rw [hsend]
  refine ⟨?_, rfl⟩
  change (SMap.get (0, 0, true) (SMap.modify (0, 0, true) s.host.msix v fun e => (e.1, e.2.1, false)) v).2.2 = false
  rw [SMap.get_modify _ _ _ _ _ hw, if_pos rfl]

theorem State.unmask_of_free {s : State} {v : Nat} (hw : SMap.wf (0, 0, true) s.host.msix = true) (hon : s.host.msixOn = true)
    (hpending : s.host.msixPending.contains v = true) (hmask : s.host.msixMask = false) (hdma : s.dmaOk = true) :
    (s.unmask v).host.msixSent = SMap.modify 0 s.host.msixSent v (· + 1) ∧ (s.unmask v).host.msixPending.contains v = false := by
  let h : HostPath := { s.host with msix := SMap.modify (0, 0, true) s.host.msix v fun e => (e.1, e.2.1, false) }
  have hunmasked : h.masked v = false := by
    rw [HostPath.masked, SMap.get_modify _ _ _ _ _ hw, if_pos rfl]
    simpa using hmask
  have hsend : h.sendPending s.dmaOk v =
      ({ h with msixPending := h.msixPending.filter fun x => x != v } : HostPath).send s.dmaOk v := by
    have hcond : (h.msixPending.contains v && h.msixOn && !h.masked v && s.dmaOk) = true := by
      rw [hunmasked, hdma]
      change (s.host.msixPending.contains v && s.host.msixOn && !false && true) = true
      rw [hpending, hon]
      rfl
    rw [HostPath.sendPending, if_pos hcond]
  have hfree := HostPath.send_of_free (h := { h with msixPending := h.msixPending.filter fun x => x != v }) (v := v) (dma := s.dmaOk)
    hon hunmasked hdma
  rw [State.unmask]
  change (h.sendPending s.dmaOk v).msixSent = _ ∧ (h.sendPending s.dmaOk v).msixPending.contains v = false
  rw [hsend, hfree]
  exact ⟨rfl, contains_filter_bne _ _⟩

theorem State.unmask_of_held {s : State} {v : Nat} (hheld : s.host.msixMask = true ∨ s.dmaOk = false) :
    (s.unmask v).host.msixSent = s.host.msixSent ∧ (s.unmask v).host.msixPending = s.host.msixPending := by
  have hsend := HostPath.sendPending_of_held (v := v) (dma := s.dmaOk)
    (h := { s.host with msix := SMap.modify (0, 0, true) s.host.msix v fun e => (e.1, e.2.1, false) })
    (hheld.elim (fun h => .inr (.inl (by rw [HostPath.masked, h]; rfl))) fun h => .inr (.inr h))
  rw [State.unmask]
  dsimp only
  rw [hsend]
  exact ⟨rfl, rfl⟩

/-- R327: an interval that ends with nothing deferred raises nothing; with the vector deferred, it raises it. -/
theorem exec_msixHoldoffExpiry {s : State} {vec : Fin 2048} (hover : s.host.holdoffOver vec.val s.clock.count = true) :
    exec (.msixHoldoffExpiry vec) s = .next (if s.host.deferred.contains vec.val = true then
      ({ s with host := { s.host with
        holding := s.host.holding.filter fun e => e.1 != vec.val
        deferred := s.host.deferred.filter fun v => v != vec.val } } : State).raiseVector vec.val
    else { s with host := { s.host with
        holding := s.host.holding.filter fun e => e.1 != vec.val
        deferred := s.host.deferred.filter fun v => v != vec.val } }) :=
  congrArg Host.Outcome.next (if_pos hover)

/-- Settles O27: the fetch through `State.recorded_parked_pumped`, page requests through `State.retryAccess_spec` and
`State.failAccess_spec`, invalidations through `HostPath.waits_invalidate`, vectors through `HostPath.send` and `State.unmask`. -/
theorem fetchesAndVectors : Obligations.FetchesAndVectors := by
  unfold Obligations.FetchesAndVectors
  refine ⟨fun s tag x hx hw => ⟨?fetched, fun hout hwait => ⟨?retried, ?failed, ?late, ?early⟩, fun iova len => ⟨?full, ?taken⟩⟩,
    fun s vec tee hw => ⟨?raised, ?idle, ?unmasked⟩⟩
  case fetched =>
    intro b hphase hlane hlen hdma
    obtain ⟨⟨y, hy, hrec, hdig, hseq⟩, heng, hret, hmeas⟩ :=
      State.recorded_parked_pumped hx hw (s.engines.laneDone tag.toNat b.length) b x.stream
    have hrow : exec (.recordFetchDone tag b) s = .next (({ s with
        engines := s.engines.laneDone tag.toNat b.length
        host := s.host.modSub tag.toNat fun y => y.recorded b } : State).parkStaged x.stream).pump := by
      refine congrArg Host.Outcome.next ?_
      rw [hx]
      exact if_pos ⟨hphase, hlane, hlen, hdma⟩
    exact ⟨_, y, hrow, hy, hrec, hdig, hseq, by rw [heng]; exact Engines.inLane_laneDone _ _ _, hret, hmeas⟩
  case retried =>
    obtain ⟨⟨y, hy, hphase, hseq⟩, hret⟩ := State.retryAccess_spec hx hw hwait
    have hrow : exec (.pageRequestResponse (.record tag) true) s = .next _ := congrArg Host.Outcome.next (if_pos hout)
    exact ⟨_, y, hrow, hy, hphase, hseq, hret⟩
  case failed =>
    obtain ⟨⟨y, hy, hstatus, hphase, hdig, -⟩, hcount⟩ := State.failAccess_spec hx hw hwait
    have hrow : exec (.pageRequestResponse (.record tag) false) s = .next _ := congrArg Host.Outcome.next (if_pos hout)
    exact ⟨_, y, hrow, hy, hstatus, hphase, hdig, hcount⟩
  case late =>
    intro hlate
    obtain ⟨⟨y, hy, hstatus, hphase, -, -⟩, hcount⟩ := State.failAccess_spec hx hw hwait
    have hrow : exec (.priTimeout (.record tag)) s = .next _ := congrArg Host.Outcome.next (if_pos hlate)
    exact ⟨_, y, hrow, hy, hstatus, hphase, hcount⟩
  case early =>
    intro hearly
    have hnot : s.host.pageTimedOut (.record tag) s.clock.count = false := by
      rw [HostPath.pageTimedOut, List.any_eq_false]
      intro p hp
      rw [Bool.and_eq_true, beq_iff_eq, decide_eq_true_iff]
      rintro ⟨howner, hpast⟩
      exact absurd (hearly p hp howner) (Nat.not_lt.mpr hpast)
    refine congrArg Host.Outcome.next ?_
    rw [hnot]
    rfl
  case full =>
    intro hfull
    refine congrArg Host.Outcome.next ?_
    rw [HostPath.invalidate, if_neg (Nat.not_lt.mpr hfull)]
  case taken =>
    intro hroom
    have hrow : exec (.atsInvalidation iova len) s = .next { s with host := s.host.invalidate iova.toNat len.toNat } := rfl
    refine ⟨_, hrow, ?_, fun p => ?_, fun k y hy hfetch hlow hhigh => HostPath.waits_invalidate _ _ hroom hy hfetch hlow hhigh⟩
    · rw [HostPath.invalidate, if_pos hroom]
    · rw [HostPath.invalidate, if_pos hroom, ← coversRange_eq_false_iff]
      simp
  case raised =>
    intro hover hdef hon
    rw [exec_msixHoldoffExpiry hover, if_pos hdef]
    obtain ⟨l, hraise⟩ := State.raiseVector_of_free (s := { s with host := { s.host with
      holding := s.host.holding.filter fun e => e.1 != vec.val
      deferred := s.host.deferred.filter fun v => v != vec.val } }) vec.isLt (HostPath.any_holding_filter _ _)
    rw [hraise]
    obtain ⟨hdeferred, hrings, hothers⟩ := HostPath.send_frame { s.host with
      holding := s.host.holding.filter fun e => e.1 != vec.val
      deferred := s.host.deferred.filter fun v => v != vec.val } s.dmaOk vec.val
    refine ⟨_, rfl, ?_, fun hmask hdma => ?_, fun hheld => ?_, hothers, hrings, rfl⟩
    · refine (congrArg (fun l : List Nat => l.contains vec.val) hdeferred).trans ?_
      exact contains_filter_bne _ _
    · have hsend := HostPath.send_of_free (h := { s.host with
        holding := s.host.holding.filter fun e => e.1 != vec.val
        deferred := s.host.deferred.filter fun v => v != vec.val }) (v := vec.val) (dma := s.dmaOk) hon hmask hdma
      refine (congrArg (fun h : HostPath => SMap.get 0 h.msixSent vec.val) hsend).trans ?_
      exact (SMap.get_modify 0 s.host.msixSent vec.val (· + 1) vec.val hw).trans (if_pos rfl)
    · obtain ⟨hsent, hpending⟩ := HostPath.send_of_held (h := { s.host with
        holding := s.host.holding.filter fun e => e.1 != vec.val
        deferred := s.host.deferred.filter fun v => v != vec.val }) (v := vec.val) (dma := s.dmaOk) hon hheld
      exact ⟨congrArg (fun m => SMap.get 0 m vec.val) hsent, hpending⟩
  case idle =>
    intro hover hdef
    rw [exec_msixHoldoffExpiry hover, if_neg (by rw [hdef]; exact Bool.false_ne_true)]
    exact ⟨_, rfl, rfl, HostPath.any_holding_filter _ _⟩
  case unmasked =>
    intro hreach hon hpending hmsix
    have hrow : exec (.msixVectorUnmask ⟨tee, vec⟩) s = .next (s.unmask vec.val) :=
      congrArg Host.Outcome.next (State.mmio_of_hostReaches hreach _)
    obtain ⟨hentry, hsubs⟩ := s.unmask_frame vec.val hmsix
    refine ⟨_, hrow, hentry, fun hmask hdma => ?_, State.unmask_of_held, hsubs⟩
    obtain ⟨hsent, hgone⟩ := State.unmask_of_free hmsix hon hpending hmask hdma
    refine ⟨(congrArg (fun m => SMap.get 0 m vec.val) hsent).trans ?_, hgone⟩
    exact (SMap.get_modify 0 s.host.msixSent vec.val (· + 1) vec.val hw).trans (if_pos rfl)

end Sys2Proof.Machine
end

section
/-! A held ring's entry whose fence is reached (R311). -/

namespace Sys2Proof.Machine

/-- R311: over a canonical map of rings, a ring whose fence is reached is read on from its held entry. -/
theorem exec_fenceWaitRelease_of_wf {s : State} {ring : BitVec 16} (hw : SMap.wf {} s.host.rings = true)
    (hreached : s.host.fenceReached ring.toNat = true) :
    ∃ t, exec (.fenceWaitRelease ring) s = .next t ∧
      t.host.ring ring.toNat = { s.host.ring ring.toNat with stop := .none, heldEntry := none } ∧
      t = { s with host := { s.host with rings := t.host.rings } } := by
  have hrow : exec (.fenceWaitRelease ring) s =
      .next { s with host := s.host.modRing ring.toNat fun q => { q with stop := .none, heldEntry := none } } :=
    congrArg Host.Outcome.next (if_pos hreached)
  refine ⟨_, hrow, ?_, rfl⟩
  exact (SMap.get_modify {} s.host.rings ring.toNat (fun q => { q with stop := .none, heldEntry := none }) ring.toNat hw).trans
    (if_pos rfl)

/-- Ring 0 holds an entry at a fence of value 0 and is otherwise at its default; its map holds a second entry under the same key. -/
def fencedTwice : State := { host := { rings := [(0, { stop := .fence, heldEntry := some 0 }), (0, { sqTail := 1 })] } }

/-- Refutes O26: its last clause asks that FENCE_WAIT_RELEASE leave the ring released, over every map of rings. In `fencedTwice` the
released ring is the default, which the map holds as no entry: the first entry goes, and the second one under its key, which a canonical
map cannot have, is read instead. Over a canonical map the clause is true (`exec_fenceWaitRelease_of_wf`). -/
theorem not_entriesAreSequenced : ¬ Obligations.EntriesAreSequenced := by
  unfold Obligations.EntriesAreSequenced
  intro hentries
  obtain ⟨-, -, -, -, -, -, hfence⟩ := hentries fencedTwice 0 0 rfl
  have hreached : fencedTwice.host.fenceReached 0 = true := by decide +kernel
  obtain ⟨t, ht, hring, -⟩ := hfence hreached
  have hrow : exec (.fenceWaitRelease 0) fencedTwice = .next { fencedTwice with host := { rings := [(0, { sqTail := 1 })] } } :=
    congrArg Host.Outcome.next (if_pos hreached)
  obtain rfl := Host.Outcome.next.inj (hrow.symm.trans ht)
  exact absurd (congrArg Ring.sqTail hring) (by decide)

end Sys2Proof.Machine
end

section
/-! A SCORE answer is posted: output, receipt, completion (R155, R156, R319-R327, R379-R384). -/

namespace Sys2Proof.Machine

/-! ### The completion entry (R321) -/

/-- R321: the fields of an entry that lie below its flags. -/
theorem field_completion {seq time cookie tag stream len flags tide top n : Nat} (hseq : seq < 2 ^ 64) (htime : time < 2 ^ 64)
    (hcookie : cookie < 2 ^ 32) (htag : tag < 2 ^ 18) (hstream : stream < 64) (hlen : len ≤ 4096)
    (hn : n = (seq + time * 2 ^ 64 + cookie * 2 ^ 128 + tag * 2 ^ 160 + stream * 2 ^ 178 + 0 * 2 ^ 184 + len * 2 ^ 192 +
      flags * 2 ^ 208 + tide * 2 ^ 224 + top) % 256 ^ 32) (htop : top = 2 ^ 255 ∨ top = 0) :
    field n 0 64 = seq ∧ field n 64 64 = time ∧ field n 128 32 = cookie ∧ field n 160 18 = tag ∧ field n 178 6 = stream ∧
      field n 184 8 = 0 ∧ field n 192 16 = len := by
  simp only [field, Nat.shiftRight_eq_div_pow]
  obtain rfl | rfl := htop <;> refine ⟨?_, ?_, ?_, ?_, ?_, ?_, ?_⟩ <;> omega

theorem length_completionBytes (tag : Nat) (x : Submission) (a : Answer) (phase : Bool) : (completionBytes tag x a phase).length = 32 :=
  leBytes_length _ _

theorem field_completionBytes {tag : Nat} {x : Submission} {a : Answer} {o : Bytes} (hout : x.output = some o) (hlen : o.length ≤ 4096)
    (hseq : x.seq < 2 ^ 64) (htime : x.time < 2 ^ 64) (hcookie : a.cookie < 2 ^ 32) (hstream : x.stream < 64) (htag : tag < 2 ^ 18)
    (hkind : a.kind ≠ 2) (hstatus : a.status = 0) (phase : Bool) :
    let n := leNat (completionBytes tag x a phase)
    field n 0 64 = x.seq ∧ field n 64 64 = x.time ∧ field n 128 32 = a.cookie ∧ field n 160 18 = tag ∧ field n 178 6 = x.stream ∧
      field n 184 8 = 0 ∧ field n 192 16 = o.length := by
  intro n
  refine field_completion (flags := a.flags.toNat) (tide := a.tide.getD 0 % 2 ^ 31) (top := if phase then 2 ^ 255 else 0)
    hseq htime hcookie htag hstream hlen ?_ ?_
  · change leNat (completionBytes tag x a phase) = _
    rw [completionBytes, leNat_leBytes, hstatus, if_pos rfl, if_neg hkind, hout]
    rfl
  · cases phase
    · exact .inr rfl
    · exact .inl rfl

theorem HostPath.ring_modRing_of_ne (h : HostPath) (r : Nat) {g : Ring → Ring} (hg : g (h.ring r) ≠ {}) :
    (h.modRing r g).ring r = g (h.ring r) := by
  change SMap.get {} (SMap.set {} h.rings r (g (h.ring r))) r = _
  rw [SMap.set, if_neg hg, SMap.get_insert, if_pos rfl]

/-! ### One submission on its way to its completion -/

/-- A vector raised changes only which vectors wait and which were sent. -/
theorem State.raiseVector_eq (s : State) (v : Nat) : ∃ d p m l, s.raiseVector v = { s with
    host := { s.host with deferred := d, msixPending := p, msixSent := m, holding := l } } := by
  unfold State.raiseVector
  dsimp only
  split
  · exact ⟨s.host.deferred, s.host.msixPending, s.host.msixSent, s.host.holding, rfl⟩
  split
  · exact ⟨_, s.host.msixPending, s.host.msixSent, s.host.holding, rfl⟩
  · obtain ⟨p, m, hsend⟩ := s.host.send_eq s.dmaOk v
    exact ⟨s.host.deferred, p, m, _, by rw [hsend]⟩

theorem HostPath.cache_eq (h : HostPath) (addr len : Nat) : ∃ l, h.cache addr len = { h with atc := l } := by
  unfold HostPath.cache
  split <;> exact ⟨_, rfl⟩

/-- A step of the posting of one submission: it is written under its tag and no other is, and beside it only the lanes, host memory, the
chain with its queues, the translations and the vectors may change. -/
structure State.Posting (s t : State) (tag : Nat) (y : Submission) : Prop where
  only : t = { s with
    engines := t.engines, hostMem := t.hostMem, ret := t.ret, measure := t.measure
    host := { s.host with
      subs := t.host.subs, atc := t.host.atc, deferred := t.host.deferred, msixPending := t.host.msixPending
      msixSent := t.host.msixSent, holding := t.host.holding } }
  wf : SMap.wf none t.host.subs = true
  sub : t.host.sub tag = some y
  others : s.otherSubs t tag

theorem State.Posting.refl {s : State} {tag : Nat} {x : Submission} (hw : SMap.wf none s.host.subs = true)
    (hx : s.host.sub tag = some x) : s.Posting s tag x := ⟨rfl, hw, hx, fun _ _ => rfl⟩

theorem State.Posting.trans {s t u : State} {tag : Nat} {x y : Submission} (hst : s.Posting t tag x) (htu : t.Posting u tag y) :
    s.Posting u tag y :=
  ⟨htu.only.trans (by rw [hst.only]), htu.wf, htu.sub, fun k hk => (htu.others k hk).trans (hst.others k hk)⟩

theorem State.Posting.dmaOk {s t : State} {tag : Nat} {y : Submission} (h : s.Posting t tag y) : t.dmaOk = s.dmaOk := by
  rw [h.only]
  rfl

theorem State.Posting.ring {s t : State} {tag : Nat} {y : Submission} (h : s.Posting t tag y) (r : Nat) : t.host.ring r = s.host.ring r := by
  rw [h.only]
  rfl

theorem State.Posting.od {s t : State} {tag : Nat} {y : Submission} (h : s.Posting t tag y) : t.od = s.od := by rw [h.only]

theorem State.Posting.chainHead {s t : State} {tag : Nat} {y : Submission} (h : s.Posting t tag y) (hret : t.ret = s.ret)
    (hmeas : t.measure = s.measure) : t.chainHead = s.chainHead := by
  rw [State.chainHead, State.chainHead, hret, hmeas, h.od]

theorem State.Posting.power {s t : State} {tag : Nat} {y : Submission} (h : s.Posting t tag y) : t.power = s.power := by rw [h.only]

section
variable {s : State} {tag : Nat} {x : Submission} (hx : s.host.sub tag = some x) (hw : SMap.wf none s.host.subs = true)
include hx hw

/-- A submission rewritten under its tag. -/
theorem HostPath.sub_modSub_of_some (g : Submission → Submission) : (s.host.modSub tag g).sub tag = some (g x) :=
  (HostPath.sub_modSub_same hw tag g).trans (congrArg (Option.map g) hx)

theorem State.posting_modSub (g : Submission → Submission) :
    s.Posting { s with host := s.host.modSub tag g } tag (g x) :=
  ⟨rfl, HostPath.wf_modSub hw _ _, HostPath.sub_modSub_of_some hx hw g, fun _ hk => HostPath.sub_modSub_ne _ hk _⟩

/-- R155, R156: an output whose lane is free, or that has been digested, is digested. -/
theorem State.digestOutput_of_lane
    (hlane : x.outDigested = true ∨ (s.engines.laneFree (laneOf x.ring) || s.engines.inLane tag) = true) :
    ∃ l, s.Posting (s.digestOutput tag x) tag { x with outDigested := true, outLane := l } ∧
      (s.digestOutput tag x).hostMem = s.hostMem ∧ (s.digestOutput tag x).ret = s.ret ∧
      (s.digestOutput tag x).measure = s.measure := by
  rw [State.digestOutput]
  by_cases hdig : x.outDigested = true
  · rw [if_pos hdig]
    have hsame : ({ x with outDigested := true, outLane := x.outLane } : Submission) = x := by rw [← hdig]
    exact ⟨x.outLane, by rw [hsame]; exact .refl hw hx, rfl, rfl, rfl⟩
  · rw [if_neg hdig, if_pos (hlane.resolve_left hdig)]
    obtain ⟨-, hw', hsub, hothers⟩ := State.posting_modSub hx hw fun y => { y with outDigested := true, outLane := false }
    exact ⟨false, ⟨rfl, hw', hsub, hothers⟩, rfl, rfl, rfl⟩

/-- R155: an output whose lane is busy waits for it, once. -/
theorem State.digestOutput_of_busy (hdig : x.outDigested = false)
    (hlane : (s.engines.laneFree (laneOf x.ring) || s.engines.inLane tag) = false) :
    s.Posting (s.digestOutput tag x) tag { x with outLane := true } ∧ (s.digestOutput tag x).hostMem = s.hostMem ∧
      (s.digestOutput tag x).ret = s.ret ∧ (s.digestOutput tag x).measure = s.measure ∧
      (s.digestOutput tag x).engines.laneWaits = (if x.outLane then s.engines.laneWaits else bump s.engines.laneWaits) := by
  rw [State.digestOutput]
  rw [if_neg (by rw [hdig]; exact Bool.false_ne_true), if_neg (by rw [hlane]; exact Bool.false_ne_true)]
  by_cases hout : x.outLane = true
  · rw [if_pos hout, if_pos hout]
    have hsame : ({ x with outLane := true } : Submission) = x := by rw [← hout]
    exact ⟨by rw [hsame]; exact .refl hw hx, rfl, rfl, rfl, rfl⟩
  · rw [if_neg hout, if_neg hout]
    obtain ⟨-, hw', hsub, hothers⟩ := State.posting_modSub hx hw fun y => { y with outLane := true }
    exact ⟨⟨rfl, hw', hsub, hothers⟩, rfl, rfl, rfl, rfl⟩

/-- R319: an output whose address translates is written there. -/
theorem State.writeOutput_of_translated {o : Bytes} (z : Submission) (hz : z.output = some o)
    (haddr : z.outputAddr = x.outputAddr) :
    s.Posting (s.writeOutput tag z true) tag { x with outWritten := true, outPending := false } ∧
      (s.writeOutput tag z true).hostMem = storeBytes s.hostMem x.outputAddr o ∧
      (s.writeOutput tag z true).ret = s.ret ∧ (s.writeOutput tag z true).measure = s.measure := by
  obtain ⟨-, hw', hsub, hothers⟩ := State.posting_modSub hx hw fun y => { y with outWritten := true, outPending := false }
  have hwrite : s.writeOutput tag z true = { s with
      hostMem := storeBytes s.hostMem x.outputAddr o
      host := (s.host.modSub tag fun y => { y with outWritten := true, outPending := false }).cache x.outputAddr o.length } := by
    rw [State.writeOutput, hz, haddr]
    rfl
  obtain ⟨l, hcache⟩ := (s.host.modSub tag fun y => { y with outWritten := true, outPending := false }).cache_eq x.outputAddr o.length
  rw [hwrite, hcache]
  exact ⟨⟨rfl, hw', hsub, hothers⟩, rfl, rfl, rfl⟩

end

/-! ### The receipt (R383, R384, R389) -/

/-- A receipt made and queued, the chain's head over it. -/
def State.withReceipt (s : State) (r : Bytes) (head : Digest) (flags : BitVec 6) (holds : Nat) : State :=
  { s with
    ret := { s.ret with receiptsMade := s.ret.receiptsMade + 1, liveHead := head }
    measure := { s.measure with
      receipts := s.measure.receipts ++ [r], sinceCut := s.measure.sinceCut + 1, flagsOr := s.measure.flagsOr ||| flags
      receiptHolds := holds } }

/-- A receipt made that no count cut follows. -/
theorem State.makeReceipt_of_lt {s : State} (hcount : s.measure.sinceCut + 1 < s.ret.ckptCount) (x : Submission) (a : Answer) :
    let r := receiptBytes x a s.chainHead (if a.tide.isSome then a.generation else s.ret.generation)
    ∃ holds, s.makeReceipt x a = s.withReceipt r (sha384 (digestBytes s.chainHead ++ r)) a.flags holds := by
  rw [State.makeReceipt]
  dsimp only
  rw [if_neg (Nat.not_le.mpr hcount)]
  exact ⟨_, rfl⟩

/-- R379, R391, R575: an answer without a receipt takes the next. -/
theorem State.giveReceipt_eq {s : State} {a : Answer} (hno : a.receiptNo = none) (hmay : s.mayReceipt = true)
    (hcount : s.measure.sinceCut + 1 < s.ret.ckptCount) (tag : Nat) (z : Submission) :
    let f := s.receiptFlags a.flags
    let r := receiptBytes z { a with flags := f } s.chainHead (if a.tide.isSome then a.generation else s.ret.generation)
    ∃ holds, s.giveReceipt tag z a = { s.withReceipt r (sha384 (digestBytes s.chainHead ++ r)) f holds with
      host := s.host.modSub tag fun y => y.setAnswer (some s.ret.receiptsMade) f a.held } := by
  intro f r
  obtain ⟨holds, hmake⟩ := State.makeReceipt_of_lt hcount z { a with flags := f }
  refine ⟨holds, ?_⟩
  rw [State.giveReceipt, if_neg (by rw [hno, hmay]; simp)]
  dsimp only
  rw [hmake]
  rfl

/-- R389: the one queued receipt written into the next slot of its ring. -/
theorem State.flushReceipts_singleton {s : State} {r : Bytes} (hqueue : s.measure.receipts = [r])
    (hready : s.measure.receiptRing.ready = true) (hdma : s.dmaOk = true) :
    ∃ d p m l ring, s.flushReceipts true = { s with
      hostMem := storeBytes s.hostMem (s.measure.receiptRing.slot 160) r
      measure := { s.measure with receiptRing := ring, receipts := [] }
      ret := { s.ret with
        receiptsWritten := s.ret.receiptsWritten + 1
        headWritten := sha384 (digestBytes s.ret.headWritten ++ r) }
      host := { s.host with deferred := d, msixPending := p, msixSent := m, holding := l } } := by
  have hopen : (!s.measure.receiptRing.ready || !s.dmaOk) = false := by rw [hready, hdma]; rfl
  rw [State.flushReceipts, hqueue, State.flushReceiptsFrom]
  dsimp only
  rw [if_neg (by rw [hopen]; exact Bool.false_ne_true), if_neg (by decide)]
  obtain ⟨d, p, m, l, hraise⟩ := ({ s with
    hostMem := storeBytes s.hostMem (s.measure.receiptRing.slot 160) r
    measure := { s.measure with receiptRing := { s.measure.receiptRing with tail := s.measure.receiptRing.tail + 1 } }
    ret := { s.ret with
      receiptsWritten := s.ret.receiptsWritten + 1
      headWritten := sha384 (digestBytes s.ret.headWritten ++ r) } } : State).raiseVector_eq s.measure.receiptRing.vector.toNat
  exact ⟨d, p, m, l, _, by rw [hraise]; rfl⟩

/-- A submission whose receipt has been made, with the flags that it carries (R320, R575). -/
def Submission.receipted (x : Submission) (n : Nat) (flags : BitVec 6) : Submission := { x with receiptNo := some n, flags := flags }

theorem Submission.setAnswer_of_unowed {x : Submission} (howed : x.owed = []) (n : Nat) (flags : BitVec 6) :
    x.setAnswer (some n) flags x.held = x.receipted n flags := by
  simp only [Submission.setAnswer, Submission.receipted, howed]

section
variable {s : State} {tag : Nat} {x : Submission} (hx : s.host.sub tag = some x) (hw : SMap.wf none s.host.subs = true)
include hx hw

/-- R383, R389: a receipt just made, alone in its queue, is written into its ring. -/
theorem State.withReceipt_flushed (howed : x.owed = []) (hqueue : s.measure.receipts = [])
    (hready : s.measure.receiptRing.ready = true) (hdma : s.dmaOk = true) {held : Bool} (hheld : held = x.held) (r : Bytes)
    (head : Digest) (f : BitVec 6) (holds n : Nat) :
    let t := ({ s.withReceipt r head f holds with
      host := s.host.modSub tag fun y => y.setAnswer (some n) f held } : State).flushReceipts true
    s.Posting t tag (x.receipted n f) ∧ t.hostMem = storeBytes s.hostMem (s.measure.receiptRing.slot 160) r ∧
      t.ret.receiptsMade = s.ret.receiptsMade + 1 ∧ t.ret.receiptsWritten = s.ret.receiptsWritten + 1 ∧
      t.ret.liveHead = head ∧ t.measure.receipts = [] ∧ t.measure.mrs = s.measure.mrs := by
  intro t
  subst hheld
  obtain ⟨-, hw', hsub, hothers⟩ := State.posting_modSub hx hw fun y => y.setAnswer (some n) f x.held
  rw [Submission.setAnswer_of_unowed howed] at hsub
  have hsingle : (s.withReceipt r head f holds).measure.receipts = [r] := by rw [State.withReceipt, hqueue]; rfl
  obtain ⟨d, p, m, l, ring, hflush⟩ := State.flushReceipts_singleton (s := { s.withReceipt r head f holds with
    host := s.host.modSub tag fun y => y.setAnswer (some n) f x.held }) hsingle hready hdma
  have ht : t = _ := hflush
  rw [ht]
  exact ⟨⟨rfl, hw', hsub, hothers⟩, rfl, rfl, rfl, rfl, rfl, rfl⟩

end

/-! ### The completion (R320-R327) -/

/-- R320, R327: an answer that signals no fence raises at most a vector. -/
theorem State.signal_of_unfenced (s : State) {a : Answer} (hfence : a.fenceSignal = none) (vector : Nat) :
    ∃ d p m l, s.signal a vector = { s with
      host := { s.host with deferred := d, msixPending := p, msixSent := m, holding := l } } := by
  rw [State.signal, hfence]
  dsimp only
  split
  · exact ⟨s.host.deferred, s.host.msixPending, s.host.msixSent, s.host.holding, rfl⟩
  · exact s.raiseVector_eq vector

/-- An entry of a completion queue written, and the submission's tag free. -/
def State.posted (s : State) (tag ring : Nat) (b : Bytes) (atc : List (Nat × Nat)) : State :=
  { s with
    hostMem := storeBytes s.hostMem ((s.host.ring ring).cqBase.toNat + 32 * (s.host.ring ring).cqTail) b
    host := { s.host.modRing ring fun q => { q with cqTail := (q.cqTail + 1) % q.depth, posted := q.posted + 1 } with
      atc := atc, subs := SMap.set none s.host.subs tag none } }

/-- R325, R326: an answer that is not parked goes into a ring with room. -/
theorem State.postEntry_eq {s : State} {tag : Nat} {x : Submission} {a : Answer} (howed : x.owed = []) (hpark : x.parked = false)
    (hstop : (s.host.ring a.ring).cqStop = .none) (hroom : (s.host.ring a.ring).cqFull = false) :
    ∃ phase l, s.postEntry tag x a true =
      ((s.posted tag a.ring (completionBytes tag x a phase) l).signal a (s.host.ring a.ring).vector.toNat).settleClose := by
  obtain ⟨l, hcache⟩ := (s.host.modRing a.ring fun q => { q with cqTail := (q.cqTail + 1) % q.depth, posted := q.posted + 1 }).cache_eq
    ((s.host.ring a.ring).cqBase.toNat + 32 * (s.host.ring a.ring).cqTail) 32
  refine ⟨(s.host.ring a.ring).posted / (s.host.ring a.ring).depth % 2 == 0, l, ?_⟩
  rw [State.postEntry]
  dsimp only
  rw [if_neg (by rw [hstop, hroom]; simp), if_neg (by decide), hcache, HostPath.afterPost, howed, State.posted]
  generalize completionBytes tag x a _ = b
  dsimp only
  rw [if_neg (by rw [hpark]; exact Bool.false_ne_true)]
  rfl

/-- R320-R327: a completion posted to a ring with room frees the tag of an answer that is not parked. -/
theorem State.postEntry_of_room {s : State} {tag : Nat} {x : Submission} (hw : SMap.wf none s.host.subs = true) {a : Answer}
    (howed : x.owed = []) (hpark : x.parked = false) (hfence : a.fenceSignal = none) (hstop : (s.host.ring a.ring).cqStop = .none)
    (hroom : (s.host.ring a.ring).cqFull = false) (hsession : s.od.session = 1) :
    let q := s.host.ring a.ring
    let t := s.postEntry tag x a true
    ∃ phase, t.hostMem = storeBytes s.hostMem (q.cqBase.toNat + 32 * q.cqTail) (completionBytes tag x a phase) ∧
      t.host.sub tag = none ∧ s.otherSubs t tag ∧ (t.host.ring a.ring).cqTail = (q.cqTail + 1) % q.depth ∧ t.ret = s.ret ∧
      t.measure = s.measure := by
  intro q t
  obtain ⟨phase, l, hpost⟩ := State.postEntry_eq (tag := tag) howed hpark hstop hroom
  refine ⟨phase, ?_⟩
  have ht : t = _ := hpost
  clear_value t
  revert ht
  generalize completionBytes tag x a phase = b
  intro ht
  obtain ⟨d, u, v, w, hsignal⟩ := (s.posted tag a.ring b l).signal_of_unfenced hfence (s.host.ring a.ring).vector.toNat
  rw [hsignal, State.settleClose_of_open (by exact hsession)] at ht
  have hring := HostPath.ring_modRing_of_ne s.host a.ring (g := fun q => { q with cqTail := (q.cqTail + 1) % q.depth, posted := q.posted + 1 })
    fun h => Nat.succ_ne_zero _ (congrArg Ring.posted h)
  rw [ht]
  exact ⟨rfl, SMap.get_set_same none s.host.subs tag none hw, fun k hk => SMap.get_set_ne none s.host.subs none hk,
    congrArg Ring.cqTail hring, rfl, rfl⟩

/-! ### The whole answer -/

/-- R319: an answer whose output is still to be written goes through its lane first. -/
theorem State.post_of_owesOutput {s : State} {tag : Nat} {x : Submission} (hx : s.host.sub tag = some x) (hdma : s.dmaOk = true)
    (hnext : x.nextAnswer ≠ none) (hpending : x.outPending = false) (horder : s.host.inOrder x = true) (howes : x.owesOutput = true)
    (tr : PostTranslation) :
    s.post tag tr =
      if (((s.digestOutput tag x).host.sub tag).map (·.outDigested)).getD false = true then
        if ((((s.digestOutput tag x).writeOutput tag x tr.output).host.sub tag).map (·.outPending)).getD true = true then
          (s.digestOutput tag x).writeOutput tag x tr.output
        else ((s.digestOutput tag x).writeOutput tag x tr.output).postAnswer tag tr
      else s.digestOutput tag x := by
  rw [State.post, hx]
  dsimp only
  rw [if_neg (by rw [hdma, hpending, horder]; simpa using hnext), if_pos howes]

/-- R320: receipt and completion of an answer whose receipt goes out at once. -/
theorem State.postAnswer_eq {s : State} {tag : Nat} {y z : Submission} {a b : Answer} {tr : PostTranslation}
    (hy : s.host.sub tag = some y) (ha : y.nextAnswer = some a)
    (hz : ((s.giveReceipt tag y a).flushReceipts tr.receipt).host.sub tag = some z) (hb : z.nextAnswer = some b)
    (hout : ((s.giveReceipt tag y a).flushReceipts tr.receipt).receiptOut b = true) :
    s.postAnswer tag tr = ((s.giveReceipt tag y a).flushReceipts tr.receipt).postEntry tag z b tr.completion := by
  rw [State.postAnswer, hy]
  dsimp only
  rw [ha]
  dsimp only
  rw [hz]
  dsimp only
  rw [hb]
  dsimp only
  rw [if_pos hout]

/-- A submission whose output has been digested and written. -/
def Submission.outputOut (x : Submission) (lane : Bool) : Submission :=
  { x with outDigested := true, outLane := lane, outWritten := true, outPending := false }

theorem Submission.nextAnswer_of_answered {x : Submission} (howed : x.owed = []) (hphase : x.phase = .answered) :
    x.nextAnswer = x.answerOf := by
  rw [Submission.nextAnswer, howed]
  exact if_pos hphase

theorem receiptBytes_outputOut (x : Submission) (lane : Bool) (a : Answer) (link : Digest) (gen : Nat) :
    receiptBytes (x.outputOut lane) a link gen = receiptBytes x a link gen := rfl

theorem Submission.answerOf_receipted {x : Submission} {a : Answer} (ha : x.answerOf = some a) (n : Nat) (f : BitVec 6) :
    (x.receipted n f).answerOf = some { a with receiptNo := some n, flags := f } := by
  obtain ⟨c, hc, rfl⟩ := Option.map_eq_some_iff.mp ha
  rw [Submission.answerOf, Submission.receipted, hc]
  rfl

/-- The octets of three areas of host memory in ascending order, written one after another, stand, and no other octet changes. -/
theorem readByte_store_three (m : List Host.Cell) {a b c : Nat} {p q r : Bytes} (hab : a + p.length ≤ b) (hbc : b + q.length ≤ c) :
    let n := storeBytes (storeBytes (storeBytes m a p) b q) c r
    (∀ i, i < p.length → readByte n (a + i) = p[i]?) ∧ (∀ i, i < q.length → readByte n (b + i) = q[i]?) ∧
      (∀ i, i < r.length → readByte n (c + i) = r[i]?) ∧
      ∀ k, (k < a ∨ a + p.length ≤ k) → (k < b ∨ b + q.length ≤ k) → (k < c ∨ c + r.length ≤ k) → readByte n k = readByte m k := by
  intro n
  refine ⟨fun i hi => ?_, fun i hi => ?_, fun i hi => readByte_storeBytes_in _ _ _ _ hi, fun k ha hb hc => ?_⟩
  · rw [readByte_storeBytes_out _ _ _ _ (by omega), readByte_storeBytes_out _ _ _ _ (by omega), readByte_storeBytes_in _ _ _ _ hi]
  · rw [readByte_storeBytes_out _ _ _ _ (by omega), readByte_storeBytes_in _ _ _ _ hi]
  · rw [readByte_storeBytes_out _ _ _ _ hc, readByte_storeBytes_out _ _ _ _ hb, readByte_storeBytes_out _ _ _ _ ha]

section
variable {s : State} {tag : Nat} {x : Submission} {a : Answer} (hx : s.host.sub tag = some x) (hw : SMap.wf none s.host.subs = true)
  (ha : x.answerOf = some a) (hphase : x.phase = .answered) (howed : x.owed = []) (hdma : s.dmaOk = true)
include hx hw ha hphase howed hdma

/-- R155, R156, R319: the output of an answer is digested and written before its receipt is made. -/
theorem State.post_output {o : Bytes} (hkind : x.kind = 1) (hstatus : x.status = some 0) (hout : x.output = some o)
    (hwritten : x.outWritten = false) (hpending : x.outPending = false) (horder : s.host.inOrder x = true)
    (hlane : x.outDigested = true ∨ (s.engines.laneFree (laneOf x.ring) || s.engines.inLane tag) = true) :
    ∃ t l, s.post tag ⟨true, true, true⟩ = t.postAnswer tag ⟨true, true, true⟩ ∧ s.Posting t tag (x.outputOut l) ∧
      t.hostMem = storeBytes s.hostMem x.outputAddr o ∧ t.ret = s.ret ∧ t.measure = s.measure := by
  have hnext : x.nextAnswer = some a := (Submission.nextAnswer_of_answered howed hphase).trans ha
  have howes : x.owesOutput = true := by simp [Submission.owesOutput, howed, hstatus, hkind, hwritten]
  obtain ⟨l, hdig, hmem1, hret1, hmeas1⟩ := State.digestOutput_of_lane hx hw hlane
  obtain ⟨hwrite, hmem2, hret2, hmeas2⟩ := State.writeOutput_of_translated hdig.sub hdig.wf x hout rfl
  refine ⟨_, l, ?_, hdig.trans hwrite, hmem2.trans (by rw [hmem1]), hret2.trans hret1, hmeas2.trans hmeas1⟩
  rw [State.post_of_owesOutput hx hdma (by rw [hnext]; exact Option.some_ne_none a) hpending horder howes ⟨true, true, true⟩,
    if_pos (by rw [hdig.sub]; rfl), if_neg (by rw [hwrite.sub]; exact Bool.false_ne_true)]

/-- R320-R327, R379-R384, R389: the receipt of an answer is made and written, then its completion is posted and its tag is free. -/
theorem State.postAnswer_spec (hno : x.receiptNo = none) (hpark : x.parked = false) (hfence : x.fenceSignal = none)
    (hmay : s.mayReceipt = true) (hqueue : s.measure.receipts = []) (hready : s.measure.receiptRing.ready = true)
    (hcaught : s.ret.receiptsWritten = s.ret.receiptsMade) (hcount : s.measure.sinceCut + 1 < s.ret.ckptCount)
    (hsession : s.od.session = 1) (hstop : (s.host.ring x.ring).cqStop = .none) (hroom : (s.host.ring x.ring).cqFull = false) :
    let q := s.host.ring x.ring
    let f := s.receiptFlags a.flags
    let r := receiptBytes x { a with flags := f } s.chainHead (if a.tide.isSome then a.generation else s.ret.generation)
    let t := s.postAnswer tag ⟨true, true, true⟩
    ∃ phase, t.hostMem = storeBytes (storeBytes s.hostMem (s.measure.receiptRing.slot 160) r) (q.cqBase.toNat + 32 * q.cqTail)
        (completionBytes tag (x.receipted s.ret.receiptsMade f) { a with receiptNo := some s.ret.receiptsMade, flags := f } phase) ∧
      t.host.sub tag = none ∧ s.otherSubs t tag ∧ (t.host.ring x.ring).cqTail = (q.cqTail + 1) % q.depth ∧
      t.ret.receiptsMade = s.ret.receiptsMade + 1 ∧ t.ret.receiptsWritten = s.ret.receiptsMade + 1 ∧
      t.ret.liveHead = sha384 (digestBytes s.chainHead ++ r) ∧ t.measure.receipts = [] ∧ t.measure.mrs = s.measure.mrs := by
  intro q f r t
  obtain ⟨c, -, hc⟩ := Option.map_eq_some_iff.mp ha
  have hanone : a.receiptNo = none := by rw [← hc]; exact hno
  have hahead : a.held = x.held := by rw [← hc]
  have haring : a.ring = x.ring := by rw [← hc]
  have hafence : a.fenceSignal = none := by rw [← hc]; exact hfence
  obtain ⟨holds, hgive⟩ := State.giveReceipt_eq hanone hmay hcount tag x
  obtain ⟨hstep, hmem, hmade, hwrote, hhead, hreceipts, hmrs⟩ := State.withReceipt_flushed hx hw howed hqueue hready hdma hahead r
    (sha384 (digestBytes s.chainHead ++ r)) f holds s.ret.receiptsMade
  rw [← hgive] at hstep hmem hmade hwrote hhead hreceipts hmrs
  have hnext : (x.receipted s.ret.receiptsMade f).nextAnswer = some { a with receiptNo := some s.ret.receiptsMade, flags := f } :=
    (Submission.nextAnswer_of_answered (x := x.receipted _ _) howed hphase).trans (Submission.answerOf_receipted ha _ _)
  have ht : t = _ := State.postAnswer_eq (tr := ⟨true, true, true⟩) hx ((Submission.nextAnswer_of_answered howed hphase).trans ha)
    hstep.sub hnext (by
      change decide (s.ret.receiptsMade < _) = true
      rw [hwrote, hcaught, decide_eq_true_iff]
      exact Nat.lt_succ_self _)
  obtain ⟨phase, hmem', hsub, hothers, htail, hret, hmeas⟩ := State.postEntry_of_room (tag := tag)
    (x := x.receipted s.ret.receiptsMade f) (a := { a with receiptNo := some s.ret.receiptsMade, flags := f })
    hstep.wf howed hpark hafence (by rw [haring, hstep.ring]; exact hstop) (by rw [haring, hstep.ring]; exact hroom)
    (by rw [hstep.od]; exact hsession)
  rw [← ht] at hmem' hsub hothers htail hret hmeas
  dsimp only at hmem' htail
  rw [haring, hstep.ring] at hmem' htail
  refine ⟨phase, hmem'.trans (congrArg (fun m => storeBytes m _ _) hmem), hsub, fun k hk => (hothers k hk).trans (hstep.others k hk), htail, ?_, ?_, ?_, ?_, ?_⟩
  · rw [hret, hmade]
  · rw [hret, hwrote, hcaught]
  · rw [hret, hhead]
  · rw [hmeas, hreceipts]
  · rw [hmeas, hmrs]

end

/-- Settles O28: a busy lane through `State.digestOutput_of_busy`; otherwise the output is digested and written by `State.post_output`,
receipt and completion by `State.postAnswer_spec`, and the three areas of host memory stand apart. -/
theorem completionsFollowReceipts : Obligations.CompletionsFollowReceipts := by
  unfold Obligations.CompletionsFollowReceipts
  intro s tag x a o hx hw ha hkind hstatus hphase howed hout hwritten hpending hno hpark hfence hlen hseq htime hcookie hstream hdma
    horder hmay hqueue hready hcaught hcount hsession lane
  have hexec : exec (.completionPost tag ⟨true, true, true⟩) s = .next (s.post tag.toNat ⟨true, true, true⟩) := rfl
  rw [hexec]
  refine ⟨fun hdig hlane => ?busy, fun hlane => ?out⟩
  case busy =>
    have hnext : x.nextAnswer = some a := (Submission.nextAnswer_of_answered howed hphase).trans ha
    have howes : x.owesOutput = true := by simp [Submission.owesOutput, howed, hstatus, hkind, hwritten]
    obtain ⟨hstep, hmem, hret, hmeas, hwaits⟩ := State.digestOutput_of_busy hx hw hdig hlane
    rw [State.post_of_owesOutput hx hdma (by rw [hnext]; exact Option.some_ne_none a) hpending horder howes ⟨true, true, true⟩]
    refine ⟨_, { x with outLane := true }, congrArg Host.Outcome.next (if_neg ?_), hstep.sub, rfl, hstep.others, hmem, hret, hmeas, hwaits⟩
    rw [hstep.sub]
    exact ne_true_of_eq_false hdig
  case out =>
    intro q ev cq r hstop hroom hr160 hoev hevcq
    obtain ⟨u, l, hpost, hu, hmem, hret, hmeas⟩ :=
      State.post_output hx hw ha hphase howed hdma hkind hstatus hout hwritten hpending horder hlane
    have hflags : u.receiptFlags a.flags = s.receiptFlags a.flags := by rw [State.receiptFlags, hu.power, State.receiptFlags]
    have hstatus' : a.status = 0 := by
      rw [Submission.answerOf, hstatus] at ha
      rw [← Option.some.inj ha]
    obtain ⟨c, -, hc⟩ := Option.map_eq_some_iff.mp ha
    have hcookie' : a.cookie < 2 ^ 32 := by rw [← hc]; exact hcookie
    have hcookie'' : a.cookie = x.cookie := by rw [← hc]
    have hkind' : a.kind ≠ 2 := by rw [← hc]; exact fun h => absurd (hkind.symm.trans h) (by decide)
    obtain ⟨phase, hmem', hsub, hothers, htail, hmade, hwrote, hhead, hreceipts, hmrs⟩ :=
      State.postAnswer_spec hu.sub hu.wf (a := a) ha hphase howed (by rw [hu.dmaOk]; exact hdma) hno hpark hfence
        (by rw [State.mayReceipt, hmeas]; exact hmay) (by rw [hmeas]; exact hqueue) (by rw [hmeas]; exact hready)
        (by rw [hret]; exact hcaught) (by rw [hmeas, hret]; exact hcount) (by rw [hu.od]; exact hsession)
        (by rw [hu.ring]; exact hstop) (by rw [hu.ring]; exact hroom)
    rw [hu.chainHead hret hmeas, hflags, hret, receiptBytes_outputOut, hmeas, hmem, hu.ring] at hmem'
    rw [hu.ring] at htail
    rw [hret] at hmade hwrote
    rw [hu.chainHead hret hmeas, hflags, hret, receiptBytes_outputOut] at hhead
    rw [hmeas] at hmrs
    have hput : (x.receipted s.ret.receiptsMade (s.receiptFlags a.flags)).output = some o := hout
    obtain ⟨hf1, hf2, hf3, hf4, hf5, hf6, hf7⟩ := field_completionBytes (tag := tag.toNat)
      (x := (x.outputOut l).receipted s.ret.receiptsMade (s.receiptFlags a.flags))
      (a := { a with receiptNo := some s.ret.receiptsMade, flags := s.receiptFlags a.flags }) hput hlen hseq htime hcookie' hstream
      tag.isLt hkind' hstatus' phase
    have hblen := length_completionBytes tag.toNat ((x.outputOut l).receipted s.ret.receiptsMade (s.receiptFlags a.flags))
      { a with receiptNo := some s.ret.receiptsMade, flags := s.receiptFlags a.flags } phase
    revert hmem' hf1 hf2 hf3 hf4 hf5 hf6 hf7 hblen
    generalize completionBytes tag.toNat _ _ phase = b
    intro hmem' hf1 hf2 hf3 hf4 hf5 hf6 hf7 hblen
    obtain ⟨h1, h2, h3, h4⟩ := readByte_store_three s.hostMem (p := o) (q := r) (r := b) (a := x.outputAddr) (b := ev.slot 160) (c := cq)
      hoev (by rw [hr160]; exact hevcq)
    have hthree : (u.postAnswer tag.toNat ⟨true, true, true⟩).hostMem =
        storeBytes (storeBytes (storeBytes s.hostMem x.outputAddr o) (ev.slot 160) r) cq b := hmem'
    rw [hr160, hblen] at h4
    rw [← hthree, ← hpost] at h1 h2 h3 h4
    rw [← hpost] at hsub hothers htail hmade hwrote hhead hreceipts hmrs
    exact ⟨_, b, rfl, h1, h2, h3, hblen, hf1, hf2, hf3.trans hcookie'', hf4, hf5, hf6, hf7, h4, hsub,
      fun k hk => (hothers k hk).trans (hu.others k hk), htail, hmade, hwrote, hhead, hreceipts, hmrs⟩

end Sys2Proof.Machine
end

section
/-! Samples, sleep, images and snapshots of the Shoal engine (R353, R354, R357, R359-R362). -/

namespace Sys2Proof.Machine

/-! ### A byte string of equal parts -/

theorem slice_append_of_le {a : Bytes} (b : Bytes) {off len : Nat} (h : off + len ≤ a.length) : slice (a ++ b) off len = slice a off len := by
  rw [slice, slice, List.drop_append_of_le_length (by omega), List.take_append_of_le_length (by rw [List.length_drop]; omega)]

/-- A range within one of many parts of equal length is that part's. -/
theorem slice_flatMap {α : Type} {f : α → Bytes} {n : Nat} {l : List α} (hf : ∀ x ∈ l, (f x).length = n) {p : Nat} {e : α}
    (he : l[p]? = some e) {off len : Nat} (h : off + len ≤ n) : slice (l.flatMap f) (n * p + off) len = slice (f e) off len := by
  induction l generalizing p with
  | nil => exact nomatch he
  | cons x l ih =>
    have hx : (f x).length = n := hf x List.mem_cons_self
    rw [List.flatMap_cons]
    cases p with
    | zero =>
      obtain rfl : x = e := by simpa using he
      rw [Nat.mul_zero, Nat.zero_add, slice_append_of_le _ (by omega)]
    | succ p =>
      rw [Nat.mul_succ, Nat.add_right_comm, Nat.add_comm (n * p + off), ← hx, slice_append_right, hx]
      exact ih (fun y hy => hf y (List.mem_cons_of_mem _ hy)) (by simpa using he)

theorem length_flatMap_of_length {α : Type} {f : α → Bytes} {n : Nat} {l : List α} (hf : ∀ x ∈ l, (f x).length = n) :
    (l.flatMap f).length = n * l.length := by
  rw [List.length_flatMap, List.map_congr_left hf, List.map_const', List.sum_replicate, smul_eq_mul, Nat.mul_comm]

theorem leNat_replicate_zero (n : Nat) : leNat (List.replicate n 0) = 0 := by
  induction n with
  | zero => rfl
  | succ n ih =>
    rw [List.replicate_succ]
    change (0 : Byte).toNat + 256 * leNat (List.replicate n 0) = 0
    rw [ih]
    rfl

/-! ### Samples (R353, R354) -/

theorem Shoal.length_sampleEvent (h : Shoal) (e : ShoalEvent) : (h.sampleEvent e).1.length = 40 := by
  unfold Shoal.sampleEvent
  split
  · exact length_flatMap_of_length fun _ _ => leBytes_length 5 _
  · exact List.length_replicate

/-- R354: channel `k` of one sampled event. -/
theorem Shoal.leField_sampleEvent (h : Shoal) (e : ShoalEvent) {k : Nat} (hk : k < 8) :
    leNat (slice (h.sampleEvent e).1 (5 * k) 5) =
      if h.valid e then twos 40 ((h.cluster e.target).leakedTo ((h.cluster e.target).record (nidIndex e.nid)) e.time k) else 0 := by
  unfold Shoal.sampleEvent
  split
  · have hget : ((h.cluster e.target).leaked ((h.cluster e.target).record (nidIndex e.nid)) e.time)[k]? =
        some ((h.cluster e.target).leakedTo ((h.cluster e.target).record (nidIndex e.nid)) e.time k) := by
      rw [Cluster.leaked, List.getElem?_map, List.getElem?_range hk]
      rfl
    have hpart := slice_flatMap (f := fun v => leBytes 5 (twos 40 v)) (fun _ _ => leBytes_length 5 _) hget (off := 0) (len := 5) (by decide)
    dsimp only
    rw [← Nat.add_zero (5 * k), hpart]
    have hwhole := slice_all (leBytes 5 (twos 40 ((h.cluster e.target).leakedTo ((h.cluster e.target).record (nidIndex e.nid)) e.time k)))
    rw [leBytes_length] at hwhole
    rw [hwhole, leNat_leBytes]
    exact Nat.mod_eq_of_lt (twos_lt 40 _)
  · dsimp only
    rw [slice, List.drop_replicate, List.take_replicate, leNat_replicate_zero]

theorem Shoal.tag_sampleEvent (h : Shoal) (e : ShoalEvent) :
    (h.sampleEvent e).2 = (h.valid e && bit ((h.cluster e.target).record (nidIndex e.nid)) 420) := by
  unfold Shoal.sampleEvent
  split
  · next hv => rw [hv, Bool.true_and]
  · next hv => rw [Bool.not_eq_true] at hv; rw [hv, Bool.false_and]

/-- R349: an event carries its submission's time. -/
theorem stampedEvent_time (record : Bytes) (e time seq : Nat) : (stampedEvent record e time seq).time = time := rfl

/-- R353, R354: the sample of a submission: forty octets of each SAMPLE event in record order. -/
theorem Shoal.sampleOf_spec (h : Shoal) (x : Submission) :
    let l := ((List.range x.eventCount).map fun k => stampedEvent x.record k x.time x.seq).filter (·.sample)
    (h.sampleOf x).1.length = 40 * l.length ∧
      (∀ p e k, l[p]? = some e → k < 8 → leField (h.sampleOf x).1 (40 * p + 5 * k) 5 =
        if h.valid e then twos 40 ((h.cluster e.target).leakedTo ((h.cluster e.target).record (nidIndex e.nid)) x.time k) else 0) ∧
      (h.sampleOf x).2 = l.any fun e => h.valid e && bit ((h.cluster e.target).record (nidIndex e.nid)) 420 := by
  intro l
  have hbytes : (h.sampleOf x).1 = l.flatMap fun e => (h.sampleEvent e).1 := List.flatMap_map _ _ _
  refine ⟨?_, fun p e k he hk => ?_, ?_⟩
  · rw [hbytes]
    exact length_flatMap_of_length fun e _ => h.length_sampleEvent e
  · have htime : e.time = x.time := by
      obtain ⟨i, -, rfl⟩ := List.mem_map.mp (List.mem_filter.mp (List.mem_of_getElem? he)).1
      rfl
    rw [leField, hbytes, slice_flatMap (fun e _ => h.length_sampleEvent e) he (by omega), h.leField_sampleEvent e hk, htime]
  · change (l.map h.sampleEvent).any (·.2) = _
    rw [List.any_map]
    exact congrArg (fun f => l.any f) (funext fun e => h.tag_sampleEvent e)

/-! ### Records that stand -/

theorem State.sameRecords_of_moved {s t : State} (h : s.shoal.Moved t.shoal) : s.sameRecords t := fun m j => h.record m j

/-! ### Images (R359-R361) -/

/-- R360: a loaded cluster takes the image's neurons and records; events in its inbox stand. -/
theorem replace_loadedCluster_spec (c : Cluster) (b : Bytes) (n : Nat) :
    let d := c.replace (loadedCluster b n)
    d.neurons = (clusterDir b n).neurons ∧ d.inbox = c.inbox ∧
      ∀ i, i < (clusterDir b n).neurons → d.record i = leField b ((clusterDir b n).recOff + 64 * i) 64 := by
  intro d
  by_cases hzero : (clusterDir b n).neurons = 0
  · have hd : d = c.replace { width := (clusterDir b n).width, synCount := (clusterDir b n).synapses } :=
      congrArg c.replace (if_pos hzero)
    rw [hd, hzero]
    exact ⟨rfl, rfl, fun i hi => absurd hi (Nat.not_lt_zero i)⟩
  · have hd : d = c.replace _ := congrArg c.replace (if_neg hzero)
    rw [hd]
    refine ⟨rfl, rfl, fun i hi => ?_⟩
    have hlt : leField b ((clusterDir b n).recOff + 64 * i) 64 < 2 ^ 512 := by
      refine (leNat_lt _).trans_le ?_
      have hlen : (slice b ((clusterDir b n).recOff + 64 * i) 64).length ≤ 64 := by rw [slice_length]; exact Nat.min_le_left _ _
      calc 256 ^ (slice b ((clusterDir b n).recOff + 64 * i) 64).length
        _ ≤ 256 ^ 64 := Nat.pow_le_pow_right (by decide) hlen
        _ = 2 ^ 512 := by rw [show (256 : Nat) = 2 ^ 8 from rfl, ← Nat.pow_mul]
    change (SMap.get (0 : BitVec 512) (SMap.ofFn 0 (clusterDir b n).neurons fun i =>
      BitVec.ofNat 512 (leField b ((clusterDir b n).recOff + 64 * i) 64)) i).toNat = _
    rw [SMap.get_ofFn _ _ hi, BitVec.toNat_ofNat, Nat.mod_eq_of_lt hlt]

theorem Shoal.cluster_mapIdx {l : List Cluster} (hlen : l.length = 12) (g : Nat → Cluster → Cluster) {n : Nat} (hn : n < 12) :
    (l.mapIdx g).getD n {} = g n (l.getD n {}) := by
  rw [List.getD_eq_getElem _ _ (by rw [List.length_mapIdx, hlen]; exact hn), List.getElem_mapIdx,
    List.getD_eq_getElem _ _ (by rw [hlen]; exact hn)]

/-- R359, R360: an accepted image replaces the clusters, extends MR11 and gives a new start state. -/
theorem State.loadImage_spec {s : State} (hlen : s.shoal.clusters.length = 12) (hmrs : s.measure.mrs.length = 32) (b : Bytes) :
    let t := s.loadImage b
    t.shoal.load = none ∧ t.shoal.loadResult = 0 ∧
      (∀ n, n < 12 → (t.shoal.cluster n).neurons = (clusterDir b n).neurons ∧ (t.shoal.cluster n).inbox = (s.shoal.cluster n).inbox ∧
        ∀ i, i < (clusterDir b n).neurons → (t.shoal.cluster n).record i = leField b ((clusterDir b n).recOff + 64 * i) 64) ∧
      t.mr 11 = extendValue (s.mr 11) (1 :: digestBytes (sha384 (programBytes t.shoal.clusters)) ++ leBytes 8 s.now) ∧
      (∀ k, k ≠ 11 → t.mr k = s.mr k) ∧ t.shoal.startState = sha384 (Config.startState t.shoal.allRecords s.regionLines) ∧
      t.host = s.host ∧ t.ret = s.ret := by
  intro t
  have hcluster (n : Nat) (hn : n < 12) : t.shoal.cluster n = (s.shoal.cluster n).replace (loadedCluster b n) :=
    Shoal.cluster_mapIdx hlen (fun n c => c.replace (loadedCluster b n)) hn
  refine ⟨rfl, rfl, fun n hn => ?_, ?_, fun k hk => ?_, rfl, rfl, rfl⟩
  · rw [hcluster n hn]
    exact replace_loadedCluster_spec _ b n
  · exact State.extendMr_mr_same _ 11 _ (by change 11 < s.measure.mrs.length; omega)
  · exact State.extendMr_mr_ne _ 11 k _ hk

/-! ### Snapshots (R362) -/

/-- R362: the end of a snapshot gives its result and lets forwarding go on. -/
theorem State.endSnapshot_spec (s : State) (code : Nat) :
    let t := s.endSnapshot code
    t.hostMem = s.hostMem ∧ t.shoal.snapResult = code ∧ t.shoal.snapDigest = s.shoal.snapDigest ∧ t.shoal.snapshot = none ∧
      t.host.snapshotHold = false ∧ s.sameRecords t := by
  intro t
  have hpump := State.pumps_pump { s with
    shoal := { s.shoal with snapshot := none, image := none, snapResult := code }, host := { s.host with snapshotHold := false } }
  have hcarried := (State.forwarded_pump { s with
    shoal := { s.shoal with snapshot := none, image := none, snapResult := code }
    host := { s.host with snapshotHold := false } }).carried.toMoved
  change State.Pumps _ t at hpump
  change Shoal.Moved _ t.shoal at hcarried
  clear_value t
  refine ⟨by rw [hpump.only], by rw [hcarried.frame], by rw [hcarried.frame], by rw [hcarried.frame], by rw [hpump.only], fun m j => ?_⟩
  exact hcarried.record m j

/-- Settles O30: samples through `Shoal.sampleOf_spec`, a loaded image through `State.loadImage_spec`, the end of a snapshot through
`State.endSnapshot_spec`. -/
theorem samplesAndImages : Obligations.SamplesAndImages := by
  unfold Obligations.SamplesAndImages
  refine ⟨fun s hinv => ⟨?sample, ?sleep⟩, fun s hinv => ⟨?request, ?loaded, ?snapshot, ?capture, ?complete⟩⟩
  case sample =>
    intro tag x hx hun hpassed hclear l
    obtain ⟨⟨-, -, -, -, -, -, -, -, -, -, -, -, -⟩, -, -, -, -, -, -, -, hw, -⟩ := hinv
    obtain ⟨-, hw', hsub, hothers⟩ := State.posting_modSub hx hw fun y => y.sampled (s.shoal.sampleOf x)
    obtain ⟨hlen, hfield, htag⟩ := s.shoal.sampleOf_spec x
    have hrow : exec (.shoalSample tag) s = .next { s with
        host := s.host.modSub tag.toNat fun y => y.sampled (s.shoal.sampleOf x) } := by
      refine congrArg Host.Outcome.next ?_
      rw [hx]
      exact if_pos ⟨hun, hpassed, hclear⟩
    exact ⟨_, _, _, hrow, rfl, hsub, hothers, rfl, rfl, rfl, fun hphase => if_pos hphase, hlen, hfield, htag⟩
  case sleep =>
    intro n hidle
    obtain ⟨⟨-, -, -, -, -, -, -, -, -, -, -, -, hlen, -⟩, -⟩ := hinv
    have hnone : (s.shoal.pending.all fun e => e.target != n.val) = true := by
      rw [List.all_eq_true]
      exact fun e he => by simpa using hidle e he
    have hrow : exec (.shoalSleep n) s = .next { s with
        shoal := { s.shoal with clusters := modifyAt s.shoal.clusters n.val fun c => { c with asleep := true } } } :=
      congrArg Host.Outcome.next (if_pos hnone)
    refine ⟨_, hrow, ?_, State.sameRecords_of_moved (Shoal.Moved.of_modifyAt s.shoal n.val _ fun _ => rfl), rfl⟩
    exact congrArg Cluster.asleep (getD_modifyAt_same _ _ _ _ (by rw [hlen]; exact n.isLt))
  case request =>
    intro ch addr len ha hopen
    have hrow : exec (.shoalImageLoad ch addr len) s = .next { s.touch ch with shoal := s.shoal.requestLoad addr len } := by
      refine congrArg Host.Outcome.next (State.odRow_applied ha ?_)
      rw [State.writeShoalImageLoad, State.touch_sessionOpen, State.touch_shoal]
      exact if_pos (beq_iff_eq.mpr hopen)
    refine ⟨_, hrow, fun m j => ?_, s.touch_measure ch, s.touch_od ch, fun hplan => if_pos hplan, fun hplan hbusy => ?_,
      fun hplan hload hsnap => ?_⟩
    · change ((s.shoal.requestLoad addr len).cluster m).record j = _
      unfold Shoal.requestLoad
      split_ifs <;> rfl
    · change s.shoal.requestLoad addr len = _
      rw [Shoal.requestLoad, if_neg (by rw [hplan]; exact Bool.false_ne_true), if_pos (by rw [Bool.or_eq_true]; exact hbusy)]
    · change s.shoal.requestLoad addr len = _
      rw [Shoal.requestLoad, if_neg (by rw [hplan]; exact Bool.false_ne_true), if_neg (by rw [hload, hsnap]; decide)]
  case loaded =>
    intro addr len hload
    obtain ⟨⟨hmrs, -, -, -, -, -, -, -, -, -, -, -, hlen, -⟩, -⟩ := hinv
    refine ⟨fun f hdma => congrArg Host.Outcome.next ?_, fun hdma => congrArg Host.Outcome.next ?_,
      fun b hdma => ⟨fun hcode => congrArg Host.Outcome.next ?_, fun hcode => ?_⟩⟩
    · rw [hload, hdma]
      rfl
    · rw [hload, hdma]
      rfl
    · rw [hload, hdma]
      dsimp only
      rw [if_neg (by decide)]
      split
      · next h => exact absurd h hcode
      · rfl
    · have hrow : exec (.shoalImageLoaded (some b)) s = .next (s.loadImage b) := by
        refine congrArg Host.Outcome.next ?_
        rw [hload, hdma]
        dsimp only
        rw [if_neg (by decide), hcode]
        rfl
      exact ⟨_, hrow, State.loadImage_spec hlen hmrs b⟩
  case snapshot =>
    intro ch addr len ha hopen
    have hrow : exec (.shoalSnapshot ch addr len) s = .next { s.touch ch with
        shoal := if s.shoal.load.isSome || s.shoal.snapshot.isSome then { s.shoal with snapResult := 6 }
          else { s.shoal with snapshot := some (addr, len) } } := by
      refine congrArg Host.Outcome.next (State.odRow_applied ha ?_)
      rw [State.writeShoalSnapshot, State.touch_sessionOpen, State.touch_shoal]
      exact if_pos (beq_iff_eq.mpr hopen)
    refine ⟨_, hrow, s.touch_od ch, s.touch_hostMem ch, fun hload hsnap => ?_, fun hbusy => if_pos (by rw [Bool.or_eq_true]; exact hbusy)⟩
    exact if_neg (by rw [hload, hsnap]; decide)
  case capture =>
    intro addr len hsnap himage hcovered hlen
    refine congrArg Host.Outcome.next ?_
    rw [hsnap, himage]
    dsimp only
    rw [if_pos hcovered, if_neg (Nat.not_lt.mpr hlen)]
  case complete =>
    intro addr len b hsnap himage hdma hpaging
    have hready : (!s.dmaOk || s.host.paging .snapshot) = false := by rw [hdma, hpaging]; rfl
    have hrow (translated : Bool) : exec (.snapshotComplete translated) s = .next (if translated then
        ({ s with hostMem := storeBytes s.hostMem addr.toNat b, shoal := { s.shoal with snapDigest := sha384 b } } : State).endSnapshot 0
      else s.refusedAccess .snapshot fun s => s.endSnapshot 5) := by
      refine congrArg Host.Outcome.next ?_
      rw [hsnap, himage]
      dsimp only
      rw [if_neg (by rw [hready]; exact Bool.false_ne_true)]
    refine ⟨?_, fun hpri => ?_, fun hpri => ?_⟩
    · obtain ⟨hmem, hresult, hdigest, hgone, hhold, hrecords⟩ := State.endSnapshot_spec { s with
        hostMem := storeBytes s.hostMem addr.toNat b, shoal := { s.shoal with snapDigest := sha384 b } } 0
      refine ⟨_, hrow true, fun i hi => ?_, fun a ha => ?_, hdigest, hresult, hgone, hhold, hrecords⟩
      · exact (congrArg (fun m => readByte m (addr.toNat + i)) hmem).trans (readByte_storeBytes_in b s.hostMem addr.toNat i hi)
      · exact (congrArg (fun m => readByte m a) hmem).trans (readByte_storeBytes_out b s.hostMem addr.toNat a ha)
    · rw [hrow false]
      exact congrArg Host.Outcome.next (if_pos hpri)
    · have hend : s.refusedAccess .snapshot (fun s => s.endSnapshot 5) = s.endSnapshot 5 :=
        if_neg (by rw [hpri]; exact Bool.false_ne_true)
      exact ⟨_, (hrow false).trans (congrArg Host.Outcome.next hend), s.endSnapshot_spec 5⟩

end Sys2Proof.Machine
end

section
/-! Checkpoints are cut, signed and queued; the control blocks of the evidence rings (R172, R384-R391). -/

namespace Sys2Proof.Machine

/-! ### Cuts (R384, R385, R388) -/

/-- R384: with nothing being signed and room in the queue a cut is made now. -/
theorem State.cut_eq_makeCut {s : State} (halias : s.aliasExists = true) (hidle : s.measure.signing = none)
    (hroom : s.measure.checkpoints.length < 16) (cause : Nat) : s.cut cause = s.makeCut cause := by
  rw [State.cut, halias, hidle, if_neg (by decide), if_neg (by simpa using hroom)]

/-- R385: while a checkpoint is being signed a cut waits, under the earliest cause. -/
theorem State.cut_of_signing {s : State} (halias : s.aliasExists = true) {c : Cut} (hbusy : s.measure.signing = some c) (cause : Nat) :
    s.cut cause = { s with measure := { s.measure with deferred := some (s.measure.deferred.getD cause) } } := by
  rw [State.cut, halias, if_neg (by decide), if_pos (by rw [hbusy]; rfl)]

/-! ### What a channel's activity note leaves of a cut -/

theorem State.touch_offlineMask (s : State) (ch : Channel) : (s.touch ch).offlineMask = s.offlineMask := by
  obtain ⟨_, _, htouch⟩ := s.touch_eq ch
  rw [htouch]
  rfl

theorem State.touch_transition (s : State) (ch : Channel) : (s.touch ch).transition = s.transition := by
  simp only [State.transition, State.firmwareTransition, State.govRestart, State.touch_offlineMask, State.touch_start,
    State.touch_up, State.touch_measure, State.touch_power, State.touch_fabric]

theorem State.touch_chainHead (s : State) (ch : Channel) : (s.touch ch).chainHead = s.chainHead := by
  simp only [State.chainHead, State.touch_ret, State.touch_od, State.touch_measure]

/-! ### Ranges of byte strings -/

theorem slice_skip {a : Bytes} (b : Bytes) {off : Nat} (h : a.length ≤ off) (len : Nat) :
    slice (a ++ b) off len = slice b (off - a.length) len := by
  rw [slice, List.drop_append, List.drop_of_length_le h, List.nil_append, slice]

theorem slice_head {a : Bytes} (b : Bytes) {len : Nat} (h : a.length = len) : slice (a ++ b) 0 len = a := by
  rw [← h, slice_append_left]

/-- A range within a byte string fitted into more octets. -/
theorem slice_fit {b : Bytes} {n off len : Nat} (hn : b.length ≤ n) (h : off + len ≤ b.length) : slice (fit n b) off len = slice b off len := by
  have hpad : fit n b = b ++ List.replicate (n - b.length) 0 := by
    rw [fit, padTo, List.take_of_length_le]
    rw [List.length_append, List.length_replicate]
    omega
  rw [hpad, slice_append_of_le _ h]

theorem length_fit (n : Nat) (b : Bytes) : (fit n b).length = n := by
  rw [fit, padTo, List.length_take, List.length_append, List.length_replicate]
  omega

/-! ### The body and the entry (R386, R387) -/

theorem length_checkpointBody (serial : BitVec 128) (c : Cut) : (checkpointBody serial c).length = 256 := by
  delta checkpointBody
  simp only [List.length_append, leBytes_length, beBytes_length, digestBytes_length, length_fit, List.length_replicate,
    List.length_cons, List.length_nil, Nat.reduceAdd]

/-- R386: where the body names what was cut. -/
theorem slice_checkpointBody (serial : BitVec 128) (c : Cut) :
    let m := checkpointBody serial c
    slice m 0 4 = leBytes 4 0x55434B50 ∧ slice m 24 8 = leBytes 8 c.session ∧ slice m 32 8 = leBytes 8 c.no ∧
      slice m 48 8 = leBytes 8 c.count ∧ slice m 64 48 = digestBytes c.head ∧ slice m 112 48 = digestBytes c.prev := by
  intro m
  have hm : m = checkpointBody serial c := rfl
  clear_value m
  delta checkpointBody at hm
  simp only [List.append_assoc] at hm
  rw [hm]
  refine ⟨slice_head _ (leBytes_length _ _), ?_, ?_, ?_, ?_, ?_⟩ <;>
    simp only [slice_skip, slice_head, leBytes_length, beBytes_length, digestBytes_length, Nat.reduceLeDiff, Nat.reduceSub]

/-- R386, R387: the entry is the body, the two signatures and zeros. -/
theorem checkpointEntry_spec (serial : BitVec 128) (c : Cut) {sig : Bytes × Bytes} (hec : sig.1.length = 96)
    (hml : sig.2.length = 3309) :
    let m := checkpointBody serial c
    let b := checkpointEntry m sig
    b.length = 4096 ∧ slice b 0 256 = m ∧ slice b 256 96 = sig.1 ∧ slice b 352 3309 = sig.2 ∧
      ∀ off len, off + len ≤ 256 → slice b off len = slice m off len := by
  intro m b
  have hm : m.length = 256 := length_checkpointBody serial c
  clear_value m
  have hb : b = fit 4096 (m ++ (sig.1 ++ sig.2)) := by
    change fit 4096 (m ++ sig.1 ++ sig.2) = _
    rw [List.append_assoc]
  have hlen : (m ++ (sig.1 ++ sig.2)).length = 3661 := by rw [List.length_append, List.length_append, hm, hec, hml]
  clear_value b
  subst hb
  refine ⟨length_fit _ _, ?_, ?_, ?_, fun off len h => ?_⟩
  · rw [slice_fit (by omega) (by omega), slice_head _ hm]
  · rw [slice_fit (by omega) (by omega), slice_skip _ (by omega), hm, slice_head _ hec]
  · rw [slice_fit (by omega) (by omega), slice_skip _ (by omega), hm, slice_skip _ (by omega), hec, ← hml]
    exact slice_all sig.2
  · rw [slice_fit (by omega) (by omega), slice_append_of_le _ (by omega)]

/-! ### Signatures (R172) -/

theorem length_ecdsaSign (seed m : Bytes) (draw : Nat) : (ecdsaSign seed m draw).length = 96 := by
  delta ecdsaSign
  dsimp only
  rw [List.length_append, beBytes_length, beBytes_length]

theorem length_attempt (k : Signer) (a b : Bytes) (draw : Nat) :
    (k.attempt a b draw).1.length = 96 ∧ (k.attempt a b draw).2.length = 3309 :=
  ⟨length_ecdsaSign _ _ _, length_fit _ _⟩

theorem State.length_of_sign {s : State} {k : Signer} {a b : Bytes} {sig : Bytes × Bytes} (h : (s.sign k a b).2 = some sig) :
    sig.1.length = 96 ∧ sig.2.length = 3309 := by
  simp only [State.sign] at h
  split_ifs at h
  · exact Option.some.inj h ▸ length_attempt _ _ _ _
  · exact Option.some.inj h ▸ length_attempt _ _ _ _

/-- R172: where nothing is released the engine's alarm has struck. -/
theorem State.engines_of_sign_none {s : State} {k : Signer} {a b : Bytes} (h : (s.sign k a b).2 = none) :
    (s.sign k a b).1.engines = s.engines.bnAlarm := by
  simp only [State.sign] at h ⊢
  split_ifs at h ⊢
  rfl

theorem State.sign_debugEnd (s : State) (k : Signer) (a b : Bytes) : (s.sign k a b).1.start.debugEnd = s.start.debugEnd := by
  simp only [State.sign]
  split_ifs <;> rfl

/-! ### What waited for a checkpoint -/

/-- Nothing waits for a checkpoint: no cut, no stop, no closing session and no reset. -/
structure State.Unwaiting (s : State) : Prop where
  deferred : s.measure.deferred = none
  session : s.od.session ≠ 2
  committing : s.keys.committing = false
  debugEnd : s.start.debugEnd ≠ 2
  stopping : s.hosting.stopping = false

theorem State.settleStop_of_running {s : State} (h : s.hosting.stopping = false) : s.settleStop = s := by
  rw [State.settleStop, h, if_neg Bool.false_ne_true]

theorem State.settleCheckpoint_of_unwaiting {s : State} (h : s.Unwaiting) : s.settleCheckpoint = s := by
  have hcut : s.settleCut = s := by rw [State.settleCut, h.deferred]
  have hclosed : s.settleClosed = s := if_neg fun hs => h.session hs.1
  have hreset : s.settleReset = s := by
    rw [State.settleReset, h.committing, if_neg h.debugEnd]
    simp
  rw [State.settleCheckpoint, hcut, State.settleStop_of_running h.stopping, hclosed, hreset]

theorem State.flushCheckpoints_of_not_ready {s : State} (h : s.measure.ckptRing.ready = false) (translated : Bool) :
    (s.flushCheckpoints translated) = s := by
  rw [State.flushCheckpoints]
  cases hq : s.measure.checkpoints with
  | nil => rw [State.flushCheckpointsFrom, ← hq]
  | cons c cs => rw [State.flushCheckpointsFrom, if_pos (by rw [h]; rfl), ← hq]

/-- R386, R387, R390: a checkpoint whose signatures are released enters its queue. -/
theorem State.signCheckpoint_of_some {s : State} {c : Cut} (h : s.Unwaiting) (hring : s.measure.ckptRing.ready = false)
    {sig : Bytes × Bytes}
    (hsig : (s.sign s.aliasSigner (checkpointBody s.otp.serial c) (checkpointBody s.otp.serial c)).2 = some sig) :
    s.signCheckpoint c true =
      ((s.sign s.aliasSigner (checkpointBody s.otp.serial c) (checkpointBody s.otp.serial c)).1.queueCheckpoint c
        (checkpointEntry (checkpointBody s.otp.serial c) sig)) := by
  rw [State.signCheckpoint]
  rw [hsig]
  dsimp only
  have hm := State.sign_measure s s.aliasSigner (checkpointBody s.otp.serial c) (checkpointBody s.otp.serial c)
  have ho := State.sign_od s s.aliasSigner (checkpointBody s.otp.serial c) (checkpointBody s.otp.serial c)
  have hk := State.sign_keys s s.aliasSigner (checkpointBody s.otp.serial c) (checkpointBody s.otp.serial c)
  have hh := State.sign_hosting s s.aliasSigner (checkpointBody s.otp.serial c) (checkpointBody s.otp.serial c)
  have hs := State.sign_debugEnd s s.aliasSigner (checkpointBody s.otp.serial c) (checkpointBody s.otp.serial c)
  generalize (s.sign s.aliasSigner _ _).1 = u at *
  generalize checkpointEntry _ sig = b
  rw [State.flushCheckpoints_of_not_ready (by rw [← hring, ← hm]; rfl)]
  refine State.settleCheckpoint_of_unwaiting ⟨?_, ?_, ?_, ?_, ?_⟩
  · exact (congrArg Measure.deferred hm).trans h.deferred
  · exact ne_of_eq_of_ne (congrArg Od.session ho) h.session
  · exact (congrArg Keys.committing hk).trans h.committing
  · exact ne_of_eq_of_ne hs h.debugEnd
  · exact (congrArg Hosting.stopping hh).trans h.stopping

/-- R374, R390: what a queued checkpoint leaves where its ring takes none. -/
theorem State.queueCheckpoint_spec (s : State) (c : Cut) (b : Bytes) (hring : s.measure.ckptRing.ready = false) :
    let t := s.queueCheckpoint c b
    t.hostMem = s.hostMem ∧ t.measure.mrs = s.measure.mrs ∧ t.measure.checkpoints = s.measure.checkpoints ++ [b] ∧
      t.measure.signing = none ∧ t.measure.ckptHolds = bump s.measure.ckptHolds ∧
      t.ret = { s.ret with lastSigned := some (c.session, c.no, c.head) } := by
  refine ⟨rfl, rfl, rfl, rfl, if_pos ?_, rfl⟩
  rw [hring]
  rfl

/-! ### Control blocks (R389) -/

theorem State.flushReceipts_of_empty {s : State} (h : s.measure.receipts = []) (translated : Bool) : s.flushReceipts translated = s := by
  rw [State.flushReceipts, h, State.flushReceiptsFrom, ← h]

theorem State.flushCheckpoints_of_empty {s : State} (h : s.measure.checkpoints = []) (translated : Bool) :
    s.flushCheckpoints translated = s := by
  rw [State.flushCheckpoints, h, State.flushCheckpointsFrom, ← h]

/-- R389: with nothing queued and nothing waiting a control block changes its ring alone. -/
theorem State.flushRing_setRing {s : State} (h : s.Unwaiting) (hreceipts : s.measure.receipts = []) (hcheckpoints : s.measure.checkpoints = [])
    (r : EvRing) (x : EvRingState) (translated : Bool) : (s.setRing r x).flushRing r translated = s.setRing r x := by
  cases r with
  | receipt =>
    refine (congrArg State.settleStop (State.flushReceipts_of_empty ?_ _)).trans (State.settleStop_of_running ?_)
    · exact hreceipts
    · exact h.stopping
  | checkpoint =>
    refine (congrArg State.settleCheckpoint (State.flushCheckpoints_of_empty ?_ _)).trans (State.settleCheckpoint_of_unwaiting ?_)
    · exact hcheckpoints
    · exact ⟨h.deferred, h.session, h.committing, h.debugEnd, h.stopping⟩

theorem State.setRing_frame (s : State) (r : EvRing) (x : EvRingState) : (s.setRing r x).measure.mrs = s.measure.mrs ∧
    (s.setRing r x).measure.receipts = s.measure.receipts ∧ (s.setRing r x).ret = s.ret ∧ (s.setRing r x).hostMem = s.hostMem := by
  cases r <;> exact ⟨rfl, rfl, rfl, rfl⟩

/-- Settles O32: cuts through `State.makeCut`, the signed checkpoint through `State.signCheckpoint_of_some` and
`checkpointEntry_spec`, the control blocks through `State.flushRing_setRing`. -/
theorem checkpointsAreCut : Obligations.CheckpointsAreCut := by
  unfold Obligations.CheckpointsAreCut
  intro s cutBy
  refine ⟨fun halias hroom => ⟨fun hidle => ⟨?interval, ?request⟩, ?waits⟩, ?early, ?signed, ?blocks⟩
  case interval =>
    intro hover
    have hrow : exec .checkpointInterval s = .next (s.makeCut 2) :=
      congrArg Host.Outcome.next ((if_pos hover).trans (State.cut_eq_makeCut halias hidle hroom 2))
    exact ⟨_, hrow, s.cutNow 2, rfl, rfl, rfl, rfl, rfl, rfl, rfl, rfl, rfl, rfl, rfl, rfl, rfl, rfl, rfl, rfl⟩
  case request =>
    intro ch ha
    have hcut : (s.touch ch).cut 3 = (s.touch ch).makeCut 3 := by
      refine State.cut_eq_makeCut ?_ ?_ ?_ 3
      · rw [State.touch_aliasExists]; exact halias
      · rw [State.touch_measure]; exact hidle
      · rw [State.touch_measure]; exact hroom
    have hrow : exec (.checkpointRequest ch 0xA5) s = .next ((s.touch ch).makeCut 3) :=
      congrArg Host.Outcome.next ((State.odRow_applied ha (if_pos rfl)).trans hcut)
    refine ⟨_, hrow, (s.touch ch).cutNow 3, rfl, rfl, s.touch_chainHead ch, ?_, ?_, ?_, s.touch_now ch, ?_, s.touch_transition ch, ?_, rfl,
      ?_, ?_, rfl, ?_, s.touch_hostMem ch⟩
    · exact congrArg Measure.sinceCut (s.touch_measure ch)
    · exact congrArg Measure.firstSince (s.touch_measure ch)
    · exact congrArg Measure.ckptNo (s.touch_measure ch)
    · exact congrArg Measure.mrd (s.touch_measure ch)
    · exact congrArg (fun m => Measure.ckptNo m + 1) (s.touch_measure ch)
    · exact congrArg Retained.receiptsMade (s.touch_ret ch)
    · exact congrArg (fun c => c.count) (s.touch_clock ch)
    · exact (show ((s.touch ch).makeCut 3).measure.mrs = (s.touch ch).measure.mrs from rfl).trans
        (congrArg Measure.mrs (s.touch_measure ch))
  case waits =>
    intro c hbusy hover
    exact congrArg Host.Outcome.next ((if_pos hover).trans (State.cut_of_signing halias hbusy 2))
  case early =>
    intro hover
    exact congrArg Host.Outcome.next (if_neg (by rw [hover]; exact Bool.false_ne_true))
  case signed =>
    intro c hsigning hring hdeferred hsession hcommitting hdebug hstopping k m
    have hrow : exec (.checkpointSigned true) s = .next (s.signCheckpoint c true) := by
      refine congrArg Host.Outcome.next ?_
      rw [hsigning]
    refine ⟨_, hrow, ?_⟩
    cases hsig : (s.sign k m m).2 with
    | none =>
      have hnone : s.signCheckpoint c true = (s.sign k m m).1 := by
        rw [State.signCheckpoint]
        rw [hsig]
      rw [hnone]
      exact ⟨s.sign_hostMem k m m, congrArg Measure.mrs (s.sign_measure k m m), s.sign_measure k m m, s.sign_ret k m m,
        State.engines_of_sign_none hsig⟩
    | some sig =>
      obtain ⟨hec, hml⟩ := State.length_of_sign hsig
      obtain ⟨hlen, hbody, h1, h2, hpart⟩ := checkpointEntry_spec s.otp.serial c hec hml
      obtain ⟨hmagic, hses, hno, hcount, hhead, hprev⟩ := slice_checkpointBody s.otp.serial c
      rw [State.signCheckpoint_of_some ⟨hdeferred, hsession, hcommitting, hdebug, hstopping⟩ hring hsig]
      have hm := s.sign_measure k m m
      have hret := s.sign_ret k m m
      have hmem := s.sign_hostMem k m m
      revert hlen hbody h1 h2 hpart
      change _ → _ → _ → _ → _ → ((s.sign k m m).1.queueCheckpoint c _).hostMem = _ ∧ _
      generalize (s.sign k m m).1 = u at *
      generalize checkpointEntry (checkpointBody s.otp.serial c) sig = b
      intro hlen hbody h1 h2 hpart
      have hqueue := State.queueCheckpoint_spec u c b (by rw [hm]; exact hring)
      rw [hm, hret, hmem] at hqueue
      obtain ⟨hmem', hmrs, hlist, hdone, hholds, hsigned⟩ := hqueue
      refine ⟨hmem', hmrs, State.verifies_of_sign hsig, b, hlist, hlen, hbody, h1, h2, ?_, ?_, ?_, ?_, ?_, ?_, hdone, hholds, hsigned⟩
      · rw [leField, hpart 0 4 (by decide), hmagic]
        exact leNat_leBytes 4 _
      · rw [leField, hpart 24 8 (by decide), hses]
        exact leNat_leBytes 8 _
      · rw [leField, hpart 32 8 (by decide), hno]
        exact leNat_leBytes 8 _
      · rw [leField, hpart 48 8 (by decide), hcount]
        exact leNat_leBytes 8 _
      · rw [hpart 64 48 (by decide), hhead]
      · rw [hpart 112 48 (by decide), hprev]
  case blocks =>
    intro tee r hreach hreceipts hcheckpoints hdeferred hsession hcommitting hdebug hstopping
    have hidle : s.Unwaiting := ⟨hdeferred, hsession, hcommitting, hdebug, hstopping⟩
    refine ⟨fun hoff hdepth => ?_, ?_, fun v hlow hhigh => ?_⟩
    · have hrow : exec (.ringControlEnable tee r 1 true) s = .next (s.setRing r { s.measure.ring r with
          enabled := true, head := 0, tail := 0, faulted := false }) := by
        refine congrArg Host.Outcome.next ((State.mmio_of_hostReaches hreach _).trans ?_)
        exact (if_pos ⟨rfl, hoff, hdepth⟩).trans (State.flushRing_setRing hidle hreceipts hcheckpoints _ _ _)
      obtain ⟨hmrs, -, hret, hmem⟩ := s.setRing_frame r { s.measure.ring r with enabled := true, head := 0, tail := 0, faulted := false }
      exact ⟨_, hrow, s.ring_setRing r _, hmrs, hret, hmem⟩
    · have hrow : exec (.ringControlEnable tee r 0 true) s = .next (s.setRing r { s.measure.ring r with
          enabled := false, faulted := false }) := by
        refine congrArg Host.Outcome.next ((State.mmio_of_hostReaches hreach _).trans ?_)
        rw [State.enableRing]
        exact (if_neg fun h => absurd h.1 (by decide)).trans (if_pos rfl)
      obtain ⟨-, hreceipts', -, hmem⟩ := s.setRing_frame r { s.measure.ring r with enabled := false, faulted := false }
      exact ⟨_, hrow, by rw [State.ring_setRing], hreceipts', hmem⟩
    · have hrow : exec (.ringControlHead tee r v true) s = .next (s.setRing r { s.measure.ring r with
          head := v.toNat, faulted := false }) := by
        refine congrArg Host.Outcome.next ((State.mmio_of_hostReaches hreach _).trans ?_)
        exact (if_pos ⟨hlow, hhigh⟩).trans (State.flushRing_setRing hidle hreceipts hcheckpoints _ _ _)
      obtain ⟨-, -, hret, hmem⟩ := s.setRing_frame r { s.measure.ring r with head := v.toNat, faulted := false }
      exact ⟨_, hrow, s.ring_setRing r _, hmem, hret⟩

end Sys2Proof.Machine
end

section
/-! The SPDM responder answers its requests from their phases on (R378). -/

namespace Sys2Proof.Machine

/-! ### The responder's phases -/

theorem State.inPhase_of_le {s : State} {phase : Nat} (hup : s.doeUp = true) (h : phase ≤ s.hosting.spdmPhase)
    (f : State → State) : s.inPhase phase f = f s := by
  rw [State.inPhase, hup, if_neg (by decide), if_neg (by omega)]

theorem State.inPhase_of_lt {s : State} {phase : Nat} (hup : s.doeUp = true) (h : s.hosting.spdmPhase < phase)
    (f : State → State) : s.inPhase phase f = s.spdmError 4 := by
  rw [State.inPhase, hup, if_neg (by decide), if_pos h]

theorem State.answeredBy_respond (s : State) (code : Nat) (body : Bytes) : s.answeredBy (s.respond code body) code body := ⟨rfl, rfl⟩

theorem State.answeredBy_respond_hosting (s : State) (h : Hosting) (code : Nat) (body : Bytes) :
    s.answeredBy (({ s with hosting := h } : State).respond code body) code body := ⟨rfl, rfl⟩

theorem State.respondLarge_of_le {s : State} {code : Nat} {body : Bytes} (h : body.length ≤ 4080) :
    s.respondLarge code body = s.respond code body := if_pos h

theorem State.respondLarge_response (s : State) (code : Nat) (body : Bytes) :
    if body.length ≤ 4080 then (s.respondLarge code body).hosting.response = some (code, body)
    else (s.respondLarge code body).hosting.response = some (0x7F, [0x0F]) ∧
      (s.respondLarge code body).hosting.large = BitVec.ofNat 8 code :: body := by
  rw [State.respondLarge]
  split_ifs with h
  · rfl
  · exact ⟨rfl, rfl⟩

/-! ### What a signature leaves (R172) -/

/-- What a signed answer leaves, by what it may change. -/
theorem State.signedOnly_iff {s t : State} : s.signedOnly t ↔
    ∃ h d w c n e, t = { s with
      hosting := h, draws := d, keys := { s.keys with wkr := w, debugIdevidCert := c }
      start := { s.start with drbgRequests := n }, engines := e } ∧ (e = s.engines ∨ e = s.engines.bnAlarm) := by
  constructor
  · rintro ⟨ht, he⟩
    exact ⟨_, _, _, _, _, _, ht, he⟩
  · rintro ⟨h, d, w, c, n, e, rfl, he⟩
    exact ⟨rfl, he⟩

theorem State.signedOnly_refl (s : State) : s.signedOnly s := ⟨rfl, .inl rfl⟩

/-- Signed answers add up; a second alarm changes nothing more. -/
theorem State.signedOnly_trans {s t u : State} (hst : s.signedOnly t) (htu : t.signedOnly u) : s.signedOnly u := by
  obtain ⟨h, d, w, c, n, e, rfl, he⟩ := State.signedOnly_iff.1 hst
  obtain ⟨h', d', w', c', n', e', rfl, he'⟩ := State.signedOnly_iff.1 htu
  refine State.signedOnly_iff.2 ⟨h', d', w', c', n', e', rfl, ?_⟩
  rcases he' with rfl | rfl
  · exact he
  · rcases he with rfl | rfl
    · exact .inr rfl
    · exact .inr rfl

theorem State.signedOnly_respond (s : State) (code : Nat) (body : Bytes) : s.signedOnly (s.respond code body) := ⟨rfl, .inl rfl⟩

theorem State.signedOnly_respondLarge (s : State) (code : Nat) (body : Bytes) : s.signedOnly (s.respondLarge code body) := by
  rw [State.respondLarge]
  split_ifs
  · exact s.signedOnly_respond _ _
  · exact ⟨rfl, .inl rfl⟩

theorem State.signedOnly_drawn (s : State) : s.signedOnly s.drawn := ⟨rfl, .inl rfl⟩

theorem State.signedOnly_signEc (s : State) (seed m : Bytes) : s.signedOnly (s.signEc seed m).1 := by
  simp only [State.signEc]
  split_ifs
  · exact ⟨rfl, .inl rfl⟩
  · exact ⟨rfl, .inl rfl⟩
  · exact ⟨rfl, .inr rfl⟩

/-- R172: the first of two signatures that verifies is released. -/
theorem State.signEc_snd (s : State) (seed m : Bytes) : (s.signEc seed m).2 =
    if ecdsaVerify (ecPublic seed) m (ecdsaSign seed m s.draws) then some (ecdsaSign seed m s.draws)
    else if ecdsaVerify (ecPublic seed) m (ecdsaSign seed m (s.draws + 3)) then some (ecdsaSign seed m (s.draws + 3))
    else none := by
  simp only [State.signEc]
  split_ifs <;> rfl

theorem State.length_of_signEc {s : State} {seed m sig : Bytes} (h : (s.signEc seed m).2 = some sig) : sig.length = 96 := by
  rw [State.signEc_snd] at h
  split_ifs at h
  · exact Option.some.inj h ▸ length_ecdsaSign _ _ _
  · exact Option.some.inj h ▸ length_ecdsaSign _ _ _

theorem State.signedOnly_respondSigned (s : State) (code : Nat) (content : Bytes) : s.signedOnly (s.respondSigned code content) := by
  have hsign := State.signedOnly_trans s.signedOnly_drawn (s.drawn.signedOnly_signEc s.evidenceKey.ec (Config.spdmBytes s.draws content))
  rw [State.respondSigned]
  split
  · exact State.signedOnly_trans hsign (State.signedOnly_respondLarge _ _ _)
  · exact State.signedOnly_trans hsign (State.signedOnly_respond _ _ _)

/-- R378: a signed answer that fits one message. -/
theorem State.answeredSigned_respondSigned (s : State) (code : Nat) {content : Bytes} (hlen : content.length ≤ 3984) :
    s.answeredSigned (s.respondSigned code content) code content := by
  refine ⟨s.signedOnly_respondSigned code content, Config.spdmBytes s.draws content, s.drawn.draws,
    fun _ => length_ecdsaSign _ _ _, ?_⟩
  have hfits {sig : Bytes} (h : (s.drawn.signEc s.evidenceKey.ec (Config.spdmBytes s.draws content)).2 = some sig) :
      (content ++ sig).length ≤ 4080 := by
    rw [List.length_append, State.length_of_signEc h]
    omega
  have hsnd := s.drawn.signEc_snd s.evidenceKey.ec (Config.spdmBytes s.draws content)
  rw [State.respondSigned]
  cases hsig : (s.drawn.signEc s.evidenceKey.ec (Config.spdmBytes s.draws content)).2 with
  | none =>
    rw [hsig] at hsnd
    split_ifs at hsnd with h1 h2
    rw [if_neg h1, if_neg h2]
    rfl
  | some sig =>
    dsimp only
    rw [State.respondLarge_of_le (hfits hsig)]
    rw [hsig] at hsnd
    split_ifs at hsnd with h1 h2
    · rw [if_pos h1, Option.some.inj hsnd]
      rfl
    · rw [if_neg h1, if_pos h2, Option.some.inj hsnd]
      rfl

/-- A signed answer from a state that a signature has left, under the same key. -/
theorem State.answeredSigned_of_signedOnly {s t u : State} {code : Nat} {content : Bytes} (hst : s.signedOnly t)
    (hkey : t.evidenceKey = s.evidenceKey) (h : t.answeredSigned u code content) : s.answeredSigned u code content := by
  obtain ⟨htu, h⟩ := h
  rw [hkey] at h
  exact ⟨State.signedOnly_trans hst htu, h⟩

theorem State.signedOnly_generatedBy (s : State) (n : Nat) : s.signedOnly (s.generatedBy n) := ⟨rfl, .inl rfl⟩

theorem State.signedOnly_bnAlarm (s : State) : s.signedOnly s.bnAlarm := ⟨rfl, .inr rfl⟩

theorem State.signedOnly_sign (s : State) (k : Signer) (a b : Bytes) : s.signedOnly (s.sign k a b).1 := by
  rw [State.sign]
  split_ifs
  · exact s.signedOnly_generatedBy 4
  · exact s.signedOnly_generatedBy 8
  · exact State.signedOnly_trans (s.signedOnly_generatedBy 8) (State.signedOnly_bnAlarm _)

theorem State.signedOnly_issueCert (s : State) (type : Nat) (pub : Bytes) (issuer : Signer) (mrs : List Digest) :
    s.signedOnly (s.issueCert type pub issuer mrs).1 := by
  rw [State.issueCert, State.signCose]
  exact State.signedOnly_sign _ _ _ _

/-- The place of the debug IDevID certificate is among what a signed answer may change. -/
theorem State.signedOnly_withDebugCert (s : State) (c : Bytes) :
    s.signedOnly { s with keys := { s.keys with debugIdevidCert := c } } := ⟨rfl, .inl rfl⟩

theorem State.signedOnly_issueDebugCert (s : State) (pub : Bytes) : s.signedOnly (s.issueDebugCert pub) := by
  rw [State.issueDebugCert]
  generalize (⟨debugRootSeeds.1, debugRootSeeds.2⟩ : Signer) = issuer
  exact State.signedOnly_trans (s.signedOnly_issueCert 1 pub issuer []) (State.signedOnly_withDebugCert _ _)

/-- R558: a debug IDevID certificate issued on first use. -/
theorem State.signedOnly_readyIdevidCert (s : State) : s.signedOnly s.readyIdevidCert := by
  rw [State.readyIdevidCert]
  split_ifs
  · exact s.signedOnly_issueDebugCert s.idevidPubNow
  · exact s.signedOnly_refl

/-! ### The four secured sessions (R405, R407) -/

theorem State.spdmSession_modSession_ne (s : State) {i k : Nat} (f : SpdmSession → SpdmSession) (h : k ≠ i) :
    (s.modSession i f).spdmSession k = s.spdmSession k := getD_modifyAt_ne _ _ _ h

theorem State.spdmSession_modSession_same {s : State} {i : Nat} (f : SpdmSession → SpdmSession) (h : i < s.hosting.sessions.length) :
    (s.modSession i f).spdmSession i = f (s.spdmSession i) := getD_modifyAt_same _ _ _ _ h

theorem State.spdmSession_endSpdm_ne (s : State) {i k : Nat} (h : k ≠ i) : (s.endSpdm i).spdmSession k = s.spdmSession k :=
  getD_modifyAt_ne _ _ _ h

theorem State.spdmSession_endSpdm_same (s : State) (i : Nat) : (s.endSpdm i).spdmSession i = {} := by
  by_cases h : i < s.hosting.sessions.length
  · exact getD_modifyAt_same _ _ _ _ h
  · refine (getD_modifyAt_out _ _ _ _ _ (by omega)).trans ?_
    rw [List.getD_eq_default _ _ (by omega)]

/-- A session that has ended stays ended as the others end. -/
theorem State.spdmSession_foldl_endSpdm (l : List Nat) (s : State) {i : Nat} (h : i ∈ l ∨ s.spdmSession i = {}) :
    (l.foldl State.endSpdm s).spdmSession i = {} := by
  induction l generalizing s with
  | nil => simpa using h
  | cons k l ih =>
    refine ih (s.endSpdm k) ?_
    by_cases hk : i = k
    · exact .inr (hk ▸ s.spdmSession_endSpdm_same k)
    · rw [s.spdmSession_endSpdm_ne hk]
      simpa [hk] using h

/-- Ending sessions changes the sessions and their transfers only. -/
theorem State.foldl_endSpdm_eq (l : List Nat) (s : State) : ∃ x o, l.foldl State.endSpdm s =
    { s with hosting := { s.hosting with sessions := x }, od := o } := by
  induction l generalizing s with
  | nil => exact ⟨_, _, rfl⟩
  | cons k l ih =>
    obtain ⟨x, o, h⟩ := ih (s.endSpdm k)
    exact ⟨x, o, h⟩

/-! ### The connection (R378) -/

section
variable {s : State} (hup : s.doeUp = true)
include hup

theorem exec_getVersion_of_up : exec .getVersion s = .next
    ((let t := (List.range 4).foldl State.endSpdm s
      ({ t with hosting := { t.hosting with spdmPhase := 1, large := [] } } : State).respond 0x04 [0x13])) := by
  change Host.Outcome.next _ = _
  rw [if_pos hup]

theorem exec_getCapabilities_of_phase (h : 1 ≤ s.hosting.spdmPhase) : exec .getCapabilities s = .next
    (({ s with hosting := { s.hosting with spdmPhase := max s.hosting.spdmPhase 2 } } : State).respond 0x61
      (leBytes 4 4096 ++ leBytes 4 73728)) :=
  congrArg _ (State.inPhase_of_le hup h _)

theorem exec_chunkGet_of_phase (h : 1 ≤ s.hosting.spdmPhase) {k : Nat} (hk : 4080 * k < s.hosting.large.length) :
    exec (.chunkGet k) s = .next (s.respond 0x06 (slice s.hosting.large (4080 * k) 4080)) :=
  congrArg Host.Outcome.next ((State.inPhase_of_le hup h _).trans (if_pos hk))

theorem exec_negotiateAlgorithms_of_phase (h : 2 ≤ s.hosting.spdmPhase) (b : Bool) : exec (.negotiateAlgorithms b) s = .next
    (if b then ({ s with hosting := { s.hosting with spdmPhase := 3 } } : State).respond 0x63 [0x80, 0x02, 0x04]
      else s.spdmError 0x01) :=
  congrArg _ (State.inPhase_of_le hup h _)

/-! ### Certificates and the challenge (R378) -/

theorem exec_getDigests_of_phase (h : 3 ≤ s.hosting.spdmPhase) : exec .getDigests s = .next
    (s.readyIdevidCert.respond 0x01 (1 :: digestBytes (sha384 s.readyIdevidCert.spdmChain))) :=
  congrArg _ (State.inPhase_of_le hup h _)

theorem exec_getCertificate_of_phase (h : 3 ≤ s.hosting.spdmPhase) (slot : Byte) (off len : Nat) :
    exec (.getCertificate slot off len) s = .next
      (if slot = 0 ∧ off < s.readyIdevidCert.spdmChain.length then
        s.readyIdevidCert.respondLarge 0x02 (slice s.readyIdevidCert.spdmChain off len)
      else s.readyIdevidCert.spdmError 0x01) :=
  congrArg _ (State.inPhase_of_le hup h _)

theorem exec_challenge_of_phase (h : 3 ≤ s.hosting.spdmPhase) (slot : Byte) (n : BitVec 256) :
    exec (.challenge slot n) s = .next
      (if slot = 0 then s.readyIdevidCert.respondSigned 0x03
        (digestBytes (sha384 s.readyIdevidCert.spdmChain) ++ beBytes 32 n.toNat)
      else s.readyIdevidCert.spdmError 0x01) :=
  congrArg _ (State.inPhase_of_le hup h _)

/-! ### Measurements (R127, R378, R554) -/

theorem exec_getMeasurements_of_some (h : 3 ≤ s.hosting.spdmPhase) {index : Byte} {n : BitVec 256} {b : Bytes}
    (hb : (s.measurements index.toNat (beBytes 32 n.toNat)).2 = some b) : exec (.getMeasurements index n) s = .next
      ((s.measurements index.toNat (beBytes 32 n.toNat)).1.respondSigned 0x60 b) := by
  refine congrArg _ ((State.inPhase_of_le hup h _).trans ?_)
  dsimp only
  rw [hb]

theorem exec_getMeasurements_of_none (h : 3 ≤ s.hosting.spdmPhase) {index : Byte} {n : BitVec 256}
    (hb : (s.measurements index.toNat (beBytes 32 n.toNat)).2 = none) : exec (.getMeasurements index n) s = .next
      ((s.measurements index.toNat (beBytes 32 n.toNat)).1.spdmError 0x01) := by
  refine congrArg _ ((State.inPhase_of_le hup h _).trans ?_)
  dsimp only
  rw [hb]

end

/-- R378: value type, with the raw bit, of the block of MRk. -/
def mrValueType (k : Nat) : Byte := if k = 0 then 0x80 else if k ≤ 6 then 0x81 else if k = 7 then 0x82 else 0x83

theorem measurementType_succ {k : Nat} (h : k < 32) : leBytes 1 (0x80 + measurementType (k + 1)) = [mrValueType k] := by
  revert h k
  decide

/-- The block of an index of one octet. -/
theorem measurementBlock_eq (index : Nat) (v : Bytes) : measurementBlock index v =
    [BitVec.ofNat 8 index, 1] ++ leBytes 2 (v.length + 3) ++ leBytes 1 (0x80 + measurementType index) ++ leBytes 2 v.length ++ v := rfl

theorem State.mrBlock_succ (s : State) {k : Nat} (h : k < 32) : s.mrBlock (k + 1) =
    [BitVec.ofNat 8 (k + 1), 1] ++ leBytes 2 ((digestBytes (s.mr k)).length + 3) ++ [mrValueType k] ++
      leBytes 2 (digestBytes (s.mr k)).length ++ digestBytes (s.mr k) := by
  rw [State.mrBlock, measurementBlock_eq, measurementType_succ h, Nat.add_sub_cancel]

/-- A register's block octet by octet. -/
theorem State.mrBlock_octets (s : State) {k : Nat} (h : k < 32) : s.mrBlock (k + 1) =
    [BitVec.ofNat 8 (k + 1), 1, 51, 0, mrValueType k, 48, 0] ++ digestBytes (s.mr k) := by
  rw [s.mrBlock_succ h, digestBytes_length]
  rfl

theorem State.manifestBlock_of_served {s : State} (h : s.evidenceServed = true) (nonce : Bytes) : s.manifestBlock nonce =
    ((s.token nonce).1, (s.token nonce).2.map fun t => measurementBlock 0xFD t.2) := if_pos h

theorem State.manifestBlock_of_not_served {s : State} (h : s.evidenceServed = false) (nonce : Bytes) :
    s.manifestBlock nonce = (s, none) := if_neg (by rw [h]; decide)

/-- What precedes the manifest's block: every register's block for index 0xFF, nothing for 0xFD. -/
def State.beforeManifest (s : State) (index : Byte) : Bytes :=
  if index = 0xFF then (List.range 32).flatMap fun k => s.mrBlock (k + 1) else []

/-- Indices 0xFD and 0xFF answer with the manifest. -/
theorem State.measurements_manifest (s : State) {index : Byte} (h : index = 0xFD ∨ index = 0xFF) (nonce : Bytes) :
    s.measurements index.toNat nonce = ((s.manifestBlock nonce).1, (s.manifestBlock nonce).2.map (s.beforeManifest index ++ ·)) := by
  rcases h with rfl | rfl
  · change s.manifestBlock nonce = _
    ext1
    · rfl
    · change _ = Option.map (fun b => [] ++ b) _
      simp only [List.nil_append, Option.map_id_fun', id]
  · rfl

theorem State.measurements_other (s : State) {index : Byte} (h : 32 < index.toNat) (hfd : index ≠ 0xFD) (hff : index ≠ 0xFF)
    (nonce : Bytes) : s.measurements index.toNat nonce = (s, none) := by
  have hfd' : index.toNat ≠ 0xFD := fun he => hfd (BitVec.eq_of_toNat_eq he)
  have hff' : index.toNat ≠ 0xFF := fun he => hff (BitVec.eq_of_toNat_eq he)
  rw [State.measurements, if_neg (by omega), if_neg (by omega), if_neg hfd', if_neg hff']

theorem State.measurements_register (s : State) (k : Fin 32) (nonce : Bytes) :
    s.measurements (BitVec.ofNat 8 (k.val + 1)).toNat nonce = (s, some (s.mrBlock (k.val + 1))) := by
  have hindex : (BitVec.ofNat 8 (k.val + 1)).toNat = k.val + 1 := by
    rw [BitVec.toNat_ofNat]
    omega
  rw [hindex, State.measurements, if_neg (by omega), if_pos (by omega)]

/-! ### The requests answered -/

section
variable {s : State} (hup : s.doeUp = true)
include hup

theorem getVersion_answers : ∃ t, exec .getVersion s = .next t ∧ t.hosting.response = some (4, [0x13]) ∧
    t.hosting.spdmPhase = 1 ∧ (∀ i, i < 4 → t.spdmSession i = {}) ∧ t.hosting.tdi = s.hosting.tdi ∧
    t.hosting.ide = s.hosting.ide ∧ t.measure = s.measure := by
  have hexec := exec_getVersion_of_up hup
  have hsessions (i : Nat) (hi : i < 4) := State.spdmSession_foldl_endSpdm (List.range 4) s (.inl (List.mem_range.2 hi))
  obtain ⟨x, o, hfold⟩ := State.foldl_endSpdm_eq (List.range 4) s
  rw [hfold] at hexec hsessions
  exact ⟨_, hexec, rfl, rfl, hsessions, rfl, rfl, rfl⟩

/-- Capabilities and the parts of a large response. -/
theorem phase_one_answers (h : 1 ≤ s.hosting.spdmPhase) :
    (∃ t, exec .getCapabilities s = .next t ∧ s.answeredBy t 0x61 (leBytes 4 4096 ++ leBytes 4 73728) ∧ 2 ≤ t.hosting.spdmPhase) ∧
    ∀ k, 4080 * k < s.hosting.large.length →
      ∃ t, exec (.chunkGet k) s = .next t ∧ s.answeredBy t 0x06 (slice s.hosting.large (4080 * k) 4080) := by
  refine ⟨⟨_, exec_getCapabilities_of_phase hup h, s.answeredBy_respond_hosting _ _ _, ?_⟩,
    fun _ hk => ⟨_, exec_chunkGet_of_phase hup h hk, s.answeredBy_respond _ _⟩⟩
  rw [State.respond_hosting]
  exact le_max_right s.hosting.spdmPhase 2

theorem negotiateAlgorithms_answers (h : 2 ≤ s.hosting.spdmPhase) :
    (∃ t, exec (.negotiateAlgorithms true) s = .next t ∧ t.hosting.spdmPhase = 3 ∧ ∃ b, s.answeredBy t 0x63 b) ∧
    ∃ t, exec (.negotiateAlgorithms false) s = .next t ∧ t.hosting.spdmPhase = s.hosting.spdmPhase ∧ s.answeredBy t 0x7F [1] :=
  ⟨⟨_, exec_negotiateAlgorithms_of_phase hup h true, rfl, _, rfl, rfl⟩,
    ⟨_, exec_negotiateAlgorithms_of_phase hup h false, rfl, s.answeredBy_respond _ _⟩⟩

/-- A certificate portion: short of the chain's end, by its length. -/
theorem getCertificate_answers (h : 3 ≤ s.hosting.spdmPhase) (off len : Nat) :
    let chain := s.readyIdevidCert.spdmChain
    let answers (t : State) (code : Nat) (body : Bytes) : Prop := s.signedOnly t ∧ t.hosting.response = some (code, body)
    ∃ t, exec (.getCertificate 0 off len) s = .next t ∧
      (chain.length ≤ off → answers t 0x7F [1]) ∧
      (off < chain.length → (slice chain off len).length ≤ 4080 → answers t 0x02 (slice chain off len)) ∧
      (off < chain.length → 4080 < (slice chain off len).length →
        answers t 0x7F [0x0F] ∧ t.hosting.large = 2 :: slice chain off len) := by
  intro chain answers
  have hready := s.signedOnly_readyIdevidCert
  have hexec := exec_getCertificate_of_phase hup h 0 off len
  change exec _ s = .next (if (0 : Byte) = 0 ∧ off < chain.length then
    s.readyIdevidCert.respondLarge 0x02 (slice chain off len) else _) at hexec
  by_cases hoff : off < chain.length
  · rw [if_pos ⟨rfl, hoff⟩] at hexec
    have hlarge := State.respondLarge_response s.readyIdevidCert 0x02 (slice chain off len)
    have honly := State.signedOnly_trans hready (State.signedOnly_respondLarge s.readyIdevidCert 0x02 (slice chain off len))
    refine ⟨_, hexec, fun hle => absurd hoff (by omega), fun _ hle => ?_, fun _ hlt => ?_⟩
    · rw [if_pos hle] at hlarge
      exact ⟨honly, hlarge⟩
    · rw [if_neg (by omega)] at hlarge
      exact ⟨⟨honly, hlarge.1⟩, hlarge.2⟩
  · rw [if_neg (fun hc => hoff hc.2)] at hexec
    exact ⟨_, hexec, fun _ => ⟨State.signedOnly_trans hready (State.signedOnly_respond _ _ _), rfl⟩,
      fun hlt => absurd hlt hoff, fun hlt => absurd hlt hoff⟩

theorem getCertificate_other_slot (h : 3 ≤ s.hosting.spdmPhase) {slot : Byte} (hslot : slot ≠ 0) (off len : Nat) :
    ∃ t, exec (.getCertificate slot off len) s = .next t ∧ s.signedOnly t ∧ t.hosting.response = some (0x7F, [1]) := by
  have hexec := exec_getCertificate_of_phase hup h slot off len
  rw [if_neg (fun hc => hslot hc.1)] at hexec
  exact ⟨_, hexec, State.signedOnly_trans s.signedOnly_readyIdevidCert (State.signedOnly_respond _ _ _), rfl⟩

theorem challenge_other_slot (h : 3 ≤ s.hosting.spdmPhase) {slot : Byte} (hslot : slot ≠ 0) (n : BitVec 256) :
    ∃ t, exec (.challenge slot n) s = .next t ∧ s.signedOnly t ∧ t.hosting.response = some (0x7F, [1]) := by
  have hexec := exec_challenge_of_phase hup h slot n
  rw [if_neg hslot] at hexec
  exact ⟨_, hexec, State.signedOnly_trans s.signedOnly_readyIdevidCert (State.signedOnly_respond _ _ _), rfl⟩

theorem challenge_answers (h : 3 ≤ s.hosting.spdmPhase) (n : BitVec 256) : ∃ t, exec (.challenge 0 n) s = .next t ∧
    s.answeredSigned t 0x03 (digestBytes (sha384 s.readyIdevidCert.spdmChain) ++ beBytes 32 n.toNat) := by
  have hexec := exec_challenge_of_phase hup h 0 n
  rw [if_pos rfl] at hexec
  refine ⟨_, hexec, State.answeredSigned_of_signedOnly s.signedOnly_readyIdevidCert s.readyIdevidCert_evidenceKey
    (State.answeredSigned_respondSigned _ _ ?_)⟩
  rw [List.length_append, digestBytes_length, beBytes_length]
  decide

/-- R378: a register in the block of its value type. -/
theorem getMeasurements_register (h : 3 ≤ s.hosting.spdmPhase) (k : Fin 32) (n : BitVec 256) :
    ∃ t, exec (.getMeasurements (BitVec.ofNat 8 (k.val + 1)) n) s = .next t ∧ s.answeredSigned t 0x60
      ([BitVec.ofNat 8 (k.val + 1), 1, 51, 0, mrValueType k.val, 48, 0] ++ digestBytes (s.mr k.val)) := by
  have hb := s.measurements_register k (beBytes 32 n.toNat)
  have hexec := exec_getMeasurements_of_some hup h (congrArg Prod.snd hb)
  rw [hb, s.mrBlock_octets k.isLt] at hexec
  refine ⟨_, hexec, s.answeredSigned_respondSigned _ ?_⟩
  rw [List.length_append, digestBytes_length]
  simp only [List.length_cons, List.length_nil]
  decide

theorem getMeasurements_count (h : 3 ≤ s.hosting.spdmPhase) (n : BitVec 256) :
    ∃ t, exec (.getMeasurements 0 n) s = .next t ∧ s.answeredSigned t 0x60 [33] :=
  ⟨_, exec_getMeasurements_of_some hup h (index := 0) rfl, s.answeredSigned_respondSigned _ (by decide)⟩

theorem getMeasurements_not_served (h : 3 ≤ s.hosting.spdmPhase) (n : BitVec 256) {k : Byte} (hk : k = 0xFD ∨ k = 0xFF)
    (hserved : s.evidenceServed = false) : ∃ t, exec (.getMeasurements k n) s = .next t ∧ s.answeredBy t 0x7F [1] := by
  have hb := s.measurements_manifest hk (beBytes 32 n.toNat)
  rw [State.manifestBlock_of_not_served hserved] at hb
  have hexec := exec_getMeasurements_of_none hup h (congrArg Prod.snd hb)
  rw [hb] at hexec
  exact ⟨_, hexec, s.answeredBy_respond _ _⟩

theorem getMeasurements_other (h : 3 ≤ s.hosting.spdmPhase) (n : BitVec 256) {k : Byte} (hk : 32 < k.toNat) (hfd : k ≠ 0xFD)
    (hff : k ≠ 0xFF) : ∃ t, exec (.getMeasurements k n) s = .next t ∧ s.answeredBy t 0x7F [1] := by
  have hb := s.measurements_other hk hfd hff (beBytes 32 n.toNat)
  have hexec := exec_getMeasurements_of_none hup h (congrArg Prod.snd hb)
  rw [hb] at hexec
  exact ⟨_, hexec, s.answeredBy_respond _ _⟩

end

theorem State.respondSigned_measure (s : State) (code : Nat) (b : Bytes) : (s.respondSigned code b).measure = s.measure := by
  obtain ⟨_, _, _, _, _, _, ht, _⟩ := State.signedOnly_iff.1 (s.signedOnly_respondSigned code b)
  rw [ht]

theorem State.respondSigned_ret (s : State) (code : Nat) (b : Bytes) : (s.respondSigned code b).ret = s.ret := by
  obtain ⟨_, _, _, _, _, _, ht, _⟩ := State.signedOnly_iff.1 (s.signedOnly_respondSigned code b)
  rw [ht]

theorem State.respondSigned_keys_store (s : State) (code : Nat) (b : Bytes) :
    (s.respondSigned code b).keys.store = s.keys.store := by
  obtain ⟨_, _, _, _, _, _, ht, _⟩ := State.signedOnly_iff.1 (s.signedOnly_respondSigned code b)
  rw [ht]

/-- A signed response of any length: ERROR where nothing is released, otherwise content and signature, in parts where too long. -/
theorem State.respondSigned_response (s : State) (code : Nat) (content : Bytes) :
    (s.respondSigned code content).hosting.response = some (0x7F, [5]) ∨ ∃ sig : Bytes, sig.length = 96 ∧
      if (content ++ sig).length ≤ 4080 then (s.respondSigned code content).hosting.response = some (code, content ++ sig)
      else (s.respondSigned code content).hosting.response = some (0x7F, [0x0F]) ∧
        (s.respondSigned code content).hosting.large = BitVec.ofNat 8 code :: (content ++ sig) := by
  rw [State.respondSigned]
  cases hsig : (s.drawn.signEc s.evidenceKey.ec (Config.spdmBytes s.draws content)).2 with
  | none => exact .inl rfl
  | some sig => exact .inr ⟨sig, State.length_of_signEc hsig, State.respondLarge_response _ _ _⟩

/-- R378: the block of an index under a value type. -/
def spdmBlock (i : Nat) (ty : Byte) (v : Bytes) : Bytes :=
  [BitVec.ofNat 8 i, 1] ++ leBytes 2 (v.length + 3) ++ [ty] ++ leBytes 2 v.length ++ v

theorem measurementBlock_manifest (v : Bytes) : measurementBlock 0xFD v = spdmBlock 0xFD 0x84 v := by
  rw [measurementBlock_eq, show leBytes 1 (0x80 + measurementType 0xFD) = [0x84] by decide, spdmBlock]

theorem State.beforeManifest_eq (s : State) (k : Byte) : s.beforeManifest k =
    if k = 0xFF then (List.range 32).flatMap fun i => spdmBlock (i + 1) (mrValueType i) (digestBytes (s.mr i)) else [] := by
  rw [State.beforeManifest, List.flatMap_congr fun i hi => s.mrBlock_succ (List.mem_range.1 hi)]
  rfl

theorem getMeasurements_manifest {s : State} (hup : s.doeUp = true) (h : 3 ≤ s.hosting.spdmPhase) (n : BitVec 256) {k : Byte}
    (hk : k = 0xFD ∨ k = 0xFF) (hserved : s.evidenceServed = true) :
    ∃ t, exec (.getMeasurements k n) s = .next t ∧ t.measure = s.measure ∧ t.ret = s.ret ∧ t.keys.store = s.keys.store ∧
      match (s.token (beBytes 32 n.toNat)).2 with
      | none => t.hosting.response = some (0x7F, [1])
      | some (_, b) => t.hosting.response = some (0x7F, [5]) ∨ ∃ sig : Bytes, sig.length = 96 ∧
          let body := s.beforeManifest k ++ spdmBlock 0xFD 0x84 b ++ sig
          if body.length ≤ 4080 then t.hosting.response = some (0x60, body)
          else t.hosting.response = some (0x7F, [0x0F]) ∧ t.hosting.large = 0x60 :: body := by
  have hb := s.measurements_manifest hk (beBytes 32 n.toNat)
  rw [State.manifestBlock_of_served hserved] at hb
  have hmeasure := s.token_measure (beBytes 32 n.toNat)
  have hret := s.token_ret (beBytes 32 n.toNat)
  have hstore := s.token_keys_store (beBytes 32 n.toNat)
  have hnone := exec_getMeasurements_of_none hup h (index := k) (n := n)
  have hsome (b : Bytes) := exec_getMeasurements_of_some hup h (index := k) (n := n) (b := b)
  rw [hb] at hnone hsome
  generalize s.token (beBytes 32 n.toNat) = r at *
  obtain ⟨u, _ | ⟨c, b⟩⟩ := r
  · exact ⟨_, hnone rfl, hmeasure, hret, hstore, rfl⟩
  · refine ⟨_, hsome _ rfl, (State.respondSigned_measure _ _ _).trans hmeasure, (State.respondSigned_ret _ _ _).trans hret,
      (State.respondSigned_keys_store _ _ _).trans hstore, ?_⟩
    dsimp only
    rw [measurementBlock_manifest]
    exact State.respondSigned_response u 0x60 (s.beforeManifest k ++ spdmBlock 0xFD 0x84 b)

/-- Settles O33. -/
theorem spdmAnswers : Obligations.SpdmAnswers := by
  intro s hup chain valueType answers
  have hearly {c : Instr} {phase : Nat} {f : State → State} (hc : exec c s = .next (s.inPhase phase f))
      (h : s.hosting.spdmPhase < phase) : ∃ t, exec c s = .next t ∧ s.answeredBy t 0x7F [4] :=
    ⟨_, hc.trans (congrArg _ (State.inPhase_of_lt hup h f)), s.answeredBy_respond _ _⟩
  refine ⟨getVersion_answers hup, phase_one_answers hup, negotiateAlgorithms_answers hup, fun h => ?_, ?_, ?_⟩
  · refine ⟨⟨_, exec_getDigests_of_phase hup h,
        State.signedOnly_trans s.signedOnly_readyIdevidCert (State.signedOnly_respond _ _ _), rfl⟩,
      getCertificate_answers hup h, fun _ off len hslot => getCertificate_other_slot hup h hslot off len,
      fun _ n hslot => challenge_other_slot hup h hslot n, challenge_answers hup h, getMeasurements_register hup h, fun n => ?_⟩
    refine ⟨getMeasurements_count hup h n, fun _ hk => getMeasurements_not_served hup h n hk,
      fun _ => getMeasurements_other hup h n, fun k hk hserved => ?_⟩
    have hmanifest := getMeasurements_manifest hup h n hk hserved
    rw [s.beforeManifest_eq k] at hmanifest
    exact hmanifest
  · intro c hc h
    simp only [List.mem_cons, List.not_mem_nil, or_false] at hc
    rcases hc with rfl | rfl | rfl
    · exact hearly rfl h
    · exact hearly rfl (by omega : s.hosting.spdmPhase < 2)
    · exact hearly rfl (by omega : s.hosting.spdmPhase < 3)
  · intro c slot k off len n h hc
    simp only [List.mem_cons, List.not_mem_nil, or_false] at hc
    rcases hc with rfl | rfl | rfl | rfl <;> exact hearly rfl h

end Sys2Proof.Machine
end

section
/-! Secured SPDM sessions are set up, kept alive, moved on and ended (R117, R405-R407). -/

namespace Sys2Proof.Machine

/-! ### Public keys -/

theorem length_ecEncode (q : Point) : (ecEncode q).length = 97 := by
  rw [ecEncode]
  cases p384.affine q with
  | none => exact List.length_replicate
  | some xy => rw [List.length_cons, List.length_append, beBytes_length, beBytes_length]

/-- A share without its leading octet. -/
theorem length_ecPublic_drop (seed : Bytes) : ((ecPublic seed).drop 1).length = 96 := by
  rw [List.length_drop, ecPublic, length_ecEncode]

/-! ### Keys of a session (R111, R117) -/

/-- A session under keys of both directions. -/
def SpdmSession.withKeys (x : SpdmSession) (a b : MaskedKey) : SpdmSession := { x with requestKey := some a, responseKey := some b }

/-- What keying a session changes: its two slots, the WKR and the DRBG. -/
theorem State.keySession_eq (s : State) (i : Nat) (k : Bytes × Bytes) : ∃ w d n a b, s.keySession i k =
    ({ s with
        keys := { s.keys with wkr := w }, draws := d, start := { s.start with drbgRequests := n } } : State).modSession i
      fun x => x.withKeys a b := ⟨_, _, _, _, _, rfl⟩

/-- The next generation of a session's keys changes the same. -/
theorem State.rekeySession_eq (s : State) (i : Nat) : ∃ w d n a b, s.rekeySession i =
    ({ s with
        keys := { s.keys with wkr := w }, draws := d, start := { s.start with drbgRequests := n } } : State).modSession i
      fun x => x.withKeys a b := s.keySession_eq i _

/-! ### KEY_EXCHANGE (R405) -/

theorem State.doeUp_of_securedServed {s : State} (h : s.securedServed = true) : s.doeUp = true := by
  rw [State.securedServed, Bool.and_eq_true, Bool.and_eq_true] at h
  exact h.1.1

section
variable {s : State} (hserved : s.securedServed = true) (hphase : 3 ≤ s.hosting.spdmPhase)
include hserved hphase

/-- A KEY_EXCHANGE that the phase admits goes by what free session there is. -/
theorem exec_keyExchange_of_phase (data : Bytes) : exec (.keyExchange data) s = .next
    (match s.hosting.sessions.findIdx? fun x => x.phase == 0 with
      | none => s.spdmError 0x0A
      | some i => if (ecDecode (4 :: data)).isNone then s.spdmError 0x01 else s.exchangeKeys i data) := by
  refine congrArg Host.Outcome.next ((State.inPhase_of_le (State.doeUp_of_securedServed hserved) hphase _).trans ?_)
  exact if_neg (by rw [hserved]; decide)

theorem exec_keyExchange_of_full (data : Bytes) (hfull : s.hosting.sessions.findIdx? (fun x => x.phase == 0) = none) :
    exec (.keyExchange data) s = .next (s.spdmError 0x0A) := by
  rw [exec_keyExchange_of_phase hserved hphase, hfull]

theorem exec_keyExchange_of_no_point {data : Bytes} {i : Nat}
    (hfree : s.hosting.sessions.findIdx? (fun x => x.phase == 0) = some i) (hpoint : (ecDecode (4 :: data)).isNone = true) :
    exec (.keyExchange data) s = .next (s.spdmError 0x01) := by
  rw [exec_keyExchange_of_phase hserved hphase, hfree]
  dsimp only
  rw [if_pos hpoint]

theorem exec_keyExchange_of_point {data : Bytes} {i : Nat}
    (hfree : s.hosting.sessions.findIdx? (fun x => x.phase == 0) = some i) (hpoint : (ecDecode (4 :: data)).isSome = true) :
    exec (.keyExchange data) s = .next (s.exchangeKeys i data) := by
  rw [exec_keyExchange_of_phase hserved hphase, hfree]
  dsimp only
  rw [if_neg]
  rw [Option.isSome_iff_ne_none] at hpoint
  rwa [Option.isNone_iff_eq_none]

end

theorem State.respond_spdmSession (s : State) (code : Nat) (body : Bytes) (k : Nat) :
    (s.respond code body).spdmSession k = s.spdmSession k := rfl

theorem State.respondLarge_spdmSession (s : State) (code : Nat) (body : Bytes) (k : Nat) :
    (s.respondLarge code body).spdmSession k = s.spdmSession k := by
  rw [State.respondLarge]
  split_ifs <;> rfl

/-- An answer leaves the sessions. -/
theorem State.respondSigned_spdmSession (s : State) (code : Nat) (content : Bytes) (k : Nat) :
    (s.respondSigned code content).spdmSession k = s.spdmSession k := by
  have hsign : (s.drawn.signEc s.evidenceKey.ec (Config.spdmBytes s.draws content)).1.spdmSession k = s.spdmSession k := by
    rw [State.spdmSession, State.signEc_hosting, State.drawn_hosting, State.spdmSession]
  rw [State.respondSigned]
  split
  · rw [State.respondLarge_spdmSession, hsign]
  · rw [State.spdmError, State.respond_spdmSession, hsign]

/-- A session that a KEY_EXCHANGE of this instant sets up, before its keys. -/
def State.newSession (s : State) : SpdmSession := { phase := 1, lastMessage := s.clock.count }

/-- R405: the keyed session, the signed share, and no other session touched. -/
theorem State.exchangeKeys_spec {s : State} {i : Nat} (hi : i < s.hosting.sessions.length) (data : Bytes) :
    let share := (ecPublic ((drawBytes s.draws).drop 8)).drop 1
    (∃ a b, (s.exchangeKeys i data).spdmSession i = s.newSession.withKeys a b) ∧ s.otherSessions (s.exchangeKeys i data) i ∧
      s.answeredSigned (s.exchangeKeys i data) 0x64 (leBytes 1 i ++ share) := by
  intro share
  have hlen : (leBytes 1 i ++ share).length ≤ 3984 := by
    rw [List.length_append, leBytes_length, length_ecPublic_drop]
    decide
  have hexchange : ∃ k : Bytes × Bytes, s.exchangeKeys i data =
      (((s.generatedBy 3).modSession i fun _ => s.newSession).keySession i k).respondSigned 0x64 (leBytes 1 i ++ share) :=
    ⟨_, rfl⟩
  obtain ⟨k, hexchange⟩ := hexchange
  obtain ⟨w, d, n, a, b, hkeyed⟩ := State.keySession_eq ((s.generatedBy 3).modSession i fun _ => s.newSession) i k
  rw [hexchange, hkeyed]
  refine ⟨⟨a, b, ?_⟩, fun k hk => ?_, ?_⟩
  · rw [State.respondSigned_spdmSession, State.spdmSession_modSession_same _ (by simpa using hi)]
    exact congrArg (fun x : SpdmSession => x.withKeys a b) (State.spdmSession_modSession_same (s := s) _ hi)
  · rw [State.respondSigned_spdmSession, State.spdmSession_modSession_ne _ _ hk]
    exact s.spdmSession_modSession_ne _ hk
  · refine State.answeredSigned_of_signedOnly ?_ ?_ (State.answeredSigned_respondSigned _ _ hlen)
    · exact ⟨rfl, .inl rfl⟩
    · rfl

/-! ### What moving a key through the WKR leaves (R80, R117) -/

/-- A session's keys moved on and answered: that session under new keys, the others as they were. -/
theorem State.respond_rekeySession_spec (s : State) (i : Nat) (f : SpdmSession → SpdmSession) (code : Nat) (body : Bytes) :
    let t := ((s.rekeySession i).modSession i f).respond code body
    t.hosting.response = some (code, body) ∧ s.keyedOnly t ∧ s.otherSessions t i ∧
    (i < s.hosting.sessions.length → ∃ a b, t.spdmSession i = f ((s.spdmSession i).withKeys a b)) := by
  intro t
  obtain ⟨w, d, n, a, b, hkeyed⟩ := s.rekeySession_eq i
  have ht : t = ((s.rekeySession i).modSession i f).respond code body := rfl
  rw [hkeyed] at ht
  rw [ht]
  refine ⟨rfl, rfl, fun k hk => ?_, fun hi => ⟨a, b, ?_⟩⟩
  · exact (State.spdmSession_modSession_ne _ f hk).trans (s.spdmSession_modSession_ne _ hk)
  · refine (State.spdmSession_modSession_same f (by simpa using hi)).trans (congrArg f ?_)
    exact State.spdmSession_modSession_same (s := s) _ hi

/-! ### FINISH, and the messages of an established session -/

theorem exec_finish_of_phase {s : State} {i : Fin 4} (hserved : s.securedServed = true) (h : (s.spdmSession i.val).phase = 1)
    (ok : Bool) (hb : Byte) : exec (.finish i ok hb) s = .next
    (if ok then ((s.rekeySession i.val).modSession i.val fun x =>
        { x with phase := 2, heartbeatS := hb.toNat, lastMessage := s.clock.count }).respond 0x65 []
      else (s.endSpdm i.val).spdmError 0x06) :=
  congrArg Host.Outcome.next (if_pos ⟨hserved, h⟩)

section
variable {s : State} {i : Fin 4}

theorem finish_answers (hserved : s.securedServed = true) (hlen : s.hosting.sessions.length = 4)
    (h : (s.spdmSession i.val).phase = 1) (hb : Byte) :
    (∃ t a b, exec (.finish i true hb) s = .next t ∧ t.hosting.response = some (0x65, []) ∧ s.keyedOnly t ∧
      s.otherSessions t i.val ∧ t.spdmSession i.val = { s.spdmSession i.val with
        phase := 2, heartbeatS := hb.toNat, lastMessage := s.clock.count, requestKey := some a, responseKey := some b }) ∧
    ∃ t, exec (.finish i false hb) s = .next t ∧ t.spdmSession i.val = {} ∧ s.otherSessions t i.val := by
  constructor
  · obtain ⟨hresponse, hkeyed, hothers, hsession⟩ := s.respond_rekeySession_spec i.val
      (fun x => { x with phase := 2, heartbeatS := hb.toNat, lastMessage := s.clock.count }) 0x65 []
    obtain ⟨a, b, hsession⟩ := hsession (by omega)
    exact ⟨_, a, b, exec_finish_of_phase hserved h true hb, hresponse, hkeyed, hothers, hsession⟩
  · exact ⟨_, exec_finish_of_phase hserved h false hb, s.spdmSession_endSpdm_same i.val, fun k hk => s.spdmSession_endSpdm_ne hk⟩

variable (hsession : s.inSession i.val)
include hsession

theorem heartbeat_answers (hlen : s.hosting.sessions.length = 4) : ∃ t, exec (.heartbeat i) s = .next t ∧ s.answeredBy t 0x68 [] ∧
    s.otherSessions t i.val ∧ t.spdmSession i.val = { s.spdmSession i.val with lastMessage := s.clock.count } :=
  ⟨_, congrArg Host.Outcome.next (State.secured_of_inSession hsession _), s.answeredBy_heardOn i.val _ _ _,
    fun _ hk => s.spdmSession_modSession_ne _ hk, State.spdmSession_modSession_same (s := s) _ (by omega)⟩

theorem keyUpdate_answers (hlen : s.hosting.sessions.length = 4) : ∃ t, exec (.keyUpdate i) s = .next t ∧
    t.hosting.response = some (0x69, []) ∧ s.keyedOnly t ∧ s.otherSessions t i.val ∧ (t.spdmSession i.val).phase = 2 ∧
    ((t.spdmSession i.val).requestKey.isSome = true ∧ (t.spdmSession i.val).responseKey.isSome = true) ∧
    (t.spdmSession i.val).keyGeneration = (s.spdmSession i.val).keyGeneration + 1 := by
  obtain ⟨hresponse, hkeyed, hothers, hmoved⟩ := (s.heardOn i.val).respond_rekeySession_spec i.val
    (fun x => { x with keyGeneration := x.keyGeneration + 1 }) 0x69 []
  obtain ⟨a, b, hmoved⟩ := hmoved (by simp [State.heardOn, hlen])
  have hheard : (s.heardOn i.val).spdmSession i.val = { s.spdmSession i.val with lastMessage := s.clock.count } :=
    State.spdmSession_modSession_same (s := s) _ (by omega)
  rw [hheard] at hmoved
  refine ⟨_, congrArg Host.Outcome.next (State.secured_of_inSession hsession _), hresponse, hkeyed,
    fun k hk => (hothers k hk).trans (s.spdmSession_modSession_ne _ hk), ?_⟩
  rw [hmoved]
  exact ⟨hsession.2, ⟨rfl, rfl⟩, rfl⟩

theorem endSession_answers : ∃ t, exec (.endSession i) s = .next t ∧ t.spdmSession i.val = {} ∧ s.otherSessions t i.val ∧
    t.hosting.ide = s.hosting.ide ∧ t.hosting.tdi = s.hosting.tdi :=
  ⟨_, congrArg Host.Outcome.next (State.secured_of_inSession hsession _), (s.heardOn i.val).spdmSession_endSpdm_same i.val,
    fun _ hk => ((s.heardOn i.val).spdmSession_endSpdm_ne hk).trans (s.spdmSession_modSession_ne _ hk), rfl, rfl⟩

end

/-- Settles O34. -/
theorem securedSessionsLive : Obligations.SecuredSessionsLive := by
  intro s i hlen hserved keyed
  have hi : i.val < s.hosting.sessions.length := by omega
  refine ⟨fun data hphase hfree => ⟨fun hpoint => ?_, fun hpoint => ?_⟩, fun data hphase hfull => ?_,
    fun hb h => finish_answers hserved hlen h hb, fun h => ?_, fun hover => ?_, fun hover => ?_⟩
  · obtain ⟨⟨a, b, hnew⟩, hothers, hsigned⟩ := State.exchangeKeys_spec hi data
    refine ⟨_, _, exec_keyExchange_of_point hserved hphase hfree hpoint, ?_, ?_, ?_, hothers, rfl, length_ecPublic_drop _, hsigned⟩
    · rw [hnew]
      rfl
    · rw [hnew]
      exact ⟨rfl, rfl⟩
    · rw [hnew]
      rfl
  · exact ⟨_, exec_keyExchange_of_no_point hserved hphase hfree hpoint, rfl, s.answeredBy_respond _ _⟩
  · exact ⟨_, exec_keyExchange_of_full hserved hphase data hfull, rfl, s.answeredBy_respond _ _⟩
  · exact ⟨heartbeat_answers ⟨hserved, h⟩ hlen, keyUpdate_answers ⟨hserved, h⟩ hlen, endSession_answers ⟨hserved, h⟩⟩
  · exact ⟨_, congrArg Host.Outcome.next (if_pos hover), s.spdmSession_endSpdm_same i.val,
      fun k hk => s.spdmSession_endSpdm_ne hk, rfl⟩
  · exact congrArg Host.Outcome.next (if_neg (by rw [hover]; decide))

end Sys2Proof.Machine
end

section
/-! TDISP requests move the TDI; STOP ends the session once its receipts are made (R400-R404, R506). -/

namespace Sys2Proof.Machine

/-! ### Receipts that a stop makes (R383, R391, R404) -/

/-- What making receipts leaves of a state: only the retained objects, the evidence and the submissions move, no register does, and a
cut that could not be made at once still cannot. -/
def State.Receipting (s t : State) : Prop :=
  ∃ r m h, t = { s with ret := r, measure := m, host := h } ∧ m.mrs = s.measure.mrs ∧ (s.cutFree = false → t.cutFree = false)

theorem State.receipting_refl (s : State) : s.Receipting s := ⟨_, _, _, rfl, rfl, id⟩

theorem State.Receipting.trans {s t u : State} (hst : s.Receipting t) (htu : t.Receipting u) : s.Receipting u := by
  obtain ⟨r, m, h, rfl, hmrs, hfree⟩ := hst
  obtain ⟨r', m', h', rfl, hmrs', hfree'⟩ := htu
  exact ⟨r', m', h', rfl, hmrs'.trans hmrs, fun hs => hfree' (hfree hs)⟩

/-- Where a cut cannot be made at once there is an Alias. -/
theorem State.aliasExists_of_not_cutFree {s : State} (h : s.cutFree = false) : s.aliasExists = true := by
  rw [State.cutFree, Bool.or_eq_false_iff, Bool.not_eq_false'] at h
  exact h.1

theorem State.not_cutFree_of_deferred {s : State} (halias : s.aliasExists = true) (h : s.measure.deferred.isSome = true) :
    s.cutFree = false := by
  rw [State.cutFree, halias, Option.isNone_eq_false_iff.2 h]
  simp

theorem State.not_cutFree_of_signing {s : State} (halias : s.aliasExists = true) (h : s.measure.signing.isSome = true) :
    s.cutFree = false := by
  rw [State.cutFree, halias, Option.isNone_eq_false_iff.2 h]
  simp

theorem State.receipting_cut (s : State) (cause : Nat) : s.Receipting (s.cut cause) := by
  rw [State.cut]
  split_ifs
  · exact s.receipting_refl
  · exact ⟨_, _, _, rfl, rfl, fun h => State.not_cutFree_of_deferred (State.aliasExists_of_not_cutFree h :) rfl⟩
  · exact ⟨_, _, _, rfl, rfl, fun h => State.not_cutFree_of_signing (State.aliasExists_of_not_cutFree h :) rfl⟩

theorem State.receipting_makeReceipt (s : State) (x : Submission) (a : Answer) : s.Receipting (s.makeReceipt x a) := by
  unfold State.makeReceipt
  extract_lets gen r held _ _ t
  have hmade : s.Receipting t := ⟨_, _, _, rfl, rfl, id⟩
  split_ifs
  · exact hmade.trans (t.receipting_cut 1)
  · exact hmade

theorem State.receipting_receiptsFor (x : Submission) (l : List Answer) (s : State) : s.Receipting (s.receiptsFor x l).1 := by
  induction l generalizing s with
  | nil => exact s.receipting_refl
  | cons a l ih =>
    rw [State.receiptsFor]
    split_ifs
    · exact ih s
    · exact (s.receipting_makeReceipt x _).trans (ih _)

theorem State.receipting_receiptAll (s : State) (tag : Nat) (x : Submission) : s.Receipting (s.receiptAll tag x) :=
  (State.receipting_receiptsFor x x.answers s).trans ⟨_, _, _, rfl, rfl, id⟩

theorem State.receipting_receiptsOwed (s : State) : s.Receipting s.receiptsOwed := by
  rw [State.receiptsOwed]
  generalize s.host.bySeq = l
  induction l generalizing s with
  | nil => exact s.receipting_refl
  | cons e l ih => exact (s.receipting_receiptAll e.1 e.2).trans (ih _)

/-! ### Answers that have their receipts -/

/-- Every decided answer of a submission has its receipt. -/
def Submission.Receipted (x : Submission) : Prop := ∀ a ∈ x.answers, a.receiptNo.isSome = true

theorem HostPath.receipted_iff {h : HostPath} : h.receipted = true ↔ ∀ k x, (k, some x) ∈ h.subs → x.Receipted := by
  rw [HostPath.receipted, List.all_eq_true]
  constructor
  · intro hall k x hmem
    exact List.all_eq_true.1 (hall _ hmem)
  · rintro hall ⟨k, _ | x⟩ hmem
    · rfl
    · exact List.all_eq_true.2 (hall k x hmem)

theorem State.receiptsFor_of_receipted {l : List Answer} (h : ∀ a ∈ l, a.receiptNo.isSome = true) (s : State) (x : Submission) :
    s.receiptsFor x l = (s, l) := by
  induction l with
  | nil => rfl
  | cons a l ih =>
    rw [State.receiptsFor, h a (List.mem_cons_self ..), Bool.true_or, if_pos rfl, ih fun b hb => h b (List.mem_cons_of_mem _ hb)]

/-- Receipts taken over into a submission's answers. -/
def Submission.takeReceipts (l : List Answer) (y : Submission) : Submission :=
  let y := { y with owed := l.take y.owed.length }
  match l[y.owed.length]? with
  | some a => { y with receiptNo := a.receiptNo, flags := a.flags }
  | none => y

theorem State.receiptAll_eq (s : State) (tag : Nat) (x : Submission) : s.receiptAll tag x =
    { (s.receiptsFor x x.answers).1 with
      host := (s.receiptsFor x x.answers).1.host.modSub tag (Submission.takeReceipts (s.receiptsFor x x.answers).2) } := rfl

theorem Submission.receipted_iff {x : Submission} : x.Receipted ↔
    (∀ a ∈ x.owed, a.receiptNo.isSome = true) ∧ (x.phase = .answered → x.status.isSome = true → x.receiptNo.isSome = true) := by
  rw [Submission.Receipted, Submission.answers, List.forall_mem_append]
  refine and_congr_right fun _ => ?_
  by_cases hphase : x.phase = .answered
  · rw [if_pos hphase, Submission.answerOf]
    cases x.status with
    | none => simp
    | some c => simp [hphase]
  · simp [hphase]

/-- Receipts that all stand, taken over into answers that all have theirs. -/
theorem Submission.Receipted.takeReceipts {l : List Answer} {y : Submission} (hl : ∀ a ∈ l, a.receiptNo.isSome = true)
    (hy : y.Receipted) : (y.takeReceipts l).Receipted := by
  have howed : ∀ a ∈ l.take y.owed.length, a.receiptNo.isSome = true := fun a ha => hl a (List.mem_of_mem_take ha)
  rw [Submission.receipted_iff] at hy ⊢
  rw [Submission.takeReceipts]
  dsimp only
  cases hnext : l[(l.take y.owed.length).length]? with
  | none => exact ⟨howed, hy.2⟩
  | some a => exact ⟨howed, fun _ _ => hl a (List.mem_of_getElem? hnext)⟩

theorem SMap.mem_of_mem_erase {α : Type} {m : SMap α} {i : Nat} {e : Nat × α} (h : e ∈ SMap.erase m i) : e ∈ m := by
  induction m with
  | nil => cases h
  | cons p m ih =>
    obtain ⟨k, v⟩ := p
    rw [SMap.erase] at h
    split_ifs at h
    · exact List.mem_cons_of_mem _ h
    · rcases List.mem_cons.1 h with rfl | h
      · exact List.mem_cons_self ..
      · exact List.mem_cons_of_mem _ (ih h)

theorem SMap.mem_of_mem_insert {α : Type} {m : SMap α} {i : Nat} {x : α} {e : Nat × α} (h : e ∈ SMap.insert m i x) :
    e = (i, x) ∨ e ∈ m := by
  induction m with
  | nil => exact .inl (List.mem_singleton.1 h)
  | cons p m ih =>
    obtain ⟨k, v⟩ := p
    rw [SMap.insert] at h
    split_ifs at h
    · exact (List.mem_cons.1 h)
    · exact (List.mem_cons.1 h).imp_right (List.mem_cons_of_mem _)
    · rcases List.mem_cons.1 h with rfl | h
      · exact .inr (List.mem_cons_self ..)
      · exact (ih h).imp_right (List.mem_cons_of_mem _)

/-- What an updated map lists it listed before, or it is the update. -/
theorem SMap.mem_of_mem_set {α : Type} [DecidableEq α] {d : α} {m : SMap α} {i : Nat} {x : α} {e : Nat × α}
    (h : e ∈ SMap.set d m i x) : e = (i, x) ∨ e ∈ m := by
  rw [SMap.set] at h
  split_ifs at h
  · exact .inr (SMap.mem_of_mem_erase h)
  · exact SMap.mem_of_mem_insert h

theorem HostPath.receipted_modSub {h : HostPath} (hall : h.receipted = true) {g : Submission → Submission}
    (hg : ∀ y : Submission, y.Receipted → (g y).Receipted) (tag : Nat) : (h.modSub tag g).receipted = true := by
  rw [HostPath.receipted_iff] at hall ⊢
  intro k x hmem
  rcases SMap.mem_of_mem_set hmem with heq | hmem
  · obtain ⟨y, hy, rfl⟩ := Option.map_eq_some_iff.1 (Prod.mk.inj heq).2.symm
    exact hg y (hall tag y (SMap.mem_of_get hy (by simp)))
  · exact hall k x hmem

/-- Where every answer has its receipt already a stop makes none. -/
theorem State.receiptsOwed_of_receipted {s : State} (h : s.host.receipted = true) :
    ∃ g, s.receiptsOwed = { s with host := g } ∧ g.receipted = true := by
  have hseq : ∀ e ∈ s.host.bySeq, e.2.Receipted := by
    rintro ⟨k, x⟩ he
    rw [HostPath.bySeq, List.mem_insertionSort, List.mem_filterMap] at he
    obtain ⟨⟨k', o⟩, hmem, hsome⟩ := he
    obtain ⟨y, rfl, heq⟩ := Option.map_eq_some_iff.1 hsome
    obtain ⟨rfl, rfl⟩ := Prod.mk.inj heq
    exact HostPath.receipted_iff.1 h _ _ hmem
  rw [State.receiptsOwed]
  generalize s.host.bySeq = l at hseq
  induction l generalizing s with
  | nil => exact ⟨s.host, rfl, h⟩
  | cons e l ih =>
    have he := hseq e (List.mem_cons_self ..)
    rw [List.foldl_cons, State.receiptAll_eq, State.receiptsFor_of_receipted he]
    exact ih (s := { s with host := s.host.modSub e.1 (Submission.takeReceipts e.2.answers) })
      (HostPath.receipted_modSub h (fun y hy => hy.takeReceipts he) e.1) fun e' he' => hseq e' (List.mem_cons_of_mem _ he')

/-! ### The end of a session (R404, R426, R505) -/

theorem State.unlockTdi_eq (s : State) : ∃ p m, s.unlockTdi = { s with
    hosting := { s.hosting with tdi := .unlocked, startNonce := none, stopping := false }
    host := { s.host with msixPending := p, msixSent := m } } :=
  State.sendVectors_eq _

/-- What stands at the end of a stop. -/
structure State.Stopped (s t : State) : Prop where
  tdi : t.hosting.tdi = .unlocked
  hostMem : t.hostMem = s.hostMem
  otp : t.otp = s.otp
  mrs : t.measure.mrs = s.measure.mrs
  receipts : t.measure.receipts = []
  session : s.od.session = 2 → t.od.session ≠ 1
  cleared : s.od.drained = false → t.fabric.plan = none ∧ t.fabric.tide = none ∧ t.host.subs = [] ∧ t.hosting.models = []

/-- What a stop discards besides what the session's end clears. -/
def State.discardHeld (s : State) (loadResult : Nat) : State :=
  { s with measure := { s.measure with receipts := [] }, hosting := { s.hosting with loadResult := loadResult } }

theorem State.stopNow_eq (s : State) : ∃ r, s.stopNow =
    ((if s.od.drained then s else s.finishClose).discardHeld r).settleClosed.unlockTdi := ⟨_, rfl⟩

theorem State.stopped_stopNow (s : State) : s.Stopped s.stopNow := by
  obtain ⟨r, hstop⟩ := s.stopNow_eq
  rw [hstop]
  generalize hu : (if s.od.drained then s else s.finishClose) = u
  obtain ⟨hmem, hotp, hmrs, hsession, hcleared⟩ : u.hostMem = s.hostMem ∧ u.otp = s.otp ∧ u.measure.mrs = s.measure.mrs ∧
      u.od.session = s.od.session ∧ (s.od.drained = false → u.fabric.plan = none ∧ u.fabric.tide = none ∧ u.host.subs = [] ∧
        u.hosting.models = []) := by
    subst hu
    cases hdrained : s.od.drained with
    | true => exact ⟨rfl, rfl, rfl, rfl, fun h => by cases h⟩
    | false =>
      obtain ⟨hmrs, hod, -, -⟩ := s.cut_keeps 6
      obtain ⟨r, m, g, hcut, -, -⟩ := s.receipting_cut 6
      refine ⟨?_, ?_, hmrs, congrArg (·.session) hod, fun _ => ⟨rfl, rfl, rfl, rfl⟩⟩
      · exact congrArg (·.hostMem) hcut
      · exact congrArg (·.otp) hcut
  clear hu
  obtain ⟨p, m, hunlock⟩ := State.unlockTdi_eq (u.discardHeld r).settleClosed
  rw [hunlock]
  rcases State.settleClosed_eq (u.discardHeld r) with hclosed | hclosed
  · rw [hclosed]
    exact ⟨rfl, hmem, hotp, hmrs, rfl, fun h2 => (hsession.trans h2).trans_ne (by decide), hcleared⟩
  · rw [hclosed]
    exact ⟨rfl, hmem, hotp, hmrs, rfl, fun _ => Nat.zero_ne_one, hcleared⟩

/-- A stop that has been asked for, before anything of it is done. -/
def State.stopAsked (s : State) : State :=
  { s with od := { s.od with session := 2 }, hosting := { s.hosting with stopping := true, startNonce := none } }

theorem State.stopSession_of_none {s : State} (h : s.od.session = 0) : s.stopSession = s.unlockTdi := if_pos h

theorem State.stopSession_of_session {s : State} (h : s.od.session ≠ 0) : s.stopSession = s.stopAsked.settleStop := if_neg h

/-- A stop over what has drained, or over receipts that all stand with a FINAL that can be cut, ends the session. -/
theorem State.settleStop_eq {s : State} (h : s.hosting.stopping = true) : s.settleStop =
    if s.od.drained then s.stopNow
    else if s.receiptsOwed.host.receipted && s.receiptsOwed.cutFree then s.receiptsOwed.stopNow else s.receiptsOwed := by
  obtain ⟨r, m, g, howed, -, -⟩ := s.receipting_receiptsOwed
  have hod : s.receiptsOwed.od = s.od := by rw [howed]
  rw [State.settleStop, if_pos h]
  cases hdrained : s.od.drained with
  | true => simp only [if_true, hdrained, Bool.true_or]
  | false => simp only [Bool.false_eq_true, if_false, hod, hdrained, Bool.false_or]

/-- Whatever a stop does, it writes no host memory, blows no fuse and moves no register. -/
theorem State.settleStop_keeps {s : State} (h : s.hosting.stopping = true) :
    s.settleStop.hostMem = s.hostMem ∧ s.settleStop.otp = s.otp ∧ s.settleStop.measure.mrs = s.measure.mrs := by
  have hstop (u : State) : u.stopNow.hostMem = u.hostMem ∧ u.stopNow.otp = u.otp ∧ u.stopNow.measure.mrs = u.measure.mrs :=
    ⟨u.stopped_stopNow.hostMem, u.stopped_stopNow.otp, u.stopped_stopNow.mrs⟩
  obtain ⟨r, m, g, howed, hmrs, -⟩ := s.receipting_receiptsOwed
  rw [State.settleStop_eq h]
  split_ifs
  · exact hstop s
  · obtain ⟨hmem, hotp, hregs⟩ := hstop s.receiptsOwed
    rw [hmem, hotp, hregs, howed]
    exact ⟨rfl, rfl, hmrs⟩
  · rw [howed]
    exact ⟨rfl, rfl, hmrs⟩

/-- R404: with every receipt made and FINAL free to be cut the session is over. -/
theorem State.settleStop_ends {s : State} (h : s.hosting.stopping = true) (hdrained : s.od.drained = false)
    (hreceipted : s.host.receipted = true) (hfree : s.cutFree = true) (hsession : s.od.session = 2) :
    s.settleStop.hosting.tdi = .unlocked ∧ s.settleStop.od.session ≠ 1 ∧ s.settleStop.fabric.plan = none ∧
      s.settleStop.fabric.tide = none ∧ s.settleStop.host.subs = [] ∧ s.settleStop.measure.receipts = [] ∧
      s.settleStop.hosting.models = [] := by
  obtain ⟨g, howed, hg⟩ := State.receiptsOwed_of_receipted hreceipted
  have hnow : s.settleStop = ({ s with host := g } : State).stopNow := by
    rw [State.settleStop_eq h, hdrained, if_neg Bool.false_ne_true, howed]
    exact if_pos (by rw [Bool.and_eq_true]; exact ⟨hg, hfree⟩)
  rw [hnow]
  have hstopped := State.stopped_stopNow { s with host := g }
  obtain ⟨hplan, htide, hsubs, hmodels⟩ := hstopped.cleared hdrained
  exact ⟨hstopped.tdi, hstopped.session hsession, hplan, htide, hsubs, hstopped.receipts, hmodels⟩

/-- R404, log 107: where FINAL cannot be cut the stop waits. -/
theorem State.settleStop_waits {s : State} (h : s.hosting.stopping = true) (hdrained : s.od.drained = false)
    (hfree : s.cutFree = false) :
    s.settleStop.hosting = s.hosting ∧ s.settleStop.od = s.od ∧ s.settleStop.fabric = s.fabric := by
  obtain ⟨r, m, g, howed, -, hbusy⟩ := s.receipting_receiptsOwed
  rw [State.settleStop_eq h, hdrained, if_neg Bool.false_ne_true, hbusy hfree, Bool.and_false, if_neg Bool.false_ne_true, howed]
  exact ⟨rfl, rfl, rfl⟩

/-! ### The requests of TDISP (R400-R404) -/

section
variable {s : State} {i : Fin 4} (hsession : s.inSession i.val)
include hsession

/-- Version, capabilities and state are answered in every state of the TDI. -/
theorem tdisp_queries_answer :
    (∃ t b, exec (.getTdispVersion i) s = .next t ∧ s.answeredBy t 0x01 b ∧ t.hosting.tdi = s.hosting.tdi) ∧
    (∃ t b, exec (.getTdispCapabilities i) s = .next t ∧ s.answeredBy t 0x02 b ∧ t.hosting.tdi = s.hosting.tdi) ∧
    ∃ t, exec (.getDeviceInterfaceState i) s = .next t ∧ s.answeredBy t 0x05 (leBytes 1 s.hosting.tdi.code) ∧
      t.hosting.tdi = s.hosting.tdi :=
  ⟨⟨_, _, congrArg Host.Outcome.next (State.secured_of_inSession hsession _), ⟨rfl, rfl⟩, rfl⟩,
    ⟨_, _, congrArg Host.Outcome.next (State.secured_of_inSession hsession _), ⟨rfl, rfl⟩, rfl⟩,
    ⟨_, congrArg Host.Outcome.next (State.secured_of_inSession hsession _), ⟨rfl, rfl⟩, rfl⟩⟩

theorem lock_answers (h : s.hosting.tdi = .unlocked) : ∃ (t : State) (n : BitVec 256),
    exec (.lockInterfaceRequest i) s = .next t ∧ t.hosting.tdi = .locked ∧ t.hosting.startNonce = some n ∧
      s.answeredBy t 0x03 (beBytes 32 n.toNat) :=
  ⟨_, (Config.drbg s.draws).setWidth 256, congrArg Host.Outcome.next ((State.secured_of_inSession hsession _).trans (if_pos h)),
    rfl, rfl, rfl, rfl⟩

theorem lock_refused (h : s.hosting.tdi ≠ .unlocked) : ∃ t b, exec (.lockInterfaceRequest i) s = .next t ∧
    t.hosting.tdi = s.hosting.tdi ∧ s.answeredBy t 0x7F b :=
  ⟨_, _, congrArg Host.Outcome.next ((State.secured_of_inSession hsession _).trans (if_neg h)), rfl, rfl, rfl⟩

theorem report_answers (h : s.hosting.tdi = .locked) : ∃ t b, exec (.getDeviceInterfaceReport i) s = .next t ∧
    s.answeredBy t 0x04 b ∧ t.hosting.tdi = .locked :=
  ⟨_, _, congrArg Host.Outcome.next ((State.secured_of_inSession hsession _).trans (if_pos (.inl h))), ⟨rfl, rfl⟩, h⟩

/-- START in CONFIG_LOCKED goes by the nonce of the lock. -/
theorem exec_start_of_locked (h : s.hosting.tdi = .locked) (n : BitVec 256) : exec (.startInterfaceRequest i n) s = .next
    (if s.hosting.startNonce ≠ some n then (s.heardOn i.val).tdispError 0x102
      else ({ s.heardOn i.val with
        hosting := { (s.heardOn i.val).hosting with tdi := .run, startNonce := none } } : State).sendVectors.respond 0x06 []) :=
  congrArg Host.Outcome.next ((State.secured_of_inSession hsession _).trans (if_neg (not_not_intro h)))

theorem start_answers (h : s.hosting.tdi = .locked) (n : BitVec 256) (hn : s.hosting.startNonce = some n) :
    ∃ t, exec (.startInterfaceRequest i n) s = .next t ∧ t.hosting.tdi = .run ∧ t.hosting.response = some (0x06, []) ∧
      t = { s with
        hosting := t.hosting
        host := { s.host with msixPending := t.host.msixPending, msixSent := t.host.msixSent } } := by
  have hexec := exec_start_of_locked hsession h n
  rw [if_neg (not_not_intro hn)] at hexec
  obtain ⟨p, m, hsend⟩ := State.sendVectors_eq
    { s.heardOn i.val with hosting := { (s.heardOn i.val).hosting with tdi := .run, startNonce := none } }
  rw [hsend] at hexec
  exact ⟨_, hexec, rfl, rfl, rfl⟩

theorem start_refused (h : s.hosting.tdi = .locked) (n : BitVec 256) (hn : s.hosting.startNonce ≠ some n) :
    ∃ t b, exec (.startInterfaceRequest i n) s = .next t ∧ t.hosting.tdi = .locked ∧ s.answeredBy t 0x7F b :=
  ⟨_, _, (exec_start_of_locked hsession h n).trans (congrArg _ (if_pos hn)), h, rfl, rfl⟩

theorem exec_stop_of_inSession : exec (.stopInterfaceRequest i) s = .next ((s.heardOn i.val).stopSession.respond 7 []) :=
  congrArg Host.Outcome.next (State.secured_of_inSession hsession _)

theorem stop_answers : ∃ t, exec (.stopInterfaceRequest i) s = .next t ∧ t.hosting.response = some (7, []) ∧
    t.hostMem = s.hostMem ∧ t.otp = s.otp ∧ t.measure.mrs = s.measure.mrs ∧
    (s.od.session = 0 → t.hosting.tdi = .unlocked ∧ t = { s with
      hosting := t.hosting
      host := { s.host with msixPending := t.host.msixPending, msixSent := t.host.msixSent } }) ∧
    (s.od.session ≠ 0 → s.od.drained = false → s.host.receipted = true → s.cutFree = true →
      t.hosting.tdi = .unlocked ∧ t.od.session ≠ 1 ∧ t.fabric.plan = none ∧ t.fabric.tide = none ∧ t.host.subs = [] ∧
        t.measure.receipts = [] ∧ t.hosting.models = []) ∧
    (s.od.session ≠ 0 → s.od.drained = false → s.cutFree = false →
      t.hosting.tdi = s.hosting.tdi ∧ t.hosting.stopping = true ∧ t.od.session = 2 ∧ t.fabric = s.fabric) := by
  have hexec := exec_stop_of_inSession hsession
  by_cases h0 : s.od.session = 0
  · obtain ⟨p, m, hunlock⟩ := (s.heardOn i.val).unlockTdi_eq
    rw [State.stopSession_of_none (s := s.heardOn i.val) h0, hunlock] at hexec
    exact ⟨_, hexec, rfl, rfl, rfl, rfl, fun _ => ⟨rfl, rfl⟩, fun h => absurd h0 h, fun h => absurd h0 h⟩
  · rw [State.stopSession_of_session (s := s.heardOn i.val) h0] at hexec
    obtain ⟨hmem, hotp, hmrs⟩ := State.settleStop_keeps (s := (s.heardOn i.val).stopAsked) rfl
    refine ⟨_, hexec, rfl, hmem, hotp, hmrs, fun h => absurd h h0, fun _ hdrained hreceipted hfree => ?_,
      fun _ hdrained hfree => ?_⟩
    · exact State.settleStop_ends (s := (s.heardOn i.val).stopAsked) rfl hdrained hreceipted hfree rfl
    · obtain ⟨hhosting, hod, hfabric⟩ := State.settleStop_waits (s := (s.heardOn i.val).stopAsked) rfl hdrained hfree
      exact ⟨congrArg (·.tdi) hhosting, congrArg (·.stopping) hhosting, congrArg (·.session) hod, hfabric⟩

end

/-- R403: a locked configuration that changes. -/
theorem exec_lockedConfigurationChange_of_locked {s : State} (h : s.hosting.tdi = .locked ∨ s.hosting.tdi = .run) :
    exec .lockedConfigurationChange s = .next { s with hosting := { s.hosting with tdi := .error, startNonce := none } } :=
  congrArg Host.Outcome.next (if_pos h)

/-- Settles O36. -/
theorem tdiMoves : Obligations.TdiMoves := by
  intro s i hsession
  obtain ⟨hversion, hcaps, hstate⟩ := tdisp_queries_answer hsession
  exact ⟨hversion, hcaps, hstate, lock_answers hsession,
    fun h => ⟨report_answers hsession h, start_answers hsession h, start_refused hsession h⟩,
    lock_refused hsession, fun h => ⟨_, exec_lockedConfigurationChange_of_locked h, rfl, rfl⟩, stop_answers hsession⟩

end Sys2Proof.Machine
end

section
/-! Strait ports agree keys with a partner that passes every check, and the two sides derive each other's keys (R439-R446). -/

namespace Sys2Proof.Machine

/-! ### What an agreement's messages leave -/

theorem length_kdf_le (key label context : Bytes) (n : Nat) : (kdf key label context n).length ≤ n := by
  unfold kdf
  exact List.length_take_le _ _

section
variable {s t : State} {p : Nat}

theorem State.onlyPort_refl (s : State) (p : Nat) : s.onlyPort s p := ⟨fun _ _ => rfl, rfl, .inl rfl⟩

theorem State.onlyPort.generatedBy (h : s.onlyPort t p) (n : Nat) : s.onlyPort (t.generatedBy n) p := by
  obtain ⟨hothers, heq, hengines⟩ := h
  exact ⟨hothers, congrArg (State.generatedBy · n) heq, hengines⟩

theorem State.onlyPort.bnAlarm (h : s.onlyPort t p) : s.onlyPort t.bnAlarm p := by
  obtain ⟨hothers, heq, hengines⟩ := h
  refine ⟨hothers, congrArg State.bnAlarm heq, .inr ?_⟩
  change t.engines.bnAlarm = _
  rcases hengines with he | he
  · rw [he]
  · rw [he]
    rfl

theorem State.onlyPort.sign (h : s.onlyPort t p) (k : Signer) (a b : Bytes) : s.onlyPort (t.sign k a b).1 p := by
  rw [State.sign]
  split_ifs
  · exact h.generatedBy 4
  · exact h.generatedBy 8
  · exact (h.generatedBy 8).bnAlarm

theorem State.onlyPort.otp (h : s.onlyPort t p) : t.otp = s.otp := (congrArg State.otp h.2.1 :)

theorem State.onlyPort.aliasSigner (h : s.onlyPort t p) : t.aliasSigner = s.aliasSigner := (congrArg State.aliasSigner h.2.1 :)

end

/-- R172: the first of two hybrid signatures that verifies is released. -/
theorem State.sign_snd (s : State) (k : Signer) (a b : Bytes) : (s.sign k a b).2 =
    if k.verifies a b (k.attempt a b s.draws) then some (k.attempt a b s.draws)
    else if k.verifies a b (k.attempt a b (s.draws + 4)) then some (k.attempt a b (s.draws + 4))
    else none := by
  rw [State.sign]
  split_ifs <;> rfl

/-! ### The keys of one agreement (R441) -/

theorem State.transcriptOf_congr {s t : State} (h : t.otp = s.otp) (a : Agreement) (m : HelloMsg) :
    t.transcriptOf a m = s.transcriptOf a m := by
  rw [State.transcriptOf, State.transcriptOf, State.lower, State.lower, h]

theorem State.linkKeys_congr {s t : State} (h : t.otp = s.otp) (a : Agreement) (m : HelloMsg) (z mine : Bytes) :
    t.linkKeys a m z mine = s.linkKeys a m z mine := by
  rw [State.linkKeys, State.linkKeys, State.transcriptOf_congr h, State.lower, State.lower, h]

theorem State.length_linkKeys (s : State) (a : Agreement) (m : HelloMsg) (z mine : Bytes) :
    (s.linkKeys a m z mine).1.length ≤ 32 ∧ (s.linkKeys a m z mine).2.length ≤ 32 := by
  rw [State.linkKeys]
  exact ⟨length_kdf_le _ _ _ 32, length_kdf_le _ _ _ 32⟩

theorem length_kemDecap (seed ct : Bytes) : (kemDecap seed ct).length = 32 := length_fit _ _

/-- Of two different serials one is the lower. -/
theorem lower_partner {s u : State} {m n : HelloMsg} (hm : m.serial = u.otp.serial) (hn : n.serial = s.otp.serial)
    (hne : s.otp.serial ≠ u.otp.serial) : u.lower n = !s.lower m := by
  have hnat : s.otp.serial.toNat ≠ u.otp.serial.toNat := fun h => hne (BitVec.eq_of_toNat_eq h)
  rw [State.lower, State.lower, hm, hn, ← decide_not, decide_eq_decide]
  omega

/-- Both sides order the same messages alike. -/
theorem transcriptOf_partner {s u : State} {m n : HelloMsg} {a b : Agreement} (hlower : u.lower n = !s.lower m)
    (hsent : a.sent = b.received) (hreceived : b.sent = a.received) : u.transcriptOf b n = s.transcriptOf a m := by
  rw [State.transcriptOf, State.transcriptOf, hlower, hreceived, ← hsent]
  cases s.lower m <;> rfl

/-- R441: the two sides of one agreement derive the same two keys, each the other's transmit key. -/
theorem linkKeys_partner {s u : State} {a b : Agreement} {m n : HelloMsg} {z mine theirs : Bytes}
    (hm : m.serial = u.otp.serial) (hn : n.serial = s.otp.serial) (hne : s.otp.serial ≠ u.otp.serial)
    (hsent : a.sent = b.received) (hreceived : b.sent = a.received) (hepoch : a.epoch = b.epoch)
    (htheirs : heldKey a.kemToPeer = theirs) (hmine : heldKey b.kemToPeer = mine) :
    u.linkKeys b n z theirs = ((s.linkKeys a m z mine).2, (s.linkKeys a m z mine).1) := by
  have hlower := lower_partner hm hn hne
  rw [State.linkKeys, State.linkKeys, transcriptOf_partner hlower hsent hreceived, hlower, htheirs, hmine, hepoch, hm, hn]
  cases s.lower m <;> rfl

/-! ### HELLO (R440, R441) -/

/-- What an accepted HELLO has shown. -/
theorem State.checks_of_acceptsPeer {s : State} {m : HelloMsg} (h : s.acceptsPeer m = true) :
    m.aliasOk = true ∧ s.otp.lifecycleCode = 1 ∧
      sha384 (List.replicate 48 0 ++ leBytes 4 m.mr8Record.toNat) = m.certMr.getD 8 0 ∧
      (s.start.condition.debugClass = false → m.idevidOkProduction = true) ∧
      (s.ret.peerPolicy = 1 → ∀ k, k < 6 → m.certMr.getD (k + 1) 0 = s.mr (k + 1)) := by
  simp only [State.acceptsPeer, Bool.and_eq_true, beq_iff_eq, Bool.or_eq_true, bne_iff_ne, List.all_eq_true, List.mem_range] at h
  obtain ⟨⟨⟨⟨⟨⟨hidevid, halias⟩, hrecord⟩, hlifecycle⟩, -⟩, -⟩, hpolicy⟩ := h
  refine ⟨halias, hlifecycle, hrecord, fun hdebug => ?_, fun hone k hk => ?_⟩
  · rwa [hdebug, if_neg Bool.false_ne_true] at hidevid
  · exact (hpolicy.resolve_left (not_not_intro hone)) k hk

section
variable {s : State} {p : Fin 12} {a : Agreement} (hagreement : (s.port p.val).agreement = some a)
include hagreement

theorem exec_hello_of_accepted {m : HelloMsg} (hpeer : a.peer = none) (h : s.acceptsPeer m = true) :
    exec (.hello p m) s = .next (s.answerHello p.val a m) := by
  change execHello p m s = _
  rw [execHello, hagreement]
  dsimp only
  rw [if_neg (by rw [hpeer]; decide), if_pos h]

theorem exec_hello_of_refused {m : HelloMsg} (hpeer : a.peer = none) (h : s.acceptsPeer m = false) :
    exec (.hello p m) s = .next (s.refusePort p.val) := by
  change execHello p m s = _
  rw [execHello, hagreement]
  dsimp only
  rw [if_neg (by rw [hpeer]; decide), if_neg (by rw [h]; decide)]

end

/-- The answer to a HELLO is the partner noted, a secret for it as shares, and ENCAP among what was sent. -/
theorem State.answerHello_eq (s : State) (p : Nat) (a : Agreement) (m : HelloMsg) : ∃ (t : State) (b : Agreement) (k : MaskedKey),
    s.answerHello p a m = t.modPort p (fun x => { x with agreement := some b, agreedAt := s.clock.count }) ∧
    s.onlyPort t p ∧ t.straits = s.straits ∧ b.peer = some m ∧ b.epoch = a.epoch ∧ b.kemToPeer = some k ∧ k.key.length = 32 ∧
    b.received = a.received ++ m.raw := by
  refine ⟨_, _, _, rfl, (s.onlyPort_generatedBy p 1).transfer _, rfl, rfl, rfl, rfl, ?_, rfl⟩
  rw [State.transfer_key, key_maskKey, length_fit]
  rw [length_fit]
  decide

/-- R440: a refused port. -/
theorem State.refusePort_spec {s : State} {p : Nat} (hp : p < s.straits.ports.length) :
    (s.refusePort p).port p = { (s.port p).fresh .refused with refusedAt := s.clock.count } ∧ s.onlyPort (s.refusePort p) p :=
  ⟨s.port_modPort_same _ hp, (s.onlyPort_refl p).modPort _⟩

/-! ### ENCAP (R441, R172) -/

theorem exec_encap_of_partner {s : State} {p : Fin 12} {a : Agreement} {m : HelloMsg} (hagreement : (s.port p.val).agreement = some a)
    (hpeer : a.peer = some m) (hfirst : a.kemFromPeer = none) (ct : Bytes) :
    exec (.encap p ct) s = .next (s.encapped p.val a m ct) := by
  change execEncap p ct s = _
  rw [execEncap, hagreement]
  dsimp only
  rw [hpeer]
  dsimp only
  rw [if_pos (by rw [hfirst]; rfl)]

/-- The opened secret and the keys of the epoch, held as shares. -/
theorem State.deriveLink_eq (s : State) (p : Nat) (a : Agreement) (m : HelloMsg) (ct : Bytes) :
    ∃ (t : State) (k tx rx : MaskedKey), s.deriveLink p a m ct =
      (t.modPort p fun x => { x with nextTx := some tx, nextRx := some rx }, { a.received2 ct with kemFromPeer := some k }) ∧
    s.onlyPort t p ∧ t.straits = s.straits ∧ k.key = kemDecap a.kemSeed.key ct ∧
    (tx.key, rx.key) = s.linkKeys (a.received2 ct) m (ecdh a.ecSeed.key m.ecPub s.draws) (kemDecap a.kemSeed.key ct) := by
  have hlink := State.linkKeys_congr (s := s) (t := s.generatedBy 2) rfl (a.received2 ct) m
    (ecdh a.ecSeed.key m.ecPub s.draws) (kemDecap a.kemSeed.key ct)
  have hlen := (s.generatedBy 2).length_linkKeys (a.received2 ct) m
    (ecdh a.ecSeed.key m.ecPub s.draws) (kemDecap a.kemSeed.key ct)
  refine ⟨_, _, _, _, rfl, (((s.onlyPort_generatedBy p 2).transfer _).transfer _).transfer _, ?_, ?_, ?_⟩
  · rw [State.transfer_straits, State.transfer_straits, State.transfer_straits, State.agreeEc_straits]
  · rw [State.transfer_key, key_maskKey]
    rw [length_kemDecap]
    decide
  · rw [← hlink, State.transfer_key, State.transfer_key, key_maskKey, key_maskKey]
    · rfl
    · exact hlen.2.trans (by decide)
    · exact hlen.1.trans (by decide)

/-- R172, R441: CONFIRM as one of two attempts that verifies gives it, and none where neither does. -/
def Signer.confirmBytes (key : Signer) (d : Bytes) (n : Nat) : Bytes :=
  if key.verifies d d (key.attempt d d n) then Config.straitMessage 3 [(key.attempt d d n).1, (key.attempt d d n).2]
  else if key.verifies d d (key.attempt d d (n + 4)) then
    Config.straitMessage 3 [(key.attempt d d (n + 4)).1, (key.attempt d d (n + 4)).2]
  else []

/-- The CONFIRM that goes out is made of the signatures that are released. -/
theorem State.confirm_of_sign (s : State) (k : Signer) (d : Bytes) :
    (match (s.sign k d d).2 with | some sig => Config.straitMessage 3 [sig.1, sig.2] | none => []) = k.confirmBytes d s.draws := by
  rw [State.sign_snd, Signer.confirmBytes]
  split_ifs <;> rfl

/-- What ENCAP leaves of the state in which the link has been derived. -/
theorem State.encapped_eq (s : State) (p : Nat) (a : Agreement) (m : HelloMsg) (ct : Bytes) :
    let d := s.deriveLink p a m ct
    let t := digestBytes (d.1.transcriptOf d.2 m)
    s.encapped p a m ct = (d.1.sign d.1.aliasSigner t t).1.modPort p fun x =>
      { x with agreement := some { d.2 with confirm := d.1.aliasSigner.confirmBytes t d.1.draws }, agreedAt := s.clock.count } := by
  intro d t
  rw [← State.confirm_of_sign]
  rfl

/-- ENCAP opened: the secret and the keys of the epoch are held, CONFIRM goes out, and the port's state stands. -/
theorem State.encapped_spec {s : State} {p : Nat} (hp : p < s.straits.ports.length) (a : Agreement) (m : HelloMsg) (ct : Bytes) :
    let t := s.encapped p a m ct
    ∃ (k tx rx : MaskedKey) (n : Nat),
      t.port p = { s.port p with
        nextTx := some tx, nextRx := some rx, agreedAt := s.clock.count
        agreement := some { a.received2 ct with
          kemFromPeer := some k
          confirm := s.aliasSigner.confirmBytes (digestBytes (s.transcriptOf (a.received2 ct) m)) n } } ∧
      k.key = kemDecap a.kemSeed.key ct ∧
      (tx.key, rx.key) = s.linkKeys (a.received2 ct) m (ecdh a.ecSeed.key m.ecPub s.draws) (kemDecap a.kemSeed.key ct) ∧
      s.onlyPort t p := by
  intro t
  obtain ⟨u, k, tx, rx, hderive, honly, hstraits, hk, hkeys⟩ := s.deriveLink_eq p a m ct
  have hkeyed := honly.modPort fun x => { x with nextTx := some tx, nextRx := some rx }
  have ht : t = _ := s.encapped_eq p a m ct
  rw [hderive] at ht
  dsimp only at ht
  generalize hv : (u.modPort p fun x => { x with nextTx := some tx, nextRx := some rx }) = v at ht hkeyed
  have hports : v.port p = { s.port p with nextTx := some tx, nextRx := some rx } := by
    rw [← hv, State.port_modPort_same _ _ (hstraits ▸ hp), State.port_congr (congrArg Straits.ports hstraits)]
  have hlen : v.straits.ports.length = s.straits.ports.length := by
    rw [← hv, State.modPort_straits, modifyAt_length, hstraits]
  have htranscript : v.transcriptOf { a.received2 ct with kemFromPeer := some k } m = s.transcriptOf (a.received2 ct) m :=
    State.transcriptOf_congr (a := a.received2 ct) (m := m) hkeyed.otp
  rw [htranscript, hkeyed.aliasSigner] at ht
  refine ⟨k, tx, rx, v.draws, ?_, hk, hkeys, ?_⟩
  · rw [ht, State.port_modPort_same _ _ (by rw [State.sign_straits, hlen]; exact hp),
      State.port_congr (congrArg Straits.ports (v.sign_straits _ _ _)), hports]
  · rw [ht]
    exact (hkeyed.sign _ _ _).modPort _

/-! ### CONFIRM (R440, R441, R446) -/

section
variable {s : State} {p : Fin 12} {a : Agreement} {m : HelloMsg} (hagreement : (s.port p.val).agreement = some a)
  (hpeer : a.peer = some m)
include hagreement hpeer

theorem exec_confirm_of_partner (e d : Bool) : exec (.confirm p e d) s = .next
    (if a.kemFromPeer.isNone ∨ a.confirm = [] then s
      else if e && d then s.confirmed p.val a m else s.refusePort p.val) := by
  change execConfirm p e d s = _
  rw [execConfirm, hagreement]
  dsimp only
  rw [hpeer]

theorem exec_confirm_of_early (e d : Bool) (h : a.kemFromPeer = none ∨ a.confirm = []) : exec (.confirm p e d) s = .next s := by
  rw [exec_confirm_of_partner hagreement hpeer, if_pos (by rwa [Option.isNone_iff_eq_none])]

theorem exec_confirm_of_ready {k : MaskedKey} (hk : a.kemFromPeer = some k) (hconfirm : a.confirm ≠ []) (e d : Bool) :
    exec (.confirm p e d) s = .next (if e && d then s.confirmed p.val a m else s.refusePort p.val) := by
  rw [exec_confirm_of_partner hagreement hpeer, if_neg]
  rintro (hnone | hempty)
  · rw [hk] at hnone
    cases hnone
  · exact hconfirm hempty

end

theorem State.confirmed_spec {s : State} {p : Nat} (hp : p < s.straits.ports.length) (a : Agreement) (m : HelloMsg) :
    (s.confirmed p a m).port p = (if (s.port p).state = .up then (s.port p).sends a.epoch s.now s.clock.count
      else ((s.port p).sends a.epoch s.now s.clock.count).up m) ∧ s.onlyPort (s.confirmed p a m) p :=
  ⟨s.port_modPort_same _ hp, (s.onlyPort_refl p).modPort _⟩

/-! ### Bring-up (R97, R439, R440) -/

section
variable {s : State} {p : Fin 12} (hlive : s.portLive p.val = true)
include hlive

theorem exec_trainingDone_of_trained (h : (s.port p.val).state = .training ∨ (s.port p.val).state = .fault) :
    exec (.trainingDone p) s = .next (s.bringUp p.val) := congrArg Host.Outcome.next (if_pos ⟨hlive, h⟩)

theorem exec_refusedRetry_of_due (h : (s.port p.val).state = .refused)
    (hdue : (s.port p.val).refusedAt + 10000000000 ≤ s.clock.count) :
    exec (.refusedRetry p) s = .next (s.bringUp p.val) := congrArg Host.Outcome.next (if_pos ⟨hlive, h, hdue⟩)

end

theorem exec_refusedRetry_of_early {s : State} {p : Fin 12} (h : s.clock.count < (s.port p.val).refusedAt + 10000000000) :
    exec (.refusedRetry p) s = .next s :=
  congrArg Host.Outcome.next (if_neg fun hc => absurd hc.2.2 (Nat.not_le.2 h))

/-- R439, log 58: a port brought up agrees epoch 0 with nobody yet. -/
theorem State.bringUp_spec {s : State} {p : Nat} (hp : p < s.straits.ports.length) : ∃ a,
    ((s.bringUp p).port p).state = .agreeing ∧ ((s.bringUp p).port p).agreement = some a ∧ a.epoch = 0 ∧ a.peer = none ∧
      s.onlyPort (s.bringUp p) p := by
  obtain ⟨a, hport, hepoch, hpeer⟩ := State.port_agree 0 (fun x => x.fresh .agreeing) hp
  refine ⟨a, ?_, ?_, hepoch, hpeer, s.onlyPort_agree p 0 _⟩
  · rw [State.bringUp, hport]
    rfl
  · rw [State.bringUp, hport]

/-! ### The clauses of an agreement -/

section
variable {s : State} {p : Fin 12} (hp : p.val < s.straits.ports.length)
include hp

theorem hello_answers {a : Agreement} {m : HelloMsg} (hagreement : (s.port p.val).agreement = some a) (hpeer : a.peer = none)
    (haccepts : s.acceptsPeer m = true) : ∃ t b k, exec (.hello p m) s = .next t ∧ (t.port p.val).agreement = some b ∧
      b.peer = some m ∧ b.epoch = a.epoch ∧ b.kemToPeer = some k ∧ k.key.length = 32 ∧ b.received = a.received ++ m.raw ∧
      (t.port p.val).state = (s.port p.val).state ∧ s.onlyPort t p.val := by
  obtain ⟨u, b, k, hanswer, honly, hstraits, hm, hepoch, hk, hlen, hreceived⟩ := s.answerHello_eq p.val a m
  have hport : (s.answerHello p.val a m).port p.val =
      { s.port p.val with agreement := some b, agreedAt := s.clock.count } := by
    rw [hanswer, State.port_modPort_same _ _ (hstraits ▸ hp), State.port_congr (congrArg Straits.ports hstraits)]
  refine ⟨_, b, k, exec_hello_of_accepted hagreement hpeer haccepts, ?_, hm, hepoch, hk, hlen, hreceived, ?_, ?_⟩
  · rw [hport]
  · rw [hport]
  · rw [hanswer]
    exact honly.modPort _

theorem hello_refused {a : Agreement} {m : HelloMsg} (hagreement : (s.port p.val).agreement = some a) (hpeer : a.peer = none)
    (haccepts : s.acceptsPeer m = false) : ∃ t, exec (.hello p m) s = .next t ∧ (t.port p.val).state = .refused ∧
      (t.port p.val).agreement = none ∧ (t.port p.val).refusedAt = s.clock.count ∧ s.onlyPort t p.val := by
  obtain ⟨hport, honly⟩ := State.refusePort_spec hp
  refine ⟨_, exec_hello_of_refused hagreement hpeer haccepts, ?_, ?_, ?_, honly⟩
  all_goals rw [hport]
  all_goals rfl

theorem encap_answers {a : Agreement} {m : HelloMsg} (ct : Bytes) (hagreement : (s.port p.val).agreement = some a)
    (hpeer : a.peer = some m) (hfirst : a.kemFromPeer = none) :
    ∃ t b k tx rx, exec (.encap p ct) s = .next t ∧ (t.port p.val).agreement = some b ∧ b.kemFromPeer = some k ∧
      k.key = kemDecap a.kemSeed.key ct ∧ b.sent = a.sent ∧ b.received = a.received ++ Config.straitMessage 2 [ct] ∧
      (t.port p.val).nextTx = some tx ∧ (t.port p.val).nextRx = some rx ∧
      (tx.key, rx.key) = s.linkKeys (a.received2 ct) m (ecdh a.ecSeed.key m.ecPub s.draws) (kemDecap a.kemSeed.key ct) ∧
      (∃ n, b.confirm = s.aliasSigner.confirmBytes (digestBytes (s.transcriptOf (a.received2 ct) m)) n) ∧
      (t.port p.val).state = (s.port p.val).state ∧ s.onlyPort t p.val := by
  have hspec := State.encapped_spec hp a m ct
  have hexec := exec_encap_of_partner hagreement hpeer hfirst ct
  generalize s.encapped p.val a m ct = t at hspec hexec
  obtain ⟨k, tx, rx, n, hport, hk, hkeys, honly⟩ := hspec
  refine ⟨t, _, k, tx, rx, hexec, congrArg Port.agreement hport, rfl, hk, rfl, rfl, congrArg Port.nextTx hport,
    congrArg Port.nextRx hport, hkeys, ⟨n, rfl⟩, ?_, honly⟩
  rw [hport]

section
variable {a : Agreement} {m : HelloMsg} {k : MaskedKey} (hagreement : (s.port p.val).agreement = some a) (hpeer : a.peer = some m)
  (hk : a.kemFromPeer = some k) (hconfirm : a.confirm ≠ [])
include hagreement hpeer hk hconfirm

theorem confirm_brings_up (hstate : (s.port p.val).state ≠ .up) :
    ∃ t, exec (.confirm p true true) s = .next t ∧ (t.port p.val).state = .up ∧ (t.port p.val).agreement = none ∧
      (t.port p.val).epoch = a.epoch ∧ (t.port p.val).keyTx = (s.port p.val).nextTx ∧
      (t.port p.val).keyRx = (s.port p.val).nextRx ∧ (t.port p.val).nextTx = none ∧ (t.port p.val).nextRx = none ∧
      (t.port p.val).expected = 0 ∧ (t.port p.val).txCounter = 0 ∧
      (t.port p.val).partner = some (m.address.toNat, m.serial, m.port.toNat) ∧ s.onlyPort t p.val := by
  obtain ⟨hport, honly⟩ := State.confirmed_spec hp a m
  rw [if_neg hstate] at hport
  refine ⟨_, exec_confirm_of_ready hagreement hpeer hk hconfirm true true, ?_⟩
  rw [Bool.and_true, if_pos rfl, hport]
  exact ⟨rfl, rfl, rfl, rfl, rfl, rfl, rfl, rfl, rfl, rfl, honly⟩

theorem confirm_switches (hstate : (s.port p.val).state = .up) :
    ∃ t, exec (.confirm p true true) s = .next t ∧ (t.port p.val).state = .up ∧ (t.port p.val).epoch = a.epoch ∧
      (t.port p.val).keyTx = (s.port p.val).nextTx ∧ (t.port p.val).nextTx = none ∧
      (t.port p.val).nextRx = (s.port p.val).nextRx ∧ (t.port p.val).keyRx = (s.port p.val).keyRx ∧
      (t.port p.val).expected = (s.port p.val).expected ∧ (t.port p.val).txCounter = 0 ∧ s.onlyPort t p.val := by
  obtain ⟨hport, honly⟩ := State.confirmed_spec hp a m
  rw [if_pos hstate] at hport
  refine ⟨_, exec_confirm_of_ready hagreement hpeer hk hconfirm true true, ?_⟩
  rw [Bool.and_true, if_pos rfl, hport]
  exact ⟨hstate, rfl, rfl, rfl, rfl, rfl, rfl, rfl, honly⟩

theorem confirm_refused {e d : Bool} (hbad : (e && d) = false) : ∃ t, exec (.confirm p e d) s = .next t ∧
    (t.port p.val).state = .refused ∧ (t.port p.val).keyTx = none ∧ (t.port p.val).nextTx = none ∧ s.onlyPort t p.val := by
  obtain ⟨hport, honly⟩ := State.refusePort_spec hp
  refine ⟨_, exec_confirm_of_ready hagreement hpeer hk hconfirm e d, ?_⟩
  rw [hbad, if_neg Bool.false_ne_true, hport]
  exact ⟨rfl, rfl, rfl, honly⟩

end

end

/-- Settles O40. -/
theorem portsAgree : Obligations.PortsAgree := by
  refine ⟨fun s p hlen => ?_, fun s u a b m n z mine theirs => linkKeys_partner⟩
  have hp : p.val < s.straits.ports.length := by omega
  intro x
  refine ⟨fun hlive => ⟨fun htrained => ?_, fun hrefused hdue => ?_⟩, fun _ => exec_refusedRetry_of_early,
    fun a m hagreement hpeer => ⟨fun haccepts => ?_, hello_refused hp hagreement hpeer⟩,
    fun a m ct => encap_answers hp ct,
    fun a m k hagreement hpeer hk hconfirm => ⟨confirm_brings_up hp hagreement hpeer hk hconfirm,
      confirm_switches hp hagreement hpeer hk hconfirm, fun _ _ => confirm_refused hp hagreement hpeer hk hconfirm⟩,
    fun a m e d hagreement hpeer => exec_confirm_of_early hagreement hpeer e d⟩
  · obtain ⟨a, hstate, hagreement, hepoch, hpeer, honly⟩ := State.bringUp_spec hp
    exact ⟨_, a, exec_trainingDone_of_trained hlive htrained, hstate, hagreement, hepoch, hpeer, honly⟩
  · obtain ⟨a, hstate, hagreement, hepoch, -, honly⟩ := State.bringUp_spec hp
    exact ⟨_, a, exec_refusedRetry_of_due hlive hrefused hdue, hstate, hagreement, hepoch, honly⟩
  · obtain ⟨halias, hlifecycle, hrecord, hidevid, hpolicy⟩ := State.checks_of_acceptsPeer haccepts
    exact ⟨halias, hlifecycle, hrecord, hidevid, hpolicy, hello_answers hp hagreement hpeer haccepts⟩

end Sys2Proof.Machine
end
